-- ==== Sys2Proof/Word.lean ====
section
/-! DEFINITION. The 32-bit word of the module's registers and programs (R8), the place of a register field, and the
plainest arithmetic on them. -/

namespace Sys2Proof

/-- A register or program word (R8: every register is 32 bits wide). -/
abbrev Word := BitVec 32

/-- A byte of the key's flash (R29). -/
abbrev Byte := BitVec 8

/-- The place of a field NAME[msb:lsb] (R8): the register's byte address, its lowest bit and its width. -/
structure Fld where
  addr : Nat
  lo : Nat
  width : Nat
  deriving DecidableEq, Repr

/-- The field of `width` bits whose lowest bit is `lo`. -/
def Word.field (w : Word) (lo width : Nat) : Nat := (w.toNat >>> lo) % 2 ^ width

/-- `w` with that field set to `v` (reduced to the field's width), every other bit kept. -/
def Word.setField (w : Word) (lo width v : Nat) : Word :=
  let mask : Word := BitVec.ofNat 32 ((2 ^ width - 1) <<< lo)
  (w &&& ~~~mask) ||| (BitVec.ofNat 32 ((v % 2 ^ width) <<< lo) &&& mask)

/-- Bit `i` of a word. -/
def Word.bit (w : Word) (i : Nat) : Bool := w.getLsbD i

/-- `w` with bit `i` set to `b`. -/
def Word.setBit (w : Word) (i : Nat) (b : Bool) : Word :=
  if b then w ||| BitVec.ofNat 32 (1 <<< i) else w &&& ~~~BitVec.ofNat 32 (1 <<< i)

/-- A Bool as the number 0 or 1. -/
def b2n (b : Bool) : Nat := if b then 1 else 0

/-- "A is later than B" (R7): the difference A − B, read as a signed 32-bit number, is greater than zero. -/
def later (a b : Word) : Bool := decide (0 < (a - b).toInt)

end Sys2Proof
end

