-- ==== Sys2Proof/Machine/Parts.lean ====
section
/-! DEFINITION. The parts of the module's state: task contexts, polders, channels, time base, queues, records of the
journal, each with its value at reset where it has one. Values the spec does not give are zero (DESIGN CHOICE, log
entry 5). -/

namespace Sys2Proof

/-- Where a retentive item lies in its polder (R160). -/
inductive SymLoc where
  | bits (first count : Nat)
  | words (first count : Nat)
  | timer (i : Nat)
  | counter (i : Nat)
  deriving DecidableEq, Repr

/-- One retentive symbol (R160). -/
structure Symbol where
  id : BitVec 64
  type : Word
  loc : SymLoc
  deriving DecidableEq, Repr

/-- A change of the time base (R344): increment, PTP time (seconds, ns) to set, signed ns to add. -/
structure TimeChange where
  incr : Option Word
  time : Option (BitVec 48 × Nat)
  adj : Option Word
  deriving DecidableEq, Repr

end Sys2Proof

namespace Sys2Proof.Machine

/-- Sparse memory: keys strictly rising, no entry equal to what an unlisted key reads as. -/
abbrev SMap (α : Type) := List (Nat × α)

/-! Logic engine (R128, R138, R142–R146). -/

/-- The context of a task (R128). -/
structure TaskCtx where
  la : Bool
  wa : Word
  stack : List Bool
  calls : List Nat
  pc : Nat
  deriving DecidableEq, Repr

/-- A timer (R142); `res` is the resolution in µs of its last evaluation, by which ET is read. -/
structure Timer where
  acc : Nat
  lastFn : Word
  prevIn : Bool
  q : Bool
  res : Nat
  deriving DecidableEq, Repr

/-- A counter (R143). -/
structure Counter where
  cv : Word
  prevUp : Bool
  prevDn : Bool
  q : Bool
  deriving DecidableEq, Repr

/-- An entry of a polder's event queue (R146). -/
structure EvEntry where
  kind : Nat
  slot : Nat
  task : Nat
  source : Nat
  ft : Word
  value : Word
  fn : Word
  deriving DecidableEq, Repr

/-- An accepted variable write that waits for its clean boundary (R172–R174). -/
structure VarWrite where
  space : Nat
  word : Bool
  index : Nat
  value : Word
  deriving DecidableEq, Repr

/-- The value of a retentive item (R160). -/
inductive RetVal where
  | bits (l : List Bool)
  | words (l : List Word)
  | timer (t : Timer)
  | counter (c : Counter)
  deriving DecidableEq, Repr

/-- A force table entry (R178, R179): the forced location and value. -/
structure Force where
  space : Nat
  word : Bool
  owner : Nat
  index : Nat
  value : Word
  deriving DecidableEq, Repr

/-- What a commit snapshot or an MRAM record holds of one polder (R162, R169). -/
structure PolderRec where
  imageId : BitVec 64
  fingerprint : BitVec 64
  symbols : List (Symbol × RetVal)
  loopItems : List (Nat × Nat × Word)
  timers : SMap Timer
  counters : SMap Counter
  edges : SMap Bool
  overlay : List (Nat × Word)
  forces : List (Nat × Force)
  deriving DecidableEq, Repr

/-- The state of a polder (R86–R93, R147–R156, R172–R177). -/
structure Polder where
  /-- Started or dispatchable tasks by number: 0 cyclic, 1–8 event task 0–7, 9 error task. -/
  tasks : List (Nat × TaskCtx)
  /-- Tasks left unfinished by an earlier frame, which run first until the next dispatch point (R147). -/
  carried : List Nat
  /-- Tasks of which an instruction has issued: the others are new, not left unfinished (R89). -/
  begun : List Nat
  /-- Tasks unfinished at the last input latch, and unfinished still (PLD_STATE.SPILLING). -/
  left : List Nat
  /-- The input view (R89). -/
  view : SMap Word
  /-- The input latch at which the view was taken (R404), and the entries, committed and not released, that each transmit
  queue of the polder then held, less those it has displaced since (R151). -/
  viewSeq : Nat
  fillView : SMap Nat
  startCnt : Nat
  bLogic : Nat
  bLoop : Nat
  bSlv : Nat
  uLogic : Nat
  uLoop : Nat
  uSlv : Nat
  /-- Spilled in this frame (SLC_SPILL_MAP). -/
  spilled : Bool
  /-- Pre-empted in this frame: 0 no, 1 BUDGET, 2 WINDOW (R87, R88). -/
  preempt : Nat
  /-- Had an unfinished task at X (R91). -/
  unfinishedX : Bool
  /-- Retentive items of its loop contexts at X (R162). -/
  loopX : List (Nat × Nat × Word)
  evq : List EvEntry
  /-- Triggers detected and not yet collected in a slot (R84). -/
  trig : List EvEntry
  /-- Those collected at the last slot boundary, waiting for its dispatch point. -/
  coll : List EvEntry
  causes : List Nat
  /-- The error task may run although the polder is in FAULT (R92, R149). -/
  errRun : Bool
  /-- Steps left of a STEP command (R155). -/
  steps : Option Nat
  /-- The next instruction is the first after CONTINUE or STEP (R156). -/
  skipBp : Bool
  sat : Bool
  divz : Bool
  /-- A program fault was raised in this frame (R149). -/
  faulted : Bool
  /-- The outputs are at their safe values from a commit on (R92, R153, R154). -/
  safeOut : Bool
  /-- The task, PC, LA, WA, call and stack depths at X (R158). -/
  atX : Nat × Nat × Bool × Word × Nat × Nat
  varQ : List VarWrite
  batch : Option (List (Nat × Word))
  overlay : List (Nat × Word)
  snap : Option PolderRec
  /-- The polder has committed since its last restart (R108, R166). -/
  committed : Bool
  /-- Loop contexts deferred to the next frame, in issue order (R95). -/
  deferred : List Nat
  /-- It has entered STOP or FAULT, and its solver jobs are cancelled at the commit (R222). -/
  jobsEnd : Bool
  /-- The published solver records at the latch of the view (R239). -/
  slvView : SMap (List Word)
  deriving DecidableEq, Repr

/-! Digital and analogue channels. Times are in ns on the 48-bit extension of FT (R292). -/

/-- A digital channel: what no DIO register holds. -/
structure Dio where
  /-- The filtered state on the logic side; for an output the readback of the pin (R288). -/
  level : Bool
  raw : Bool
  rawAt : Word
  anchor : Option Nat
  prev : Option Nat
  last : Nat
  lastPeriod : Option Nat
  periods : Nat
  /-- The last confirmed rising edge since the previous latch (R294). -/
  riseSince : Option Nat
  /-- Times of the confirmed changes within CHAT_WIN, newest first (R296). -/
  changes : List Nat
  coolCount : Nat
  coolFrom : Bool
  coolRaw : Word
  /-- Start of the cool-down (R296). -/
  coolAt : Nat
  /-- A wire-break test is requested and waits for the commit (R299); start of the test that runs (WB_ACTIVE). -/
  wb : Bool
  wbAt : Nat
  /-- When the state became active, for STUCK (R295). -/
  activeAt : Nat
  /-- The last thermal shutdown (R302). -/
  thermalAt : Nat
  failedRetries : Nat
  retryAt : Option Nat
  /-- The field side has declared the coupler link failed: nothing crosses to it until the link returns (R121, R308). -/
  cut : Bool
  /-- The driver may turn on again, which clears THERMAL (R303): as a retry, or because its latch was cleared (R302). -/
  rearmed : Option Bool
  /-- The last value of ranks 4 and 5 that the field side received (R307). -/
  last45 : Bool
  /-- The field-side watchdog has started (R46), and the FT of its last refresh. -/
  wdOn : Bool
  wdAt : Nat
  /-- A safe value of HOLD-LAST or a failure level commanded by a give-up stands until the next refresh. -/
  giveUp : Bool
  deriving DecidableEq, Repr

/-- An analogue channel: what no AIO register holds. -/
structure Aio where
  /-- Conversion results in Q16.16 mA, newest first, at most 16 (R320). -/
  results : List Int
  /-- Start of the last conversion, and whether its result is awaited (R319). -/
  startAt : Option Nat
  busy : Bool
  /-- Field coefficients in effect (R332, R334). -/
  gain : Word
  offs : Word
  /-- The averaged result formed last, corrected (R320, R332). -/
  avg : Int
  /-- Failure region of the averaged results: 0 none, 1 low, 2 high; and since when (R322). -/
  region : Nat
  regionAt : Nat
  /-- FAIL_LO and FAIL_HI as the field side has declared them; they show in AIO_STATUS as they cross the link. -/
  failLo : Bool
  failHi : Bool
  /-- The value latched last while the channel was valid. -/
  lastValid : Word
  /-- Confirmed comparator states on the field side, and as they crossed the link (R324, R325). -/
  cmp0 : Bool
  cmp1 : Bool
  src0 : Bool
  src1 : Bool
  /-- A comparator change under its filter: new state and start time. -/
  cross0 : Option (Bool × Nat)
  cross1 : Option (Bool × Nat)
  /-- The field side has declared the group's link failed (R331). -/
  cut : Bool
  last45 : Word
  wdOn : Bool
  wdAt : Nat
  giveUp : Bool
  /-- The channel becomes valid at the first latch after a conversion completed since its release, or returns to service
  at the first one after a conversion completed since the bypass was removed; and whether there was one (R316, R334). -/
  waitLockout : Bool
  freshLockout : Bool
  waitCal : Bool
  freshCal : Bool
  /-- The stage value of rank 2: that at BEGIN, or the point driven last, which the factory coefficients alone drive (R333). -/
  calStage : Word
  calPlain : Bool
  /-- What the stage drives, in Q16.16 mA before the field coefficients (R332). -/
  drive : Int
  deriving DecidableEq, Repr

/-- A calibration in progress (R333): what no AIO register holds. -/
structure Cal where
  external : Bool
  /-- Recorded points: number, mean, true current. -/
  points : List (Nat × Int × Int)
  point : Nat
  computed : Bool
  /-- Time of the last command, for the limit of 600 s. -/
  lastCmd : Nat
  /-- CODE of the command in progress (0: none), and when it was written. -/
  busy : Nat
  busyAt : Nat
  deriving DecidableEq, Repr

/-! Time base. -/

/-- Both times (R338), the time since reset, and the phase of the real-time clock's tick. -/
structure Clock where
  /-- Fabric time in 2⁻²⁴ ns; FT is its ns count modulo 2³². -/
  ft : Nat
  sec : BitVec 48
  /-- PTP nanoseconds in 2⁻²⁴ ns. -/
  ns24 : Nat
  /-- Fabric cycles since the release of power-on reset. -/
  cycles : Nat
  deriving DecidableEq, Repr

/-- A capture record (R352). -/
structure CapRec where
  ft : Word
  ns : Nat
  sec : BitVec 48
  deriving DecidableEq, Repr

/-- The time base: what no TSU register holds. -/
structure Tsu where
  /-- An APPLY waiting for its frame (R347). -/
  apply : Option (TimeChange × Word)
  /-- Next aligned instant of the PTP_ALIGNED units, in ns since the epoch. -/
  aligned : SMap Nat
  /-- Firing counts beyond TSU_CMP_STAT (R351). -/
  fired : SMap Word
  cap : SMap CapRec
  /-- PTP seconds that PPS_OUT has pulsed, the pin, and when it rose (R364). -/
  ppsDone : List (BitVec 48)
  ppsOut : Bool
  ppsAt : Nat
  /-- TIME messages within ±10 ns, and those above 50 ns, in a row (R361, R362). -/
  lockGood : Nat
  lockBad : Nat
  /-- Sync messages within ±1 µs in a row (R357). -/
  servoGood : Nat
  /-- The times have been set to the master's in this acquisition (R362). -/
  lockSet : Bool
  /-- Values of TSU_INCR over the last 64 s, newest first, each with its start in fabric cycles (R357). -/
  hist : List (Nat × Word)
  pathA : Nat
  pathB : Nat
  /-- Announced master of each port: identity and its place in the algorithm's order. -/
  masterA : Option (BitVec 64 × Nat)
  masterB : Option (BitVec 64 × Nat)
  /-- Upper word of the grandmaster's identity, which a read of TSU_GM_LO latches. -/
  gmHi : Word
  /-- A step took effect since the previous input latch (R354). -/
  stepped : Bool
  /-- Time words of the master's last TIME message (R354): seconds, ns, status, FN. -/
  master : Option (BitVec 48 × Nat × BitVec 16 × Word)
  /-- The PTP time, in ns, that the firmware is to set once a pending APPLY is DONE, and the FT count it stands for (R376). -/
  want : Option (Nat × Nat)
  /-- Wraps of FT whose entries are still to be queued (R363). -/
  wraps : Nat
  deriving DecidableEq, Repr

/-! Station network. -/

/-- An alarm record (R413); EVN is its place in the list. -/
structure AlarmRec where
  evn : Nat
  code : Nat
  cls : BitVec 2
  agreed : Bool
  gap : Bool
  fn : Word
  ft : Word
  sec : BitVec 48
  ns : Nat
  source : Nat
  value : Word
  value2 : Word
  deriving DecidableEq, Repr

/-- An entry of a hardware queue: the input latch from whose views on it is visible, and its words (R404). -/
structure QEntry where
  seq : Nat
  words : List Word
  deriving DecidableEq, Repr

/-- A hardware queue (R402, R403): committed, pending and, for a CAN queue, released entries (R432), oldest first; and
whether it is on its alternate channel (R439). -/
structure HQueue where
  done : List QEntry
  pend : List QEntry
  rel : List QEntry
  alt : Bool
  deriving DecidableEq, Repr

/-! Journal (R445–R460). -/

/-- An item of a frame record (R447): its kind and payload words. -/
structure JItem where
  kind : Nat
  payload : List Word
  deriving DecidableEq, Repr

/-- A frame record (R446). -/
structure JRec where
  fn : Word
  ft : Word
  outCrc : Word
  relDigest : Word
  ckpt : Bool
  unverified : Bool
  trigger : Bool
  gap : Bool
  /-- The CRC word of its header. -/
  crc : Word
  role : Nat
  items : List JItem
  deriving DecidableEq, Repr

/-! Loop engine (R186–R212) and solver (R213–R243). -/

/-- A loop context: items by code (R207), the Q24.24 state and the outcome of the last evaluation. -/
structure Loop where
  items : SMap Word
  bankB : Bool
  swap : Bool
  /-- Accepted writes since the last evaluation, in the order written. -/
  writes : List (Nat × Word)
  due : Nat
  isDue : Bool
  /-- Issued and not yet evaluated: when, in ns since T, and the PV word of the scan. -/
  issued : Option (Nat × Word)
  /-- The target as last written, before its clamp (R195). -/
  spReq : Word
  spW : Int
  i : Int
  p : Int
  dTerm : Int
  r : Int
  u : Word
  v : Word
  pv : Word
  e : Word
  xPrev : Int
  /-- Bits of LPE_STATUS. -/
  status : Word
  /-- s of the last evaluation was held at PV_BAD with action HOLD. -/
  held : Bool
  /-- Mode at the last evaluation. -/
  mode : Nat
  satTime : Nat
  hist : BitVec 256
  evalFn : Word
  first : Bool
  restartD : Bool
  /-- U and SP_W were carried or computed since the last restart (R210). -/
  uKnown : Bool
  spKnown : Bool
  deriving DecidableEq, Repr

/-- A QP problem after its setup (R215, R216, R230), in the formats of R227: which variables are fixed; H and f with the
elastic rows folded in; G; the treatment of each row (0 RANGE, 1 EQUAL, 2 ELASTIC, 3 removed), its d, and the sides and
bounds present. -/
structure QpProb where
  fixed : List Bool
  h : List (List Int)
  f : List Int
  g : List (List Int)
  kinds : List Nat
  d : List Int
  glo : List (Option Int)
  ghi : List (Option Int)
  lb : List (Option Int)
  ub : List (Option Int)
  deriving DecidableEq, Repr

/-- A QP iterate (R230): x (X), slacks (VEC) and duals (DUAL), those of absent sides, bounds and rows zero. -/
structure Qp where
  x : List Int
  s : List Int
  ll : List Int
  lu : List Int
  y : List Int
  zl : List Int
  zu : List Int
  deriving DecidableEq, Repr

/-- A solver job (R218–R233). Stage: 0 range check, 1 assembly, 2 factorisation column, 3 pass before the factorisation,
4 pass after it, 5 finish, 6 the rest of the setup. -/
structure Job where
  /-- 0 IDLE, 1 QUEUED, 2 RUNNING, 3 PAUSED, 4 DONE (SLV_JOB.STATE). -/
  state : Nat
  at_ : Nat
  meas : List Word
  fn : Word
  frame : Nat
  offset : Nat
  stage : Nat
  left : Nat
  col : Nat
  iter : Nat
  /-- End of the step under way, in ns. -/
  stepEnd : Option Nat
  cancel : Bool
  status : Nat
  late : Bool
  fixed : Bool
  ovf : Bool
  piv : Nat
  pivFirst : Nat
  exc : Nat
  /-- The problem data by target, row and column, in their formats; the factor and right-hand side under way. -/
  data : List (Nat × Nat × Nat × Int)
  mat : List (List Int)
  dia : List Int
  rhs : List Int
  /-- The solution of an LDL, LU or LSQ job (X). -/
  x : List Int
  /-- The QP problem, its last complete iterate, and rp, rd and mu of that iterate (VEC). -/
  prob : QpProb
  qp : Qp
  res : Int × Int × Int
  deriving DecidableEq, Repr

/-- A solver slot: its job, and its working and published records (R235, R236). -/
structure SlvSlot where
  job : Job
  work : List Word
  pub : List Word
  ended : Bool
  deriving DecidableEq, Repr

/-- The state that a checkpoint and a twin state transfer carry (R270, R449). -/
structure Checkpoint where
  fn : Word
  imageId : BitVec 64
  /-- Station registers that read alike on units in lockstep (R25, log entry 55): in the transfer of a join alone. -/
  stn : List (Nat × Word)
  /-- Registers of the PLD, LGE, LPE, SLV and program-life blocks, the input latches counted, and an LGE_CMD agreed and
  not yet applied. -/
  regs : SMap Word
  latches : Nat
  lgeDo : Option (Nat × Nat × Nat × Nat)
  pol : SMap Polder
  bitMem : SMap Bool
  wordMem : SMap Word
  timers : SMap Timer
  counters : SMap Counter
  edges : SMap Bool
  outW : SMap Word
  outC : SMap Word
  /-- P0's flags as last committed, and its writes of LVE_P0F and the test registers that wait for its commit. -/
  p0c : Option (BitVec 16)
  p0Pend : List (Nat × Word)
  agreed : SMap Word
  forces : SMap (Option Force)
  outForces : SMap (Option Force)
  queues : SMap HQueue
  loops : SMap Loop
  solver : SMap SlvSlot
  /-- SHA-256 of the rest (R449), where it is written to the ring; elsewhere 0. -/
  sha : BitVec 256
  deriving DecidableEq, Repr

/-- A stored window (R451, R454). -/
structure Window where
  valid : Bool
  prot : Bool
  replayable : Bool
  trunc : Bool
  short : Bool
  unitB : Bool
  imported : Bool
  armed : Bool
  /-- JRN_ARG of ARM_REPLAY (R457). -/
  armArg : Word
  trigs : Nat
  cause : Nat
  fn0 : Word
  tfn : Word
  fn1 : Word
  stnId : BitVec 5
  imageId : BitVec 64
  fwRev : Word
  hwMajor : Nat
  tagOk : Bool
  recs : List JRec
  ckpts : List Checkpoint
  /-- Order of storing, for "the oldest window". -/
  age : Nat
  /-- Bytes of its records and checkpoints copied to flash so far, oldest first (R453); 0 in a stored window. -/
  copied : Nat
  deriving DecidableEq, Repr

/-- The journal: what no JRN register holds. -/
structure Journal where
  /-- Items of the frame in progress, newest first. -/
  items : List JItem
  ring : List JRec
  ckpts : List Checkpoint
  /-- Checkpoints captured and not yet written (R449), oldest first; those that were incomplete when the window froze. -/
  writing : List Checkpoint
  unfinished : List Word
  /-- A window that still collects, its place in flash (none: not copied), and its last FN. -/
  collecting : Option (Window × Option Nat × Word)
  /-- Collected windows whose copies run, oldest first, and their places. -/
  copying : List (Window × Nat)
  /-- JRN_FREEZE requests waiting for the polder's commit: polder and cause. -/
  requests : List (Nat × Nat)
  gapNext : Bool
  ages : Nat
  /-- CRC and digest of the frame in progress. -/
  outCrc : Word
  relDigest : Word
  unverified : Bool
  trigger : Bool
  /-- The record of the frame in progress is to be closed; it is lost (R448); a checkpoint of the frame was taken; and
  a checkpoint is due at the first complete record after a GAP. -/
  isOpen : Bool
  lose : Bool
  ckpt : Bool
  ckptDue : Bool
  /-- PAUSE_AT frame and the window in replay. -/
  pauseAt : Option Word
  replayWin : Option Nat
  /-- Records and checkpoints still to replay (R458), and a frame that STEP_FRAME allows. -/
  playing : List JRec
  playCk : List Checkpoint
  stepOne : Bool
  deriving DecidableEq, Repr

/-! Messages, received items and what the units exchange. -/

/-- A CAN frame (R424, R426): its data words, bytes beyond the length zero. -/
structure CanFrame where
  ide : Bool
  id : BitVec 29
  fdf : Bool
  brs : Bool
  esi : Bool
  remote : Bool
  dlc : BitVec 4
  data : List Word
  deriving DecidableEq, Repr

/-- What enters the agreed input vector by the cut of R256 and R396: register writes, with the number of the requester
(`Requester.code`), and received frames. -/
inductive RxItem where
  | write (who addr : Nat) (value : Word)
  | input (s : Nat) (fn : Word) (seq : BitVec 16) (payload : List Word)
  | ack (s : Nat) (seq : BitVec 16) (status : Nat)
  | stream (id : Nat) (seq : BitVec 16) (payload : List Word)
  | can (k entry : Nat) (frame : CanFrame) (stamp : Word)
  deriving DecidableEq, Repr

/-- A waiting item: its forwarding number, who received it, and the FT of its receipt. -/
structure Rx where
  num : Nat
  peer : Bool
  ft : Word
  item : RxItem
  deriving DecidableEq, Repr

/-- What a frame carries on both LANs: destination address and port (R391), the PCP of its priority tag where it has one
(R385), the sequence number of its PRP trailer (R386), and of a station frame STN_ID, SENDER, TXC and tag (R388, R389). -/
structure LanFrame where
  dest : Word
  port : Nat
  pcp : Option Nat
  prp : BitVec 16
  stnId : Byte
  sender : Byte
  txc : BitVec 64
  tag : BitVec 64
  deriving DecidableEq, Repr

/-- A message sent since the last input latch. -/
inductive Sent where
  /-- A Shucel message (R249): KIND and content. -/
  | shucel (kind : Nat) (fn : Word) (words : List Word)
  | slot (index : Nat) (entries : List EvEntry)
  | forward (num : Nat) (item : RxItem)
  | checkpoint (k : Checkpoint)
  | record (r : JRec)
  /-- A bulk message sent again, with RETRY set and its SEQ (R249). -/
  | retry (seq : Word) (m : Sent)
  /-- A station frame (R391): KIND, stream, SEQ, FN and payload. -/
  | station (kind stream : Nat) (seq : BitVec 16) (fn : Word) (words : List Word)
  /-- RA_RSP (R408) to a client: TID, STATUS, COUNT, the DENIED word and FN, and data. -/
  | reply (client : Nat) (tid : Word) (status count : Nat) (denied fn : Word) (words : List Word)
  /-- ALARM (R412) to a server; `none` is the empty frame. -/
  | alarm (server : Nat) (r : Option AlarmRec)
  | can (k entry : Nat) (frame : CanFrame)
  /-- A PTP message on a LAN port (R355), over UDP or Ethernet: its messageType and the content the rules name. -/
  | ptp (lanB udp : Bool) (kind : Nat) (words : List Word)
  /-- A stored window read out over the service port (R456). -/
  | file (w : Window)
  /-- RA_REQ (R408, R411) to remote station `stn` + 1: TID, OP and ADDR. -/
  | request (stn : Nat) (tid : Word) (op : Nat) (addr : Word)
  /-- A PRP supervision frame (R386). -/
  | supervision
  /-- The reply to an ARP or ICMP echo request (R387). -/
  | answer
  /-- A frame on both LAN ports: how it is framed, and the message. -/
  | lan (w : LanFrame) (m : Sent)
  deriving DecidableEq, Repr

/-- SIG (R261): output CRC, release digest, and the self-test verdict when one is due. -/
structure Sig where
  outCrc : Word
  relDigest : Word
  verdict : Option Bool
  deriving DecidableEq, Repr

/-- A bulk message without acknowledgement (R249): its SEQ, the fabric cycle it was sent last in, and the message. -/
structure Bulk where
  seq : Word
  sentAt : Nat
  msg : Sent
  deriving DecidableEq, Repr

/-- Twin operation: what no STN or SHL register holds. -/
structure Twin where
  /-- Outcome of pairing (R252): 0 open, 1 starts alone, 2 starts together, 3 ready for a full join, 4 ready for a
  mapped join, 5 stays in STARTUP. -/
  outcome : Nat
  /-- The peer, as this unit knows it: 0 not ready, 1 ready for a full join, 2 for a mapped join (R269); whether it runs this
  unit's image; its interface fingerprint. -/
  peerReady : Nat
  peerSame : Bool
  peerIfp : BitVec 64
  /-- Mirror of the peer's contribution (R253), primed, and the parts of FULL INPUT held. -/
  mirror : SMap Word
  primed : Bool
  parts : List Nat
  /-- The CRC of the whole contribution that the last part carries. -/
  fullCrc : Option Word
  /-- This unit's contribution as last sent. -/
  sentC : SMap Word
  /-- This unit's contribution latched at T. -/
  ownC : SMap Word
  /-- STN_STATE as it stood at T (R246). -/
  stnT : Word
  /-- FN of the peer's INPUT held complete, whether its digest matched, and its forwarding cut. -/
  inputFn : Option Word
  digestOk : Bool
  peerCut : Nat
  /-- The lanes that are UP for the peer (log entry 110). -/
  peerLanes : BitVec 2
  /-- FN of the last TIME message held (R360). -/
  timeFn : Option Word
  /-- Agreement still due in this frame. -/
  agreeDue : Bool
  /-- Triggers of the peer by slot, and of this unit as sent (R259). -/
  peerSlots : List (Nat × List EvEntry)
  ownSlot : List EvEntry
  /-- Reports of received frames: this unit's not yet sent; and those waiting for the other unit's report, this unit's and
  the peer's (R259). -/
  ownRep : List EvEntry
  ownWait : List EvEntry
  peerRep : List EvEntry
  /-- Forwarding numbers given since the start of lockstep (R256); the last 64 sequence numbers received of each message
  kind, and the next to send (R248). -/
  numbered : Nat
  seqIn : SMap (List Word)
  seqOut : SMap Word
  unacked : List Bulk
  /-- CRC errors of each lane in this frame (R250). -/
  crcFrame : SMap Nat
  ownSig : Option Sig
  peerSig : Option (Word × Sig)
  /-- N of the mismatch under judgement and V (R262). -/
  mismatch : Option (Word × Word)
  burstOk : Bool
  /-- B suppresses (R262); and the last commit was suppressed, so that the field sides hold what they received last. -/
  suppress : Bool
  fieldHeld : Bool
  /-- This unit drives its pair digital outputs, and is the driving unit of the pair analogue outputs (R277, R278): as of
  its last commit, or of a GIVEUP. -/
  pairOn : Bool
  aoOn : Bool
  /-- The frame in which the link failed last (R265). -/
  lostFn : Option Word
  /-- Heartbeats of the peer, ACTIVE without GIVEUP: in this frame, and frames since the last; and any heartbeat of it since
  pairing began (R252). -/
  hbNow : Bool
  hbGap : Nat
  hbSeen : Bool
  /-- Role taken at the next frame (R265, R266). -/
  nextRole : Option Nat
  /-- The link has failed, and B decides at the next frame by A's heartbeats (R265). -/
  decides : Bool
  /-- A link failure that takes effect at the next frame (R261). -/
  failNext : Bool
  /-- Accepted HANDOVER (true) or WITHDRAW, named unit B, RESTART (R274). -/
  atCommit : Option (Bool × Bool × Bool)
  /-- The join: when accepted (fabric cycles), lockstep frame, frames matched in VERIFY, records to execute, and whether
  the record executed last arrived in the frame of its execution. -/
  joinAt : Nat
  lockFn : Option Word
  matched : Nat
  recs : List (Word × JRec)
  mapped : Nat
  current : Bool
  /-- Time of the last PAIR sent, in fabric cycles. -/
  pairAt : Nat
  /-- Start of pairing, in fabric cycles. -/
  pairFrom : Nat
  /-- Retentive records received in a mapped join (R273). -/
  mapSrc : List (Nat × PolderRec)
  /-- Number of the requester whose register write is under way. -/
  acting : Nat
  /-- Items given this unit's own numbers that wait for a latch, and the peer's; and those a latch has taken in the last
  400 ms. -/
  rx : List Rx
  seen : List Rx
  deriving DecidableEq, Repr

/-! Always-on domain, station network and CAN channels. -/

/-- The always-on domain (R367–R383): what no RTC register holds. `raw` counts crystal ticks, `phase` the part of a tick
in 1/500,000,000. -/
structure Rtc where
  raw : Nat
  phase : Nat
  tick : BitVec 48
  epoch : BitVec 48
  /-- The trim in force in this window (R368). -/
  trim : Word
  swoTick : BitVec 48
  /-- A command that waits for its execution: CODE and ARG (R376). -/
  cmd : Option (Nat × Nat)
  /-- An ADD_HOUR (true) or SUB_HOUR executed, and the RTC time at which it takes effect, a whole second. -/
  hour : Option (Bool × Nat)
  /-- The domain fell below its retention voltage while the module was off (R382). -/
  lost : Bool
  /-- The calendar state is to come from the image (R372). -/
  needCal : Bool
  /-- The tick of the last switch-over, and whether the domain runs on backup (R380, R383). -/
  swoAt : Option (BitVec 48)
  onBackup : Bool
  /-- The PTP second that is the last inserted second (R373). -/
  leap : Option (BitVec 48)
  deriving DecidableEq, Repr

/-- An entry of the PRP discard table (R386): source, sequence number, LAN, time, and whether the other LAN's copy came. -/
structure PrpEntry where
  source : Nat
  seq : BitVec 16
  lanB : Bool
  at_ : Nat
  paired : Bool
  deriving DecidableEq, Repr

/-- A remote station s (R396–R400): what no NET register holds. -/
structure Remote where
  /-- SEQ accepted and when (R267), and the last applied (R268). -/
  seen : List (BitVec 16 × Nat)
  applied : Option (BitVec 16 × Nat)
  /-- The INPUT frame of the set at this cut. -/
  frame : Option (BitVec 16 × List Word)
  /-- Values of the last frame written while OK. -/
  last : List Word
  /-- OUTPUT frames that no cut has judged yet: SEQ and time of the commit; and those of them whose ACK has arrived. -/
  due : List (BitVec 16 × Nat)
  acked : List (BitVec 16)
  deriving DecidableEq, Repr

/-- A receive stream (R267, R268). -/
structure StreamRx where
  seen : List (BitVec 16 × Nat)
  applied : Option (BitVec 16 × Nat)
  deriving DecidableEq, Repr

/-- A waiting register access request (R408, R410): OP 1 OPEN, 2 READ, 3 WRITE, 4 CLOSE, and the unit it names. -/
structure RaReq where
  client : Nat
  tid : Word
  op : Nat
  unitB : Bool
  addr : Nat
  count : Nat
  data : List Word
  deriving DecidableEq, Repr

/-- A client's session (R409): its generation and the replies to its last 64 requests. -/
structure Session where
  gen : BitVec 16
  kept : List (Word × Sent)
  deriving DecidableEq, Repr

/-- An alarm server's connection (R412). -/
structure AlmConn where
  acked : Nat
  sent : Nat
  hello : Bool
  /-- The record with GAP set is still to be sent: the number lost (R415). -/
  gap : Option Nat
  sentAt : Nat
  ackAt : Nat
  deriving DecidableEq, Repr

/-- Register access toward a remote station (R411): the session's generation, the NUM used last, whether a reply is
awaited and to an OPEN, and when it was asked. -/
structure DiagClient where
  gen : BitVec 16
  num : BitVec 16
  awaits : Option Bool
  at_ : Nat
  deriving DecidableEq, Repr

/-- The station network: what no NET register holds. -/
structure Net where
  remotes : SMap Remote
  streams : SMap StreamRx
  /-- PRP discard table and node table (R386): source and time; and when the last supervision frame was sent. -/
  prp : List PrpEntry
  supAt : Nat
  nodes : List (Nat × Nat)
  epoch : BitVec 24
  count : BitVec 40
  /-- The sequence number of the next PRP trailer. -/
  prpSeq : BitVec 16
  gen : BitVec 16
  sessions : SMap Session
  waiting : List RaReq
  conns : SMap (Option AlmConn)
  /-- Token buckets of the ports: bytes used and when last updated (R416). -/
  usedA : Nat
  usedB : Nat
  atA : Nat
  atB : Nat
  /-- ARP and ICMP answers of each port in the second that began at the time (R387). -/
  arpA : Nat × Nat
  arpB : Nat × Nat
  diag : SMap DiagClient
  /-- The cut of the next input latch has been taken (R397). -/
  cutDone : Bool
  deriving DecidableEq, Repr

/-- Who is under way on a CAN bus: a DEST 0 entry or a queue. -/
inductive Cand where
  | entry (e : Nat)
  | queue (q : Nat)
  deriving DecidableEq, Repr

/-- A CAN channel: what no CAN register holds. -/
structure Can where
  /-- Frames of DEST 0 entries that wait (R432). -/
  waiting : SMap (Option CanFrame)
  /-- The attempt under way, and the candidate whose errors are counted (R442). -/
  under : Option (Cand × CanFrame)
  counted : Option Cand
  errors : Nat
  /-- The bus-off recovery count runs (R440). -/
  counting : Bool
  /-- A CANCEL that holds an entry, and its queue. -/
  held : Option Nat
  /-- TX_OVW and RX_DROP since the last latch stand in CAN_STATUS; the agreed status word of the last latch. -/
  agreed : Word
  /-- Times at which buffers were locked. -/
  locks : SMap (Option Nat)
  /-- The transceiver has cut off a transmitter that stayed dominant (R420). -/
  cut : Bool
  deriving DecidableEq, Repr


/-! The values at reset. -/

def TaskCtx.init : TaskCtx := ⟨false, 0, [], [], 0⟩

def Timer.init : Timer := ⟨0, 0, false, false, 1⟩

def Counter.init : Counter := ⟨0, false, false, false⟩

def Polder.init : Polder :=
  { tasks := [], carried := [], begun := [], left := [], view := [], viewSeq := 0, fillView := [], startCnt := 0, bLogic := 0, bLoop := 0, bSlv := 0,
    uLogic := 0, uLoop := 0, uSlv := 0, spilled := false, preempt := 0, unfinishedX := false, loopX := [], evq := [], trig := [], coll := [], causes := [],
    errRun := false, steps := none, skipBp := false, sat := false, divz := false, faulted := false, safeOut := false,
    atX := (15, 0, false, 0, 0, 0), varQ := [], batch := none, overlay := [], snap := none, committed := false,
    deferred := [], jobsEnd := false, slvView := [] }

def Dio.init : Dio :=
  { level := false, raw := false, rawAt := 0, anchor := none, prev := none, last := 0, lastPeriod := none,
    periods := 0, riseSince := none, changes := [], coolCount := 0, coolFrom := false, coolRaw := 0, coolAt := 0, wb := false, wbAt := 0,
    activeAt := 0, thermalAt := 0, failedRetries := 0, retryAt := none, cut := false, rearmed := none, last45 := false, wdOn := false, wdAt := 0,
    giveUp := false }

def Aio.init : Aio :=
  { results := [], startAt := none, busy := false, gain := 0x40000000, offs := 0, avg := 0, region := 0, regionAt := 0, failLo := false,
    failHi := false,
    lastValid := 0, cmp0 := false,
    cmp1 := false, src0 := false, src1 := false, cross0 := none, cross1 := none, cut := false, last45 := 0, wdOn := false,
    wdAt := 0, giveUp := false, waitLockout := false, freshLockout := false, waitCal := false, freshCal := false,
    calStage := 0, calPlain := false, drive := 0 }

def Cal.init : Cal := ⟨false, [], 0, false, 0, 0, 0⟩

def Clock.init : Clock := ⟨0, 0, 0, 0⟩

def CapRec.init : CapRec := ⟨0, 0, 0⟩

def Tsu.init : Tsu :=
  { apply := none, aligned := [], fired := [], cap := [], ppsDone := [], ppsOut := false, ppsAt := 0, lockGood := 0,
    lockBad := 0, servoGood := 0, lockSet := false, hist := [(0, 0x02000000)], pathA := 0, pathB := 0, masterA := none, masterB := none, gmHi := 0,
    stepped := false, master := none, want := none, wraps := 0 }

def Loop.init : Loop :=
  { items := [], bankB := false, swap := false, writes := [], due := 0, isDue := false, issued := none, spReq := 0, spW := 0, i := 0,
    p := 0, dTerm := 0, r := 0, u := 0, v := 0, pv := 0, e := 0, xPrev := 0, status := 0, held := false, mode := 0,
    satTime := 0, hist := 0, evalFn := 0, first := true, restartD := false, uKnown := false, spKnown := false }

def QpProb.init : QpProb := ⟨[], [], [], [], [], [], [], [], [], []⟩
def Qp.init : Qp := ⟨[], [], [], [], [], [], []⟩

def Job.init : Job :=
  { state := 0, at_ := 0, meas := [], fn := 0, frame := 0, offset := 0, stage := 0, left := 0, col := 0, iter := 0,
    stepEnd := none, cancel := false, status := 0, late := false, fixed := false, ovf := false, piv := 0, pivFirst := 0,
    exc := 0, data := [], mat := [], dia := [], rhs := [], x := [], prob := QpProb.init, qp := Qp.init,
    res := (0, 0, 0) }

def SlvSlot.init : SlvSlot := ⟨Job.init, [], [], false⟩

def HQueue.init : HQueue := ⟨[], [], [], false⟩

def Journal.init : Journal :=
  { items := [], ring := [], ckpts := [], writing := [], unfinished := [], collecting := none, copying := [],
    requests := [],
    gapNext := false, ages := 0, outCrc := 0, relDigest := 0, unverified := false, trigger := false, isOpen := false,
    lose := false, ckpt := false, ckptDue := false, pauseAt := none,
    replayWin := none, playing := [], playCk := [], stepOne := false }

def Twin.init : Twin :=
  { outcome := 0, peerReady := 0, peerSame := true, peerIfp := 0, mirror := [], primed := false, parts := [], fullCrc := none, peerLanes := 3, sentC := [], ownC := [], stnT := 0,
    inputFn := none, digestOk := false, peerCut := 0, timeFn := none, agreeDue := false, peerSlots := [],
    ownSlot := [], ownRep := [], ownWait := [], peerRep := [], numbered := 0, seqIn := [], seqOut := [], unacked := [],
    crcFrame := [],
    ownSig := none, peerSig := none, mismatch := none, burstOk := true, suppress := false, fieldHeld := false, pairOn := false,
    aoOn := false, lostFn := none, hbNow := false,
    hbGap := 0, hbSeen := false, nextRole := none, decides := false, failNext := false, atCommit := none, joinAt := 0,
    lockFn := none,
    matched := 0, recs := [], mapped := 0, current := false, pairAt := 0, pairFrom := 0,
    mapSrc := [], acting := 0, rx := [], seen := [] }

def Rtc.init : Rtc :=
  { raw := 0, phase := 0, tick := 0, epoch := 0, trim := 0, swoTick := 0, cmd := none, hour := none, lost := false,
    needCal := false, swoAt := none, onBackup := false, leap := none }

def Remote.init : Remote :=
  { seen := [], applied := none, frame := none, last := [], due := [], acked := [] }

def StreamRx.init : StreamRx := ⟨[], none⟩

def Session.init : Session := ⟨0, []⟩

def DiagClient.init : DiagClient := ⟨0, 0, none, 0⟩

def Net.init : Net :=
  { remotes := [], streams := [], prp := [], supAt := 0, nodes := [], epoch := 0, count := 0, prpSeq := 0, gen := 0, sessions := [],
    waiting := [], conns := [], usedA := 0, usedB := 0, atA := 0, atB := 0, arpA := (0, 0), arpB := (0, 0), diag := [],
    cutDone := false }

def Can.init : Can :=
  { waiting := [], under := none, counted := none, errors := 0, counting := false, held := none, agreed := 0,
    locks := [], cut := false }

end Sys2Proof.Machine
end

