-- ==== Sys2Proof/Payload.lean ====
section
/-! DEFINITION. The plain data that the commands carry: requesters, a key with its images, packages, and the messages
of the peer and of the networks. Whatever cryptography decides is data of the message (R28, R389). -/

namespace Sys2Proof

/-- Who makes an access (R53, R52, R42): a polder, a network client, the runtime firmware, the boot code, or the
USB-C service port. -/
inductive Requester where
  | polder (p : BitVec 4)
  | client (c : BitVec 4)
  | firmware
  | boot
  | usb
  deriving DecidableEq, Repr

/-- One entry of a rights table (R53): an inclusive range of 32-byte granules. -/
structure RightsEntry where
  write : Bool
  read : Bool
  first : Nat
  last : Nat
  deriving DecidableEq, Repr

/-- Read access to image bits `lo … hi` that the image grants a polder (R135). -/
structure Grant where
  polder : Nat
  lo : Nat
  hi : Nat
  deriving DecidableEq, Repr

/-- A POLDER section less its LK registers (R37, R128, R160, R165). -/
structure PolderImg where
  num : Nat
  cyclicEntry : Nat
  eventEntries : List Nat
  errorEntry : Nat
  consts : List (Nat × Word)
  program : List (Nat × Word)
  initBits : List (Nat × Bool)
  initWords : List (Nat × Word)
  initOut : List (Nat × Word)
  fingerprint : BitVec 64
  symbols : List Symbol
  deriving DecidableEq, Repr

/-- Another stream of the NETWORK section (R401): its peer's address, and whether this station transmits it. -/
structure StreamImg where
  id : Nat
  peer : Word
  transmit : Bool
  deriving DecidableEq, Repr

/-- Initial values of a loop context (R186): items by code, with INIT_OUT under code 0xFF, and the codes of its
retentive items (R207). -/
structure LoopImg where
  num : Nat
  items : List (Nat × Word)
  retentive : List Nat
  deriving DecidableEq, Repr

/-- A measurement of a solver template (R217). -/
structure Meas where
  fromView : Bool
  index : Nat
  mf : Nat
  lo : Word
  hi : Word
  deriving DecidableEq, Repr

/-- An entry descriptor as decoded (R224): target, row, column, C0 and the terms (measurement index, coefficient). -/
structure Desc where
  target : Nat
  row : Nat
  col : Nat
  c0 : Word
  terms : List (Nat × Word)
  deriving DecidableEq, Repr

/-- A solver template less its registers (R213–R217): the measurements; the entry descriptors of eight words each; presence
of the lower and upper bound of each variable; kind (0 RANGE, 1 EQUAL, 2 ELASTIC) and present sides of each row. -/
structure Template where
  slot : Nat
  meas : List Meas
  desc : List (List Word)
  vars : List (Bool × Bool)
  rows : List (Nat × Bool × Bool)
  deriving DecidableEq, Repr

/-- What the configuration of the running image holds beside the LK registers. -/
structure ImageData where
  imageId : BitVec 64
  /-- The calendar state of the TIME section, laid out as RTC_CALSTATE (R372). -/
  calState : Word
  startStopped : Bool
  rights : List (Nat × List RightsEntry)
  polders : List PolderImg
  inGrants : List Grant
  outGrants : List Grant
  published : List (Nat × Nat)
  loops : List LoopImg
  solver : List Template
  streams : List StreamImg
  deriving DecidableEq, Repr

/-- A station image in a slot (R36–R39): whether the key reads it to its end, its bytes, and what its sections say. No
rule gives the byte layout of a section's content, so the content stands beside the bytes (log entry 9): whether it can be
read at all, the values it gives the LK registers, the fields with a default of their own that it gives no value, and the
rest. -/
structure Image where
  readable : Bool
  bytes : List Byte
  spelled : Bool
  lk : List (Nat × Word)
  absent : List Fld
  data : ImageData
  deriving DecidableEq, Repr

/-- The fields of a directory copy (R30). -/
structure Directory where
  seq : Word
  active : Bool
  pendState : Nat
  pendCause : Nat
  idActive : BitVec 64
  idPend : BitVec 64
  deriving DecidableEq, Repr

/-- An image slot: the image found in it when the key was inserted, and the pages programmed since (R32). -/
structure Slot where
  image : Option Image
  pages : List (Nat × Word)
  deriving DecidableEq, Repr

/-- What the SFDP tables declare (R27): 4-byte addressing, quad I/O fast read, and the bytes of a page program. -/
structure Sfdp where
  addr4 : Bool
  quadIo : Bool
  page : Nat
  deriving DecidableEq, Repr

/-- The Atkebry key (R27–R31): its SFDP tables, its serial number, the twelve words of each directory copy, and both
slots. -/
structure Key where
  sfdp : Option Sfdp
  serial : BitVec 64
  dir0 : List Word
  dir1 : List Word
  slot0 : Slot
  slot1 : Slot
  deriving DecidableEq, Repr

/-- A provisioning package (R55, R56): the device identity key it is encrypted to, and the key that signed it. -/
structure ProvPackage where
  encryptedTo : BitVec 512
  signedBy : BitVec 512
  stationKey : BitVec 256
  imageKey : BitVec 256
  verificationKey : BitVec 512
  deriving DecidableEq, Repr

/-- A service authorisation (R59, R60), and whether the erased areas read back as erased (R61). -/
structure ServiceAuth where
  signatureOk : Bool
  serial : BitVec 64
  nonce : BitVec 128
  clearVk : Bool
  eraseOk : Bool
  deriving DecidableEq, Repr

/-- An output condition that can clear by itself (R303). -/
inductive OutCondition where
  | extDrive
  | reverse
  | openOn
  | openOff
  | overload
  | drvFail
  deriving DecidableEq, Repr

/-- A field cell with a watchdog (R306, R330). -/
inductive ChannelRef where
  | digital (n : BitVec 7)
  | analogue (m : BitVec 5)
  deriving DecidableEq, Repr

/-- A coupler link: one per digital channel (R308), one per analogue group (R331). -/
inductive LinkRef where
  | digital (n : BitVec 7)
  | analogue (g : BitVec 2)
  deriving DecidableEq, Repr

/-- An analogue flag that clears by itself (R318, R329). -/
inductive AnalogueFlag where
  | compliance
  | openLoad
  | stageFail
  | short
  deriving DecidableEq, Repr

/-- The header of a Shucel message (R248) with its lane, the outcome of its CRC, and the FT of its arrival. -/
structure ShlHdr where
  lane1 : Bool
  crcOk : Bool
  fn : Word
  seq : Word
  unitB : Bool
  stnId : BitVec 5
  at_ : Word
  deriving DecidableEq, Repr

/-- A TIME message of the time master (R360), and the FT of its arrival. -/
structure TimeMsg where
  hdr : ShlHdr
  masterFt : Word
  sec : BitVec 48
  ns : Nat
  status : BitVec 16
  incr : Word
  calState : Word
  change : Option (TimeChange × Word)
  deriving DecidableEq, Repr

/-- A PTP message (R355): received, or this port's own event message at its egress. `dataset` orders announced
clocks as the best master clock algorithm does, a smaller number being the better clock, and `better` says that the
clock is better than this one; `utc` is currentUtcOffset where the master marks it valid. -/
inductive PtpBody where
  | announce (gm : BitVec 64) (dataset : Nat) (better : Bool) (utc : Option (BitVec 8))
  /-- A Sync (or its Follow_Up): the master's origin time since the epoch, and the correction, in ns. -/
  | sync (origin : Nat) (correction : Nat)
  /-- A completed delay measurement of the port: the path delay in ns. -/
  | delay (path : Nat)
  /-- An event message for which only the time-stamp matters. -/
  | event
  deriving DecidableEq, Repr

/-- Event messages are time-stamped (R352); Sync and Announce are a master's. -/
def PtpBody.isEvent : PtpBody → Bool
  | .sync _ _ => true
  | .event => true
  | _ => false
def PtpBody.fromMaster : PtpBody → Bool
  | .sync _ _ => true
  | .announce _ _ _ _ => true
  | _ => false

structure PtpMsg where
  lanB : Bool
  sent : Bool
  domain : Nat
  body : PtpBody
  at_ : Word
  deriving DecidableEq, Repr

/-- PAIR (R251). -/
structure PairRec where
  hdr : ShlHdr
  fwMajor : Nat
  skKcv : Word
  ikKcv : Word
  imageId : BitVec 64
  ifp : BitVec 64
  role : BitVec 3
  deriving DecidableEq, Repr

/-- INPUT (R253): part number and number of parts of a FULL message, changed words by input image address, the CRC of
the whole contribution as sent (`none` where the part carries none), and the forwarding cut. -/
structure InputMsg where
  hdr : ShlHdr
  part : Option (Nat × Nat)
  carry : Bool
  words : List (Nat × Word)
  crc : Option Word
  cut : Nat
  /-- The lanes that are UP for the sender (log entry 110). -/
  lanes : BitVec 2
  deriving DecidableEq, Repr


/-- Where a JOIN comes from: written to STN_TWIN_CMD, or the CTRL message of the active unit (R249, R269). -/
inductive JoinFrom where
  | write (who : Requester)
  | peer (hdr : ShlHdr) (mapped : Bool)
  deriving DecidableEq, Repr

/-- What XFER carries (R270). -/
inductive XferBody where
  | checkpoint (k : Machine.Checkpoint)
  | record (r : Machine.JRec)
  deriving DecidableEq, Repr

/-- Where a received frame is addressed to: this unit, a multicast group that it subscribes to, or elsewhere (R416). -/
inductive LanDest where
  | unit
  | group
  | elsewhere
  deriving DecidableEq, Repr

/-- A frame received on a LAN port: the port, its bytes on the wire, its VLAN ID where it is tagged, the bytes of its IP
datagram and whether that is a fragment (R385), its destination, source MAC and IPv4 address, and its PRP trailer (R386):
sequence number and LAN. Then its station header (R388) but for KIND and STREAM, its tag, whose most significant byte is the
first one, and the FT of its receipt. A frame of another protocol has zeros in the header. -/
structure StnHdr where
  lanB : Bool
  size : BitVec 16
  vlan : Option (BitVec 12)
  ip : BitVec 16
  fragment : Bool
  dest : LanDest
  mac : BitVec 48
  src : Word
  prp : Option (BitVec 16 × Bool)
  magic : BitVec 16
  version : Byte
  stnId : Byte
  sender : Byte
  seq : BitVec 16
  len : BitVec 16
  fn : Word
  txc : BitVec 64
  tag : BitVec 64
  at_ : Word
  deriving DecidableEq, Repr

/-- A heartbeat of the other unit (R392): its frame and its payload. -/
structure Heartbeat where
  hdr : StnHdr
  role : BitVec 3
  giveUp : Bool
  lockstep : Bool
  modState : Byte
  stnState : Word
  imageId : BitVec 64
  deriving DecidableEq, Repr

/-- RA_RSP (R408) less TID and data: STATUS, COUNT, the DENIED word and the FN of execution. -/
structure RaReply where
  status : Byte
  count : BitVec 16
  denied : Word
  fn : Word
  deriving DecidableEq, Repr

/-- A request to the register access service (R408), less its header. -/
structure RaArgs where
  unitB : Bool
  addr : Word
  count : BitVec 16
  data : List Word
  deriving DecidableEq, Repr

/-- What a link partner offers (R385). -/
inductive LinkOffer where
  | down
  | mbit100
  | gbit1
  | halfDuplex
  deriving DecidableEq, Repr

/-- What ends a CAN attempt or a receipt (R442, R444): bit, stuff, form, acknowledgement and CRC errors, and the protocol
exception. -/
inductive CanErr where
  | bit
  | stuff
  | form
  | ack
  | crc
  | exception
  deriving DecidableEq, Repr

/-- The checks of R263 whose failure is a hardware fault without a row of its own. -/
inductive HwCheck where
  | lane (l : BitVec 2)
  | pipeline (i : Bool)
  | array
  /-- Program memory (0) or word memory (1) with its lane, loop stores (2) with their pipeline, array and queues (3). -/
  | ecc (mem lane : BitVec 2)
  | clock
  | rail
  | sequencer
  deriving DecidableEq, Repr

/-- A measured value that a register of R381 or R493 reports: supply inputs and hold-up bank in 10 mV, rails (0 CORE,
1 MEM, 2 IO, 3 AON) and the supercapacitor in mV, temperature in 0.1 °C, input power in mW, TCXO deviation in
0.01 ppm; pin voltage in 10 mV and current of a digital channel; L+ and current of a digital group; headroom and terminal
voltage of an analogue channel; AG+ and current of an analogue group; bad blocks and wear of the journal's flash, and
whether its spare blocks are exhausted. -/
inductive Measure where
  | vin (psB : Bool) (v : BitVec 16)
  | rail (r : BitVec 2) (mv : BitVec 16)
  | holdup (v : BitVec 16)
  | temp (t : BitVec 16)
  | power (mw : BitVec 16)
  | cap (mv : BitVec 16)
  | tcxo (dev : BitVec 16)
  | dio (n : BitVec 7) (pin current : BitVec 16)
  | dioGroup (g : BitVec 3) (lplus current : BitVec 16)
  | aio (m : BitVec 5) (headroom term : BitVec 16)
  | aioGroup (g : BitVec 2) (agplus current : BitVec 16)
  | flash (bad : BitVec 16) (wear : BitVec 7) (exhausted : Bool)
  deriving DecidableEq, Repr

end Sys2Proof
end

