-- ==== Sys2Proof/Syntax.lean ====
section
/-! DEFINITION. The commands of the block: one constructor of `Instr` per row of spec/opcode_table.json. -/

namespace Sys2Proof

open Machine

/-- The commands, those with operands first, each group in the order of the table; the mnemonic is the row's. -/
inductive Instr where
  /-- POWER_ON_RESET (R40). -/
  | powerOnReset (unitB : Bool) (stnId : BitVec 5) (jumper : Bool)
  /-- BOOT_LOCK (R50). -/
  | bootLock (word : Word)
  /-- KEY_INSERTED (R34). -/
  | keyInserted (k : Key)
  /-- UPD_WRITE (R32). -/
  | updWrite (who : Requester) (target : Bool)
  /-- UPD_DONE (R32). -/
  | updDone (who : Requester) (target : Bool)
  /-- VERIFY_PENDING (R32). -/
  | verifyPending (who : Requester) (target : Bool)
  /-- REQUEST_ACTIVATE (R32). -/
  | requestActivate (who : Requester) (target : Bool)
  /-- CANCEL_ACTIVATE (R32). -/
  | cancelActivate (who : Requester) (target : Bool)
  /-- ERASE_PENDING (R32). -/
  | erasePending (who : Requester) (target : Bool)
  /-- PROVISIONING_PACKAGE (R55). -/
  | provisioningPackage (pkg : ProvPackage)
  /-- SERVICE_AUTHORISATION (R60). -/
  | serviceAuthorisation (auth : ServiceAuth)
  /-- PRE_WAKE (R76). -/
  | preWake (meas : List Measure)
  /-- EVENT_SLOT_BOUNDARY (R84). -/
  | eventSlotBoundary (n : BitVec 4)
  /-- EVENT_SLOT_DISPATCH (R85). -/
  | eventSlotDispatch (n : BitVec 4)
  /-- BUDGET_EXHAUSTION (R87). -/
  | budgetExhaustion (p : BitVec 4) (cost : BitVec 8)
  /-- POLDER_WINDOW_CLOSE (R88). -/
  | polderWindowClose (burst : Bool)
  /-- LD (R140). -/
  | ld (p : BitVec 4) (sp : BitVec 2) (a : BitVec 24)
  /-- LDN (R140). -/
  | ldn (p : BitVec 4) (sp : BitVec 2) (a : BitVec 24)
  /-- AND (R140). -/
  | and (p : BitVec 4) (sp : BitVec 2) (a : BitVec 24)
  /-- ANDN (R140). -/
  | andn (p : BitVec 4) (sp : BitVec 2) (a : BitVec 24)
  /-- OR (R140). -/
  | or (p : BitVec 4) (sp : BitVec 2) (a : BitVec 24)
  /-- ORN (R140). -/
  | orn (p : BitVec 4) (sp : BitVec 2) (a : BitVec 24)
  /-- XOR (R140). -/
  | xor (p : BitVec 4) (sp : BitVec 2) (a : BitVec 24)
  /-- NOT (R140). -/
  | not (p : BitVec 4) (sp : BitVec 2) (a : BitVec 24)
  /-- PUSH (R140). -/
  | push (p : BitVec 4) (sp : BitVec 2) (a : BitVec 24)
  /-- POPA (R140). -/
  | popa (p : BitVec 4) (sp : BitVec 2) (a : BitVec 24)
  /-- POPO (R140). -/
  | popo (p : BitVec 4) (sp : BitVec 2) (a : BitVec 24)
  /-- ST (R140). -/
  | st (p : BitVec 4) (sp : BitVec 2) (a : BitVec 24)
  /-- STN (R140). -/
  | stn (p : BitVec 4) (sp : BitVec 2) (a : BitVec 24)
  /-- SET (R140). -/
  | set (p : BitVec 4) (sp : BitVec 2) (a : BitVec 24)
  /-- RST (R140). -/
  | rst (p : BitVec 4) (sp : BitVec 2) (a : BitVec 24)
  /-- EDR (R144). -/
  | edr (p : BitVec 4) (sp : BitVec 2) (a : BitVec 24)
  /-- EDF (R144). -/
  | edf (p : BitVec 4) (sp : BitVec 2) (a : BitVec 24)
  /-- TMR (R142). -/
  | tmr (p : BitVec 4) (sp : BitVec 2) (a : BitVec 24)
  /-- CNT (R143). -/
  | cnt (p : BitVec 4) (sp : BitVec 2) (a : BitVec 24)
  /-- LDW (R140). -/
  | ldw (p : BitVec 4) (sp : BitVec 2) (a : BitVec 24)
  /-- STW (R140). -/
  | stw (p : BitVec 4) (sp : BitVec 2) (a : BitVec 24)
  /-- LDK (R140). -/
  | ldk (p : BitVec 4) (sp : BitVec 2) (a : BitVec 24)
  /-- ADD (R141). -/
  | add (p : BitVec 4) (sp : BitVec 2) (a : BitVec 24)
  /-- SUB (R141). -/
  | sub (p : BitVec 4) (sp : BitVec 2) (a : BitVec 24)
  /-- MUL (R141). -/
  | mul (p : BitVec 4) (sp : BitVec 2) (a : BitVec 24)
  /-- DIV (R141). -/
  | div (p : BitVec 4) (sp : BitVec 2) (a : BitVec 24)
  /-- ANDW (R140). -/
  | andw (p : BitVec 4) (sp : BitVec 2) (a : BitVec 24)
  /-- ORW (R140). -/
  | orw (p : BitVec 4) (sp : BitVec 2) (a : BitVec 24)
  /-- SHL (R140). -/
  | shl (p : BitVec 4) (sp : BitVec 2) (a : BitVec 24)
  /-- SHR (R140). -/
  | shr (p : BitVec 4) (sp : BitVec 2) (a : BitVec 24)
  /-- CMPEQ (R140). -/
  | cmpeq (p : BitVec 4) (sp : BitVec 2) (a : BitVec 24)
  /-- CMPNE (R140). -/
  | cmpne (p : BitVec 4) (sp : BitVec 2) (a : BitVec 24)
  /-- CMPLT (R140). -/
  | cmplt (p : BitVec 4) (sp : BitVec 2) (a : BitVec 24)
  /-- CMPLE (R140). -/
  | cmple (p : BitVec 4) (sp : BitVec 2) (a : BitVec 24)
  /-- CMPGT (R140). -/
  | cmpgt (p : BitVec 4) (sp : BitVec 2) (a : BitVec 24)
  /-- CMPGE (R140). -/
  | cmpge (p : BitVec 4) (sp : BitVec 2) (a : BitVec 24)
  /-- MIN (R140). -/
  | min (p : BitVec 4) (sp : BitVec 2) (a : BitVec 24)
  /-- MAX (R140). -/
  | max (p : BitVec 4) (sp : BitVec 2) (a : BitVec 24)
  /-- LIM (R140). -/
  | lim (p : BitVec 4) (sp : BitVec 2) (a : BitVec 24)
  /-- JMP (R140). -/
  | jmp (p : BitVec 4) (sp : BitVec 2) (a : BitVec 24)
  /-- JC (R140). -/
  | jc (p : BitVec 4) (sp : BitVec 2) (a : BitVec 24)
  /-- JNC (R140). -/
  | jnc (p : BitVec 4) (sp : BitVec 2) (a : BitVec 24)
  /-- CALL (R140). -/
  | call (p : BitVec 4) (sp : BitVec 2) (a : BitVec 24)
  /-- RET (R140). -/
  | ret (p : BitVec 4) (sp : BitVec 2) (a : BitVec 24)
  /-- END (R140). -/
  | endTask (p : BitVec 4) (sp : BitVec 2) (a : BitVec 24)
  /-- ILLEGAL_OPCODE (R139). -/
  | illegalOpcode (p : BitVec 4) (word : Word)
  /-- RUN_PAST_END (R140). -/
  | runPastEnd (p : BitVec 4)
  /-- SYS_INVALID (R150). -/
  | sysInvalid (p : BitVec 4) (n : BitVec 16)
  /-- EVQ_POP (R148). -/
  | evqPop (p : BitVec 4)
  /-- ERR_INFO (R148). -/
  | errInfo (p : BitVec 4)
  /-- FLAGS (R141). -/
  | flags (p : BitVec 4)
  /-- QMUL (R150). -/
  | qmul (p : BitVec 4)
  /-- STX (R150). -/
  | stx (p : BitVec 4)
  /-- BUDGET (R150). -/
  | budget (p : BitVec 4)
  /-- LOOP_WRITE (R209). -/
  | loopWrite (p : BitVec 4)
  /-- LOOP_READ (R209). -/
  | loopRead (p : BitVec 4)
  /-- LOOP_BANK (R202). -/
  | loopBank (p : BitVec 4)
  /-- SLV_SUBMIT (R218). -/
  | slvSubmit (p : BitVec 4)
  /-- SLV_READ (R240). -/
  | slvRead (p : BitVec 4)
  /-- SLV_CANCEL (R222). -/
  | slvCancel (p : BitVec 4)
  /-- Q_SEND (R403). -/
  | qSend (p : BitVec 4)
  /-- Q_RECV (R404). -/
  | qRecv (p : BitVec 4)
  /-- Q_FILL (R404). -/
  | qFill (p : BitVec 4)
  /-- CHAN_DIAG (R313). -/
  | chanDiag (p : BitVec 4)
  /-- CHAN_TEST (R299). -/
  | chanTest (p : BitVec 4)
  /-- JRN_FREEZE (R450). -/
  | jrnFreeze (p : BitVec 4)
  /-- REG_READ (R152). -/
  | regRead (p : BitVec 4)
  /-- REG_WRITE (R152). -/
  | regWrite (p : BitVec 4)
  /-- CAL_FROM_PTP (R374). -/
  | calFromPtp (p : BitVec 4)
  /-- CAL_TO_PTP (R374). -/
  | calToPtp (p : BitVec 4)
  /-- BREAKPOINT_HIT (R156). -/
  | breakpointHit (p : BitVec 4)
  /-- STEP_COMPLETE (R155). -/
  | stepComplete (p : BitVec 4)
  /-- RUN_COLD (R155). -/
  | runCold (who : Requester) (p : BitVec 4)
  /-- RUN_WARM (R155). -/
  | runWarm (who : Requester) (p : BitVec 4)
  /-- STOP (R153). -/
  | stop (who : Requester) (p : BitVec 4)
  /-- HOLD (R155). -/
  | hold (who : Requester) (p : BitVec 4)
  /-- STEP (R155). -/
  | step (who : Requester) (p : BitVec 4) (arg : BitVec 19)
  /-- CONTINUE (R155). -/
  | continue_ (who : Requester) (p : BitVec 4)
  /-- BP_SET (R156). -/
  | bpSet (who : Requester) (p : BitVec 4) (bp : BitVec 4) (arg : BitVec 19)
  /-- BP_CLR (R156). -/
  | bpClr (who : Requester) (p : BitVec 4) (bp : BitVec 4)
  /-- VAR_WRITE (R173). -/
  | varWrite (who : Requester) (p : BitVec 4)
  /-- K_COMMIT (R175). -/
  | kCommit (who : Requester) (p : BitVec 4)
  /-- K_CANCEL (R176). -/
  | kCancel (who : Requester) (p : BitVec 4)
  /-- FORCE_SET (R179). -/
  | forceSet (who : Requester)
  /-- FORCE_CLR (R182). -/
  | forceClr (who : Requester)
  /-- FORCE_CLR_POLDER (R182). -/
  | forceClrPolder (who : Requester) (p : BitVec 4)
  /-- LOOP_EVALUATION (R194). -/
  | loopEvaluation (k : BitVec 7)
  /-- SOURCE_CHANGE (R117). -/
  | sourceChange (src : BitVec 8) (level : Bool)
  /-- TERM_HOLD_ELAPSED (R111). -/
  | termHoldElapsed (t : BitVec 6)
  /-- PLANE_MISMATCH (R120). -/
  | planeMismatch (gates : BitVec 96) (flags : BitVec 16)
  /-- ARRAY_BERM (R220). -/
  | arrayBerm (ok : Bool)
  /-- PAIR (R252). -/
  | pair (r : PairRec)
  /-- INPUT_MESSAGE (R253). -/
  | inputMessage (msg : InputMsg)
  /-- SLOT_MESSAGE (R259). -/
  | slotMessage (h : ShlHdr) (n : BitVec 4) (entries : List EvEntry)
  /-- SLOT_AGREEMENT_DEADLINE (R259). -/
  | slotAgreementDeadline (n : BitVec 4)
  /-- SIG_MESSAGE (R261). -/
  | sigMessage (h : ShlHdr) (sig : Sig)
  /-- HARDWARE_FAULT (R263). -/
  | hardwareFault (check : HwCheck)
  /-- GIVEUP_MESSAGE (R264). -/
  | giveupMessage (h : ShlHdr) (cause : BitVec 8)
  /-- LANE_SIGNAL_LOSS (R250). -/
  | laneSignalLoss (lane1 : Bool)
  /-- LANE_CRC_ERRORS (R250). -/
  | laneCrcErrors (lane1 : Bool) (n : BitVec 8)
  /-- LANE_UP (R250). -/
  | laneUp (lane1 : Bool) (latency : BitVec 16)
  /-- CTRL_ACK (R249). -/
  | ctrlAck (h : ShlHdr) (xfer : Bool) (seq : Word)
  /-- FWD (R256). -/
  | fwd (h : ShlHdr) (num : BitVec 32) (item : RxItem)
  /-- XFER (R270). -/
  | xfer (h : ShlHdr) (body : XferBody)
  /-- HEARTBEAT_RECEIPT (R265). -/
  | heartbeatReceipt (msg : Heartbeat)
  /-- JOIN (R269). -/
  | join (from_ : JoinFrom)
  /-- HANDOVER (R274). -/
  | handover (who : Requester) (unitB : Bool) (restart : Bool)
  /-- WITHDRAW (R274). -/
  | withdraw (who : Requester) (unitB : Bool) (restart : Bool)
  /-- CLEAR_DIV (R274). -/
  | clearDiv (who : Requester)
  /-- READY (R270). -/
  | ready (h : ShlHdr)
  /-- LOCKSTEP (R270). -/
  | lockstep (h : ShlHdr) (l : Word)
  /-- RAW_EDGE (R287). -/
  | rawEdge (n : BitVec 7) (level : Bool) (at_ : Word)
  /-- FILTER_CONFIRM (R286). -/
  | filterConfirm (n : BitVec 7) (at_ : Word)
  /-- CHATTER_COOL_DOWN_END (R296). -/
  | chatterCoolDownEnd (n : BitVec 7)
  /-- STUCK (R295). -/
  | stuck (n : BitVec 7)
  /-- WIRE_BREAK_TEST_END (R298). -/
  | wireBreakTestEnd (n : BitVec 7) (current : BitVec 12) (level : Bool)
  /-- OVERLOAD (R302). -/
  | overload (n : BitVec 7)
  /-- THERMAL (R302). -/
  | thermal (n : BitVec 7)
  /-- RETRY (R302). -/
  | retry (n : BitVec 7)
  /-- EXT_DRIVE (R303). -/
  | extDrive (n : BitVec 7)
  /-- REVERSE (R303). -/
  | reverse (n : BitVec 7)
  /-- OPEN_ON (R303). -/
  | openOn (n : BitVec 7)
  /-- OPEN_OFF (R303). -/
  | openOff (n : BitVec 7)
  /-- DRV_FAIL (R303). -/
  | drvFail (n : BitVec 7)
  /-- DIAGNOSTIC_CLEAR (R303). -/
  | diagnosticClear (n : BitVec 7) (cond : OutCondition)
  /-- FIELD_WATCHDOG_EXPIRY (R306). -/
  | fieldWatchdogExpiry (ch : ChannelRef)
  /-- COUPLER_LINK_FIELD_FAIL (R308). -/
  | couplerLinkFieldFail (ch : LinkRef)
  /-- COUPLER_LINK_LOGIC_FAIL (R308). -/
  | couplerLinkLogicFail (ch : LinkRef)
  /-- COUPLER_LINK_RETURN (R308). -/
  | couplerLinkReturn (ch : LinkRef) (states : BitVec 16)
  /-- UV_WARN (R309). -/
  | uvWarn (g : BitVec 3)
  /-- UV_WARN_CLEAR (R309). -/
  | uvWarnClear (g : BitVec 3)
  /-- LOCKOUT (R310). -/
  | lockout (g : BitVec 3)
  /-- RECOVERY_START (R310). -/
  | recoveryStart (g : BitVec 3)
  /-- CHANNEL_RELEASE (R310). -/
  | channelRelease (g : BitVec 3)
  /-- CONVERSION_START (R319). -/
  | conversionStart (m : BitVec 5)
  /-- CONVERSION_RESULT (R320). -/
  | conversionResult (m : BitVec 5) (raw : Word)
  /-- FAIL_DELAY_EXPIRY (R322). -/
  | failDelayExpiry (m : BitVec 5)
  /-- COMPARATOR_CROSSING (R323): the current of the channel, in Q16.16 mA, that the comparator now sees. -/
  | comparatorCrossing (m : BitVec 5) (j : Bool) (current : Word)
  /-- COMPARATOR_CONFIRM (R324). -/
  | comparatorConfirm (m : BitVec 5) (j : Bool) (at_ : Word)
  /-- COMPLIANCE (R329). -/
  | compliance (m : BitVec 5)
  /-- OPEN (R329). -/
  | open_ (m : BitVec 5)
  /-- ANALOGUE_FLAG_CLEAR (R329). -/
  | analogueFlagClear (m : BitVec 5) (flag : AnalogueFlag)
  /-- STAGE_FAIL (R329). -/
  | stageFail (m : BitVec 5)
  /-- SHORT (R318). -/
  | short (m : BitVec 5)
  /-- AG_LOW (R316). -/
  | agLow (g : BitVec 2)
  /-- AG_LOCKOUT (R316). -/
  | agLockout (g : BitVec 2)
  /-- AG_RESTORATION (R316). -/
  | agRestoration (g : BitVec 2)
  /-- AG_LINK_FAIL (R331). -/
  | agLinkFail (g : BitVec 2)
  /-- BEGIN (R333). -/
  | begin_ (who : Requester) (chan : BitVec 5) (arg : BitVec 2)
  /-- DRIVE (R333). -/
  | drive (who : Requester) (arg : BitVec 2)
  /-- POINT (R333). -/
  | point (who : Requester) (arg : BitVec 2)
  /-- POINT_RECORDED (R333). -/
  | pointRecorded (mean : Word) (spread : Word)
  /-- COMPUTE (R333). -/
  | compute (who : Requester)
  /-- CAL_COMMIT (R333). -/
  | calCommit (who : Requester)
  /-- ABORT (R333). -/
  | abort (who : Requester)
  /-- FACTORY (R333). -/
  | factory (who : Requester) (chan : BitVec 5)
  /-- SET_INCR (R344). -/
  | setIncr (who : Requester)
  /-- SET_TIME (R344). -/
  | setTime (who : Requester)
  /-- ADJ_TIME (R344). -/
  | adjTime (who : Requester)
  /-- COMPARE_FIRE (R348). -/
  | compareFire (u : BitVec 5)
  /-- TSU_CMP_TGT (R349). -/
  | tsuCmpTgt (who : Requester) (u : BitVec 5) (val : Word)
  /-- TSU_CMP_ARM (R349). -/
  | tsuCmpArm (who : Requester) (u : BitVec 5)
  /-- CAPTURE (R352). -/
  | capture (u : BitVec 4) (at_ : Word)
  /-- TIME_MESSAGE (R361). -/
  | timeMessage (msg : TimeMsg)
  /-- PTP_MESSAGE (R355). -/
  | ptpMessage (msg : PtpMsg)
  /-- ANNOUNCE_RECEIPT_TIMEOUT (R357). -/
  | announceReceiptTimeout (lanB : Bool)
  /-- ADD_HOUR (R376). -/
  | addHour (who : Requester)
  /-- SUB_HOUR (R376). -/
  | subHour (who : Requester)
  /-- SET_CAL (R376). -/
  | setCal (who : Requester)
  /-- SET_TAI_UTC (R376). -/
  | setTaiUtc (who : Requester) (arg : BitVec 8)
  /-- CLR_SWO (R376). -/
  | clrSwo (who : Requester)
  /-- LEAP_SECOND (R373). -/
  | leapSecond (utc : BitVec 8)
  /-- RTC_TRIM_WRITE (R368). -/
  | rtcTrimWrite (who : Requester) (val : Word)
  /-- INPUT_FRAME (R396). -/
  | inputFrame (stn : BitVec 5) (h : StnHdr) (payload : List Word)
  /-- ACK_FRAME (R395). -/
  | ackFrame (stn : BitVec 5) (h : StnHdr) (seq : BitVec 16) (status : BitVec 8)
  /-- STREAM_FRAME (R401). -/
  | streamFrame (id : BitVec 16) (h : StnHdr) (payload : List Word)
  /-- ACK_DEADLINE (R394). -/
  | ackDeadline (stn : BitVec 5)
  /-- RA_OPEN (R409). -/
  | raOpen (k : BitVec 4) (h : StnHdr) (tid : Word) (x : RaArgs)
  /-- RA_READ (R408). -/
  | raRead (k : BitVec 4) (h : StnHdr) (tid : Word) (x : RaArgs)
  /-- RA_WRITE (R408). -/
  | raWrite (k : BitVec 4) (h : StnHdr) (tid : Word) (x : RaArgs)
  /-- RA_CLOSE (R408). -/
  | raClose (k : BitVec 4) (h : StnHdr) (tid : Word) (x : RaArgs)
  /-- ALARM_CONNECT (R412). -/
  | alarmConnect (a : BitVec 2) (h : StnHdr)
  /-- ALARM_HELLO (R412). -/
  | alarmHello (a : BitVec 2) (h : StnHdr) (last : Word)
  /-- ALARM_ACK (R412). -/
  | alarmAck (a : BitVec 2) (h : StnHdr) (evn : Word)
  /-- ALARM_IDLE (R412). -/
  | alarmIdle (a : BitVec 2)
  /-- ALARM_TIMEOUT (R412). -/
  | alarmTimeout (a : BitVec 2)
  /-- ARP_ICMP_REQUEST (R387). -/
  | arpIcmpRequest (h : StnHdr)
  /-- REMOTE_DIAG_READ (R411). -/
  | remoteDiagRead (stn : BitVec 5)
  /-- PORT_LINK_CHANGE (R385). -/
  | portLinkChange (lanB : Bool) (offer : LinkOffer)
  /-- CAN_FRAME_RECEIVED (R426). -/
  | canFrameReceived (k : BitVec 2) (f : CanFrame) (stamp : Word) (at_ : Word)
  /-- CAN_ARBITRATION (R433). -/
  | canArbitration (k : BitVec 2)
  /-- CAN_FRAME_SENT (R432). -/
  | canFrameSent (k : BitVec 2)
  /-- ARBITRATION_LOST (R443). -/
  | arbitrationLost (k : BitVec 2)
  /-- CAN_ERROR (R443). -/
  | canError (k : BitVec 2) (err : CanErr) (ctrlOrData : Bool) (exempt : Bool) (dominant : Bool)
  /-- BUS_OFF_RECOVERY (R440). -/
  | busOffRecovery (k : BitVec 2)
  /-- RECOVER (R440). -/
  | recover (who : Requester) (k : BitVec 2)
  /-- CANCEL (R436). -/
  | cancel (who : Requester) (k : BitVec 2) (q : BitVec 7)
  /-- CLR_COLL (R442). -/
  | clrColl (who : Requester) (k : BitVec 2)
  /-- RXB_LOCK (R430). -/
  | rxbLock (who : Requester) (k : BitVec 2) (b : BitVec 5)
  /-- RXB_UNLOCK (R430). -/
  | rxbUnlock (who : Requester) (k : BitVec 2) (b : BitVec 5)
  /-- RXB_LOCK_TIMEOUT (R430). -/
  | rxbLockTimeout (k : BitVec 2) (b : BitVec 5)
  /-- DOMINANT_TIMEOUT (R420). -/
  | dominantTimeout (k : BitVec 2)
  /-- FREEZE (R450). -/
  | freeze (who : Requester)
  /-- PROTECT (R463). -/
  | protect (who : Requester)
  /-- UNPROTECT (R463). -/
  | unprotect (who : Requester)
  /-- ERASE (R456). -/
  | erase (who : Requester)
  /-- ARM_REPLAY (R457). -/
  | armReplay (who : Requester) (arg : Word)
  /-- DISARM (R463). -/
  | disarm (who : Requester)
  /-- PAUSE_AT (R460). -/
  | pauseAt (who : Requester) (arg : Word)
  /-- STEP_FRAME (R460). -/
  | stepFrame (who : Requester)
  /-- RESUME (R460). -/
  | resume (who : Requester)
  /-- USB_WINDOW_LOAD (R457). -/
  | usbWindowLoad (w : Window)
  /-- USB_WINDOW_READOUT (R456). -/
  | usbWindowReadout (n : BitVec 4)
  /-- ECC_CORRECTED (R461). -/
  | eccCorrected (mem : BitVec 2) (addr : Word) (syndrome : Word)
  /-- POWER_FAIL (R467). -/
  | powerFail (us : BitVec 16)
  /-- SUPPLY_INPUT_LOSS (R465). -/
  | supplyInputLoss (psB : Bool) (v : BitVec 16)
  /-- SUPPLY_INPUT_RETURN (R465). -/
  | supplyInputReturn (psB : Bool) (v : BitVec 16)
  /-- HOLDUP_READY (R466). -/
  | holdupReady (v : BitVec 16)
  /-- RAIL_WARN (R475). -/
  | railWarn (r : BitVec 2) (mv : BitVec 16)
  /-- RAIL_FAULT (R475). -/
  | railFault (r : BitVec 2) (mv : BitVec 16)
  /-- CLOCK_FAILURE (R476). -/
  | clockFailure (k : BitVec 2)
  /-- OVERTEMP (R477). -/
  | overtemp (t : BitVec 16)
  /-- REGISTER_WRITE (R10). -/
  | registerWrite (who : Requester) (addr : Word) (val : Word)
  /-- READ_CLEAR (R10). -/
  | readClear (who : Requester) (addr : Word)
  /-- LATCHING_READ (R10). -/
  | latchingRead (who : Requester) (addr : Word)
  /-- WRITE_ONE_CLEAR (R10). -/
  | writeOneClear (who : Requester) (addr : Word) (val : Word)
  /-- UNOCCUPIED_ACCESS (R24). -/
  | unoccupiedAccess (who : Requester) (addr : Word) (write : Bool) (narrow : Bool) (val : Word)
  /-- AG_LOW_CLEAR (R316). -/
  | agLowClear (g : BitVec 2)
  /-- RA_RSP (R411). -/
  | raRsp (stn : BitVec 5) (h : StnHdr) (tid : Word) (reply : RaReply) (data : List Word)
  /-- CELL_MEASUREMENT (R381). -/
  | cellMeasurement (mv : BitVec 16)
  /-- OVERTEMP_CLEAR (R477). -/
  | overtempClear (t : BitVec 16)
  /-- RAIL_WARN_CLEAR (R475). -/
  | railWarnClear (r : BitVec 2) (mv : BitVec 16)
  /-- BOOT_WATCHDOG_EXPIRY (R51). -/
  | bootWatchdogExpiry
  /-- FRAME_ZERO_START (R74). -/
  | frameZeroStart
  /-- KEY_REMOVED (R34). -/
  | keyRemoved
  /-- BOOT_COMMAND_COMPLETE (R71). -/
  | bootCommandComplete
  /-- JUMPER_REMOVED (R62). -/
  | jumperRemoved
  /-- TRIAL_BANK_COMMIT (R66). -/
  | trialBankCommit
  /-- INPUT_LATCH (R76). -/
  | inputLatch
  /-- EXECUTION_OPEN (R76). -/
  | executionOpen
  /-- EXECUTION_CLOSE (R98). -/
  | executionClose
  /-- SIGNATURE_EXCHANGE (R261). -/
  | signatureExchange
  /-- COMMIT (R98). -/
  | commit
  /-- DOZE (R99). -/
  | doze
  /-- MRAM_COPY_DONE (R162). -/
  | mramCopyDone
  /-- TEST_EXPIRED (R126). -/
  | testExpired
  /-- ARRAY_TICK (R219). -/
  | arrayTick
  /-- SOLVER_STEP (R220). -/
  | solverStep
  /-- PAIR_WAIT_EXPIRY (R252). -/
  | pairWaitExpiry
  /-- PRIMING_FRAME (R253). -/
  | primingFrame
  /-- AGREEMENT_DEADLINE (R254). -/
  | agreementDeadline
  /-- SIG_DEADLINE (R261). -/
  | sigDeadline
  /-- VERDICT (R262). -/
  | verdict
  /-- BULK_RETRY (R249). -/
  | bulkRetry
  /-- HEARTBEAT_LOSS (R265). -/
  | heartbeatLoss
  /-- TIME_LOCK_ACQUIRED (R362). -/
  | timeLockAcquired
  /-- CATCH_UP_FRAME (R270). -/
  | catchUpFrame
  /-- VERIFY_COMPLETE (R270). -/
  | verifyComplete
  /-- JOIN_TIMEOUT (R271). -/
  | joinTimeout
  /-- CAL_STORE_WRITTEN (R333). -/
  | calStoreWritten
  /-- CALIBRATION_TIMEOUT (R333). -/
  | calibrationTimeout
  /-- PPS_OUT_RISE (R364). -/
  | ppsOutRise
  /-- PPS_OUT_FALL (R364). -/
  | ppsOutFall
  /-- FT_WRAP (R363). -/
  | ftWrap
  /-- RTC_COMMAND_EXECUTION (R376). -/
  | rtcCommandExecution
  /-- OFFSET_CHANGE (R376). -/
  | offsetChange
  /-- RTC_REWRITE (R379). -/
  | rtcRewrite
  /-- BACKUP_SWITCH_OVER (R383). -/
  | backupSwitchOver
  /-- TIME_LOST (R382). -/
  | timeLost
  /-- REMOTE_STATION_CUT (R397). -/
  | remoteStationCut
  /-- PRP_SUPERVISION (R386). -/
  | prpSupervision
  /-- WINDOW_COLLECTION_END (R451). -/
  | windowCollectionEnd
  /-- FLASH_COPY_DONE (R453). -/
  | flashCopyDone
  /-- JOURNAL_TRUNCATION (R453). -/
  | journalTruncation
  /-- CHECKPOINT_WRITTEN (R449). -/
  | checkpointWritten
  /-- REPLAY_FRAME (R458). -/
  | replayFrame
  /-- UNCORRECTABLE_RING_ERROR (R448). -/
  | uncorrectableRingError
  /-- PAIR_RESEND (R249). -/
  | pairResend
  /-- TIME_SEND_BEFORE_FN0 (R360). -/
  | timeSendBeforeFn0
  deriving DecidableEq, Repr

end Sys2Proof
end

