-- ==== Sys2Proof/Decode.lean ====
section
/-! DEFINITION. The command that a word of the table's bits spells. The table gives its commands no bits: they are
register accesses, messages, edges and deadlines, not encoded words. -/

namespace Sys2Proof

/-- The command of an `nbits`-bit word `w`: no row of the table gives bits, so no word spells one. -/
def decodeTableWord (_nbits _w : Nat) : Option Instr := none

end Sys2Proof
end

