-- ==== Sys2Proof/Machine/Crypto.lean ====
section
/-! DEFINITION. The checks and ciphers that the manual names and whose algorithms their standards fix: CRC-32 of IEEE 802.3
(R30, R36), SHA-256 and ECDSA over P-256 (R38, R54), AES-256 and its Galois/counter mode (R39, R72). Bytes are lists in the
order in which they are stored; the arithmetic is that of natural numbers. -/

namespace Sys2Proof

/-! Numbers of bytes. -/

def leNat (l : List Byte) : Nat := l.foldr (fun b n => b.toNat + 256 * n) 0
def beNat (l : List Byte) : Nat := l.foldl (fun n b => 256 * n + b.toNat) 0
def leBytes (count n : Nat) : List Byte := (List.range count).map fun j => BitVec.ofNat 8 (n / 256 ^ j)
def beBytes (count n : Nat) : List Byte := (leBytes count n).reverse
def wordBytes (l : List Word) : List Byte := l.flatMap fun w => leBytes 4 w.toNat

/-- Cut into pieces of `k`, the last one perhaps shorter; `fuel` pieces at most. -/
def pieces {α : Type} (k : Nat) (fuel : Nat) (l : List α) : List (List α) :=
  match fuel with
  | 0 => []
  | fuel + 1 => if l.isEmpty then [] else l.take k :: pieces k fuel (l.drop k)

/-! CRC-32 of IEEE 802.3. -/

def crcBit (c : Nat) : Nat := if c % 2 = 1 then (c / 2) ^^^ 0xEDB88320 else c / 2
def crcByte (c : Nat) (b : Byte) : Nat := (List.range 8).foldl (fun c _ => crcBit c) (c ^^^ b.toNat)
def crc32 (l : List Byte) : Word := BitVec.ofNat 32 (l.foldl crcByte 0xFFFFFFFF ^^^ 0xFFFFFFFF)

/-! SHA-256. -/

def rotr32 (n x : Nat) : Nat := (x >>> n) ||| ((x <<< (32 - n)) % 4294967296)

def shaK : List Nat :=
  [0x428A2F98, 0x71374491, 0xB5C0FBCF, 0xE9B5DBA5, 0x3956C25B, 0x59F111F1, 0x923F82A4, 0xAB1C5ED5, 0xD807AA98,
   0x12835B01, 0x243185BE, 0x550C7DC3, 0x72BE5D74, 0x80DEB1FE, 0x9BDC06A7, 0xC19BF174] ++
  [0xE49B69C1, 0xEFBE4786, 0x0FC19DC6, 0x240CA1CC, 0x2DE92C6F, 0x4A7484AA, 0x5CB0A9DC, 0x76F988DA, 0x983E5152,
   0xA831C66D, 0xB00327C8, 0xBF597FC7, 0xC6E00BF3, 0xD5A79147, 0x06CA6351, 0x14292967] ++
  [0x27B70A85, 0x2E1B2138, 0x4D2C6DFC, 0x53380D13, 0x650A7354, 0x766A0ABB, 0x81C2C92E, 0x92722C85, 0xA2BFE8A1,
   0xA81A664B, 0xC24B8B70, 0xC76C51A3, 0xD192E819, 0xD6990624, 0xF40E3585, 0x106AA070] ++
  [0x19A4C116, 0x1E376C08, 0x2748774C, 0x34B0BCB5, 0x391C0CB3, 0x4ED8AA4A, 0x5B9CCA4F, 0x682E6FF3, 0x748F82EE,
   0x78A5636F, 0x84C87814, 0x8CC70208, 0x90BEFFFA, 0xA4506CEB, 0xBEF9A3F7, 0xC67178F2]

def shaStart : List Nat :=
  [0x6A09E667, 0xBB67AE85, 0x3C6EF372, 0xA54FF53A, 0x510E527F, 0x9B05688C, 0x1F83D9AB, 0x5BE0CD19]

/-- The 64 words of the message schedule, from the 16 words of the block. -/
def shaSchedule (m : List Nat) : List Nat :=
  ((List.range 48).foldl (fun (w : List Nat) _ =>
    let a := w.getD 14 0
    let b := w.getD 1 0
    let s0 := rotr32 7 a ^^^ rotr32 18 a ^^^ (a >>> 3)
    let s1 := rotr32 17 b ^^^ rotr32 19 b ^^^ (b >>> 10)
    ((s1 + w.getD 6 0 + s0 + w.getD 15 0) % 4294967296) :: w) m.reverse).reverse

def shaRound (st : List Nat) (kw : Nat × Nat) : List Nat :=
  match st with
  | [a, b, c, d, e, f, g, h] =>
    let s1 := rotr32 6 e ^^^ rotr32 11 e ^^^ rotr32 25 e
    let ch := (e &&& f) ^^^ ((e ^^^ 0xFFFFFFFF) &&& g)
    let t1 := h + s1 + ch + kw.1 + kw.2
    let s0 := rotr32 2 a ^^^ rotr32 13 a ^^^ rotr32 22 a
    let maj := (a &&& b) ^^^ (a &&& c) ^^^ (b &&& c)
    [(t1 + s0 + maj) % 4294967296, a, b, c, (d + t1) % 4294967296, e, f, g]
  | _ => st

def shaBlock (st : List Nat) (block : List Byte) : List Nat :=
  let w := shaSchedule ((pieces 4 16 block).map beNat)
  let out := (shaK.zip w).foldl shaRound st
  (st.zip out).map fun e => (e.1 + e.2) % 4294967296

def shaPad (l : List Byte) : List Byte :=
  l ++ [0x80] ++ List.replicate ((119 - l.length % 64) % 64) 0 ++ beBytes 8 (8 * l.length)

/-- SHA-256, as a number whose most significant byte is the first byte of the digest. -/
def sha256 (l : List Byte) : Nat :=
  let m := shaPad l
  ((pieces 64 (m.length / 64) m).foldl shaBlock shaStart).foldl (fun n w => 4294967296 * n + w) 0

/-! ECDSA over P-256. A point is given by Jacobian coordinates; Z = 0 is the point at infinity. -/

def p256P : Nat := 0xFFFFFFFF00000001000000000000000000000000FFFFFFFFFFFFFFFFFFFFFFFF
def p256N : Nat := 0xFFFFFFFF00000000FFFFFFFFFFFFFFFFBCE6FAADA7179E84F3B9CAC2FC632551
def p256B : Nat := 0x5AC635D8AA3A93E7B3EBBD55769886BC651D06B0CC53B0F63BCE3C3E27D2604B
def p256G : Nat × Nat × Nat :=
  (0x6B17D1F2E12C4247F8BCE6E563A440F277037D812DEB33A0F4A13945D898C296,
   0x4FE342E2FE1A7F9B8EE7EB4A7C0F9E162BCE33576B315ECECBB6406837BF51F5, 1)

def powMod (m b e : Nat) : Nat :=
  (List.range 256).foldl (fun a j => let q := a * a % m; if e.testBit (255 - j) then q * b % m else q) 1

def mulP (a b : Nat) : Nat := a * b % p256P
def subP (a b : Nat) : Nat := (a + p256P - b) % p256P

def p256Double (a : Nat × Nat × Nat) : Nat × Nat × Nat :=
  let (x, y, z) := a
  if z = 0 || y = 0 then (1, 1, 0)
  else
    let zz := mulP z z
    let yy := mulP y y
    let s := mulP 4 (mulP x yy)
    let m := mulP 3 (mulP (subP x zz) ((x + zz) % p256P))
    let x' := subP (mulP m m) (mulP 2 s)
    (x', subP (mulP m (subP s x')) (mulP 8 (mulP yy yy)), mulP 2 (mulP y z))

def p256Add (a b : Nat × Nat × Nat) : Nat × Nat × Nat :=
  let (x1, y1, z1) := a
  let (x2, y2, z2) := b
  if z1 = 0 then b
  else if z2 = 0 then a
  else
    let zz1 := mulP z1 z1
    let zz2 := mulP z2 z2
    let u1 := mulP x1 zz2
    let u2 := mulP x2 zz1
    let s1 := mulP y1 (mulP z2 zz2)
    let s2 := mulP y2 (mulP z1 zz1)
    if u1 = u2 then (if s1 = s2 then p256Double a else (1, 1, 0))
    else
      let h := subP u2 u1
      let r := subP s2 s1
      let hh := mulP h h
      let hhh := mulP h hh
      let v := mulP u1 hh
      let x' := subP (subP (mulP r r) hhh) (mulP 2 v)
      (x', subP (mulP r (subP v x')) (mulP s1 hhh), mulP h (mulP z1 z2))

def p256Mul (k : Nat) (a : Nat × Nat × Nat) : Nat × Nat × Nat :=
  (List.range 256).foldl (fun q j =>
    let q := p256Double q
    if k.testBit (255 - j) then p256Add q a else q) (1, 1, 0)

/-- Affine coordinates; none of the point at infinity. -/
def p256Affine (a : Nat × Nat × Nat) : Option (Nat × Nat) :=
  if a.2.2 = 0 then none
  else
    let z := powMod p256P a.2.2 (p256P - 2)
    let zz := mulP z z
    some (mulP a.1 zz, mulP a.2.1 (mulP z zz))

/-- The public key of a private key: X then Y, each 256 bits. -/
def p256Public (k : BitVec 256) : BitVec 512 :=
  match p256Affine (p256Mul (k.toNat % p256N) p256G) with
  | some (x, y) => BitVec.ofNat 512 (x * 2 ^ 256 + y)
  | none => 0

/-- The signature (r, s) of a digest verifies with the public key. -/
def ecdsaOk (key : BitVec 512) (digest r s' : Nat) : Bool :=
  let x := key.toNat / 2 ^ 256
  let y := key.toNat % 2 ^ 256
  let curve := mulP y y == (mulP x (mulP x x) + subP p256B (mulP 3 x)) % p256P
  if !curve || p256P ≤ x || p256P ≤ y || r = 0 || s' = 0 || p256N ≤ r || p256N ≤ s' then false
  else
    let w := powMod p256N s' (p256N - 2)
    let q := p256Add (p256Mul (digest * w % p256N) p256G) (p256Mul (r * w % p256N) (x, y, 1))
    match p256Affine q with
    | some (px, _) => px % p256N == r
    | none => false

/-! AES-256, on a state of 16 bytes as numbers. -/

def xtime (a : Nat) : Nat := if a < 128 then 2 * a else (2 * a) ^^^ 0x11B
def gmul (a b : Nat) : Nat :=
  ((List.range 8).foldl (fun (e : Nat × Nat) j => (xtime e.1, if b.testBit j then e.2 ^^^ e.1 else e.2)) (a, 0)).2

/-- The S-box: the affine map of the inverse a^254 in the field. -/
def aesSub (a : Nat) : Nat :=
  let a2 := gmul a a
  let a3 := gmul a2 a
  let a6 := gmul a3 a3
  let a12 := gmul a6 a6
  let a15 := gmul a12 a3
  let a30 := gmul a15 a15
  let a60 := gmul a30 a30
  let a120 := gmul a60 a60
  let a126 := gmul a120 a6
  let a127 := gmul a126 a
  let b := gmul a127 a127
  let rot := fun (n : Nat) => ((b <<< n) ||| (b >>> (8 - n))) % 256
  b ^^^ rot 1 ^^^ rot 2 ^^^ rot 3 ^^^ rot 4 ^^^ 0x63

def xorBytes (a b : List Nat) : List Nat := (a.zip b).map fun e => e.1 ^^^ e.2

/-- The 60 words of the key schedule, newest first. -/
def aesSchedule (key : List Nat) : List (List Nat) :=
  ((List.range 52).foldl (fun (st : List (List Nat) × Nat) j =>
    let t := st.1.headD []
    let (t, rc) :=
      if j % 8 = 0 then
        let t := (t.drop 1 ++ t.take 1).map aesSub
        (xorBytes t [st.2, 0, 0, 0], xtime st.2)
      else if j % 8 = 4 then (t.map aesSub, st.2)
      else (t, st.2)
    (xorBytes (st.1.getD 7 []) t :: st.1, rc)) ((pieces 4 8 key).reverse, 1)).1

def shiftRows (b : List Nat) : List Nat := (List.range 16).map fun j => b.getD ((5 * j) % 16) 0

def mixColumn (c : List Nat) : List Nat :=
  (List.range 4).map fun j =>
    let v := fun k => c.getD ((j + k) % 4) 0
    xtime (v 0) ^^^ (xtime (v 1) ^^^ v 1) ^^^ v 2 ^^^ v 3

def aesRound (last : Bool) (b key : List Nat) : List Nat :=
  let b := shiftRows (b.map aesSub)
  xorBytes (if last then b else (pieces 4 4 b).flatMap mixColumn) key

/-- AES-256 of one block, most significant byte first. -/
def aes256 (key : BitVec 256) (block : Nat) : Nat :=
  let ws := (aesSchedule ((beBytes 32 key.toNat).map BitVec.toNat)).reverse
  let keys := (pieces 4 15 ws).map List.flatten
  let b := xorBytes ((beBytes 16 block).map BitVec.toNat) (keys.headD [])
  let b := ((keys.drop 1).take 13).foldl (aesRound false) b
  (aesRound true b (keys.getD 14 [])).foldl (fun n x => 256 * n + x) 0

/-! Galois/counter mode. -/

def gfMul (x y : Nat) : Nat :=
  ((List.range 128).foldl (fun (e : Nat × Nat) j =>
    let z := if x.testBit (127 - j) then e.1 ^^^ e.2 else e.1
    (z, if e.2 % 2 = 1 then (e.2 / 2) ^^^ (0xE1 <<< 120) else e.2 / 2)) (0, y)).1

/-- The blocks of a string, zero padded. -/
def gcmBlocks (l : List Byte) : List Nat :=
  (pieces 16 l.length l).map fun b => beNat b * 256 ^ (16 - b.length)

def ghash (h : Nat) (aad text : List Byte) : Nat :=
  (gcmBlocks aad ++ gcmBlocks text ++ [(8 * aad.length) * 2 ^ 64 + 8 * text.length]).foldl
    (fun y b => gfMul (y ^^^ b) h) 0

/-- The tag of a ciphertext, under a 96-bit initialisation vector. -/
def gcmTag (key : BitVec 256) (iv : BitVec 96) (aad text : List Byte) : BitVec 128 :=
  BitVec.ofNat 128 (aes256 key (iv.toNat * 2 ^ 32 + 1) ^^^ ghash (aes256 key 0) aad text)

/-- The plaintext of a ciphertext. -/
def gcmPlain (key : BitVec 256) (iv : BitVec 96) (text : List Byte) : List Byte :=
  ((pieces 16 text.length text).zipIdx).flatMap fun e =>
    ((e.1.zip (beBytes 16 (aes256 key (iv.toNat * 2 ^ 32 + (e.2 + 2) % 2 ^ 32)))).map fun x => x.1 ^^^ x.2)

end Sys2Proof
end

