-- ==== Sys2Proof/Config.lean ====
section
/-! DEFINITION. The free values: what the spec leaves open, as constants without a body, so that no proof can lean on
a number. A statement about one holds whatever it is. -/

namespace Sys2Proof

/-- An unstated 32-bit value; applied to `Dyn.free`, which advances at each use (log entry 6). -/
opaque Config.freeWord : Nat → Word

/-- What the sections of an image programmed by updates say: from their types, instances and bytes (decrypted where they
are encrypted) the values of LK registers, the defaultable fields without a value, and the rest; none where they cannot be
read as content. No rule gives the byte layout of a section's content. -/
opaque Config.imageContent : List (Nat × Nat × List Byte) → Option (List (Nat × Word) × List Fld × ImageData)

/-- The firmware package that programmed pages spell: signature valid, security version, major, minor, build. -/
opaque Config.packageOfPages : List (Nat × Word) → Bool × Nat × Nat × Nat × Nat

/-- Pages of 256 bytes in a firmware bank (R70 bounds UPD_WRITE by the target's size, which no rule gives for a bank). -/
opaque Config.bankPages : Nat

/-- Traffic class of a frame for which the spec names none (R385), by KIND; of PRP supervision by 0. -/
opaque Config.trafficClass : Nat → Nat

/-- Address of a remote station's diagnostic word in its register access service (R411 names none), by station. -/
opaque Config.diagAddr : Nat → Word

/-- Class of an alarm record whose event the spec gives none (R413). -/
opaque Config.alarmClass : Nat → BitVec 2

/-- CRC-32 of a list of words laid out in an order the spec does not fix (R98, R254, R261). -/
opaque Config.digest : List Word → Word

/-- The direction of a rounding that the spec does not state, by numerator and denominator. -/
opaque Config.roundUp : Int → Nat → Bool

/-- Whether the corrector of a QP pass takes the products of the predictor's changes into its aim (R230 does not say). -/
opaque Config.secondOrder : Bool

/-- An unstated number of a solver job (log entry 7), by slot, problem data, pass and index: the same on both units and in
a replay (R17). -/
opaque Config.solverWord : Nat → List (Nat × Nat × Nat × Int) → Nat → Nat → Word

/-- Array cycles of the next step of a solver job, by slot, stage and cycles left in the stage (R220: fixed by the
template's dimensions, at most 512); the model limits it to 1 … 512. -/
opaque Config.stepCost : Nat → Nat → Nat → Nat

/-- Array cycles of a pass before its factorisation, by slot (R234 states the total alone). -/
opaque Config.passFront : Nat → Nat

/-- Words a service is charged for when its parameter block cannot be read (R150). -/
opaque Config.unreadWords : Nat

/-- The content of a checkpoint as bytes, of which it ends with the SHA-256 (R449 gives its items, not their order). -/
opaque Config.checkpointContent : Machine.Checkpoint → List Byte

/-- Bytes of a checkpoint as written (R449 gives its content, not its layout). -/
opaque Config.checkpointBytes : Machine.Checkpoint → Nat

/-- What a register of R314 or R337 reports of a quantity that the field side measures, where no command has carried a
measurement for 1 ms: by address and fabric cycle (log entry 8). -/
opaque Config.measuredWord : Nat → Nat → Word

/-- A word of a stored window's file by its index: R454 and R456 give its parts, not their order (JRN_RD). -/
opaque Config.windowWord : Machine.Window → Nat → Word

end Sys2Proof
end

