-- ==== Sys2Proof/Machine/Regs.lean ====
section
/-! DEFINITION. The register address map (R8, R23 and the register tables of each chapter): `Reg.NAME i` is the byte
address of instance `i` of register NAME, and `F.NAME_FIELD i` the place of one of its fields. -/

namespace Sys2Proof.Machine

/-! R26, chapter 01. -/
def Reg.MOD_ID : Nat := 0x10000
def Reg.MOD_ORDER : Nat := 0x10004
def Reg.MOD_SERIAL_LO : Nat := 0x10008
def Reg.MOD_SERIAL_HI : Nat := 0x1000c
def Reg.MOD_HW_REV : Nat := 0x10010
def Reg.MOD_FW_REV : Nat := 0x10014
def Reg.MOD_UNIT : Nat := 0x10018
def Reg.MOD_STATE : Nat := 0x1001c
def Reg.MOD_ACC_ERR : Nat := 0x10020
def Reg.MOD_ACC_ADDR : Nat := 0x10024
/-! R70, chapter 02. -/
def Reg.BOOT_STATUS : Nat := 0x110000
def Reg.BOOT_LOCK : Nat := 0x110004
def Reg.BOOT_PV_COUNT : Nat := 0x110008
def Reg.BOOT_PV_ADDR : Nat := 0x11000c
def Reg.BOOT_PV_SRC : Nat := 0x110010
def Reg.BOOT_IMG_ID_LO : Nat := 0x110014
def Reg.BOOT_IMG_ID_HI : Nat := 0x110018
def Reg.BOOT_KEY_SN_LO : Nat := 0x11001c
def Reg.BOOT_KEY_SN_HI : Nat := 0x110020
def Reg.BOOT_PEND : Nat := 0x110024
def Reg.BOOT_FW : Nat := 0x110028
def Reg.BOOT_START_US : Nat := 0x11002c
def Reg.BOOT_CMD : Nat := 0x110030
def Reg.BOOT_CMD_STAT : Nat := 0x110034
def Reg.BOOT_UPD_OFFSET : Nat := 0x110038
def Reg.BOOT_RIGHTS_SEL : Nat := 0x11003c
def Reg.BOOT_RIGHTS_LO : Nat := 0x110040
def Reg.BOOT_RIGHTS_HI : Nat := 0x110044
def Reg.BOOT_UPD_BUF (i : Nat) : Nat := 0x110400 + 0x4 * i
/-! R72, chapter 02. -/
def Reg.SEC_STATUS : Nat := 0x120000
def Reg.SEC_SK_KCV : Nat := 0x120004
def Reg.SEC_IK_KCV : Nat := 0x120008
def Reg.SEC_VK_FPR : Nat := 0x12000c
def Reg.SEC_PROV_COUNT : Nat := 0x120010
def Reg.SEC_OPEN_COUNT : Nat := 0x120014
def Reg.SEC_AUTH_STAT : Nat := 0x120018
def Reg.SEC_FW_SVN : Nat := 0x12001c
def Reg.SEC_NONCE (i : Nat) : Nat := 0x120020 + 0x4 * i
def Reg.SEC_DEVPUB (i : Nat) : Nat := 0x120040 + 0x4 * i
/-! R103, chapter 03. -/
def Reg.SLC_PERIOD : Nat := 0x20000
def Reg.SLC_OFFSET : Nat := 0x20004
def Reg.SLC_CTRL : Nat := 0x20008
def Reg.SLC_FN : Nat := 0x2000c
def Reg.SLC_T_FT : Nat := 0x20010
def Reg.SLC_STATUS : Nat := 0x20014
def Reg.SLC_K : Nat := 0x20018
def Reg.SLC_S : Nat := 0x2001c
def Reg.SLC_BERM : Nat := 0x20020
def Reg.SLC_LOOP_CAP : Nat := 0x20024
def Reg.SLC_SLV_CAP : Nat := 0x20028
def Reg.SLC_HOME : Nat := 0x2002c
def Reg.SLC_SPILL_MAP : Nat := 0x20030
def Reg.SLC_FAULT_MAP : Nat := 0x20034
def Reg.SLC_LANE_USE (l : Nat) : Nat := 0x20038 + 0x4 * l
/-! R104, chapter 03. -/
def Reg.PLD_CFG (p : Nat) : Nat := 0x30000 + 0x1000 * p
def Reg.PLD_CYCLIC (p : Nat) : Nat := 0x30004 + 0x1000 * p
def Reg.PLD_BUD_LOGIC (p : Nat) : Nat := 0x30008 + 0x1000 * p
def Reg.PLD_BUD_LOOP (p : Nat) : Nat := 0x3000c + 0x1000 * p
def Reg.PLD_BUD_SLV (p : Nat) : Nat := 0x30010 + 0x1000 * p
def Reg.PLD_BITWIN (p : Nat) : Nat := 0x30014 + 0x1000 * p
def Reg.PLD_WORDWIN (p : Nat) : Nat := 0x30018 + 0x1000 * p
def Reg.PLD_STATE (p : Nat) : Nat := 0x3001c + 0x1000 * p
def Reg.PLD_USE_LOGIC (p : Nat) : Nat := 0x30020 + 0x1000 * p
def Reg.PLD_PEAK_LOGIC (p : Nat) : Nat := 0x30024 + 0x1000 * p
def Reg.PLD_USE_LOOP (p : Nat) : Nat := 0x30028 + 0x1000 * p
def Reg.PLD_USE_SLV (p : Nat) : Nat := 0x3002c + 0x1000 * p
def Reg.PLD_SPILL (p : Nat) : Nat := 0x30030 + 0x1000 * p
def Reg.PLD_SPILL_TOTAL (p : Nat) : Nat := 0x30034 + 0x1000 * p
def Reg.PLD_MISSED (p : Nat) : Nat := 0x30038 + 0x1000 * p
def Reg.PLD_SPILL_FN (p : Nat) : Nat := 0x3003c + 0x1000 * p
def Reg.PLD_ERR (p : Nat) : Nat := 0x30040 + 0x1000 * p
def Reg.PLD_EVQ (p : Nat) : Nat := 0x30044 + 0x1000 * p
def Reg.PLD_EVQ_OVF (p : Nat) : Nat := 0x30048 + 0x1000 * p
def Reg.PLD_LOOP_DEFER (p : Nat) : Nat := 0x3004c + 0x1000 * p
/-! R127, chapter 04. -/
def Reg.LVE_LIT01 (t : Nat) : Nat := 0x40000 + 0x40 * t
def Reg.LVE_LIT23 (t : Nat) : Nat := 0x40004 + 0x40 * t
def Reg.LVE_LIT45 (t : Nat) : Nat := 0x40008 + 0x40 * t
def Reg.LVE_LIT67 (t : Nat) : Nat := 0x4000c + 0x40 * t
def Reg.LVE_TCFG (t : Nat) : Nat := 0x40010 + 0x40 * t
def Reg.LVE_HOLD (t : Nat) : Nat := 0x40014 + 0x40 * t
def Reg.LVE_MAP0 (t : Nat) : Nat := 0x40018 + 0x40 * t
def Reg.LVE_MAP1 (t : Nat) : Nat := 0x4001c + 0x40 * t
def Reg.LVE_MAP2 (t : Nat) : Nat := 0x40020 + 0x40 * t
def Reg.LVE_FMAP (t : Nat) : Nat := 0x40024 + 0x40 * t
def Reg.LVE_STATUS : Nat := 0x41000
def Reg.LVE_TRIPST0 : Nat := 0x41004
def Reg.LVE_TRIPST1 : Nat := 0x41008
def Reg.LVE_TRIPST2 : Nat := 0x4100c
def Reg.LVE_P0F : Nat := 0x41010
def Reg.LVE_P0F_SAFE : Nat := 0x41014
def Reg.LVE_TEST_LIMIT : Nat := 0x41018
def Reg.LVE_TEST_CTRL : Nat := 0x4101c
def Reg.LVE_TEST_VAL : Nat := 0x41020
def Reg.LVE_TEST_STAT : Nat := 0x41024
def Reg.LVE_RAW0 : Nat := 0x41028
def Reg.LVE_RAW1 : Nat := 0x4102c
def Reg.LVE_ACT0 : Nat := 0x41030
def Reg.LVE_ACT1 : Nat := 0x41034
def Reg.LVE_LATCHED0 : Nat := 0x41038
def Reg.LVE_LATCHED1 : Nat := 0x4103c
def Reg.LVE_FLAG : Nat := 0x41040
def Reg.LVE_TRIP0 : Nat := 0x41044
def Reg.LVE_TRIP1 : Nat := 0x41048
def Reg.LVE_TRIP2 : Nat := 0x4104c
/-! R158, chapter 05. -/
def Reg.LGE_STATUS : Nat := 0x50000
def Reg.LGE_CMD : Nat := 0x50004
def Reg.LGE_CMD_ARG : Nat := 0x50008
def Reg.LGE_CMD_STAT : Nat := 0x5000c
def Reg.LGE_BP (i : Nat) : Nat := 0x50100 + 0x4 * i
def Reg.LGE_SEG_BASE (p : Nat) : Nat := 0x51000 + 0x40 * p
def Reg.LGE_SEG_LEN (p : Nat) : Nat := 0x51004 + 0x40 * p
def Reg.LGE_TMR (p : Nat) : Nat := 0x51008 + 0x40 * p
def Reg.LGE_CNT (p : Nat) : Nat := 0x5100c + 0x40 * p
def Reg.LGE_EDGE (p : Nat) : Nat := 0x51010 + 0x40 * p
def Reg.LGE_CTRL (p : Nat) : Nat := 0x51014 + 0x40 * p
def Reg.LGE_PC (p : Nat) : Nat := 0x51018 + 0x40 * p
def Reg.LGE_ACC (p : Nat) : Nat := 0x5101c + 0x40 * p
def Reg.LGE_WA (p : Nat) : Nat := 0x51020 + 0x40 * p
def Reg.LGE_FAULT (p : Nat) : Nat := 0x51024 + 0x40 * p
def Reg.LGE_FAULT_PC (p : Nat) : Nat := 0x51028 + 0x40 * p
def Reg.LGE_ARITH (p : Nat) : Nat := 0x5102c + 0x40 * p
/-! R185, chapter 06. -/
def Reg.STN_PL_CMD : Nat := 0x4000
def Reg.STN_PL_ADDR : Nat := 0x4004
def Reg.STN_PL_VALUE : Nat := 0x4008
def Reg.STN_PL_STAT : Nat := 0x400c
def Reg.STN_PL_FN : Nat := 0x4010
def Reg.STN_PL_BATCH : Nat := 0x4014
def Reg.STN_PL_PERMIT : Nat := 0x4018
def Reg.STN_PL_POLICY : Nat := 0x401c
def Reg.STN_PL_START : Nat := 0x4020
def Reg.STN_PL_OVERLAY : Nat := 0x4024
def Reg.STN_FORCE_SEL : Nat := 0x4028
def Reg.STN_FORCE_DESC : Nat := 0x402c
def Reg.STN_FORCE_VAL : Nat := 0x4030
def Reg.STN_FORCE_COUNT : Nat := 0x4034
def Reg.STN_RST_KIND (p : Nat) : Nat := 0x4100 + 0x10 * p
def Reg.STN_RST_KEPT (p : Nat) : Nat := 0x4104 + 0x10 * p
def Reg.STN_RST_INIT (p : Nat) : Nat := 0x4108 + 0x10 * p
def Reg.STN_RST_DROP (p : Nat) : Nat := 0x410c + 0x10 * p
def Reg.STN_PL_KIDX (i : Nat) : Nat := 0x4200 + 0x8 * i
def Reg.STN_PL_KVAL (i : Nat) : Nat := 0x4204 + 0x8 * i
/-! R212, chapter 07. -/
def Reg.LPE_CFG (c : Nat) : Nat := 0x60000 + 0x100 * c
def Reg.LPE_SCHED (c : Nat) : Nat := 0x60004 + 0x100 * c
def Reg.LPE_PV_SRC (c : Nat) : Nat := 0x60008 + 0x100 * c
def Reg.LPE_AO (c : Nat) : Nat := 0x6000c + 0x100 * c
def Reg.LPE_STATUS (c : Nat) : Nat := 0x60010 + 0x100 * c
def Reg.LPE_MODE (c : Nat) : Nat := 0x60014 + 0x100 * c
def Reg.LPE_PV (c : Nat) : Nat := 0x60018 + 0x100 * c
def Reg.LPE_SP_T (c : Nat) : Nat := 0x6001c + 0x100 * c
def Reg.LPE_SP_W (c : Nat) : Nat := 0x60020 + 0x100 * c
def Reg.LPE_OUT (c : Nat) : Nat := 0x60024 + 0x100 * c
def Reg.LPE_V (c : Nat) : Nat := 0x60028 + 0x100 * c
def Reg.LPE_P (c : Nat) : Nat := 0x6002c + 0x100 * c
def Reg.LPE_D (c : Nat) : Nat := 0x60030 + 0x100 * c
def Reg.LPE_I_LO (c : Nat) : Nat := 0x60034 + 0x100 * c
def Reg.LPE_I_HI (c : Nat) : Nat := 0x60038 + 0x100 * c
def Reg.LPE_SAT_TIME (c : Nat) : Nat := 0x6003c + 0x100 * c
def Reg.LPE_SAT_FRAC (c : Nat) : Nat := 0x60040 + 0x100 * c
def Reg.LPE_EVAL_FN (c : Nat) : Nat := 0x60044 + 0x100 * c
def Reg.LPE_MAN_OUT (c : Nat) : Nat := 0x60048 + 0x100 * c
def Reg.LPE_TRACK_VAL (c : Nat) : Nat := 0x6004c + 0x100 * c
def Reg.LPE_OUT_HI (c : Nat) : Nat := 0x60050 + 0x100 * c
def Reg.LPE_OUT_LO (c : Nat) : Nat := 0x60054 + 0x100 * c
def Reg.LPE_OUT_UP (c : Nat) : Nat := 0x60058 + 0x100 * c
def Reg.LPE_OUT_DN (c : Nat) : Nat := 0x6005c + 0x100 * c
def Reg.LPE_SP_HI (c : Nat) : Nat := 0x60060 + 0x100 * c
def Reg.LPE_SP_LO (c : Nat) : Nat := 0x60064 + 0x100 * c
def Reg.LPE_SP_UP (c : Nat) : Nat := 0x60068 + 0x100 * c
def Reg.LPE_SP_DN (c : Nat) : Nat := 0x6006c + 0x100 * c
def Reg.LPE_SP_ACC (c : Nat) : Nat := 0x60070 + 0x100 * c
def Reg.LPE_SAT_LIM (c : Nat) : Nat := 0x60074 + 0x100 * c
def Reg.LPE_SAT_FRAC_LIM (c : Nat) : Nat := 0x60078 + 0x100 * c
def Reg.LPE_FAIL_OUT (c : Nat) : Nat := 0x6007c + 0x100 * c
def Reg.LPE_KP_A (c : Nat) : Nat := 0x60080 + 0x100 * c
def Reg.LPE_KI_A (c : Nat) : Nat := 0x60084 + 0x100 * c
def Reg.LPE_KD_A (c : Nat) : Nat := 0x60088 + 0x100 * c
def Reg.LPE_N_A (c : Nat) : Nat := 0x6008c + 0x100 * c
def Reg.LPE_TT_A (c : Nat) : Nat := 0x60090 + 0x100 * c
def Reg.LPE_KP_B (c : Nat) : Nat := 0x600a0 + 0x100 * c
def Reg.LPE_KI_B (c : Nat) : Nat := 0x600a4 + 0x100 * c
def Reg.LPE_KD_B (c : Nat) : Nat := 0x600a8 + 0x100 * c
def Reg.LPE_N_B (c : Nat) : Nat := 0x600ac + 0x100 * c
def Reg.LPE_TT_B (c : Nat) : Nat := 0x600b0 + 0x100 * c
def Reg.LPE_GSTATUS : Nat := 0x68000
def Reg.LPE_EVALS : Nat := 0x68004
def Reg.LPE_ARITH : Nat := 0x68008
/-! R243, chapter 08. -/
def Reg.SLV_CFG (s : Nat) : Nat := 0x70000 + 0x800 * s
def Reg.SLV_DIM (s : Nat) : Nat := 0x70004 + 0x800 * s
def Reg.SLV_ITER (s : Nat) : Nat := 0x70008 + 0x800 * s
def Reg.SLV_FMT (s : Nat) : Nat := 0x7000c + 0x800 * s
def Reg.SLV_FMT2 (s : Nat) : Nat := 0x70010 + 0x800 * s
def Reg.SLV_EPS_PIV (s : Nat) : Nat := 0x70014 + 0x800 * s
def Reg.SLV_DELTA_REG (s : Nat) : Nat := 0x70018 + 0x800 * s
def Reg.SLV_DELTA_EQ (s : Nat) : Nat := 0x7001c + 0x800 * s
def Reg.SLV_SIGMA_MAX (s : Nat) : Nat := 0x70020 + 0x800 * s
def Reg.SLV_EPS_FIX (s : Nat) : Nat := 0x70024 + 0x800 * s
def Reg.SLV_TOL_P (s : Nat) : Nat := 0x70028 + 0x800 * s
def Reg.SLV_TOL_D (s : Nat) : Nat := 0x7002c + 0x800 * s
def Reg.SLV_TOL_MU (s : Nat) : Nat := 0x70030 + 0x800 * s
def Reg.SLV_INIT_X (s : Nat) : Nat := 0x70034 + 0x800 * s
def Reg.SLV_INIT_DUAL (s : Nat) : Nat := 0x70038 + 0x800 * s
def Reg.SLV_COST_SETUP (s : Nat) : Nat := 0x7003c + 0x800 * s
def Reg.SLV_COST_ITER (s : Nat) : Nat := 0x70040 + 0x800 * s
def Reg.SLV_COST_FINISH (s : Nat) : Nat := 0x70044 + 0x800 * s
def Reg.SLV_COST_GAP (s : Nat) : Nat := 0x70048 + 0x800 * s
def Reg.SLV_JOB (s : Nat) : Nat := 0x7004c + 0x800 * s
def Reg.SLV_JOB_FN (s : Nat) : Nat := 0x70050 + 0x800 * s
def Reg.SLV_JOB_DL (s : Nat) : Nat := 0x70054 + 0x800 * s
def Reg.SLV_JOB_CYC (s : Nat) : Nat := 0x70058 + 0x800 * s
def Reg.SLV_RES_STAT (s : Nat) : Nat := 0x7005c + 0x800 * s
def Reg.SLV_RES_FN (s : Nat) : Nat := 0x70060 + 0x800 * s
def Reg.SLV_RES_JOBFN (s : Nat) : Nat := 0x70064 + 0x800 * s
def Reg.SLV_RES_PIV (s : Nat) : Nat := 0x70068 + 0x800 * s
def Reg.SLV_RES_RP (s : Nat) : Nat := 0x7006c + 0x800 * s
def Reg.SLV_RES_RD (s : Nat) : Nat := 0x70070 + 0x800 * s
def Reg.SLV_RES_MU (s : Nat) : Nat := 0x70074 + 0x800 * s
def Reg.SLV_RES_EXC (s : Nat) : Nat := 0x70078 + 0x800 * s
def Reg.SLV_OVF (s : Nat) : Nat := 0x7007c + 0x800 * s
def Reg.SLV_RES_X (s i : Nat) : Nat := 0x70400 + 0x800 * s + 0x4 * i
def Reg.SLV_GSTATUS : Nat := 0x74000
def Reg.SLV_ARRAY_USE : Nat := 0x74004
def Reg.SLV_BUSY : Nat := 0x74008
/-! R280, chapter 09. -/
def Reg.STN_STATE : Nat := 0x0
def Reg.STN_TWIN_CMD : Nat := 0x4
def Reg.STN_TWIN_ARG : Nat := 0x8
def Reg.STN_TWIN_STAT : Nat := 0xc
def Reg.STN_LOCK_FN : Nat := 0x10
def Reg.STN_DIV : Nat := 0x14
def Reg.STN_DIV_FN : Nat := 0x18
def Reg.STN_GAP : Nat := 0x1c
/-! R281, chapter 09. -/
def Reg.SHL_CFG : Nat := 0xf0000
def Reg.SHL_IFP_LO : Nat := 0xf0004
def Reg.SHL_IFP_HI : Nat := 0xf0008
def Reg.SHL_INPUT_MAX : Nat := 0xf000c
def Reg.SHL_STATUS : Nat := 0xf0010
def Reg.SHL_PEER : Nat := 0xf0014
def Reg.SHL_LAT : Nat := 0xf0018
def Reg.SHL_LANE_ERR (l : Nat) : Nat := 0xf001c + 0x4 * l
def Reg.SHL_AGREE_MISS : Nat := 0xf0024
def Reg.SHL_SIG_MISMATCH : Nat := 0xf0028
def Reg.SHL_INPUT_CARRY : Nat := 0xf002c
def Reg.SHL_AGREE_PEAK : Nat := 0xf0030
def Reg.SHL_GIVEUP : Nat := 0xf0034
def Reg.SHL_XFER : Nat := 0xf0038
def Reg.SHL_XFER_FN : Nat := 0xf003c
def Reg.SHL_XFER_KIND (p : Nat) : Nat := 0xf0100 + 0x10 * p
def Reg.SHL_XFER_KEPT (p : Nat) : Nat := 0xf0104 + 0x10 * p
def Reg.SHL_XFER_INIT (p : Nat) : Nat := 0xf0108 + 0x10 * p
def Reg.SHL_XFER_DROP (p : Nat) : Nat := 0xf010c + 0x10 * p
def Reg.SHL_MRG (i : Nat) : Nat := 0xf0200 + 0x4 * i
def Reg.SHL_PAIR_DO0 : Nat := 0xf0280
def Reg.SHL_PAIR_DO1 : Nat := 0xf0284
def Reg.SHL_PAIR_DO2 : Nat := 0xf0288
def Reg.SHL_PAIR_AO : Nat := 0xf028c
/-! R314, chapter 10. -/
def Reg.DIO_CFG (n : Nat) : Nat := 0x80000 + 0x40 * n
def Reg.DIO_OCFG (n : Nat) : Nat := 0x80004 + 0x40 * n
def Reg.DIO_CHATCFG (n : Nat) : Nat := 0x80008 + 0x40 * n
def Reg.DIO_STUCK (n : Nat) : Nat := 0x8000c + 0x40 * n
def Reg.DIO_STOP (n : Nat) : Nat := 0x80010 + 0x40 * n
def Reg.DIO_EVT (n : Nat) : Nat := 0x80014 + 0x40 * n
def Reg.DIO_STATUS (n : Nat) : Nat := 0x80018 + 0x40 * n
def Reg.DIO_COUNT (n : Nat) : Nat := 0x8001c + 0x40 * n
def Reg.DIO_FREQ (n : Nat) : Nat := 0x80020 + 0x40 * n
def Reg.DIO_TS_RISE (n : Nat) : Nat := 0x80024 + 0x40 * n
def Reg.DIO_TS_FALL (n : Nat) : Nat := 0x80028 + 0x40 * n
def Reg.DIO_MEAS (n : Nat) : Nat := 0x8002c + 0x40 * n
def Reg.DIO_WB (n : Nat) : Nat := 0x80030 + 0x40 * n
def Reg.DIO_EVCNT (n : Nat) : Nat := 0x80034 + 0x40 * n
def Reg.DIO_GCFG (g : Nat) : Nat := 0x82000 + 0x100 * g
def Reg.DIO_GSTATUS (g : Nat) : Nat := 0x82004 + 0x100 * g
def Reg.DIO_GMEAS (g : Nat) : Nat := 0x82008 + 0x100 * g
def Reg.DIO_GEVCNT (g : Nat) : Nat := 0x8200c + 0x100 * g
def Reg.DIO_LINK0 : Nat := 0x83000
def Reg.DIO_LINK1 : Nat := 0x83004
def Reg.DIO_LINK2 : Nat := 0x83008
/-! R337, chapter 11. -/
def Reg.AIO_CFG (m : Nat) : Nat := 0x90000 + 0x80 * m
def Reg.AIO_SUBST (m : Nat) : Nat := 0x90004 + 0x80 * m
def Reg.AIO_OCFG (m : Nat) : Nat := 0x90008 + 0x80 * m
def Reg.AIO_CMP0 (m : Nat) : Nat := 0x9000c + 0x80 * m
def Reg.AIO_CMP1 (m : Nat) : Nat := 0x90010 + 0x80 * m
def Reg.AIO_STATUS (m : Nat) : Nat := 0x90014 + 0x80 * m
def Reg.AIO_VALUE (m : Nat) : Nat := 0x90018 + 0x80 * m
def Reg.AIO_STAGE (m : Nat) : Nat := 0x9001c + 0x80 * m
def Reg.AIO_MEAS (m : Nat) : Nat := 0x90020 + 0x80 * m
def Reg.AIO_CAL_G (m : Nat) : Nat := 0x90024 + 0x80 * m
def Reg.AIO_CAL_O (m : Nat) : Nat := 0x90028 + 0x80 * m
def Reg.AIO_CAL_INFO (m : Nat) : Nat := 0x9002c + 0x80 * m
def Reg.AIO_EVCNT (m : Nat) : Nat := 0x90030 + 0x80 * m
def Reg.AIO_GSTATUS (g : Nat) : Nat := 0x92000 + 0x100 * g
def Reg.AIO_GMEAS (g : Nat) : Nat := 0x92004 + 0x100 * g
def Reg.AIO_CAL_CMD : Nat := 0x93000
def Reg.AIO_CAL_REF : Nat := 0x93004
def Reg.AIO_CAL_STAT : Nat := 0x93008
def Reg.AIO_CAL_RES_G : Nat := 0x9300c
def Reg.AIO_CAL_RES_O : Nat := 0x93010
/-! R366, chapter 12. -/
def Reg.TSU_CFG : Nat := 0xa0000
def Reg.TSU_PTP_CFG : Nat := 0xa0004
def Reg.TSU_PTP_INTV : Nat := 0xa0008
def Reg.TSU_STATUS : Nat := 0xa000c
def Reg.TSU_FT : Nat := 0xa0010
def Reg.TSU_NS : Nat := 0xa0014
def Reg.TSU_SEC_LO : Nat := 0xa0018
def Reg.TSU_SEC_HI : Nat := 0xa001c
def Reg.TSU_FT_SNAP : Nat := 0xa0020
def Reg.TSU_INCR : Nat := 0xa0024
def Reg.TSU_ST_INCR : Nat := 0xa0028
def Reg.TSU_ST_SEC_LO : Nat := 0xa002c
def Reg.TSU_ST_SEC_HI : Nat := 0xa0030
def Reg.TSU_ST_NS : Nat := 0xa0034
def Reg.TSU_ST_ADJ : Nat := 0xa0038
def Reg.TSU_CMD : Nat := 0xa003c
def Reg.TSU_CMD_STAT : Nat := 0xa0040
def Reg.TSU_EPOCH : Nat := 0xa0044
def Reg.TSU_OFFSET : Nat := 0xa0048
def Reg.TSU_PATH : Nat := 0xa004c
def Reg.TSU_GM_LO : Nat := 0xa0050
def Reg.TSU_GM_HI : Nat := 0xa0054
def Reg.TSU_STEPS : Nat := 0xa0058
def Reg.TSU_TWIN : Nat := 0xa005c
def Reg.TSU_PPS_CFG : Nat := 0xa0060
def Reg.TSU_PPS_OFS : Nat := 0xa0064
def Reg.TSU_PHY_LAT_A : Nat := 0xa0068
def Reg.TSU_PHY_LAT_B : Nat := 0xa006c
def Reg.TSU_CMP_CFG (u : Nat) : Nat := 0xa1000 + 0x20 * u
def Reg.TSU_CMP_PER (u : Nat) : Nat := 0xa1004 + 0x20 * u
def Reg.TSU_CMP_OFS (u : Nat) : Nat := 0xa1008 + 0x20 * u
def Reg.TSU_CMP_TGT (u : Nat) : Nat := 0xa100c + 0x20 * u
def Reg.TSU_CMP_ARM (u : Nat) : Nat := 0xa1010 + 0x20 * u
def Reg.TSU_CMP_STAT (u : Nat) : Nat := 0xa1014 + 0x20 * u
def Reg.TSU_CMP_LAST (u : Nat) : Nat := 0xa1018 + 0x20 * u
def Reg.TSU_CAP_CFG (u : Nat) : Nat := 0xa2000 + 0x20 * u
def Reg.TSU_CAP_FT (u : Nat) : Nat := 0xa2004 + 0x20 * u
def Reg.TSU_CAP_NS (u : Nat) : Nat := 0xa2008 + 0x20 * u
def Reg.TSU_CAP_SEC_LO (u : Nat) : Nat := 0xa200c + 0x20 * u
def Reg.TSU_CAP_SEC_HI (u : Nat) : Nat := 0xa2010 + 0x20 * u
def Reg.TSU_CAP_STAT (u : Nat) : Nat := 0xa2014 + 0x20 * u
/-! R384, chapter 13. -/
def Reg.RTC_STATUS : Nat := 0xb0000
def Reg.RTC_TICK_LO : Nat := 0xb0004
def Reg.RTC_TICK_HI : Nat := 0xb0008
def Reg.RTC_EPOCH_LO : Nat := 0xb000c
def Reg.RTC_EPOCH_HI : Nat := 0xb0010
def Reg.RTC_TRIM : Nat := 0xb0014
def Reg.RTC_CALSTATE : Nat := 0xb0018
def Reg.RTC_CMD : Nat := 0xb001c
def Reg.RTC_CMD_STAT : Nat := 0xb0020
def Reg.RTC_ST_DATE : Nat := 0xb0024
def Reg.RTC_ST_TIME : Nat := 0xb0028
def Reg.RTC_SWO_TICK_LO : Nat := 0xb002c
def Reg.RTC_SWO_TICK_HI : Nat := 0xb0030
def Reg.RTC_SWO_COUNT : Nat := 0xb0034
def Reg.RTC_SQW : Nat := 0xb0038
def Reg.RTC_BACKUP : Nat := 0xb003c
def Reg.RTC_REWRITES : Nat := 0xb0040
/-! R417, chapter 14. -/
def Reg.NET_CFG : Nat := 0xc0000
def Reg.NET_ADDR_A : Nat := 0xc0004
def Reg.NET_ADDR_B : Nat := 0xc0008
def Reg.NET_GROUP : Nat := 0xc000c
def Reg.NET_PORT_STAT : Nat := 0xc0010
def Reg.NET_ACK_DL : Nat := 0xc0014
def Reg.NET_PRP_A : Nat := 0xc0018
def Reg.NET_PRP_B : Nat := 0xc001c
def Reg.NET_AUTH_FAIL : Nat := 0xc0020
def Reg.NET_POL_DROP : Nat := 0xc0024
def Reg.NET_FILT_DROP : Nat := 0xc0028
def Reg.NET_RA_STAT : Nat := 0xc002c
def Reg.NET_ALM_STAT : Nat := 0xc0030
def Reg.NET_ALM_EVN : Nat := 0xc0034
def Reg.NET_ALM_LOST : Nat := 0xc0038
def Reg.NET_CLIENT (c : Nat) : Nat := 0xc0040 + 0x4 * c
def Reg.NET_ALMSRV (a : Nat) : Nat := 0xc0080 + 0x4 * a
def Reg.NET_RS_CFG (s : Nat) : Nat := 0xc1000 + 0x80 * s
def Reg.NET_RS_ADDR (s : Nat) : Nat := 0xc1004 + 0x80 * s
def Reg.NET_RS_STATUS (s : Nat) : Nat := 0xc1008 + 0x80 * s
def Reg.NET_RS_RX (s : Nat) : Nat := 0xc100c + 0x80 * s
def Reg.NET_RS_ERR (s : Nat) : Nat := 0xc1010 + 0x80 * s
def Reg.NET_RS_LOSS (s : Nat) : Nat := 0xc1014 + 0x80 * s
def Reg.NET_RS_DIAG (s : Nat) : Nat := 0xc1018 + 0x80 * s
def Reg.NET_SUBST (w : Nat) : Nat := 0xc4000 + 0x4 * w
/-! R418, chapter 14. -/
def Reg.HQ_CFG (q : Nat) : Nat := 0xe0000 + 0x20 * q
def Reg.HQ_SIZE (q : Nat) : Nat := 0xe0004 + 0x20 * q
def Reg.HQ_BASE (q : Nat) : Nat := 0xe0008 + 0x20 * q
def Reg.HQ_FILL (q : Nat) : Nat := 0xe000c + 0x20 * q
def Reg.HQ_DROP (q : Nat) : Nat := 0xe0010 + 0x20 * q
def Reg.HQ_ALT (q : Nat) : Nat := 0xe0014 + 0x20 * q
def Reg.HQ_PEAK (q : Nat) : Nat := 0xe0018 + 0x20 * q
def Reg.HQ_GSTATUS : Nat := 0xe2000
/-! R444, chapter 15. -/
def Reg.CAN_CFG (k : Nat) : Nat := 0xd0000 + 0x2000 * k
def Reg.CAN_NBT (k : Nat) : Nat := 0xd0004 + 0x2000 * k
def Reg.CAN_DBT (k : Nat) : Nat := 0xd0008 + 0x2000 * k
def Reg.CAN_STATUS (k : Nat) : Nat := 0xd000c + 0x2000 * k
def Reg.CAN_CMD (k : Nat) : Nat := 0xd0010 + 0x2000 * k
def Reg.CAN_CMD_STAT (k : Nat) : Nat := 0xd0014 + 0x2000 * k
def Reg.CAN_TXCNT (k : Nat) : Nat := 0xd0018 + 0x2000 * k
def Reg.CAN_RXCNT (k : Nat) : Nat := 0xd001c + 0x2000 * k
def Reg.CAN_ERRCNT0 (k : Nat) : Nat := 0xd0020 + 0x2000 * k
def Reg.CAN_ERRCNT1 (k : Nat) : Nat := 0xd0024 + 0x2000 * k
def Reg.CAN_RXDROP (k : Nat) : Nat := 0xd0028 + 0x2000 * k
def Reg.CAN_COLL (k : Nat) : Nat := 0xd002c + 0x2000 * k
def Reg.CAN_RXB_CFG (k b : Nat) : Nat := 0xd0100 + 0x2000 * k + 0x4 * b
def Reg.CAN_RXB (k b w : Nat) : Nat := 0xd0400 + 0x2000 * k + 0x50 * b + 0x4 * w
/-! R463, chapter 16. -/
def Reg.JRN_CFG : Nat := 0x100000
def Reg.JRN_STATUS : Nat := 0x100004
def Reg.JRN_OLD_FN : Nat := 0x100008
def Reg.JRN_NEW_FN : Nat := 0x10000c
def Reg.JRN_CKPT_FN : Nat := 0x100010
def Reg.JRN_SPAN : Nat := 0x100014
def Reg.JRN_CMD : Nat := 0x100018
def Reg.JRN_ARG : Nat := 0x10001c
def Reg.JRN_CMD_STAT : Nat := 0x100020
def Reg.JRN_WIN_SEL : Nat := 0x100024
def Reg.JRN_WIN_INFO : Nat := 0x100028
def Reg.JRN_WIN_FN0 : Nat := 0x10002c
def Reg.JRN_WIN_TFN : Nat := 0x100030
def Reg.JRN_WIN_FN1 : Nat := 0x100034
def Reg.JRN_WIN_SIZE : Nat := 0x100038
def Reg.JRN_REPLAY : Nat := 0x10003c
def Reg.JRN_RP_FN : Nat := 0x100040
def Reg.JRN_DIFF_FN : Nat := 0x100044
def Reg.JRN_DIFF_CNT : Nat := 0x100048
def Reg.JRN_ECC : Nat := 0x10004c
def Reg.JRN_FLASH : Nat := 0x100050
def Reg.JRN_RD_OFS : Nat := 0x100054
def Reg.JRN_TRIG (i : Nat) : Nat := 0x100100 + 0x4 * i
def Reg.JRN_RD (i : Nat) : Nat := 0x100400 + 0x4 * i
/-! R493, chapter 17. -/
def Reg.MOD_PWR_CFG : Nat := 0x10100
def Reg.MOD_PWR_STATUS : Nat := 0x10104
def Reg.MOD_VIN : Nat := 0x10108
def Reg.MOD_RAIL0 : Nat := 0x1010c
def Reg.MOD_RAIL1 : Nat := 0x10110
def Reg.MOD_HOLDUP : Nat := 0x10114
def Reg.MOD_TEMP : Nat := 0x10118
def Reg.MOD_TEMP_PEAK : Nat := 0x1011c
def Reg.MOD_POWER : Nat := 0x10120
def Reg.MOD_PWR_EVCNT : Nat := 0x10124
def Reg.MOD_PF_COUNT : Nat := 0x10128
def Reg.MOD_PF_LAST : Nat := 0x1012c
def Reg.MOD_CLK : Nat := 0x10130
/-! R406, chapter 14. -/
def Reg.IDMAP_W0 (e : Nat) : Nat := 0xd8000 + 0x8 * e
def Reg.IDMAP_W1 (e : Nat) : Nat := 0xd8004 + 0x8 * e

/-! Fields. -/
def F.AIO_CAL_INFO_COUNT (m : Nat) : Fld := ⟨(Reg.AIO_CAL_INFO m), 16, 16⟩
def F.AIO_CAL_INFO_SOURCE (m : Nat) : Fld := ⟨(Reg.AIO_CAL_INFO m), 0, 2⟩
def F.AIO_CAL_STAT_ACTIVE : Fld := ⟨Reg.AIO_CAL_STAT, 31, 1⟩
def F.AIO_CAL_STAT_CHAN : Fld := ⟨Reg.AIO_CAL_STAT, 24, 5⟩
def F.AIO_CAL_STAT_LAST : Fld := ⟨Reg.AIO_CAL_STAT, 4, 4⟩
def F.AIO_CAL_STAT_POINTS : Fld := ⟨Reg.AIO_CAL_STAT, 8, 3⟩
def F.AIO_CAL_STAT_REASON : Fld := ⟨Reg.AIO_CAL_STAT, 16, 8⟩
def F.AIO_CAL_STAT_STATUS : Fld := ⟨Reg.AIO_CAL_STAT, 0, 4⟩
def F.AIO_CFG_AVG (m : Nat) : Fld := ⟨(Reg.AIO_CFG m), 20, 3⟩
def F.AIO_CFG_CMP_UNIT (m : Nat) : Fld := ⟨(Reg.AIO_CFG m), 14, 5⟩
def F.AIO_CFG_FAIL_DELAY (m : Nat) : Fld := ⟨(Reg.AIO_CFG m), 4, 8⟩
def F.AIO_CFG_LOOP_PWR (m : Nat) : Fld := ⟨(Reg.AIO_CFG m), 23, 2⟩
def F.AIO_CFG_MODE (m : Nat) : Fld := ⟨(Reg.AIO_CFG m), 25, 2⟩
def F.AIO_CFG_OWNED (m : Nat) : Fld := ⟨(Reg.AIO_CFG m), 27, 1⟩
def F.AIO_CFG_OWNER (m : Nat) : Fld := ⟨(Reg.AIO_CFG m), 28, 4⟩
def F.AIO_CFG_SUBST (m : Nat) : Fld := ⟨(Reg.AIO_CFG m), 12, 2⟩
def F.AIO_CFG_TRIG (m : Nat) : Fld := ⟨(Reg.AIO_CFG m), 19, 1⟩
def F.AIO_CMP0_DIR (m : Nat) : Fld := ⟨(Reg.AIO_CMP0 m), 30, 1⟩
def F.AIO_CMP0_EN (m : Nat) : Fld := ⟨(Reg.AIO_CMP0 m), 31, 1⟩
def F.AIO_CMP0_EVT_EN (m : Nat) : Fld := ⟨(Reg.AIO_CMP0 m), 28, 1⟩
def F.AIO_CMP0_EVT_TASK (m : Nat) : Fld := ⟨(Reg.AIO_CMP0 m), 24, 4⟩
def F.AIO_CMP0_FILTER (m : Nat) : Fld := ⟨(Reg.AIO_CMP0 m), 21, 3⟩
def F.AIO_CMP0_HYST (m : Nat) : Fld := ⟨(Reg.AIO_CMP0 m), 12, 8⟩
def F.AIO_CMP0_OOS_ASSERT (m : Nat) : Fld := ⟨(Reg.AIO_CMP0 m), 29, 1⟩
def F.AIO_CMP0_THRESH (m : Nat) : Fld := ⟨(Reg.AIO_CMP0 m), 0, 12⟩
def F.AIO_CMP1_DIR (m : Nat) : Fld := ⟨(Reg.AIO_CMP1 m), 30, 1⟩
def F.AIO_CMP1_EN (m : Nat) : Fld := ⟨(Reg.AIO_CMP1 m), 31, 1⟩
def F.AIO_CMP1_EVT_EN (m : Nat) : Fld := ⟨(Reg.AIO_CMP1 m), 28, 1⟩
def F.AIO_CMP1_EVT_TASK (m : Nat) : Fld := ⟨(Reg.AIO_CMP1 m), 24, 4⟩
def F.AIO_CMP1_FILTER (m : Nat) : Fld := ⟨(Reg.AIO_CMP1 m), 21, 3⟩
def F.AIO_CMP1_HYST (m : Nat) : Fld := ⟨(Reg.AIO_CMP1 m), 12, 8⟩
def F.AIO_CMP1_OOS_ASSERT (m : Nat) : Fld := ⟨(Reg.AIO_CMP1 m), 29, 1⟩
def F.AIO_CMP1_THRESH (m : Nat) : Fld := ⟨(Reg.AIO_CMP1 m), 0, 12⟩
def F.AIO_EVCNT_COMPLIANCE (m : Nat) : Fld := ⟨(Reg.AIO_EVCNT m), 8, 8⟩
def F.AIO_EVCNT_FAIL (m : Nat) : Fld := ⟨(Reg.AIO_EVCNT m), 16, 8⟩
def F.AIO_EVCNT_OPEN (m : Nat) : Fld := ⟨(Reg.AIO_EVCNT m), 0, 8⟩
def F.AIO_EVCNT_OVERRUN (m : Nat) : Fld := ⟨(Reg.AIO_EVCNT m), 24, 8⟩
def F.AIO_GSTATUS_ACTIVE (g : Nat) : Fld := ⟨(Reg.AIO_GSTATUS g), 3, 1⟩
def F.AIO_GSTATUS_AG_LOW (g : Nat) : Fld := ⟨(Reg.AIO_GSTATUS g), 0, 1⟩
def F.AIO_GSTATUS_LINK_FAIL (g : Nat) : Fld := ⟨(Reg.AIO_GSTATUS g), 2, 1⟩
def F.AIO_GSTATUS_LOCKOUT (g : Nat) : Fld := ⟨(Reg.AIO_GSTATUS g), 1, 1⟩
def F.AIO_OCFG_FAIL_LEVEL (m : Nat) : Fld := ⟨(Reg.AIO_OCFG m), 31, 1⟩
def F.AIO_OCFG_SAFE (m : Nat) : Fld := ⟨(Reg.AIO_OCFG m), 30, 1⟩
def F.AIO_OCFG_WD_TIMEOUT (m : Nat) : Fld := ⟨(Reg.AIO_OCFG m), 0, 14⟩
def F.AIO_STATUS_AG_LOW (m : Nat) : Fld := ⟨(Reg.AIO_STATUS m), 27, 1⟩
def F.AIO_STATUS_CLAMP (m : Nat) : Fld := ⟨(Reg.AIO_STATUS m), 20, 1⟩
def F.AIO_STATUS_COMPLIANCE (m : Nat) : Fld := ⟨(Reg.AIO_STATUS m), 18, 1⟩
def F.AIO_STATUS_FAIL_HI (m : Nat) : Fld := ⟨(Reg.AIO_STATUS m), 9, 1⟩
def F.AIO_STATUS_FAIL_LO (m : Nat) : Fld := ⟨(Reg.AIO_STATUS m), 8, 1⟩
def F.AIO_STATUS_INVALID (m : Nat) : Fld := ⟨(Reg.AIO_STATUS m), 31, 1⟩
def F.AIO_STATUS_LIMIT_HI (m : Nat) : Fld := ⟨(Reg.AIO_STATUS m), 7, 1⟩
def F.AIO_STATUS_LIMIT_LO (m : Nat) : Fld := ⟨(Reg.AIO_STATUS m), 6, 1⟩
def F.AIO_STATUS_LINK_FAIL (m : Nat) : Fld := ⟨(Reg.AIO_STATUS m), 29, 1⟩
def F.AIO_STATUS_LOCKOUT (m : Nat) : Fld := ⟨(Reg.AIO_STATUS m), 28, 1⟩
def F.AIO_STATUS_MODE (m : Nat) : Fld := ⟨(Reg.AIO_STATUS m), 0, 2⟩
def F.AIO_STATUS_OOS (m : Nat) : Fld := ⟨(Reg.AIO_STATUS m), 30, 1⟩
def F.AIO_STATUS_OPEN (m : Nat) : Fld := ⟨(Reg.AIO_STATUS m), 19, 1⟩
def F.AIO_STATUS_OVERRANGE (m : Nat) : Fld := ⟨(Reg.AIO_STATUS m), 5, 1⟩
def F.AIO_STATUS_OVERRUN (m : Nat) : Fld := ⟨(Reg.AIO_STATUS m), 11, 1⟩
def F.AIO_STATUS_SHORT (m : Nat) : Fld := ⟨(Reg.AIO_STATUS m), 10, 1⟩
def F.AIO_STATUS_STAGE_FAIL (m : Nat) : Fld := ⟨(Reg.AIO_STATUS m), 22, 1⟩
def F.AIO_STATUS_WD_SAFE (m : Nat) : Fld := ⟨(Reg.AIO_STATUS m), 23, 1⟩
def F.BOOT_CMD_STAT_LAST : Fld := ⟨Reg.BOOT_CMD_STAT, 4, 4⟩
def F.BOOT_CMD_STAT_STATUS : Fld := ⟨Reg.BOOT_CMD_STAT, 0, 4⟩
def F.BOOT_FW_B0_MAJOR : Fld := ⟨Reg.BOOT_FW, 8, 8⟩
def F.BOOT_FW_B0_MINOR : Fld := ⟨Reg.BOOT_FW, 0, 8⟩
def F.BOOT_FW_B1_MAJOR : Fld := ⟨Reg.BOOT_FW, 24, 8⟩
def F.BOOT_FW_B1_MINOR : Fld := ⟨Reg.BOOT_FW, 16, 8⟩
def F.BOOT_PEND_CAUSE : Fld := ⟨Reg.BOOT_PEND, 8, 8⟩
def F.BOOT_PEND_STATE : Fld := ⟨Reg.BOOT_PEND, 0, 3⟩
def F.BOOT_PV_COUNT_COUNT : Fld := ⟨Reg.BOOT_PV_COUNT, 0, 16⟩
def F.BOOT_RIGHTS_SEL_ENTRY : Fld := ⟨Reg.BOOT_RIGHTS_SEL, 0, 5⟩
def F.BOOT_RIGHTS_SEL_REQ : Fld := ⟨Reg.BOOT_RIGHTS_SEL, 8, 6⟩
def F.BOOT_STATUS_ACTIVE_SLOT : Fld := ⟨Reg.BOOT_STATUS, 4, 1⟩
def F.BOOT_STATUS_BANK : Fld := ⟨Reg.BOOT_STATUS, 8, 1⟩
def F.BOOT_STATUS_BANK_TRIAL : Fld := ⟨Reg.BOOT_STATUS, 9, 1⟩
def F.BOOT_STATUS_IDLE_STATE : Fld := ⟨Reg.BOOT_STATUS, 11, 3⟩
def F.BOOT_STATUS_KEY_PRESENT : Fld := ⟨Reg.BOOT_STATUS, 1, 1⟩
def F.BOOT_STATUS_LOCKED : Fld := ⟨Reg.BOOT_STATUS, 0, 1⟩
def F.BOOT_UPD_OFFSET_PAGE : Fld := ⟨Reg.BOOT_UPD_OFFSET, 8, 17⟩
def F.CAN_CFG_AUTO_RECOVER (k : Nat) : Fld := ⟨(Reg.CAN_CFG k), 27, 1⟩
def F.CAN_CFG_COLL_ACT (k : Nat) : Fld := ⟨(Reg.CAN_CFG k), 25, 1⟩
def F.CAN_CFG_COLL_LIMIT (k : Nat) : Fld := ⟨(Reg.CAN_CFG k), 16, 4⟩
def F.CAN_CFG_EN (k : Nat) : Fld := ⟨(Reg.CAN_CFG k), 31, 1⟩
def F.CAN_CFG_FD_EN (k : Nat) : Fld := ⟨(Reg.CAN_CFG k), 29, 1⟩
def F.CAN_CFG_JOINT (k : Nat) : Fld := ⟨(Reg.CAN_CFG k), 28, 1⟩
def F.CAN_CFG_MODE (k : Nat) : Fld := ⟨(Reg.CAN_CFG k), 30, 1⟩
def F.CAN_CFG_OWNER (k : Nat) : Fld := ⟨(Reg.CAN_CFG k), 20, 4⟩
def F.CAN_CFG_RXB_LOCK_MS (k : Nat) : Fld := ⟨(Reg.CAN_CFG k), 0, 16⟩
def F.CAN_CFG_TRIPLE (k : Nat) : Fld := ⟨(Reg.CAN_CFG k), 26, 1⟩
def F.CAN_CMD_STAT_HELD (k : Nat) : Fld := ⟨(Reg.CAN_CMD_STAT k), 12, 4⟩
def F.CAN_CMD_STAT_LAST (k : Nat) : Fld := ⟨(Reg.CAN_CMD_STAT k), 4, 4⟩
def F.CAN_CMD_STAT_REASON (k : Nat) : Fld := ⟨(Reg.CAN_CMD_STAT k), 8, 4⟩
def F.CAN_CMD_STAT_REMOVED (k : Nat) : Fld := ⟨(Reg.CAN_CMD_STAT k), 16, 8⟩
def F.CAN_CMD_STAT_STATUS (k : Nat) : Fld := ⟨(Reg.CAN_CMD_STAT k), 0, 4⟩
def F.CAN_COLL_ID (k : Nat) : Fld := ⟨(Reg.CAN_COLL k), 0, 29⟩
def F.CAN_DBT_DBRP (k : Nat) : Fld := ⟨(Reg.CAN_DBT k), 19, 5⟩
def F.CAN_DBT_DSJW (k : Nat) : Fld := ⟨(Reg.CAN_DBT k), 6, 4⟩
def F.CAN_DBT_DTSEG1 (k : Nat) : Fld := ⟨(Reg.CAN_DBT k), 14, 5⟩
def F.CAN_DBT_DTSEG2 (k : Nat) : Fld := ⟨(Reg.CAN_DBT k), 10, 4⟩
def F.CAN_DBT_TDC_EN (k : Nat) : Fld := ⟨(Reg.CAN_DBT k), 31, 1⟩
def F.CAN_ERRCNT0_ACK (k : Nat) : Fld := ⟨(Reg.CAN_ERRCNT0 k), 0, 8⟩
def F.CAN_ERRCNT0_BIT (k : Nat) : Fld := ⟨(Reg.CAN_ERRCNT0 k), 24, 8⟩
def F.CAN_ERRCNT0_FORM (k : Nat) : Fld := ⟨(Reg.CAN_ERRCNT0 k), 8, 8⟩
def F.CAN_ERRCNT0_STUFF (k : Nat) : Fld := ⟨(Reg.CAN_ERRCNT0 k), 16, 8⟩
def F.CAN_ERRCNT1_BUSOFF (k : Nat) : Fld := ⟨(Reg.CAN_ERRCNT1 k), 8, 8⟩
def F.CAN_ERRCNT1_COLLISION (k : Nat) : Fld := ⟨(Reg.CAN_ERRCNT1 k), 0, 8⟩
def F.CAN_ERRCNT1_CRC (k : Nat) : Fld := ⟨(Reg.CAN_ERRCNT1 k), 24, 8⟩
def F.CAN_ERRCNT1_PEX (k : Nat) : Fld := ⟨(Reg.CAN_ERRCNT1 k), 16, 8⟩
def F.CAN_NBT_NBRP (k : Nat) : Fld := ⟨(Reg.CAN_NBT k), 24, 8⟩
def F.CAN_NBT_NSJW (k : Nat) : Fld := ⟨(Reg.CAN_NBT k), 2, 7⟩
def F.CAN_NBT_NTSEG1 (k : Nat) : Fld := ⟨(Reg.CAN_NBT k), 16, 8⟩
def F.CAN_NBT_NTSEG2 (k : Nat) : Fld := ⟨(Reg.CAN_NBT k), 9, 7⟩
def F.CAN_RXB_CFG_NEXT (k b : Nat) : Fld := ⟨(Reg.CAN_RXB_CFG k b), 0, 5⟩
def F.CAN_RXB_CFG_POLICY (k b : Nat) : Fld := ⟨(Reg.CAN_RXB_CFG k b), 31, 1⟩
def F.CAN_RXCNT_COUNT (k : Nat) : Fld := ⟨(Reg.CAN_RXCNT k), 0, 32⟩
def F.CAN_RXDROP_BUF_DROP (k : Nat) : Fld := ⟨(Reg.CAN_RXDROP k), 8, 8⟩
def F.CAN_RXDROP_COLL_DROP (k : Nat) : Fld := ⟨(Reg.CAN_RXDROP k), 0, 4⟩
def F.CAN_RXDROP_LEN_ERR (k : Nat) : Fld := ⟨(Reg.CAN_RXDROP k), 16, 8⟩
def F.CAN_RXDROP_LOCK_TO (k : Nat) : Fld := ⟨(Reg.CAN_RXDROP k), 4, 4⟩
def F.CAN_RXDROP_UNMATCHED (k : Nat) : Fld := ⟨(Reg.CAN_RXDROP k), 24, 8⟩
def F.CAN_STATUS_ALT (k : Nat) : Fld := ⟨(Reg.CAN_STATUS k), 26, 1⟩
def F.CAN_STATUS_BUSOFF_CNT (k : Nat) : Fld := ⟨(Reg.CAN_STATUS k), 0, 8⟩
def F.CAN_STATUS_ID_COLLISION (k : Nat) : Fld := ⟨(Reg.CAN_STATUS k), 27, 1⟩
def F.CAN_STATUS_INVALID (k : Nat) : Fld := ⟨(Reg.CAN_STATUS k), 31, 1⟩
def F.CAN_STATUS_REC (k : Nat) : Fld := ⟨(Reg.CAN_STATUS k), 8, 8⟩
def F.CAN_STATUS_RX_DROP (k : Nat) : Fld := ⟨(Reg.CAN_STATUS k), 25, 1⟩
def F.CAN_STATUS_STATE (k : Nat) : Fld := ⟨(Reg.CAN_STATUS k), 29, 2⟩
def F.CAN_STATUS_TEC (k : Nat) : Fld := ⟨(Reg.CAN_STATUS k), 16, 8⟩
def F.CAN_STATUS_TX_OVW (k : Nat) : Fld := ⟨(Reg.CAN_STATUS k), 24, 1⟩
def F.CAN_STATUS_WARN (k : Nat) : Fld := ⟨(Reg.CAN_STATUS k), 28, 1⟩
def F.CAN_TXCNT_COUNT (k : Nat) : Fld := ⟨(Reg.CAN_TXCNT k), 0, 32⟩
def F.DIO_CFG_ACT_LEVEL (n : Nat) : Fld := ⟨(Reg.DIO_CFG n), 15, 1⟩
def F.DIO_CFG_CNT_MODE (n : Nat) : Fld := ⟨(Reg.DIO_CFG n), 18, 2⟩
def F.DIO_CFG_DIR (n : Nat) : Fld := ⟨(Reg.DIO_CFG n), 26, 1⟩
def F.DIO_CFG_EVT_FALL (n : Nat) : Fld := ⟨(Reg.DIO_CFG n), 13, 1⟩
def F.DIO_CFG_EVT_RISE (n : Nat) : Fld := ⟨(Reg.DIO_CFG n), 14, 1⟩
def F.DIO_CFG_FILTER (n : Nat) : Fld := ⟨(Reg.DIO_CFG n), 20, 4⟩
def F.DIO_CFG_FREQ_EN (n : Nat) : Fld := ⟨(Reg.DIO_CFG n), 17, 1⟩
def F.DIO_CFG_OWNED (n : Nat) : Fld := ⟨(Reg.DIO_CFG n), 27, 1⟩
def F.DIO_CFG_OWNER (n : Nat) : Fld := ⟨(Reg.DIO_CFG n), 28, 4⟩
def F.DIO_CFG_WB_EN (n : Nat) : Fld := ⟨(Reg.DIO_CFG n), 16, 1⟩
def F.DIO_CHATCFG_CHAT_COOL (n : Nat) : Fld := ⟨(Reg.DIO_CHATCFG n), 0, 12⟩
def F.DIO_CHATCFG_CHAT_N (n : Nat) : Fld := ⟨(Reg.DIO_CHATCFG n), 24, 8⟩
def F.DIO_CHATCFG_CHAT_WIN (n : Nat) : Fld := ⟨(Reg.DIO_CHATCFG n), 12, 12⟩
def F.DIO_EVCNT_CHATTER (n : Nat) : Fld := ⟨(Reg.DIO_EVCNT n), 24, 8⟩
def F.DIO_EVCNT_EXT_DRIVE (n : Nat) : Fld := ⟨(Reg.DIO_EVCNT n), 8, 8⟩
def F.DIO_EVCNT_OVERRATE (n : Nat) : Fld := ⟨(Reg.DIO_EVCNT n), 0, 8⟩
def F.DIO_EVCNT_THERMAL (n : Nat) : Fld := ⟨(Reg.DIO_EVCNT n), 16, 8⟩
def F.DIO_EVT_CHAT_TASK (n : Nat) : Fld := ⟨(Reg.DIO_EVT n), 8, 4⟩
def F.DIO_EVT_FALL_TASK (n : Nat) : Fld := ⟨(Reg.DIO_EVT n), 4, 4⟩
def F.DIO_EVT_RISE_TASK (n : Nat) : Fld := ⟨(Reg.DIO_EVT n), 0, 4⟩
def F.DIO_GCFG_LATCH_BROWNOUT (g : Nat) : Fld := ⟨(Reg.DIO_GCFG g), 0, 1⟩
def F.DIO_GEVCNT_LOCKOUT (g : Nat) : Fld := ⟨(Reg.DIO_GEVCNT g), 8, 8⟩
def F.DIO_GEVCNT_UV_WARN (g : Nat) : Fld := ⟨(Reg.DIO_GEVCNT g), 0, 8⟩
def F.DIO_GSTATUS_ACTIVE (g : Nat) : Fld := ⟨(Reg.DIO_GSTATUS g), 3, 1⟩
def F.DIO_GSTATUS_LOCKOUT (g : Nat) : Fld := ⟨(Reg.DIO_GSTATUS g), 1, 1⟩
def F.DIO_GSTATUS_RECOVERING (g : Nat) : Fld := ⟨(Reg.DIO_GSTATUS g), 2, 1⟩
def F.DIO_GSTATUS_UV_WARN (g : Nat) : Fld := ⟨(Reg.DIO_GSTATUS g), 0, 1⟩
def F.DIO_OCFG_OPEN_OFF_EN (n : Nat) : Fld := ⟨(Reg.DIO_OCFG n), 15, 1⟩
def F.DIO_OCFG_RETRY (n : Nat) : Fld := ⟨(Reg.DIO_OCFG n), 28, 1⟩
def F.DIO_OCFG_RETRY_INT (n : Nat) : Fld := ⟨(Reg.DIO_OCFG n), 16, 8⟩
def F.DIO_OCFG_RETRY_MAX (n : Nat) : Fld := ⟨(Reg.DIO_OCFG n), 24, 4⟩
def F.DIO_OCFG_SAFE (n : Nat) : Fld := ⟨(Reg.DIO_OCFG n), 30, 2⟩
def F.DIO_OCFG_WD_TIMEOUT (n : Nat) : Fld := ⟨(Reg.DIO_OCFG n), 0, 14⟩
def F.DIO_STATUS_BROWNOUT_LATCHED (n : Nat) : Fld := ⟨(Reg.DIO_STATUS n), 26, 1⟩
def F.DIO_STATUS_CHATTER (n : Nat) : Fld := ⟨(Reg.DIO_STATUS n), 6, 1⟩
def F.DIO_STATUS_DIAG_SUPP (n : Nat) : Fld := ⟨(Reg.DIO_STATUS n), 30, 1⟩
def F.DIO_STATUS_DIR (n : Nat) : Fld := ⟨(Reg.DIO_STATUS n), 0, 1⟩
def F.DIO_STATUS_DRV_FAIL (n : Nat) : Fld := ⟨(Reg.DIO_STATUS n), 23, 1⟩
def F.DIO_STATUS_EXT_DRIVE (n : Nat) : Fld := ⟨(Reg.DIO_STATUS n), 16, 1⟩
def F.DIO_STATUS_FREQ_VALID (n : Nat) : Fld := ⟨(Reg.DIO_STATUS n), 9, 1⟩
def F.DIO_STATUS_INVALID (n : Nat) : Fld := ⟨(Reg.DIO_STATUS n), 31, 1⟩
def F.DIO_STATUS_LINK_FAIL (n : Nat) : Fld := ⟨(Reg.DIO_STATUS n), 3, 1⟩
def F.DIO_STATUS_LOCKOUT (n : Nat) : Fld := ⟨(Reg.DIO_STATUS n), 2, 1⟩
def F.DIO_STATUS_OPEN_OFF (n : Nat) : Fld := ⟨(Reg.DIO_STATUS n), 18, 1⟩
def F.DIO_STATUS_OPEN_ON (n : Nat) : Fld := ⟨(Reg.DIO_STATUS n), 17, 1⟩
def F.DIO_STATUS_OVERLOAD (n : Nat) : Fld := ⟨(Reg.DIO_STATUS n), 19, 1⟩
def F.DIO_STATUS_OVERRATE (n : Nat) : Fld := ⟨(Reg.DIO_STATUS n), 7, 1⟩
def F.DIO_STATUS_QUESTIONABLE (n : Nat) : Fld := ⟨(Reg.DIO_STATUS n), 1, 1⟩
def F.DIO_STATUS_RETRY_LATCHED (n : Nat) : Fld := ⟨(Reg.DIO_STATUS n), 21, 1⟩
def F.DIO_STATUS_REVERSE (n : Nat) : Fld := ⟨(Reg.DIO_STATUS n), 22, 1⟩
def F.DIO_STATUS_STOPPED (n : Nat) : Fld := ⟨(Reg.DIO_STATUS n), 8, 1⟩
def F.DIO_STATUS_STUCK (n : Nat) : Fld := ⟨(Reg.DIO_STATUS n), 5, 1⟩
def F.DIO_STATUS_THERMAL (n : Nat) : Fld := ⟨(Reg.DIO_STATUS n), 20, 1⟩
def F.DIO_STATUS_TRIPPED (n : Nat) : Fld := ⟨(Reg.DIO_STATUS n), 24, 1⟩
def F.DIO_STATUS_WB_ACTIVE (n : Nat) : Fld := ⟨(Reg.DIO_STATUS n), 10, 1⟩
def F.DIO_STATUS_WB_INDET (n : Nat) : Fld := ⟨(Reg.DIO_STATUS n), 11, 1⟩
def F.DIO_STATUS_WD_SAFE (n : Nat) : Fld := ⟨(Reg.DIO_STATUS n), 25, 1⟩
def F.DIO_STATUS_WIRE_BREAK (n : Nat) : Fld := ⟨(Reg.DIO_STATUS n), 4, 1⟩
def F.DIO_STOP_FIXED (n : Nat) : Fld := ⟨(Reg.DIO_STOP n), 31, 1⟩
def F.DIO_STOP_STOP_MS (n : Nat) : Fld := ⟨(Reg.DIO_STOP n), 0, 16⟩
def F.DIO_STUCK_MAX_ACT (n : Nat) : Fld := ⟨(Reg.DIO_STUCK n), 0, 24⟩
def F.DIO_WB_CURRENT (n : Nat) : Fld := ⟨(Reg.DIO_WB n), 0, 12⟩
def F.DIO_WB_RESULT (n : Nat) : Fld := ⟨(Reg.DIO_WB n), 16, 3⟩
def F.HQ_ALT_CH (q : Nat) : Fld := ⟨(Reg.HQ_ALT q), 0, 2⟩
def F.HQ_ALT_EN (q : Nat) : Fld := ⟨(Reg.HQ_ALT q), 31, 1⟩
def F.HQ_BASE_BASE (q : Nat) : Fld := ⟨(Reg.HQ_BASE q), 0, 14⟩
def F.HQ_CFG_CANCH (q : Nat) : Fld := ⟨(Reg.HQ_CFG q), 16, 2⟩
def F.HQ_CFG_CLASS (q : Nat) : Fld := ⟨(Reg.HQ_CFG q), 30, 2⟩
def F.HQ_CFG_DIR (q : Nat) : Fld := ⟨(Reg.HQ_CFG q), 29, 1⟩
def F.HQ_CFG_OWNER (q : Nat) : Fld := ⟨(Reg.HQ_CFG q), 22, 4⟩
def F.HQ_CFG_PEER (q : Nat) : Fld := ⟨(Reg.HQ_CFG q), 18, 4⟩
def F.HQ_CFG_POLICY (q : Nat) : Fld := ⟨(Reg.HQ_CFG q), 28, 1⟩
def F.HQ_CFG_STREAM (q : Nat) : Fld := ⟨(Reg.HQ_CFG q), 0, 16⟩
def F.HQ_CFG_TKIND (q : Nat) : Fld := ⟨(Reg.HQ_CFG q), 26, 2⟩
def F.HQ_DROP_COUNT (q : Nat) : Fld := ⟨(Reg.HQ_DROP q), 0, 16⟩
def F.HQ_GSTATUS_USED : Fld := ⟨Reg.HQ_GSTATUS, 0, 15⟩
def F.HQ_PEAK_COUNT (q : Nat) : Fld := ⟨(Reg.HQ_PEAK q), 0, 16⟩
def F.HQ_SIZE_DEPTH (q : Nat) : Fld := ⟨(Reg.HQ_SIZE q), 16, 16⟩
def F.HQ_SIZE_EWORDS (q : Nat) : Fld := ⟨(Reg.HQ_SIZE q), 0, 6⟩
def F.JRN_CFG_FLASH_POLICY : Fld := ⟨Reg.JRN_CFG, 0, 1⟩
def F.JRN_CFG_POST_S : Fld := ⟨Reg.JRN_CFG, 8, 4⟩
def F.JRN_CFG_PRE_S : Fld := ⟨Reg.JRN_CFG, 16, 7⟩
def F.JRN_ECC_ARRAY : Fld := ⟨Reg.JRN_ECC, 8, 8⟩
def F.JRN_ECC_PROG : Fld := ⟨Reg.JRN_ECC, 24, 8⟩
def F.JRN_ECC_RING : Fld := ⟨Reg.JRN_ECC, 0, 8⟩
def F.JRN_ECC_WORD : Fld := ⟨Reg.JRN_ECC, 16, 8⟩
def F.JRN_FLASH_BAD_BLOCKS : Fld := ⟨Reg.JRN_FLASH, 16, 16⟩
def F.JRN_FLASH_WEAR : Fld := ⟨Reg.JRN_FLASH, 0, 7⟩
def F.JRN_REPLAY_REASON : Fld := ⟨Reg.JRN_REPLAY, 8, 8⟩
def F.JRN_REPLAY_STATE : Fld := ⟨Reg.JRN_REPLAY, 0, 3⟩
def F.JRN_STATUS_ANY : Fld := ⟨Reg.JRN_STATUS, 7, 1⟩
def F.JRN_STATUS_COLLECTING : Fld := ⟨Reg.JRN_STATUS, 4, 1⟩
def F.JRN_STATUS_GAPS : Fld := ⟨Reg.JRN_STATUS, 16, 16⟩
def F.JRN_STATUS_USED : Fld := ⟨Reg.JRN_STATUS, 8, 4⟩
def F.JRN_STATUS_WORN : Fld := ⟨Reg.JRN_STATUS, 6, 1⟩
def F.JRN_TRIG_CODE (i : Nat) : Fld := ⟨(Reg.JRN_TRIG i), 0, 16⟩
def F.JRN_TRIG_EN (i : Nat) : Fld := ⟨(Reg.JRN_TRIG i), 31, 1⟩
def F.JRN_WIN_SEL_WIN : Fld := ⟨Reg.JRN_WIN_SEL, 0, 4⟩
def F.LGE_ARITH_COUNT (p : Nat) : Fld := ⟨(Reg.LGE_ARITH p), 0, 16⟩
def F.LGE_BP_ADDR (i : Nat) : Fld := ⟨(Reg.LGE_BP i), 0, 19⟩
def F.LGE_BP_POLDER (i : Nat) : Fld := ⟨(Reg.LGE_BP i), 20, 4⟩
def F.LGE_BP_VALID (i : Nat) : Fld := ⟨(Reg.LGE_BP i), 31, 1⟩
def F.LGE_CMD_ARG_ARG : Fld := ⟨Reg.LGE_CMD_ARG, 0, 19⟩
def F.LGE_CMD_STAT_STATUS : Fld := ⟨Reg.LGE_CMD_STAT, 0, 4⟩
def F.LGE_CNT_BASE (p : Nat) : Fld := ⟨(Reg.LGE_CNT p), 0, 10⟩
def F.LGE_CNT_COUNT (p : Nat) : Fld := ⟨(Reg.LGE_CNT p), 16, 11⟩
def F.LGE_CTRL_DEBUG_EN (p : Nat) : Fld := ⟨(Reg.LGE_CTRL p), 0, 1⟩
def F.LGE_CTRL_ERR_TASK (p : Nat) : Fld := ⟨(Reg.LGE_CTRL p), 2, 1⟩
def F.LGE_CTRL_EVT_TASKS (p : Nat) : Fld := ⟨(Reg.LGE_CTRL p), 8, 4⟩
def F.LGE_CTRL_KSIZE (p : Nat) : Fld := ⟨(Reg.LGE_CTRL p), 16, 13⟩
def F.LGE_CTRL_SAFE_ON_HOLD (p : Nat) : Fld := ⟨(Reg.LGE_CTRL p), 1, 1⟩
def F.LGE_EDGE_BASE (p : Nat) : Fld := ⟨(Reg.LGE_EDGE p), 0, 14⟩
def F.LGE_EDGE_COUNT (p : Nat) : Fld := ⟨(Reg.LGE_EDGE p), 16, 15⟩
def F.LGE_FAULT_PC_PC (p : Nat) : Fld := ⟨(Reg.LGE_FAULT_PC p), 0, 20⟩
def F.LGE_SEG_BASE_VALUE (p : Nat) : Fld := ⟨(Reg.LGE_SEG_BASE p), 0, 20⟩
def F.LGE_SEG_LEN_VALUE (p : Nat) : Fld := ⟨(Reg.LGE_SEG_LEN p), 0, 20⟩
def F.LGE_STATUS_LANE_FAULT : Fld := ⟨Reg.LGE_STATUS, 24, 4⟩
def F.LGE_STATUS_PROG_USED : Fld := ⟨Reg.LGE_STATUS, 0, 20⟩
def F.LGE_TMR_BASE (p : Nat) : Fld := ⟨(Reg.LGE_TMR p), 0, 10⟩
def F.LGE_TMR_COUNT (p : Nat) : Fld := ⟨(Reg.LGE_TMR p), 16, 11⟩
def F.LPE_AO_BOUND (c : Nat) : Fld := ⟨(Reg.LPE_AO c), 31, 1⟩
def F.LPE_AO_CHAN (c : Nat) : Fld := ⟨(Reg.LPE_AO c), 0, 5⟩
def F.LPE_ARITH_COUNT : Fld := ⟨Reg.LPE_ARITH, 0, 16⟩
def F.LPE_CFG_ACTION (c : Nat) : Fld := ⟨(Reg.LPE_CFG c), 30, 1⟩
def F.LPE_CFG_AW (c : Nat) : Fld := ⟨(Reg.LPE_CFG c), 28, 1⟩
def F.LPE_CFG_CONFIGURED (c : Nat) : Fld := ⟨(Reg.LPE_CFG c), 31, 1⟩
def F.LPE_CFG_DERIV_ON (c : Nat) : Fld := ⟨(Reg.LPE_CFG c), 29, 1⟩
def F.LPE_CFG_EVT_TASK (c : Nat) : Fld := ⟨(Reg.LPE_CFG c), 16, 4⟩
def F.LPE_CFG_NON_BUMPLESS (c : Nat) : Fld := ⟨(Reg.LPE_CFG c), 26, 1⟩
def F.LPE_CFG_OWNER (c : Nat) : Fld := ⟨(Reg.LPE_CFG c), 20, 4⟩
def F.LPE_CFG_PRIMARY (c : Nat) : Fld := ⟨(Reg.LPE_CFG c), 0, 7⟩
def F.LPE_CFG_PV_BAD_ACT (c : Nat) : Fld := ⟨(Reg.LPE_CFG c), 25, 1⟩
def F.LPE_CFG_SECONDARY (c : Nat) : Fld := ⟨(Reg.LPE_CFG c), 15, 1⟩
def F.LPE_CFG_SP_TRACK (c : Nat) : Fld := ⟨(Reg.LPE_CFG c), 27, 1⟩
def F.LPE_EVALS_COUNT : Fld := ⟨Reg.LPE_EVALS, 0, 8⟩
def F.LPE_GSTATUS_CONFIGURED : Fld := ⟨Reg.LPE_GSTATUS, 0, 8⟩
def F.LPE_GSTATUS_PIPE_FAULT : Fld := ⟨Reg.LPE_GSTATUS, 24, 2⟩
def F.LPE_PV_SRC_INDEX (c : Nat) : Fld := ⟨(Reg.LPE_PV_SRC c), 0, 18⟩
def F.LPE_PV_SRC_KIND (c : Nat) : Fld := ⟨(Reg.LPE_PV_SRC c), 30, 2⟩
def F.LPE_SCHED_PERIOD (c : Nat) : Fld := ⟨(Reg.LPE_SCHED c), 16, 10⟩
def F.LPE_SCHED_PHASE (c : Nat) : Fld := ⟨(Reg.LPE_SCHED c), 0, 10⟩
def F.LVE_HOLD_HOLD_US (t : Nat) : Fld := ⟨(Reg.LVE_HOLD t), 0, 16⟩
def F.LVE_P0F_SAFE_FLAGS : Fld := ⟨Reg.LVE_P0F_SAFE, 0, 16⟩
def F.LVE_STATUS_LIVE : Fld := ⟨Reg.LVE_STATUS, 0, 1⟩
def F.LVE_STATUS_PLANE_MISMATCH : Fld := ⟨Reg.LVE_STATUS, 2, 1⟩
def F.LVE_STATUS_TEST_ACTIVE : Fld := ⟨Reg.LVE_STATUS, 1, 1⟩
def F.LVE_TCFG_INHIBIT_OK (t : Nat) : Fld := ⟨(Reg.LVE_TCFG t), 29, 1⟩
def F.LVE_TCFG_LATCH (t : Nat) : Fld := ⟨(Reg.LVE_TCFG t), 31, 1⟩
def F.LVE_TCFG_RST_NEG (t : Nat) : Fld := ⟨(Reg.LVE_TCFG t), 8, 1⟩
def F.LVE_TCFG_RST_SRC (t : Nat) : Fld := ⟨(Reg.LVE_TCFG t), 0, 8⟩
def F.LVE_TCFG_RST_VALID (t : Nat) : Fld := ⟨(Reg.LVE_TCFG t), 9, 1⟩
def F.LVE_TCFG_TEST_EN (t : Nat) : Fld := ⟨(Reg.LVE_TCFG t), 30, 1⟩
def F.LVE_TEST_LIMIT_SECONDS : Fld := ⟨Reg.LVE_TEST_LIMIT, 0, 10⟩
def F.LVE_TEST_STAT_INJECTED : Fld := ⟨Reg.LVE_TEST_STAT, 18, 1⟩
def F.LVE_TEST_STAT_REAL : Fld := ⟨Reg.LVE_TEST_STAT, 19, 1⟩
def F.LVE_TEST_STAT_REMAIN : Fld := ⟨Reg.LVE_TEST_STAT, 0, 10⟩
def F.LVE_TEST_STAT_STATE : Fld := ⟨Reg.LVE_TEST_STAT, 16, 2⟩
def F.MOD_ACC_ERR_COUNT : Fld := ⟨Reg.MOD_ACC_ERR, 0, 16⟩
def F.MOD_CLK_CAN_LOCK : Fld := ⟨Reg.MOD_CLK, 3, 1⟩
def F.MOD_CLK_K32_OK : Fld := ⟨Reg.MOD_CLK, 2, 1⟩
def F.MOD_CLK_PLL_LOCK : Fld := ⟨Reg.MOD_CLK, 0, 1⟩
def F.MOD_CLK_TCXO_DEV : Fld := ⟨Reg.MOD_CLK, 16, 16⟩
def F.MOD_CLK_TCXO_OK : Fld := ⟨Reg.MOD_CLK, 1, 1⟩
def F.MOD_FW_REV_BUILD : Fld := ⟨Reg.MOD_FW_REV, 0, 16⟩
def F.MOD_FW_REV_MAJOR : Fld := ⟨Reg.MOD_FW_REV, 24, 8⟩
def F.MOD_FW_REV_MINOR : Fld := ⟨Reg.MOD_FW_REV, 16, 8⟩
def F.MOD_HOLDUP_VALUE : Fld := ⟨Reg.MOD_HOLDUP, 0, 16⟩
def F.MOD_HW_REV_MAJOR : Fld := ⟨Reg.MOD_HW_REV, 8, 8⟩
def F.MOD_PF_COUNT_COUNT : Fld := ⟨Reg.MOD_PF_COUNT, 0, 16⟩
def F.MOD_POWER_VALUE : Fld := ⟨Reg.MOD_POWER, 0, 16⟩
def F.MOD_PWR_CFG_PF_OUT : Fld := ⟨Reg.MOD_PWR_CFG, 0, 1⟩
def F.MOD_PWR_CFG_PSA_REQ : Fld := ⟨Reg.MOD_PWR_CFG, 1, 1⟩
def F.MOD_PWR_CFG_PSB_REQ : Fld := ⟨Reg.MOD_PWR_CFG, 2, 1⟩
def F.MOD_PWR_CFG_TEMP_WARN : Fld := ⟨Reg.MOD_PWR_CFG, 24, 8⟩
def F.MOD_PWR_EVCNT_OVERTEMP : Fld := ⟨Reg.MOD_PWR_EVCNT, 0, 8⟩
def F.MOD_PWR_EVCNT_PSA_LOSS : Fld := ⟨Reg.MOD_PWR_EVCNT, 24, 8⟩
def F.MOD_PWR_EVCNT_PSB_LOSS : Fld := ⟨Reg.MOD_PWR_EVCNT, 16, 8⟩
def F.MOD_PWR_EVCNT_RAIL_WARN : Fld := ⟨Reg.MOD_PWR_EVCNT, 8, 8⟩
def F.MOD_PWR_STATUS_HOLDUP_READY : Fld := ⟨Reg.MOD_PWR_STATUS, 8, 1⟩
def F.MOD_PWR_STATUS_OVERTEMP : Fld := ⟨Reg.MOD_PWR_STATUS, 9, 1⟩
def F.MOD_PWR_STATUS_PSA_OK : Fld := ⟨Reg.MOD_PWR_STATUS, 0, 1⟩
def F.MOD_PWR_STATUS_PSB_OK : Fld := ⟨Reg.MOD_PWR_STATUS, 1, 1⟩
def F.MOD_PWR_STATUS_RAIL_WARN : Fld := ⟨Reg.MOD_PWR_STATUS, 4, 4⟩
def F.MOD_RAIL0_CORE : Fld := ⟨Reg.MOD_RAIL0, 16, 16⟩
def F.MOD_RAIL0_MEM : Fld := ⟨Reg.MOD_RAIL0, 0, 16⟩
def F.MOD_RAIL1_AON : Fld := ⟨Reg.MOD_RAIL1, 0, 16⟩
def F.MOD_RAIL1_IO : Fld := ⟨Reg.MOD_RAIL1, 16, 16⟩
def F.MOD_STATE_CAUSE : Fld := ⟨Reg.MOD_STATE, 8, 8⟩
def F.MOD_STATE_STATE : Fld := ⟨Reg.MOD_STATE, 0, 3⟩
def F.MOD_TEMP_PEAK_TEMP : Fld := ⟨Reg.MOD_TEMP_PEAK, 0, 16⟩
def F.MOD_TEMP_TEMP : Fld := ⟨Reg.MOD_TEMP, 0, 16⟩
def F.MOD_UNIT_STN_ID : Fld := ⟨Reg.MOD_UNIT, 0, 5⟩
def F.MOD_UNIT_UNIT : Fld := ⟨Reg.MOD_UNIT, 8, 1⟩
def F.MOD_VIN_PSA : Fld := ⟨Reg.MOD_VIN, 16, 16⟩
def F.MOD_VIN_PSB : Fld := ⟨Reg.MOD_VIN, 0, 16⟩
def F.NET_ACK_DL_VALUE : Fld := ⟨Reg.NET_ACK_DL, 0, 32⟩
def F.NET_ALM_EVN_VALUE : Fld := ⟨Reg.NET_ALM_EVN, 0, 32⟩
def F.NET_ALM_LOST_COUNT : Fld := ⟨Reg.NET_ALM_LOST, 0, 16⟩
def F.NET_ALM_STAT_COUNT : Fld := ⟨Reg.NET_ALM_STAT, 0, 8⟩
def F.NET_AUTH_FAIL_COUNT : Fld := ⟨Reg.NET_AUTH_FAIL, 0, 16⟩
def F.NET_CFG_MAX_LAT : Fld := ⟨Reg.NET_CFG, 0, 9⟩
def F.NET_CFG_PRIO_TAG : Fld := ⟨Reg.NET_CFG, 20, 1⟩
def F.NET_CFG_SPEED_A : Fld := ⟨Reg.NET_CFG, 16, 2⟩
def F.NET_CFG_SPEED_B : Fld := ⟨Reg.NET_CFG, 18, 2⟩
def F.NET_FILT_DROP_COUNT : Fld := ⟨Reg.NET_FILT_DROP, 0, 16⟩
def F.NET_POL_DROP_HIGH : Fld := ⟨Reg.NET_POL_DROP, 16, 16⟩
def F.NET_POL_DROP_LOW : Fld := ⟨Reg.NET_POL_DROP, 0, 16⟩
def F.NET_PORT_STAT_LINK_A : Fld := ⟨Reg.NET_PORT_STAT, 0, 2⟩
def F.NET_PORT_STAT_LINK_B : Fld := ⟨Reg.NET_PORT_STAT, 2, 2⟩
def F.NET_PRP_A_HIGH : Fld := ⟨Reg.NET_PRP_A, 16, 16⟩
def F.NET_PRP_A_LOW : Fld := ⟨Reg.NET_PRP_A, 0, 16⟩
def F.NET_PRP_B_HIGH : Fld := ⟨Reg.NET_PRP_B, 16, 16⟩
def F.NET_PRP_B_LOW : Fld := ⟨Reg.NET_PRP_B, 0, 16⟩
def F.NET_RA_STAT_BUSY : Fld := ⟨Reg.NET_RA_STAT, 8, 8⟩
def F.NET_RA_STAT_COUNT : Fld := ⟨Reg.NET_RA_STAT, 0, 8⟩
def F.NET_RS_CFG_EN (s : Nat) : Fld := ⟨(Reg.NET_RS_CFG s), 31, 1⟩
def F.NET_RS_CFG_IN_LEN (s : Nat) : Fld := ⟨(Reg.NET_RS_CFG s), 11, 11⟩
def F.NET_RS_CFG_MISS_LIMIT (s : Nat) : Fld := ⟨(Reg.NET_RS_CFG s), 24, 3⟩
def F.NET_RS_CFG_OUT_LEN (s : Nat) : Fld := ⟨(Reg.NET_RS_CFG s), 0, 11⟩
def F.NET_RS_CFG_OWNER (s : Nat) : Fld := ⟨(Reg.NET_RS_CFG s), 27, 4⟩
def F.NET_RS_ERR_COUNT (s : Nat) : Fld := ⟨(Reg.NET_RS_ERR s), 0, 16⟩
def F.NET_RS_LOSS_COUNT (s : Nat) : Fld := ⟨(Reg.NET_RS_LOSS s), 0, 16⟩
def F.NET_RS_RX_HIGH (s : Nat) : Fld := ⟨(Reg.NET_RS_RX s), 16, 16⟩
def F.NET_RS_RX_LOW (s : Nat) : Fld := ⟨(Reg.NET_RS_RX s), 0, 16⟩
def F.NET_RS_STATUS_CAUSE (s : Nat) : Fld := ⟨(Reg.NET_RS_STATUS s), 24, 4⟩
def F.NET_RS_STATUS_INVALID (s : Nat) : Fld := ⟨(Reg.NET_RS_STATUS s), 31, 1⟩
def F.NET_RS_STATUS_MISS (s : Nat) : Fld := ⟨(Reg.NET_RS_STATUS s), 16, 8⟩
def F.NET_RS_STATUS_NO_ACK_LIVE (s : Nat) : Fld := ⟨(Reg.NET_RS_STATUS s), 30, 1⟩
def F.NET_RS_STATUS_SEQ (s : Nat) : Fld := ⟨(Reg.NET_RS_STATUS s), 0, 16⟩
def F.NET_RS_STATUS_STATE (s : Nat) : Fld := ⟨(Reg.NET_RS_STATUS s), 28, 2⟩
def F.PLD_BITWIN_BASE (p : Nat) : Fld := ⟨(Reg.PLD_BITWIN p), 16, 9⟩
def F.PLD_BITWIN_SIZE (p : Nat) : Fld := ⟨(Reg.PLD_BITWIN p), 0, 10⟩
def F.PLD_BUD_LOGIC_AMOUNT (p : Nat) : Fld := ⟨(Reg.PLD_BUD_LOGIC p), 0, 27⟩
def F.PLD_BUD_LOOP_AMOUNT (p : Nat) : Fld := ⟨(Reg.PLD_BUD_LOOP p), 0, 27⟩
def F.PLD_BUD_SLV_AMOUNT (p : Nat) : Fld := ⟨(Reg.PLD_BUD_SLV p), 0, 27⟩
def F.PLD_CFG_CLASS (p : Nat) : Fld := ⟨(Reg.PLD_CFG p), 0, 2⟩
def F.PLD_CFG_CONFIGURED (p : Nat) : Fld := ⟨(Reg.PLD_CFG p), 2, 1⟩
def F.PLD_CFG_FAULT_SAFE (p : Nat) : Fld := ⟨(Reg.PLD_CFG p), 3, 1⟩
def F.PLD_CFG_SPILL_LIMIT (p : Nat) : Fld := ⟨(Reg.PLD_CFG p), 8, 8⟩
def F.PLD_CYCLIC_PERIOD (p : Nat) : Fld := ⟨(Reg.PLD_CYCLIC p), 16, 10⟩
def F.PLD_CYCLIC_PHASE (p : Nat) : Fld := ⟨(Reg.PLD_CYCLIC p), 0, 10⟩
def F.PLD_ERR_CAUSE (p : Nat) : Fld := ⟨(Reg.PLD_ERR p), 0, 8⟩
def F.PLD_EVQ_OVF_COUNT (p : Nat) : Fld := ⟨(Reg.PLD_EVQ_OVF p), 0, 16⟩
def F.PLD_LOOP_DEFER_COUNT (p : Nat) : Fld := ⟨(Reg.PLD_LOOP_DEFER p), 0, 16⟩
def F.PLD_MISSED_COUNT (p : Nat) : Fld := ⟨(Reg.PLD_MISSED p), 0, 16⟩
def F.PLD_PEAK_LOGIC_AMOUNT (p : Nat) : Fld := ⟨(Reg.PLD_PEAK_LOGIC p), 0, 27⟩
def F.PLD_SPILL_CONSEC (p : Nat) : Fld := ⟨(Reg.PLD_SPILL p), 0, 8⟩
def F.PLD_SPILL_LAST_KIND (p : Nat) : Fld := ⟨(Reg.PLD_SPILL p), 8, 2⟩
def F.PLD_SPILL_TOTAL_COUNT (p : Nat) : Fld := ⟨(Reg.PLD_SPILL_TOTAL p), 0, 16⟩
def F.PLD_STATE_HOME (p : Nat) : Fld := ⟨(Reg.PLD_STATE p), 4, 2⟩
def F.PLD_STATE_STATE (p : Nat) : Fld := ⟨(Reg.PLD_STATE p), 0, 3⟩
def F.PLD_USE_LOGIC_AMOUNT (p : Nat) : Fld := ⟨(Reg.PLD_USE_LOGIC p), 0, 27⟩
def F.PLD_USE_LOOP_AMOUNT (p : Nat) : Fld := ⟨(Reg.PLD_USE_LOOP p), 0, 27⟩
def F.PLD_USE_SLV_AMOUNT (p : Nat) : Fld := ⟨(Reg.PLD_USE_SLV p), 0, 27⟩
def F.PLD_WORDWIN_BASE (p : Nat) : Fld := ⟨(Reg.PLD_WORDWIN p), 16, 10⟩
def F.PLD_WORDWIN_SIZE (p : Nat) : Fld := ⟨(Reg.PLD_WORDWIN p), 0, 11⟩
def F.RTC_BACKUP_CAP_MV : Fld := ⟨Reg.RTC_BACKUP, 16, 16⟩
def F.RTC_BACKUP_CELL_MV : Fld := ⟨Reg.RTC_BACKUP, 0, 16⟩
def F.RTC_CALSTATE_DST : Fld := ⟨Reg.RTC_CALSTATE, 16, 1⟩
def F.RTC_CALSTATE_LOCAL_OFS : Fld := ⟨Reg.RTC_CALSTATE, 0, 8⟩
def F.RTC_CALSTATE_TAI_SRC : Fld := ⟨Reg.RTC_CALSTATE, 23, 1⟩
def F.RTC_CALSTATE_TAI_UTC : Fld := ⟨Reg.RTC_CALSTATE, 24, 8⟩
def F.RTC_CMD_STAT_LAST : Fld := ⟨Reg.RTC_CMD_STAT, 4, 4⟩
def F.RTC_CMD_STAT_STATUS : Fld := ⟨Reg.RTC_CMD_STAT, 0, 4⟩
def F.RTC_REWRITES_COUNT : Fld := ⟨Reg.RTC_REWRITES, 0, 16⟩
def F.RTC_SQW_BACKUP_EN : Fld := ⟨Reg.RTC_SQW, 30, 1⟩
def F.RTC_SQW_EN : Fld := ⟨Reg.RTC_SQW, 31, 1⟩
def F.RTC_SQW_SEL : Fld := ⟨Reg.RTC_SQW, 0, 4⟩
def F.RTC_STATUS_CELL_LOW : Fld := ⟨Reg.RTC_STATUS, 6, 1⟩
def F.RTC_STATUS_LOST : Fld := ⟨Reg.RTC_STATUS, 2, 1⟩
def F.RTC_STATUS_SWO_FLAG : Fld := ⟨Reg.RTC_STATUS, 5, 1⟩
def F.RTC_STATUS_VALID : Fld := ⟨Reg.RTC_STATUS, 0, 1⟩
def F.RTC_ST_DATE_DAY : Fld := ⟨Reg.RTC_ST_DATE, 0, 8⟩
def F.RTC_ST_DATE_MONTH : Fld := ⟨Reg.RTC_ST_DATE, 8, 8⟩
def F.RTC_ST_DATE_YEAR : Fld := ⟨Reg.RTC_ST_DATE, 16, 16⟩
def F.RTC_ST_TIME_HOUR : Fld := ⟨Reg.RTC_ST_TIME, 16, 8⟩
def F.RTC_ST_TIME_MINUTE : Fld := ⟨Reg.RTC_ST_TIME, 8, 8⟩
def F.RTC_ST_TIME_SECOND : Fld := ⟨Reg.RTC_ST_TIME, 0, 8⟩
def F.RTC_SWO_COUNT_COUNT : Fld := ⟨Reg.RTC_SWO_COUNT, 0, 8⟩
def F.RTC_TRIM_TRIM : Fld := ⟨Reg.RTC_TRIM, 0, 8⟩
def F.SEC_AUTH_STAT_RESULT : Fld := ⟨Reg.SEC_AUTH_STAT, 0, 4⟩
def F.SEC_FW_SVN_SVN : Fld := ⟨Reg.SEC_FW_SVN, 0, 8⟩
def F.SEC_OPEN_COUNT_COUNT : Fld := ⟨Reg.SEC_OPEN_COUNT, 0, 16⟩
def F.SEC_PROV_COUNT_COUNT : Fld := ⟨Reg.SEC_PROV_COUNT, 0, 16⟩
def F.SEC_STATUS_DEBUG_LIVE : Fld := ⟨Reg.SEC_STATUS, 7, 1⟩
def F.SEC_STATUS_ERASE_PEND : Fld := ⟨Reg.SEC_STATUS, 5, 1⟩
def F.SEC_STATUS_IK : Fld := ⟨Reg.SEC_STATUS, 2, 1⟩
def F.SEC_STATUS_JUMPER : Fld := ⟨Reg.SEC_STATUS, 6, 1⟩
def F.SEC_STATUS_OPENED : Fld := ⟨Reg.SEC_STATUS, 4, 1⟩
def F.SEC_STATUS_PROVISIONED : Fld := ⟨Reg.SEC_STATUS, 0, 1⟩
def F.SEC_STATUS_SK : Fld := ⟨Reg.SEC_STATUS, 1, 1⟩
def F.SEC_STATUS_VK : Fld := ⟨Reg.SEC_STATUS, 3, 1⟩
def F.SHL_AGREE_MISS_COUNT : Fld := ⟨Reg.SHL_AGREE_MISS, 0, 16⟩
def F.SHL_AGREE_PEAK_NS : Fld := ⟨Reg.SHL_AGREE_PEAK, 0, 16⟩
def F.SHL_CFG_AUTO_REJOIN : Fld := ⟨Reg.SHL_CFG, 0, 1⟩
def F.SHL_CFG_PAIR_WAIT : Fld := ⟨Reg.SHL_CFG, 16, 6⟩
def F.SHL_GIVEUP_OWN : Fld := ⟨Reg.SHL_GIVEUP, 0, 8⟩
def F.SHL_GIVEUP_PEER : Fld := ⟨Reg.SHL_GIVEUP, 8, 8⟩
def F.SHL_INPUT_CARRY_COUNT : Fld := ⟨Reg.SHL_INPUT_CARRY, 0, 16⟩
def F.SHL_LANE_ERR_COUNT (l : Nat) : Fld := ⟨(Reg.SHL_LANE_ERR l), 0, 16⟩
def F.SHL_LAT_LANE0_NS : Fld := ⟨Reg.SHL_LAT, 0, 16⟩
def F.SHL_LAT_LANE1_NS : Fld := ⟨Reg.SHL_LAT, 16, 16⟩
def F.SHL_PEER_FW_MAJOR : Fld := ⟨Reg.SHL_PEER, 16, 8⟩
def F.SHL_PEER_ROLE : Fld := ⟨Reg.SHL_PEER, 0, 3⟩
def F.SHL_PEER_UNIT : Fld := ⟨Reg.SHL_PEER, 8, 1⟩
def F.SHL_SIG_MISMATCH_COUNT : Fld := ⟨Reg.SHL_SIG_MISMATCH, 0, 16⟩
def F.SHL_STATUS_LANE0 : Fld := ⟨Reg.SHL_STATUS, 8, 1⟩
def F.SHL_STATUS_LANE1 : Fld := ⟨Reg.SHL_STATUS, 9, 1⟩
def F.SHL_STATUS_LOCKSTEP : Fld := ⟨Reg.SHL_STATUS, 16, 1⟩
def F.SHL_STATUS_PEER_HB : Fld := ⟨Reg.SHL_STATUS, 17, 1⟩
def F.SHL_STATUS_ROLE : Fld := ⟨Reg.SHL_STATUS, 0, 3⟩
def F.SHL_STATUS_SPLIT : Fld := ⟨Reg.SHL_STATUS, 18, 1⟩
def F.SHL_XFER_CAUSE : Fld := ⟨Reg.SHL_XFER, 16, 8⟩
def F.SHL_XFER_KIND : Fld := ⟨Reg.SHL_XFER, 8, 1⟩
def F.SHL_XFER_STATE : Fld := ⟨Reg.SHL_XFER, 0, 3⟩
def F.SLC_BERM_CYCLES : Fld := ⟨Reg.SLC_BERM, 0, 27⟩
def F.SLC_CTRL_DEEP_DOZE_EN : Fld := ⟨Reg.SLC_CTRL, 1, 1⟩
def F.SLC_CTRL_TWIN : Fld := ⟨Reg.SLC_CTRL, 0, 1⟩
def F.SLC_K_CYCLES : Fld := ⟨Reg.SLC_K, 0, 27⟩
def F.SLC_LANE_USE_CYCLES (l : Nat) : Fld := ⟨(Reg.SLC_LANE_USE l), 0, 27⟩
def F.SLC_LOOP_CAP_SLOTS : Fld := ⟨Reg.SLC_LOOP_CAP, 0, 24⟩
def F.SLC_OFFSET_UNITS : Fld := ⟨Reg.SLC_OFFSET, 0, 15⟩
def F.SLC_PERIOD_UNITS : Fld := ⟨Reg.SLC_PERIOD, 0, 14⟩
def F.SLC_SLV_CAP_CYCLES : Fld := ⟨Reg.SLC_SLV_CAP, 0, 26⟩
def F.SLC_STATUS_DEEP : Fld := ⟨Reg.SLC_STATUS, 8, 1⟩
def F.SLC_STATUS_PHASE : Fld := ⟨Reg.SLC_STATUS, 0, 3⟩
def F.SLC_STATUS_SLOT : Fld := ⟨Reg.SLC_STATUS, 4, 4⟩
def F.SLC_S_CYCLES : Fld := ⟨Reg.SLC_S, 0, 27⟩
def F.SLV_ARRAY_USE_CYCLES : Fld := ⟨Reg.SLV_ARRAY_USE, 0, 27⟩
def F.SLV_CFG_CLASS (s : Nat) : Fld := ⟨(Reg.SLV_CFG s), 28, 2⟩
def F.SLV_CFG_CONFIGURED (s : Nat) : Fld := ⟨(Reg.SLV_CFG s), 31, 1⟩
def F.SLV_CFG_EVT_TASK (s : Nat) : Fld := ⟨(Reg.SLV_CFG s), 16, 4⟩
def F.SLV_CFG_OWNER (s : Nat) : Fld := ⟨(Reg.SLV_CFG s), 20, 4⟩
def F.SLV_CFG_PD (s : Nat) : Fld := ⟨(Reg.SLV_CFG s), 30, 1⟩
def F.SLV_COST_FINISH_CYCLES (s : Nat) : Fld := ⟨(Reg.SLV_COST_FINISH s), 0, 27⟩
def F.SLV_COST_ITER_CYCLES (s : Nat) : Fld := ⟨(Reg.SLV_COST_ITER s), 0, 27⟩
def F.SLV_COST_SETUP_CYCLES (s : Nat) : Fld := ⟨(Reg.SLV_COST_SETUP s), 0, 27⟩
def F.SLV_DIM_MEAS (s : Nat) : Fld := ⟨(Reg.SLV_DIM s), 0, 10⟩
def F.SLV_DIM_N (s : Nat) : Fld := ⟨(Reg.SLV_DIM s), 24, 8⟩
def F.SLV_DIM_ROWS (s : Nat) : Fld := ⟨(Reg.SLV_DIM s), 16, 8⟩
def F.SLV_GSTATUS_ARRAY_FAULT : Fld := ⟨Reg.SLV_GSTATUS, 24, 1⟩
def F.SLV_GSTATUS_CONFIGURED : Fld := ⟨Reg.SLV_GSTATUS, 0, 8⟩
def F.SLV_ITER_CAP (s : Nat) : Fld := ⟨(Reg.SLV_ITER s), 0, 7⟩
def F.SLV_ITER_DESC (s : Nat) : Fld := ⟨(Reg.SLV_ITER s), 16, 16⟩
def F.SLV_JOB_CYC_CYCLES (s : Nat) : Fld := ⟨(Reg.SLV_JOB_CYC s), 0, 27⟩
def F.SLV_OVF_COUNT (s : Nat) : Fld := ⟨(Reg.SLV_OVF s), 0, 16⟩
def F.STN_DIV_COUNT : Fld := ⟨Reg.STN_DIV, 0, 16⟩
def F.STN_FORCE_SEL_ENTRY : Fld := ⟨Reg.STN_FORCE_SEL, 0, 8⟩
def F.STN_PL_ADDR_INDEX : Fld := ⟨Reg.STN_PL_ADDR, 0, 18⟩
def F.STN_PL_ADDR_SPACE : Fld := ⟨Reg.STN_PL_ADDR, 30, 2⟩
def F.STN_PL_ADDR_WIDTH : Fld := ⟨Reg.STN_PL_ADDR, 29, 1⟩
def F.STN_PL_KIDX_INDEX (i : Nat) : Fld := ⟨(Reg.STN_PL_KIDX i), 0, 12⟩
def F.STN_PL_PERMIT_FORCE_EN : Fld := ⟨Reg.STN_PL_PERMIT, 16, 16⟩
def F.STN_PL_PERMIT_OLC_EN : Fld := ⟨Reg.STN_PL_PERMIT, 0, 16⟩
def F.STN_PL_POLICY_KEEP_FORCES : Fld := ⟨Reg.STN_PL_POLICY, 0, 16⟩
def F.STN_PL_POLICY_STRICT : Fld := ⟨Reg.STN_PL_POLICY, 16, 16⟩
def F.STN_PL_START_WARM : Fld := ⟨Reg.STN_PL_START, 0, 16⟩
def F.STN_PL_STAT_STATUS : Fld := ⟨Reg.STN_PL_STAT, 0, 4⟩
def F.STN_RST_DROP_COUNT (p : Nat) : Fld := ⟨(Reg.STN_RST_DROP p), 0, 13⟩
def F.STN_RST_INIT_COUNT (p : Nat) : Fld := ⟨(Reg.STN_RST_INIT p), 0, 13⟩
def F.STN_RST_KEPT_COUNT (p : Nat) : Fld := ⟨(Reg.STN_RST_KEPT p), 0, 13⟩
def F.STN_STATE_DIV : Fld := ⟨Reg.STN_STATE, 15, 1⟩
def F.STN_STATE_JOIN : Fld := ⟨Reg.STN_STATE, 14, 1⟩
def F.STN_STATE_LANE0 : Fld := ⟨Reg.STN_STATE, 12, 1⟩
def F.STN_STATE_LANE1 : Fld := ⟨Reg.STN_STATE, 13, 1⟩
def F.STN_STATE_ROLE_A : Fld := ⟨Reg.STN_STATE, 4, 3⟩
def F.STN_STATE_ROLE_B : Fld := ⟨Reg.STN_STATE, 8, 3⟩
def F.STN_STATE_STATE : Fld := ⟨Reg.STN_STATE, 0, 2⟩
def F.STN_TWIN_ARG_RESTART : Fld := ⟨Reg.STN_TWIN_ARG, 8, 1⟩
def F.STN_TWIN_ARG_UNIT : Fld := ⟨Reg.STN_TWIN_ARG, 0, 1⟩
def F.STN_TWIN_STAT_STATUS : Fld := ⟨Reg.STN_TWIN_STAT, 0, 4⟩
def F.TSU_CAP_CFG_EDGE (u : Nat) : Fld := ⟨(Reg.TSU_CAP_CFG u), 4, 2⟩
def F.TSU_CAP_CFG_INDEX (u : Nat) : Fld := ⟨(Reg.TSU_CAP_CFG u), 8, 5⟩
def F.TSU_CAP_CFG_SRC (u : Nat) : Fld := ⟨(Reg.TSU_CAP_CFG u), 0, 4⟩
def F.TSU_CAP_STAT_COUNT (u : Nat) : Fld := ⟨(Reg.TSU_CAP_STAT u), 0, 16⟩
def F.TSU_CFG_COMPAT : Fld := ⟨Reg.TSU_CFG, 14, 1⟩
def F.TSU_CFG_PROFILE : Fld := ⟨Reg.TSU_CFG, 4, 2⟩
def F.TSU_CFG_ROLE : Fld := ⟨Reg.TSU_CFG, 2, 2⟩
def F.TSU_CFG_SERVO : Fld := ⟨Reg.TSU_CFG, 0, 1⟩
def F.TSU_CFG_STEP_THRESH : Fld := ⟨Reg.TSU_CFG, 8, 4⟩
def F.TSU_CFG_TWO_STEP : Fld := ⟨Reg.TSU_CFG, 7, 1⟩
def F.TSU_CFG_UDP : Fld := ⟨Reg.TSU_CFG, 6, 1⟩
def F.TSU_CFG_WRAP_EVT : Fld := ⟨Reg.TSU_CFG, 15, 1⟩
def F.TSU_CFG_WRAP_POLDER : Fld := ⟨Reg.TSU_CFG, 20, 4⟩
def F.TSU_CFG_WRAP_TASK : Fld := ⟨Reg.TSU_CFG, 16, 4⟩
def F.TSU_CMP_CFG_CAN_REL (u : Nat) : Fld := ⟨(Reg.TSU_CMP_CFG u), 5, 1⟩
def F.TSU_CMP_CFG_EVT (u : Nat) : Fld := ⟨(Reg.TSU_CMP_CFG u), 4, 1⟩
def F.TSU_CMP_CFG_EVT_TASK (u : Nat) : Fld := ⟨(Reg.TSU_CMP_CFG u), 24, 4⟩
def F.TSU_CMP_CFG_MODE (u : Nat) : Fld := ⟨(Reg.TSU_CMP_CFG u), 0, 2⟩
def F.TSU_CMP_CFG_OWNER (u : Nat) : Fld := ⟨(Reg.TSU_CMP_CFG u), 28, 4⟩
def F.TSU_CMP_CFG_QUEUE (u : Nat) : Fld := ⟨(Reg.TSU_CMP_CFG u), 9, 7⟩
def F.TSU_CMP_CFG_START (u : Nat) : Fld := ⟨(Reg.TSU_CMP_CFG u), 3, 1⟩
def F.TSU_CMP_OFS_NS (u : Nat) : Fld := ⟨(Reg.TSU_CMP_OFS u), 0, 32⟩
def F.TSU_CMP_PER_NS (u : Nat) : Fld := ⟨(Reg.TSU_CMP_PER u), 0, 32⟩
def F.TSU_CMP_STAT_ARMED (u : Nat) : Fld := ⟨(Reg.TSU_CMP_STAT u), 31, 1⟩
def F.TSU_CMP_STAT_FIRED (u : Nat) : Fld := ⟨(Reg.TSU_CMP_STAT u), 0, 16⟩
def F.TSU_CMP_STAT_MISSED (u : Nat) : Fld := ⟨(Reg.TSU_CMP_STAT u), 16, 15⟩
def F.TSU_PPS_CFG_EN : Fld := ⟨Reg.TSU_PPS_CFG, 31, 1⟩
def F.TSU_PPS_CFG_GATE_LOCKED : Fld := ⟨Reg.TSU_PPS_CFG, 30, 1⟩
def F.TSU_PPS_CFG_WIDTH : Fld := ⟨Reg.TSU_PPS_CFG, 1, 29⟩
def F.TSU_PPS_OFS_NS : Fld := ⟨Reg.TSU_PPS_OFS, 0, 30⟩
def F.TSU_PTP_CFG_CLOCK_CLASS : Fld := ⟨Reg.TSU_PTP_CFG, 24, 8⟩
def F.TSU_PTP_CFG_DOMAIN : Fld := ⟨Reg.TSU_PTP_CFG, 0, 7⟩
def F.TSU_PTP_CFG_PRIORITY1 : Fld := ⟨Reg.TSU_PTP_CFG, 8, 8⟩
def F.TSU_PTP_CFG_PRIORITY2 : Fld := ⟨Reg.TSU_PTP_CFG, 16, 8⟩
def F.TSU_PTP_INTV_LOG_ANNOUNCE : Fld := ⟨Reg.TSU_PTP_INTV, 8, 8⟩
def F.TSU_PTP_INTV_LOG_DELAY : Fld := ⟨Reg.TSU_PTP_INTV, 16, 8⟩
def F.TSU_PTP_INTV_LOG_SYNC : Fld := ⟨Reg.TSU_PTP_INTV, 0, 8⟩
def F.TSU_PTP_INTV_TIMEOUT : Fld := ⟨Reg.TSU_PTP_INTV, 24, 4⟩
def F.TSU_STATUS_DEEP : Fld := ⟨Reg.TSU_STATUS, 11, 1⟩
def F.TSU_STATUS_PORT : Fld := ⟨Reg.TSU_STATUS, 8, 1⟩
def F.TSU_STATUS_PTP_STATE : Fld := ⟨Reg.TSU_STATUS, 3, 4⟩
def F.TSU_STATUS_SEEDED : Fld := ⟨Reg.TSU_STATUS, 7, 1⟩
def F.TSU_STATUS_SERVO : Fld := ⟨Reg.TSU_STATUS, 0, 3⟩
def F.TSU_STATUS_TWIN : Fld := ⟨Reg.TSU_STATUS, 9, 2⟩
def F.TSU_STATUS_WRAP : Fld := ⟨Reg.TSU_STATUS, 12, 1⟩
def F.TSU_STEPS_COUNT : Fld := ⟨Reg.TSU_STEPS, 0, 16⟩
def F.TSU_ST_SEC_HI_SEC_HI : Fld := ⟨Reg.TSU_ST_SEC_HI, 0, 16⟩
def F.TSU_TWIN_OFFSET : Fld := ⟨Reg.TSU_TWIN, 0, 16⟩
def F.TSU_TWIN_STEER : Fld := ⟨Reg.TSU_TWIN, 16, 16⟩

end Sys2Proof.Machine
end

