-- ==== Sys2Proof/Machine/Sparse.lean ====
section
/-! DEFINITION. Sparse memories: a list of (key, value) pairs in one canonical form (keys strictly rising, no entry
equal to what an unlisted key reads as), read and written only here. -/

namespace Sys2Proof.Machine

variable {α : Type}

/-- What key `k` reads as; an unlisted key reads as `d`. -/
def sget (d : α) : List (Nat × α) → Nat → α
  | [], _ => d
  | e :: m, k => if e.1 = k then e.2 else sget d m k

/-- The entries of other keys. -/
def sdel (m : List (Nat × α)) (k : Nat) : List (Nat × α) := m.filter fun e => e.1 ≠ k

/-- Insert a key that is not listed, in key order. -/
def sins (k : Nat) (v : α) : List (Nat × α) → List (Nat × α)
  | [] => [(k, v)]
  | e :: m => if k < e.1 then (k, v) :: e :: m else e :: sins k v m

/-- Write `v` at `k`; writing what an unlisted key reads as removes the entry. -/
def sput [DecidableEq α] (d : α) (m : List (Nat × α)) (k : Nat) (v : α) : List (Nat × α) :=
  if v = d then sdel m k else sins k v (sdel m k)

/-- Write several entries, the first first. -/
def sputs [DecidableEq α] (d : α) (m : List (Nat × α)) (es : List (Nat × α)) : List (Nat × α) :=
  es.foldl (fun m e => sput d m e.1 e.2) m

/-- The canonical form. -/
abbrev SparseWf (d : α) (m : List (Nat × α)) : Prop :=
  m.Pairwise (fun a b => a.1 < b.1) ∧ ∀ e ∈ m, e.2 ≠ d

/-- The canonical form with the default removed from every range of keys `lo … hi - 1`. -/
def sclear (m : List (Nat × α)) (lo hi : Nat) : List (Nat × α) := m.filter fun e => ¬ (lo ≤ e.1 ∧ e.1 < hi)

end Sys2Proof.Machine
end

