-- ==== Sys2Proof/Machine/State.lean ====
section
/-! DEFINITION. The state of one module: the locked configuration, everything that changes while it runs, and the
queue of waiting commands. All of it is plain data; every register lives in one of two sparse word maps keyed by its
byte address (R8, R23): `Cfg.lk` for the LK registers, `Dyn.regs` for the others. -/

namespace Sys2Proof.Machine

/-- Reasons to stop with a fault. -/
inductive Fault where
  /-- Raised by no meaning: every command of the table has an effect the spec gives (safe). -/
  | none
  deriving DecidableEq, Repr

/-- Reasons to refuse a command. -/
inductive Refusal where
  /-- Raised by the dispatch alone, for a command that has no meaning yet (safe). -/
  | notModelled (mnemonic : String)
  deriving DecidableEq, Repr

/-! The configuration of the running image. -/

/-- The locked configuration (R10, R49–R52): the lock, the LK registers, and what the image holds beside them. -/
structure Cfg where
  locked : Bool
  lk : SMap Word
  img : ImageData
  deriving DecidableEq, Repr

/-- One copy of the retentive record in MRAM (R162, R163). -/
structure MramCopy where
  complete : Bool
  recs : List (Nat × PolderRec)
  deriving DecidableEq, Repr

/-- A firmware bank (R65–R68); state as BOOT_STATUS.IDLE_STATE. -/
structure Bank where
  state : Nat
  tried : Bool
  signatureOk : Bool
  svn : Nat
  major : Nat
  minor : Nat
  build : Nat
  pages : SMap Word
  deriving DecidableEq, Repr

/-- What keeps its value without logic supply: slot coding, key, firmware banks, secure store, MRAM, and the
stores of the later chapters. -/
structure NonVol where
  unit : Bool
  stnId : BitVec 5
  order : Word
  serial : BitVec 64
  hwRev : Word
  /-- The device identity key: a private key of P-256, fused in manufacture and returned by nothing (R54). -/
  devKey : BitVec 256
  jumper : Bool
  key : Option Key
  bank0 : Bank
  bank1 : Bank
  stationKey : Option (BitVec 256)
  imageKey : Option (BitVec 256)
  verificationKey : Option (BitVec 512)
  provCount : Nat
  openCount : Nat
  opened : Bool
  erasePend : Bool
  fwSvn : Nat
  mramA : MramCopy
  mramB : MramCopy
  /-- The newest complete copy is copy B. -/
  mramNewB : Bool
  /-- Stored journal windows (R454). -/
  windows : SMap (Option Window)
  /-- The two copies of the calibration store (R332): G, O and AIO_CAL_INFO of each channel; and which one is in use. -/
  calA : SMap (Word × Word × Word)
  calB : SMap (Word × Word × Word)
  calInB : Bool
  /-- Secure store of the power-fail sequence (R467), and RTC_TICK at a power fail not yet reported (R470). -/
  pfCount : Nat
  pfLast : Word
  pfTick : Option (BitVec 48)
  /-- Epoch of the transmit counter (R389). -/
  txEpoch : BitVec 24
  /-- Power-fail area of the flash: the POWER window written last, until a place takes it (R455). -/
  pfArea : Option Window
  deriving DecidableEq, Repr

/-- Where start-up stands (R40, R42, R51). -/
inductive BootStage where
  /-- Reset released, the start-up sequence has not run. -/
  | reset
  /-- ROM found no bank (R65). -/
  | rom
  /-- The protection set-up is written from an accepted image and not locked (step 9). -/
  | setup
  /-- Locked; field cells, wire-break tests and runtime initialisation follow (steps 10–13). -/
  | locked
  /-- Frames run, or have run (FN 0 started). -/
  | running
  /-- The start-up hold (R42). -/
  | hold
  /-- SERVICE (R40 step 3, R60). -/
  | service
  /-- The watchdog halted the boot code (R51). -/
  | halted
  deriving DecidableEq, Repr

/-- Start-up and update service (R32, R40, R71). -/
structure Boot where
  stage : BootStage
  /-- The module holds itself in reset until the next release of power-on reset. -/
  held : Bool
  /-- The running image came from the pending slot (R40 step 5). -/
  fromPending : Bool
  /-- Cause of a rejected pending image, to be written to the directory after hand-over (R40 step 8). -/
  rejected : Option Nat
  /-- TARGET of the update command in progress. -/
  target : Bool
  /-- RTC_TICK at the release of power-on reset (R470). -/
  tick : BitVec 48
  /-- Fabric cycle since which the module has been in RUN, for the commit of a trial bank (R66). -/
  runAt : Option Nat
  /-- Serial number of the key whose pending slot this run has brought to WRITING: any other slot found in WRITING counts
  as EMPTY (R33). -/
  wrote : Option (BitVec 64)
  /-- The window that this start is to replay; its arming is cleared (R457). -/
  replay : Option Nat
  /-- The logic supply was lost (R455): nothing of the journal's ring remains. -/
  supplyOff : Bool
  deriving DecidableEq, Repr

/-- The time spent in DOZE and DEEP DOZE (R471), by whole seconds of fabric cycles since reset: the number of the second
under way, the cycles of it spent dozing, the share of the second before it in per cent, and the cycle since which the
module dozes. -/
structure Doze where
  sec : Nat
  acc : Nat
  last : Nat
  since : Option Nat
  deriving DecidableEq, Repr

/-- Sluice (R73–R99): what no register holds. -/
structure Sluice where
  /-- FT of T of the current frame; PTP time, time status and calendar state at T. -/
  tFt : Word
  tSec : BitVec 48
  tNs : Nat
  tStatus : BitVec 16
  tCal : Word
  /-- Lane cycles charged in this frame on each home lane. -/
  laneUse : List Nat
  /-- Cause of the module's entry into FAULT stops all commits (R157). -/
  commitOff : Bool
  /-- The commit of FN 0 has been made (at a joining unit, its first commit): until then the outputs are off (R44). -/
  opened : Bool
  /-- When each loop pipeline can issue next, in ns since T (R190). -/
  pipes : Nat × Nat
  /-- Loop contexts evaluated in this frame (LPE_EVALS). -/
  evals : Nat
  /-- Frames run (from FN 0 on, outside STARTUP, FAULT and SERVICE). -/
  framing : Bool
  /-- T of FN 0 is still to come. -/
  first : Bool
  doze : Doze
  /-- When the registers of field-side measurements took their values, by address (R314, R337). -/
  measured : SMap Nat
  deriving DecidableEq, Repr

/-- The matrix state no LVE register holds (R108–R126). -/
structure Levee where
  /-- The source lines (R106): digital 0–95, comparators 96–159, committed P0 flags 160–175. -/
  src : BitVec 176
  /-- P0's writes waiting for its commit: LVE_P0F, LVE_TEST_CTRL and LVE_TEST_VAL. -/
  pend : List (Nat × Word)
  /-- P0's flags as last committed; none before P0's first commit since the lock (R108). -/
  p0c : Option (BitVec 16)
  /-- Effective injected values (R124). -/
  testVal : Word
  /-- Mode (0 none), term and start (in fabric cycles since reset) of the test under way. -/
  testMode : Nat
  testTerm : Nat
  testStart : Nat
  /-- Terms whose minimum hold has not elapsed, and the fabric cycle at which each term became active (R110). -/
  holding : BitVec 64
  since : SMap Nat
  /-- Reset literal values last seen, for rising edges. -/
  rstPrev : BitVec 64
  /-- Gate commands and flags that only the other plane asserts, as the last disagreement gave them (R120). -/
  planeGate : BitVec 96
  planeFlag : BitVec 16
  /-- For each output the fabric cycle at which its gate command was asserted last, and what its status and its driver then
  lost: the condition bits of DIO_STATUS, `rearmed` and `retryAt` (R112). -/
  dropped : SMap (Nat × Word × Option Bool × Option Nat)
  deriving DecidableEq, Repr

/-- Program life (R162–R182): what no register holds. -/
structure Life where
  /-- Force table: 256 entries, `none` free. -/
  forces : SMap (Option Force)
  /-- Forces acting at the drivers since the last commit (R181, R182). -/
  outForces : SMap (Option Force)
  /-- A counted LGE_CMD that takes effect at E: CODE, POLDER, BP, ARG. -/
  lgeDo : Option (Nat × Nat × Nat × Nat)
  /-- A copy to MRAM under way, and a newer snapshot taken since. -/
  copying : Option (List (Nat × PolderRec))
  copyAgain : Bool
  deriving DecidableEq, Repr

/-- Everything that changes while the machine runs. -/
structure Dyn where
  regs : SMap Word
  /-- Position in the free values of Config: the model's own field. -/
  free : Nat
  /-- The value the last register read returned. -/
  readData : Word
  boot : Boot
  nv : NonVol
  slc : Sluice
  pol : SMap Polder
  bitMem : SMap Bool
  wordMem : SMap Word
  timers : SMap Timer
  counters : SMap Counter
  edges : SMap Bool
  /-- The agreed input vector, input forces not applied (R180). -/
  agreed : SMap Word
  /-- Output image: what tasks last wrote, and the values of the last commits (R137). -/
  outW : SMap Word
  outC : SMap Word
  lve : Levee
  life : Life
  dio : SMap Dio
  /-- The last release of four channels in each recovering group (R310), in ns on the extension of FT. -/
  released : SMap Nat
  aio : SMap Aio
  cal : Cal
  clk : Clock
  tsu : Tsu
  /-- Input latches taken since start. -/
  latches : Nat
  queues : SMap HQueue
  /-- The last 8,192 alarm records, newest first (R415). -/
  alarms : List AlarmRec
  jrn : Journal
  twin : Twin
  rtc : Rtc
  net : Net
  can : SMap Can
  /-- Messages sent since the last input latch, newest first. -/
  sent : List Sent
  loops : SMap Loop
  slv : SMap SlvSlot
  deriving DecidableEq, Repr

/-- The state of the block. -/
structure State where
  cfg : Cfg
  dyn : Dyn
  /-- Waiting commands, first in, first out. -/
  pending : List Instr
  deriving DecidableEq, Repr

/-! The values at reset. Values the spec does not give are zero (DESIGN CHOICE, log entry 5). -/

/-- An image that configures nothing. -/
def ImageData.empty : ImageData :=
  { imageId := 0, calState := 0, startStopped := false, rights := [], polders := [], inGrants := [], outGrants := [],
    published := [], loops := [], solver := [], streams := [] }

/-- Not locked, every LK register at its reset value 0 (R10). -/
def Cfg.init : Cfg := ⟨false, [], ImageData.empty⟩

/-- An empty firmware bank, and a committed one. -/
def Bank.empty : Bank := ⟨0, false, false, 0, 0, 0, 0, []⟩
def Bank.committed : Bank := ⟨4, false, true, 0, 1, 0, 0, []⟩

def MramCopy.empty : MramCopy := ⟨false, []⟩

/-- A module as delivered: bank 0 committed, not provisioned, no key, every store empty (DESIGN CHOICE, log entry 5). -/
def NonVol.init : NonVol :=
  { unit := false, stnId := 0, order := 0xA, serial := 0, hwRev := 0, devKey := 1, jumper := false, key := none,
    bank0 := Bank.committed, bank1 := Bank.empty, stationKey := none, imageKey := none, verificationKey := none,
    provCount := 0, openCount := 0, opened := false, erasePend := false, fwSvn := 0, mramA := MramCopy.empty,
    mramB := MramCopy.empty, mramNewB := false, windows := [], calA := [], calB := [], calInB := false, pfCount := 0, pfLast := 0,
    pfTick := none, txEpoch := 0, pfArea := none }

def Boot.init : Boot := ⟨.reset, false, false, none, false, 0, none, none, none, false⟩

def Sluice.init : Sluice := 
  { tFt := 0, tSec := 0, tNs := 0, tStatus := 0, tCal := 0, laneUse := [0, 0, 0, 0], commitOff := false, opened := false, pipes := (0, 0), evals := 0,
    framing := false, first := false, doze := ⟨0, 0, 0, none⟩, measured := [] }

def Levee.init : Levee :=
  { src := 0, pend := [], p0c := none, testVal := 0, testMode := 0, testTerm := 0, testStart := 0, holding := 0, since := [],
    rstPrev := 0, planeGate := 0, planeFlag := 0, dropped := [] }

def Life.init : Life := ⟨[], [], none, none, false⟩

/-- Registers whose value at reset is not zero: identity, role WAITING, increment of 2 ns, gains of 1, the next event
number. -/
def resetRegs (order : Word) : SMap Word :=
  [(Reg.MOD_ID, 0x4810), (Reg.MOD_ORDER, order)] ++
  (List.range 32).map (fun m => (Reg.AIO_CAL_G m, 0x40000000)) ++
  [(Reg.AIO_CAL_RES_G, 0x40000000), (Reg.TSU_INCR, 0x02000000)] ++
  [(Reg.SHL_STATUS, 1)]

/-- Everything that changes, with its values at reset over the stores `nv`. -/
def Dyn.init (nv : NonVol) : Dyn :=
  { regs := resetRegs nv.order, free := 0, readData := 0, boot := Boot.init, nv := nv, slc := Sluice.init, pol := [],
    bitMem := [], wordMem := [], timers := [], counters := [], edges := [], agreed := [], outW := [], outC := [],
    lve := Levee.init, life := Life.init, dio := [], released := [], aio := [], cal := Cal.init, clk := Clock.init, tsu := Tsu.init,
    latches := 0, queues := [], alarms := [], jrn := Journal.init, twin := Twin.init, rtc := Rtc.init,
    net := Net.init, can := [], sent := [], loops := [], slv := [] }

/-- The machine right after reset: power-on reset is released (R40), the start-up sequence has not run. -/
def State.reset : State := ⟨Cfg.init, Dyn.init NonVol.init, []⟩

end Sys2Proof.Machine
end

