-- ==== Sys2Proof/Machine/Ops.lean ====
section
/-! DEFINITION. The named operations on registers, fields, polders, the clock and the free values, on which every
meaning rests. -/

namespace Sys2Proof.Machine

/-- What a command answers. -/
abbrev Out := Host.Outcome State Fault Refusal

/-- The shape of nearly every meaning: the dynamic state changes as `f` says, the locked configuration and the queue
do not. While the module holds itself in reset nothing happens (R57, R274, R467). -/
def State.upd (s : State) (f : Cfg → Dyn → Dyn) : Out :=
  .next (if s.dyn.boot.held then s else { s with dyn := f s.cfg s.dyn })

/-- A change that happens whether or not the module holds itself in reset (key, jumper, supply, RTC). -/
def State.always (s : State) (f : Cfg → Dyn → Dyn) : Out := .next { s with dyn := f s.cfg s.dyn }

/-- A signed number saturated to `n` bits. -/
def satTo (n : Nat) (v : Int) : Int := max (-(2 ^ (n - 1) : Int)) (min (2 ^ (n - 1) - 1 : Int) v)

/-- Insert by a rank; equal ranks keep their order. -/
def insertBy {α : Type} (f : α → Nat) (x : α) : List α → List α
  | [] => [x]
  | y :: l => if f x ≤ f y then x :: y :: l else y :: insertBy f x l

/-! Registers and fields. -/

def Dyn.rd (d : Dyn) (a : Nat) : Word := sget 0 d.regs a
def Dyn.wr (d : Dyn) (a : Nat) (v : Word) : Dyn := { d with regs := sput 0 d.regs a v }
def Dyn.get (d : Dyn) (f : Fld) : Nat := (d.rd f.addr).field f.lo f.width
def Dyn.put (d : Dyn) (f : Fld) (v : Nat) : Dyn := d.wr f.addr ((d.rd f.addr).setField f.lo f.width v)
/-- A one-bit field as a Bool. -/
def Dyn.flag (d : Dyn) (f : Fld) : Bool := d.get f != 0
def Dyn.setFlag (d : Dyn) (f : Fld) (b : Bool) : Dyn := d.put f (b2n b)
/-- Count one event in a saturating field. -/
def Dyn.bump (d : Dyn) (f : Fld) : Dyn := d.put f (min (d.get f + 1) (2 ^ f.width - 1))
/-- Count `n` events in a saturating field. -/
def Dyn.bumpBy (d : Dyn) (f : Fld) (n : Nat) : Dyn := d.put f (min (d.get f + n) (2 ^ f.width - 1))

/-- An LK register (its reset value until the boot code writes it). -/
def Cfg.rd (c : Cfg) (a : Nat) : Word := sget 0 c.lk a
def Cfg.get (c : Cfg) (f : Fld) : Nat := (c.rd f.addr).field f.lo f.width
def Cfg.flag (c : Cfg) (f : Fld) : Bool := c.get f != 0

/-! Free values. -/

/-- Take the next free word. -/
def Dyn.fresh (d : Dyn) : Word × Dyn := (Config.freeWord d.free, { d with free := d.free + 1 })

/-- Load register `a` with a free word. -/
def Dyn.wrFresh (d : Dyn) (a : Nat) : Dyn := let (v, d) := d.fresh; d.wr a v

/-- `num / den` (den > 0) to an integer where the spec states no rounding: exact when it divides, else the integer below
or above as the free value says. -/
def Dyn.roundFree (d : Dyn) (num : Int) (den : Nat) : Int × Dyn :=
  let q := num / (den : Int)
  if num % (den : Int) = 0 then (q, d)
  else (if Config.roundUp num den then q + 1 else q, d)

/-! Polders, channels, queues. -/

def Dyn.polder (d : Dyn) (p : Nat) : Polder := sget Polder.init d.pol p
def Dyn.setPolder (d : Dyn) (p : Nat) (f : Polder → Polder) : Dyn :=
  { d with pol := sput Polder.init d.pol p (f (d.polder p)) }
/-- CONFIGURED of PLD_CFG (R16). -/
def Cfg.polder (c : Cfg) (p : Nat) : Bool := c.flag (F.PLD_CFG_CONFIGURED p)
/-- PLD_STATE.STATE: 0 UNCONFIGURED, 1 STOP, 2 RUN, 3 HOLD, 4 FAULT. -/
def Dyn.mode (d : Dyn) (p : Nat) : Nat := d.get (F.PLD_STATE_STATE p)
def Dyn.dig (d : Dyn) (n : Nat) : Dio := sget Dio.init d.dio n
def Dyn.setDig (d : Dyn) (n : Nat) (f : Dio → Dio) : Dyn := { d with dio := sput Dio.init d.dio n (f (d.dig n)) }
def Dyn.ana (d : Dyn) (m : Nat) : Aio := sget Aio.init d.aio m
def Dyn.setAna (d : Dyn) (m : Nat) (f : Aio → Aio) : Dyn := { d with aio := sput Aio.init d.aio m (f (d.ana m)) }
def Dyn.queue (d : Dyn) (q : Nat) : HQueue := sget HQueue.init d.queues q
def Dyn.setQueue (d : Dyn) (q : Nat) (f : HQueue → HQueue) : Dyn :=
  { d with queues := sput HQueue.init d.queues q (f (d.queue q)) }

/-- The polders in number order. -/
def polders : List Nat := List.range 16
/-- The digital channels, and the channels of group `g` (R11). -/
def digitals : List Nat := List.range 96
def groupOf (n : Nat) : Nat := n / 16
def analogues : List Nat := List.range 32

/-! Module state: MOD_STATE.STATE 0 STARTUP, 1 RUN, 2 STOP, 3 FAULT, 4 REPLAY, 5 SERVICE. -/

def Dyn.modState (d : Dyn) : Nat := d.get F.MOD_STATE_STATE
/-- The module enters a state with a cause; the time in RUN counts from its entry into RUN (R66). -/
def Dyn.enter (d : Dyn) (st cause : Nat) : Dyn :=
  let since := if st = 1 then d.boot.runAt.orElse (fun _ => some d.clk.cycles) else none
  ((({ d with boot := { d.boot with runAt := since } } : Dyn).put F.MOD_STATE_STATE st).put F.MOD_STATE_CAUSE cause)
/-- RUN or STOP: the state of a module whose frames run normally. -/
def Dyn.running (d : Dyn) : Bool := d.modState == 1 || d.modState == 2
/-- Current frame number. -/
def Dyn.fn (d : Dyn) : Word := d.rd Reg.SLC_FN
/-- Unit B (MOD_UNIT.UNIT). -/
def Dyn.unitB (d : Dyn) : Bool := d.flag F.MOD_UNIT_UNIT

/-! The clock (R338–R340). -/

/-- FT, the nanosecond count modulo 2³². -/
def Dyn.ft (d : Dyn) : Word := BitVec.ofNat 32 (d.clk.ft >>> 24)
/-- Its extension, for intervals beyond the wrap (R292). -/
def Dyn.now (d : Dyn) : Nat := d.clk.ft >>> 24
/-- PTP nanoseconds, without the fraction. -/
def Dyn.ptpNs (d : Dyn) : Nat := d.clk.ns24 >>> 24

/-- One second in 2⁻²⁴ ns. -/
def second24 : Nat := 10 ^ 9 * 2 ^ 24

/-- PTP time advanced by `x` units of 2⁻²⁴ ns. -/
def Clock.addPtp (k : Clock) (x : Nat) : Clock :=
  let t := k.ns24 + x
  { k with ns24 := t % second24, sec := k.sec + BitVec.ofNat 48 (t / second24) }

/-- `n` fabric cycles at increment `incr` (R338: both times advance by TSU_INCR in each). -/
def Clock.run (k : Clock) (incr n : Nat) : Clock :=
  let k' := k.addPtp (n * incr)
  { k' with ft := k.ft + n * incr, cycles := k.cycles + n }

/-- Ticks of the 32,768 Hz crystal in `n` fabric cycles of 2 ns, and the advance of RTC_TICK under the trim (R367, R368):
in each of the first |TRIM| slots of 8,192 ticks of a window of 2²⁰, one count (the slot's first) is corrected. -/
def trimmed (t raw : Nat) : Nat := raw / 2 ^ 20 * t + min t ((raw % 2 ^ 20 + 8191) / 8192)

def Rtc.advance (r : Rtc) (trimReg : Word) (n : Nat) : Rtc :=
  let ph := r.phase + n * 32768
  let step := fun (r : Rtc) (k : Nat) =>
    let t := (r.trim.toInt.natAbs)
    let c := trimmed t (r.raw + k) - trimmed t r.raw
    let adv := if r.trim.toInt < 0 then k - c else k + c
    { r with raw := r.raw + k, tick := r.tick + BitVec.ofNat 48 adv }
  let total := ph / 500000000
  let left := 2 ^ 20 - r.raw % 2 ^ 20
  let r := { r with phase := ph % 500000000 }
  if total < left then step r total
  else { step { step r left with trim := trimReg } (total - left) with phase := ph % 500000000 }

/-- TRIM of RTC_TRIM as a signed number. -/
def Dyn.trimReg (d : Dyn) : Word := (BitVec.ofNat 8 ((d.rd Reg.RTC_TRIM).field 0 8)).signExtend 32

/-- `n` fabric cycles pass, on the time base and in the always-on domain; a wrap of FT sets TSU_STATUS.WRAP, and its
entry waits (R363). In
DEEP DOZE the time base steps by 20 cycles at a time (R342). -/
def Dyn.ticks (d : Dyn) (n : Nat) : Dyn :=
  let n := if d.flag F.TSU_STATUS_DEEP then (n + 19) / 20 * 20 else n
  let k := d.clk.run (d.rd Reg.TSU_INCR).toNat n
  let wraps := k.ft >>> 56 != d.clk.ft >>> 56
  let d := { d with clk := k, rtc := d.rtc.advance d.trimReg n }
  if wraps then { d.wr Reg.TSU_STATUS ((d.rd Reg.TSU_STATUS).setBit 12 true) with tsu := { d.tsu with wraps := d.tsu.wraps + 1 } }
  else d

/-- The account of dozing brought up to cycle `t` (MOD_PWR_STATUS.DOZE_PCT). -/
def Doze.roll (z : Doze) (t : Nat) : Doze :=
  let n := 500000000
  let s := t / n
  if s ≤ z.sec then z
  else
    let dozed := fun (k : Nat) => match z.since with
      | some a => (k + 1) * n - max a (k * n)
      | none => 0
    let full := if s = z.sec + 1 then z.acc + dozed z.sec else dozed (s - 1)
    { z with sec := s, acc := 0, last := full * 100 / n }

/-- Dozing begins or ends. -/
def Dyn.dozeTo (d : Dyn) (on : Bool) : Dyn :=
  let t := d.clk.cycles
  let z := d.slc.doze.roll t
  let z : Doze := match z.since with
    | some a => { z with acc := z.acc + (t - max a (z.sec * 500000000)) }
    | none => z
  { d with slc := { d.slc with doze := { z with since := if on then some t else none } } }

/-- The least number of cycles after which FT is no longer before `w` (R7). -/
def Dyn.cyclesTo (d : Dyn) (w : Word) : Nat :=
  let diff := (w - d.ft).toInt
  if diff ≤ 0 then 0
  else
    let need := diff.toNat * 2 ^ 24 - d.clk.ft % 2 ^ 24
    let incr := (d.rd Reg.TSU_INCR).toNat
    if incr = 0 then 0 else (need + incr - 1) / incr

/-- Advance the clock to FT `w` when that lies ahead (R7). -/
def Dyn.advTo (d : Dyn) (w : Word) : Dyn := d.ticks (d.cyclesTo w)

/-! Frame quantities (R73–R78), in ns and lane cycles. -/

def Cfg.periodUs (c : Cfg) : Nat := c.get F.SLC_PERIOD_UNITS * 10
def Cfg.period (c : Cfg) : Nat := c.periodUs * 1000
def Cfg.offset (c : Cfg) : Nat := c.get F.SLC_OFFSET_UNITS * 5000
/-- W, the execution window per lane. -/
def Cfg.winW (c : Cfg) : Nat := (c.offset - 12000) / 2
/-- B, the logic berm, rounded up. -/
def Cfg.berm (c : Cfg) : Nat := (c.winW * 5 + 99) / 100
/-- K, the polder window. -/
def Cfg.winK (c : Cfg) : Nat := c.winW - c.berm
/-- S, the event slot length. -/
def Cfg.slotS (c : Cfg) : Nat := c.winK / 16
/-- Budgetable loop issue slots: 2 × (W div 10) less 5 % rounded up. -/
def Cfg.loopCap (c : Cfg) : Nat := let n := 2 * (c.winW / 10); n - (n * 5 + 99) / 100
/-- Budgetable solver cycles: P / 2 ns less 5 % rounded up. -/
def Cfg.slvCap (c : Cfg) : Nat := let n := c.period / 2; n - (n * 5 + 99) / 100
/-- TWIN of SLC_CTRL. -/
def Cfg.twin (c : Cfg) : Bool := c.flag F.SLC_CTRL_TWIN

/-- FT at `ns` nanoseconds after T. -/
def Dyn.atT (d : Dyn) (ns : Nat) : Word := d.slc.tFt + BitVec.ofNat 32 ns

/-- ns since T of the current frame. -/
def Dyn.sinceT (d : Dyn) : Nat := (d.ft - d.slc.tFt).toNat

/-- FT of the slot boundary b_i (R84). -/
def Dyn.slotAt (c : Cfg) (d : Dyn) (i : Nat) : Word := d.atT (8000 + i * c.slotS * 2)

/-- An access error under R24. -/
def Dyn.accErr (d : Dyn) (addr : Word) : Dyn := (d.bump F.MOD_ACC_ERR_COUNT).wr Reg.MOD_ACC_ADDR addr

/-- An event that falls due at `t`, in ns on the extension of FT: the clock is brought to `t` when that lies within a frame
of the present; earlier the event has no effect (DESIGN CHOICE, log entry 107). -/
def Dyn.whenDue (c : Cfg) (d : Dyn) (t : Nat) (f : Dyn → Dyn) : Dyn :=
  if t ≤ d.now then f d
  else if t ≤ d.now + (if d.slc.framing then c.period else 10 ^ 9) then f (d.advTo (BitVec.ofNat 32 t)) else d

/-- The same in fabric cycles since reset. -/
def Dyn.whenCycle (c : Cfg) (d : Dyn) (n : Nat) (f : Dyn → Dyn) : Dyn :=
  if n ≤ d.clk.cycles then f d
  else if 2 * (n - d.clk.cycles) ≤ (if d.slc.framing then c.period else 10 ^ 9) then f (d.ticks (n - d.clk.cycles)) else d

/-- Frames that `ms` milliseconds last, rounded up (R451). -/
def Cfg.framesOf (c : Cfg) (us : Nat) : Nat := if c.periodUs = 0 then 0 else (us + c.periodUs - 1) / c.periodUs

end Sys2Proof.Machine
end

