-- ==== Sys2Proof/Machine/Events.lean ====
section
/-! DEFINITION. What the rest of the module reports to: the journal's freeze triggers (R450–R454), the alarm records
(R413–R415) and the event queues of the polders (R105, R146). -/

namespace Sys2Proof.Machine

/-! Role (R244): 0 ABSENT, 1 WAITING, 2 ACTIVE, 3 SHADOW, 4 JOINING, 5 MAPPED, 6 VERIFY, 7 GIVEN_UP. -/

def Dyn.role (d : Dyn) : Nat := d.get F.SHL_STATUS_ROLE

/-- Before the first commit the outputs are off (R44); those of a unit that joins, or gives up joining, stand at their safe
values (R244). -/
def Dyn.outputsOff (d : Dyn) : Bool := !d.slc.opened && decide (d.role < 4)

/-- A frame without a sending unit is counted (R280). -/
def Dyn.gap (d : Dyn) : Dyn := d.wr Reg.STN_GAP (d.rd Reg.STN_GAP + 1)

/-! Alarm records. -/

/-- The codes of R414 and of the journal whose records arise from agreed state (R415). -/
def agreedCode (code : Nat) : Bool :=
  code == 0x0201 || code == 0x0202 || code == 0x0801 || code == 0x0802 || 0x1000 ≤ code

/-- The next event number: EVN counts from 1 (R413), and NET_ALM_EVN reads 0 until the first record (R417). -/
def Dyn.nextEvn (d : Dyn) : Nat := max 1 (d.get F.NET_ALM_EVN_VALUE)

/-- Queue a record (R412–R415): EVN counts from 1, the last 8,192 are kept; PTP time is that at T of its FN. -/
def Dyn.pushRec (d : Dyn) (code source : Nat) (v v2 : Word) (cls : BitVec 2) (fn ft : Word) (sec : BitVec 48) (ns : Nat) :
    Dyn :=
  let evn := d.nextEvn
  let r : AlarmRec :=
    { evn := evn, code := code, cls := cls, agreed := agreedCode code && (d.role == 2 || d.role == 6), gap := false,
      fn := fn, ft := ft, sec := sec, ns := ns, source := source, value := v, value2 := v2 }
  { d with alarms := (r :: d.alarms).take 8192 }.put F.NET_ALM_EVN_VALUE (evn + 1)

/-- A record of this instant and frame; before FN 0 it carries the time of its detection. -/
def Dyn.pushAlarm (d : Dyn) (code source : Nat) (v v2 : Word) : Dyn :=
  let (sec, ns) := if d.slc.framing then (d.slc.tSec, d.slc.tNs) else (d.clk.sec, d.ptpNs)
  d.pushRec code source v v2 (Config.alarmClass code) d.fn d.ft sec ns

/-- An alarm code that a trigger entry enables (R450). -/
def Cfg.triggersOn (c : Cfg) (code : Nat) : Bool :=
  (List.range 16).any fun i => c.flag (F.JRN_TRIG_EN i) && c.get (F.JRN_TRIG_CODE i) == code

/-! Journal items and triggers. -/

def Dyn.item (d : Dyn) (kind : Nat) (payload : List Word) : Dyn :=
  { d with jrn := { d.jrn with items := ⟨kind, payload⟩ :: d.jrn.items } }

/-! Windows in flash (R453, R454). -/

def Dyn.window (d : Dyn) (i : Nat) : Option Window := sget none d.nv.windows i
def Dyn.setWindow (d : Dyn) (i : Nat) (w : Option Window) : Dyn :=
  let ws := sput none d.nv.windows i w
  let d : Dyn := { d with nv := { d.nv with windows := ws } }
  let n := (ws.filter fun e => e.2.isSome).length
  (d.setFlag F.JRN_STATUS_ANY (n != 0)).put F.JRN_STATUS_USED (n - 1)

/-- The place a new window takes in flash (R454): a free one, else the oldest not PROTECTED, else none; with KEEP only
a free one. `none` also when the flash is worn out (R462). -/
def Dyn.windowPlace (c : Cfg) (d : Dyn) : Option Nat :=
  if d.flag F.JRN_STATUS_WORN then none
  else
    let busy := d.jrn.copying.map (·.2) ++ (d.jrn.collecting.bind (·.2.1)).toList
    match (List.range 16).find? (fun i => (d.window i).isNone && !busy.contains i) with
    | some i => some i
    | none =>
      if c.flag F.JRN_CFG_FLASH_POLICY then none
      else
        (List.range 16).foldl (fun (best : Option Nat) i =>
          match d.window i with
          | none => best
          | some w =>
            if w.prot || busy.contains i then best
            else match best.bind d.window with
              | none => some i
              | some b => if w.age < b.age then some i else best) none

/-- A trigger is recorded in an item, and in the flags of its frame's record. -/
def Dyn.triggerItem (d : Dyn) (cause source : Nat) : Dyn :=
  let d := d.item 6 [BitVec.ofNat 32 cause, BitVec.ofNat 32 source]
  { d with jrn := { d.jrn with trigger := true } }

/-- A secondary trigger is counted in the window that collects (R452). -/
def Dyn.secondary (d : Dyn) : Dyn :=
  match d.jrn.collecting with
  | some (w, pl, last) =>
    { d with jrn := { d.jrn with collecting := some ({ w with trigs := min (w.trigs + 1) 255 }, pl, last) } }
  | none => d

/-- A record of the journal itself is queued while its window collects: where its code is enabled in JRN_TRIG[i], it is a
secondary trigger (R450, R452). -/
def Dyn.journalAlarm (c : Cfg) (d : Dyn) (code source : Nat) (v v2 : Word) : Dyn :=
  let d := d.pushAlarm code source v v2
  if c.triggersOn code then (d.triggerItem 1 code).secondary else d

/-- A window with what its header names of the unit and the running image (R454). -/
def Dyn.windowOf (c : Cfg) (d : Dyn) (cause : Nat) (fn0 frame fn1 : Word) (short : Bool) (recs : List JRec)
    (ckpts : List Checkpoint) : Window :=
  { valid := true, prot := false, replayable := cause != 8, trunc := false, short := short, unitB := d.unitB,
    imported := false, armed := false, armArg := 0, trigs := 0, cause := cause, fn0 := fn0, tfn := frame, fn1 := fn1,
    copied := 0, stnId := d.nv.stnId, imageId := c.img.imageId, fwRev := d.rd Reg.MOD_FW_REV,
    hwMajor := d.get F.MOD_HW_REV_MAJOR, tagOk := true, recs := recs, ckpts := ckpts, age := d.jrn.ages }

/-- The first frame that a window wants (R451). -/
def Cfg.wantFrom (c : Cfg) (frame : Word) : Word := frame - BitVec.ofNat 32 (c.framesOf (c.get F.JRN_CFG_PRE_S * 10 ^ 6))

/-- A trigger while a window collects is a secondary trigger (R452); otherwise it opens a window (R450, R451) of what
the ring holds of it, and takes its place in flash, from which an older window goes at once; that of a POWER window is the
power-fail area. A window that is not copied because the flash is worn out queues no JRN_FLASH_FULL (R462); choices in log
entry 113. -/
def Dyn.freeze (c : Cfg) (d : Dyn) (cause source : Nat) (frame : Word) : Dyn :=
  let d := d.triggerItem cause source
  match d.jrn.collecting with
  | some _ => d.secondary
  | none =>
    let want := c.wantFrom frame
    let last := frame + BitVec.ofNat 32 (c.framesOf (c.get F.JRN_CFG_POST_S * 10 ^ 6))
    let before := d.jrn.ckpts.find? fun k => !later k.fn want
    let oldest := d.jrn.ckpts.getLast?
    let fn0 := match before, oldest with
      | some k, _ => k.fn
      | none, some k => k.fn
      | none, none => frame
    let within := fun (fn : Word) => !later fn0 fn && !later fn last
    let w := d.windowOf c cause fn0 frame frame before.isNone (d.jrn.ring.filter fun r => within r.fn)
      (if cause = 8 then [] else d.jrn.ckpts.filter fun k => within k.fn)
    let pl := if cause = 8 then none else d.windowPlace c
    let d := match pl with
      | some p => d.setWindow p none
      | none => d
    let d := { d with jrn := { d.jrn with collecting := some (w, pl, last), ages := d.jrn.ages + 1,
                                          unfinished := d.jrn.writing.map fun (k : Checkpoint) => k.fn } }
    let d := d.setFlag F.JRN_STATUS_COLLECTING true
    let d := d.journalAlarm c 0x0A01 (pl.getD 0) (BitVec.ofNat 32 cause) frame
    if pl.isNone && cause != 8 && !d.flag F.JRN_STATUS_WORN then d.journalAlarm c 0x0A03 0 0 0 else d

/-- Queue an alarm record; one enabled in JRN_TRIG[i] is a trigger EVENT (R450). -/
def Dyn.alarm (c : Cfg) (d : Dyn) (code source : Nat) (v v2 : Word) : Dyn :=
  let d := d.pushAlarm code source v v2
  if c.triggersOn code then d.freeze c 1 code d.fn else d

/-! Event queues. -/

/-- A trigger or system event of polder `p`, detected and waiting for its slot (R84, R146). Slot and FN are set at
its collection. -/
def Dyn.post (c : Cfg) (d : Dyn) (p kind task source : Nat) (ft value : Word) : Dyn :=
  if c.polder p then
    d.setPolder p fun s => { s with trig := s.trig ++ [⟨kind, 0, task, source, ft, value, 0⟩] }
  else d

/-- Ordering within a slot (R146): FT of detection under R7, then KIND, then SOURCE. -/
def EvEntry.before (a b : EvEntry) : Bool :=
  later b.ft a.ft || (a.ft == b.ft && (a.kind < b.kind || (a.kind == b.kind && a.source ≤ b.source)))

def insertEv (e : EvEntry) : List EvEntry → List EvEntry
  | [] => [e]
  | x :: l => if e.before x then e :: x :: l else x :: insertEv e l

/-- Entries in the order of R146 (a stable insertion from the back keeps equal entries in arrival order). -/
def sortEv (l : List EvEntry) : List EvEntry := l.foldr insertEv []

/-- Append to the event queue of `p`; a full queue keeps what it holds and counts the drop (R105). -/
def Dyn.enqueue (d : Dyn) (p : Nat) (e : EvEntry) : Dyn :=
  if (d.polder p).evq.length < 1024 then d.setPolder p fun s => { s with evq := s.evq ++ [e] }
  else d.bump (F.PLD_EVQ_OVF_COUNT p)

end Sys2Proof.Machine
end

