-- ==== Sys2Proof/Machine/Levee.lean ====
section
/-! DEFINITION. The levee matrix (R106–R126): literals, terms, gate commands, flags and term tests, evaluated whole
after every change of a source line, and the value each digital output driver takes (R114). -/

namespace Sys2Proof.Machine

/-! Output drivers (R114, R311). -/

/-- The gate command of output `n`. -/
def Dyn.gate (d : Dyn) (n : Nat) : Bool := (d.rd (Reg.LVE_TRIP0 + 4 * (n / 32))).bit (n % 32)

/-- SAFE of DIO_OCFG: OFF, ON or HOLD-LAST (R307). -/
def Dyn.safeValue (c : Cfg) (d : Dyn) (n : Nat) : Bool :=
  match c.get (F.DIO_OCFG_SAFE n) with
  | 1 => true
  | 2 => (d.dig n).last45
  | _ => false

/-- The force table entry acting on bit `n` of output word `n / 32` (R181). -/
def Dyn.outForce (d : Dyn) (word : Bool) (index : Nat) : Option Word :=
  (d.life.outForces.findSome? fun e => match e.2 with
    | some f => if f.space == 2 && f.word == word && f.index == index then some f.value else none
    | none => none)

/-- A pair digital output of a twin (R276). -/
def Cfg.pairDo (c : Cfg) (n : Nat) : Bool :=
  c.twin && (c.rd (Reg.SHL_PAIR_DO0 + 4 * (n / 32))).bit (n % 32)

/-- This unit is sending (R244): its role is ACTIVE. -/
def Dyn.sending (d : Dyn) : Bool := d.role == 2

/-- Ranks 4 and 5: the force, else the committed program value, which a pair output of a unit that is not sending
replaces by OFF (R277); a unit is sending or not at its commits (R244). After a suppressed commit nothing has switched (R262). -/
def Dyn.lowRanks (c : Cfg) (d : Dyn) (n : Nat) : Bool :=
  if d.twin.fieldHeld then (d.dig n).last45
  else match d.outForce false n with
  | some v => v.bit 0
  | none => if c.pairDo n && !d.twin.pairOn then false else (sget 0 d.outC (n / 32)).bit (n % 32)

/-- The value of ranks 2 to 5; before the commit of FN 0 trips alone switch an output (R44), and over a failed link no trip
reaches it (R121). -/
def Dyn.driverUnder (c : Cfg) (d : Dyn) (n : Nat) : Bool :=
  if d.gate n && !(d.dig n).cut then (c.rd (Reg.LVE_TRIPST0 + 4 * (n / 32))).bit (n % 32)
  else if d.outputsOff then false
  else if d.flag (F.DIO_STATUS_WD_SAFE n) then d.safeValue c n
  else d.lowRanks c n

/-- The driver's value: the highest-ranked level that applies (R114); every output is off in REPLAY (R458). -/
def Dyn.driver (c : Cfg) (d : Dyn) (n : Nat) : Bool :=
  if d.modState == 4 || d.flag (F.DIO_STATUS_LOCKOUT n) || d.flag (F.DIO_STATUS_BROWNOUT_LATCHED n) then false else d.driverUnder c n

/-- What the switch does: its driver's value, off while shut down or latched off (R302). -/
def Dyn.switchOn (c : Cfg) (d : Dyn) (n : Nat) : Bool :=
  d.driver c n && !d.flag (F.DIO_STATUS_THERMAL n) && !d.flag (F.DIO_STATUS_RETRY_LATCHED n)

def Cfg.isOut (c : Cfg) (n : Nat) : Bool := c.flag (F.DIO_CFG_DIR n)

/-! Status word. -/

/-- INVALID, QUESTIONABLE, DIAG_SUPP and DIR follow from the other bits (R304, R310, R312). -/
def Dyn.fixDio (c : Cfg) (d : Dyn) (n : Nat) : Dyn :=
  let out := c.isOut n
  let fl := fun f => d.flag f
  let inv := if out then fl (F.DIO_STATUS_LINK_FAIL n) || fl (F.DIO_STATUS_DRV_FAIL n)
    else fl (F.DIO_STATUS_LINK_FAIL n) || fl (F.DIO_STATUS_LOCKOUT n) || fl (F.DIO_STATUS_WIRE_BREAK n) ||
      fl (F.DIO_STATUS_WB_ACTIVE n)
  let uv := d.flag (F.DIO_GSTATUS_UV_WARN (groupOf n))
  let supp := out && (uv || (c.pairDo n && !d.driver c n))
  let d := d.setFlag (F.DIO_STATUS_INVALID n) inv
  let d := d.setFlag (F.DIO_STATUS_QUESTIONABLE n) (uv && !out)
  let d := d.setFlag (F.DIO_STATUS_DIAG_SUPP n) supp
  d.setFlag (F.DIO_STATUS_DIR n) out

/-- Diagnostics that UV_WARN holds clear (R304). -/
def Dyn.diagOn (d : Dyn) (n : Nat) : Bool := !d.flag (F.DIO_GSTATUS_UV_WARN (groupOf n))

/-- A driver that was latched off and is in service again clears THERMAL when it turns on (R302, R303). -/
def Dyn.turnOn (c : Cfg) (d : Dyn) (n : Nat) : Dyn :=
  match (d.dig n).rearmed with
  | some retry =>
    if d.driver c n then
      (d.setFlag (F.DIO_STATUS_THERMAL n) false).setDig n fun s =>
        { s with rearmed := none, retryAt := if retry then some d.now else s.retryAt }
    else d
  | none => d

/-- After a change of the driver value, or the start of a suppression: conditions end whose rule no longer holds (R303,
R304). -/
def Dyn.dropConds (c : Cfg) (d : Dyn) (n : Nat) : Dyn :=
  let d := d.turnOn c n
  let on := d.driver c n
  let clr := fun (d : Dyn) (b : Bool) (f : Fld) => if b && d.flag f then d.setFlag f false else d
  let off := !d.diagOn n
  let d := clr d (on || off || c.pairDo n) (F.DIO_STATUS_EXT_DRIVE n)
  let d := clr d (on || off || c.pairDo n) (F.DIO_STATUS_OPEN_OFF n)
  let d := clr d (!on || off) (F.DIO_STATUS_OPEN_ON n)
  let hot := d.flag (F.DIO_STATUS_OVERLOAD n) || d.flag (F.DIO_STATUS_THERMAL n)
  let d := clr d (!on || off || hot) (F.DIO_STATUS_DRV_FAIL n)
  let d := clr d (!d.switchOn c n) (F.DIO_STATUS_OVERLOAD n)
  let d := clr d off (F.DIO_STATUS_REVERSE n)
  d.fixDio c n

/-! Source lines and literals. -/

/-- A source line; a channel configured as an output has none (R107). -/
def Dyn.source (d : Dyn) (i : Nat) : Bool := d.lve.src.getLsbD i

def Dyn.setSource (d : Dyn) (i : Nat) (b : Bool) : Dyn :=
  let m : BitVec 176 := BitVec.ofNat 176 (1 <<< i)
  { d with lve := { d.lve with src := if b then d.lve.src ||| m else d.lve.src &&& ~~~m } }

/-- The register that holds literal slots 2k and 2k + 1 of term `t` (R127). -/
def litReg (t k : Nat) : Nat := Reg.LVE_LIT01 t + 4 * k

/-- Literal slot `i` of term `t`: valid, and its value after polarity (R109). -/
def Dyn.literal (c : Cfg) (d : Dyn) (t i : Nat) : Bool × Bool :=
  let w := c.rd (litReg t (i / 2))
  let sh := if i % 2 = 1 then 16 else 0
  (w.bit (sh + 15), (d.source (w.field sh 8)) != (w.bit (sh + 14)))

/-- Raw state of term `t`: the AND of its valid literals; a term without one is inactive (R109). Slot `i` takes bit `i`
of `value` where bit `i` of `mask` is set (R124). -/
def Dyn.rawOf (c : Cfg) (d : Dyn) (t mask value : Nat) : Bool :=
  let lits := (List.range 8).map fun i => (d.literal c t i, i)
  let valid := lits.filter fun x => x.1.1
  !valid.isEmpty && valid.all fun x => if mask.testBit x.2 then value.testBit x.2 else x.1.2

def Dyn.rawReal (c : Cfg) (d : Dyn) (t : Nat) : Bool := d.rawOf c t 0 0
def Dyn.rawInjected (c : Cfg) (d : Dyn) (t : Nat) : Bool :=
  d.rawOf c t (d.lve.testVal.field 8 8) (d.lve.testVal.field 0 8)

/-- Bit `t` of a pair of 32-bit registers for 64 terms. -/
def Dyn.pairBit (d : Dyn) (r0 r1 t : Nat) : Bool := (d.rd (if t < 32 then r0 else r1)).bit (t % 32)
def Dyn.setPairBit (d : Dyn) (r0 r1 t : Nat) (b : Bool) : Dyn :=
  let a := if t < 32 then r0 else r1
  d.wr a ((d.rd a).setBit (t % 32) b)

def Dyn.active (d : Dyn) (t : Nat) : Bool := d.pairBit Reg.LVE_ACT0 Reg.LVE_ACT1 t
def Dyn.latched (d : Dyn) (t : Nat) : Bool := d.pairBit Reg.LVE_LATCHED0 Reg.LVE_LATCHED1 t
/-- Fabric cycles of 2 ns since term `t` became active. -/
def Dyn.activeFor (d : Dyn) (t : Nat) : Nat := d.clk.cycles - sget 0 d.lve.since t
/-- The minimum hold of term `t` runs; it ends at most 2 µs after the set value (R111). -/
def Dyn.holdingTerm (c : Cfg) (d : Dyn) (t : Nat) : Bool :=
  d.lve.holding.getLsbD t && decide (d.activeFor t < (c.get (F.LVE_HOLD_HOLD_US t) + 2) * 500)

def Dyn.setHolding (d : Dyn) (t : Nat) (b : Bool) : Dyn :=
  let m : BitVec 64 := BitVec.ofNat 64 (1 <<< t)
  { d with lve := { d.lve with holding := if b then d.lve.holding ||| m else d.lve.holding &&& ~~~m } }

/-- Term `t` becomes active, and its hold starts. -/
def Dyn.activate (c : Cfg) (d : Dyn) (t : Nat) : Dyn :=
  let d := d.setHolding t (c.get (F.LVE_HOLD_HOLD_US t) != 0)
  { d with lve := { d.lve with since := sput 0 d.lve.since t d.clk.cycles } }

/-- Term `t` stands inactive, unlatched and without a hold. -/
def Dyn.clearTerm (d : Dyn) (t : Nat) : Dyn :=
  ((d.setPairBit Reg.LVE_LATCHED0 Reg.LVE_LATCHED1 t false).setPairBit Reg.LVE_ACT0 Reg.LVE_ACT1 t false).setHolding t false

def Dyn.setRstPrev (d : Dyn) (t : Nat) (b : Bool) : Dyn :=
  let m : BitVec 64 := BitVec.ofNat 64 (1 <<< t)
  { d with lve := { d.lve with rstPrev := if b then d.lve.rstPrev ||| m else d.lve.rstPrev &&& ~~~m } }

/-- The raw state on which term `t` acts: real, real OR injected (INJECT), or injected (INJECT_INHIBIT) (R124). -/
def Dyn.actingRaw (c : Cfg) (d : Dyn) (t : Nat) : Bool :=
  if d.lve.testMode ≠ 0 && d.lve.testTerm == t then
    if d.lve.testMode = 1 then d.rawReal c t || d.rawInjected c t else d.rawInjected c t
  else d.rawReal c t

/-- One term (R110): activation, and deactivation by the end of the raw state and of the hold, or by a rising edge of
the reset literal. A raw state that ends within 4 ns of the activation has activated nothing (R112). LVE_RAW shows the
state on which the term acts, under test too (DESIGN CHOICE, log entry 104). A reset edge in the evaluation in which the raw
state goes false arrives while it is false and clears the latch (DESIGN CHOICE, log entry 104). -/
def Dyn.evalTerm (c : Cfg) (d : Dyn) (t : Nat) : Dyn :=
  let raw := d.actingRaw c t
  let rst := c.flag (F.LVE_TCFG_RST_VALID t) &&
    (d.source (c.get (F.LVE_TCFG_RST_SRC t)) != c.flag (F.LVE_TCFG_RST_NEG t))
  let edge := rst && !d.lve.rstPrev.getLsbD t
  let d := d.setRstPrev t rst
  let latching := c.flag (F.LVE_TCFG_LATCH t)
  let d := d.setPairBit Reg.LVE_RAW0 Reg.LVE_RAW1 t raw
  if raw then
    let d := if d.active t then d else d.activate c t
    let d := if latching then d.setPairBit Reg.LVE_LATCHED0 Reg.LVE_LATCHED1 t true else d
    d.setPairBit Reg.LVE_ACT0 Reg.LVE_ACT1 t true
  else if d.active t && decide (d.activeFor t < 2) then d.clearTerm t
  else if d.holdingTerm c t then d
  else if latching then
    if edge then
      (d.setPairBit Reg.LVE_LATCHED0 Reg.LVE_LATCHED1 t false).setPairBit Reg.LVE_ACT0 Reg.LVE_ACT1 t false
    else d
  else d.setPairBit Reg.LVE_ACT0 Reg.LVE_ACT1 t false

/-- Terms whose mappings are connected: active, and not under INJECT_INHIBIT (R124). -/
def Dyn.driving (d : Dyn) (t : Nat) : Bool := d.active t && !(d.lve.testMode == 2 && d.lve.testTerm == t)

/-- The OR over the driving terms of a map register. -/
def Dyn.orMap (c : Cfg) (d : Dyn) (reg : Nat → Nat) : Word :=
  (List.range 64).foldl (fun w t => if d.driving t then w ||| c.rd (reg t) else w) 0

/-- Gate commands and levee flags (R113), with what the disagreeing plane adds (R120), and the TRIPPED status bits. -/
def Dyn.driveGates (c : Cfg) (d : Dyn) : Dyn :=
  let g := d.lve.planeGate
  let d := d.wr Reg.LVE_TRIP0 (d.orMap c Reg.LVE_MAP0 ||| g.extractLsb' 0 32)
  let d := d.wr Reg.LVE_TRIP1 (d.orMap c Reg.LVE_MAP1 ||| g.extractLsb' 32 32)
  let d := d.wr Reg.LVE_TRIP2 (d.orMap c Reg.LVE_MAP2 ||| g.extractLsb' 64 32)
  d.wr Reg.LVE_FLAG ((d.orMap c Reg.LVE_FMAP ||| d.lve.planeFlag.setWidth 32) &&& 0xFFFF)

/-- TRIPPED (R312) follows the gate command, and with it the driver's value. A gate command that ends within 4 ns was a pulse
that reaches no driver (R112): what the output's diagnostics lost by it stands again. -/
def Dyn.tripStatus (c : Cfg) (d : Dyn) : Dyn :=
  digitals.foldl (fun d n =>
    if c.flag (F.DIO_CFG_DIR n) && d.flag (F.DIO_STATUS_TRIPPED n) != d.gate n then
      if d.gate n then
        let x := (d.clk.cycles, d.rd (Reg.DIO_STATUS n) &&& 0xDF0000, (d.dig n).rearmed, (d.dig n).retryAt)
        let d : Dyn := { d with lve := { d.lve with dropped := sput (0, 0, none, none) d.lve.dropped n x } }
        (d.setFlag (F.DIO_STATUS_TRIPPED n) true).dropConds c n
      else
        let (t, lost, rearmed, retryAt) := sget (0, 0, none, none) d.lve.dropped n
        let d := d.setFlag (F.DIO_STATUS_TRIPPED n) false
        if d.clk.cycles - t < 2 then
          ((d.wr (Reg.DIO_STATUS n) (d.rd (Reg.DIO_STATUS n) ||| lost)).setDig n fun s =>
            { s with rearmed := rearmed, retryAt := retryAt }).fixDio c n
        else d.dropConds c n
    else d) d

/-- Seconds left of the test (R127): the limit less the whole seconds since its start, on the levee clock. -/
def Dyn.testRemain (c : Cfg) (d : Dyn) : Nat :=
  if d.lve.testMode = 0 then 0
  else c.get F.LVE_TEST_LIMIT_SECONDS - (d.clk.cycles - d.lve.testStart) * 2 / 10 ^ 9

/-- REAL, INJECTED, REMAIN and TEST_ACTIVE. -/
def Dyn.testStatus (c : Cfg) (d : Dyn) : Dyn :=
  let on := d.lve.testMode != 0
  let t := d.lve.testTerm
  let d := d.setFlag F.LVE_STATUS_TEST_ACTIVE on
  let d := d.setFlag F.LVE_TEST_STAT_REAL (on && d.rawReal c t)
  let d := d.setFlag F.LVE_TEST_STAT_INJECTED (on && d.rawInjected c t)
  d.put F.LVE_TEST_STAT_REMAIN (d.testRemain c)

/-- The whole matrix after a change (R117). It is live from the lock on (R45). -/
def Dyn.levee (c : Cfg) (d : Dyn) : Dyn :=
  if d.flag F.LVE_STATUS_LIVE then
    let d := (List.range 64).foldl (fun d t => d.evalTerm c t) d
    ((d.driveGates c).tripStatus c).testStatus c
  else d

/-- A source line takes a value, and the matrix follows. -/
def Dyn.sourceTo (c : Cfg) (d : Dyn) (i : Nat) (b : Bool) : Dyn := (d.setSource i b).levee c

/-! Term tests (R124–R126). -/

/-- Close the test under way: an INJECT_INHIBIT test leaves the term unlatched, its hold timer cleared. `st` is the STATE
that remains. -/
def Dyn.closeTest (d : Dyn) (st : Nat) : Dyn :=
  let t := d.lve.testTerm
  let inhibit := d.lve.testMode == 2
  let d := { d with lve := { d.lve with testMode := 0 } }
  let d := if inhibit then d.clearTerm t else d
  d.put F.LVE_TEST_STAT_STATE st

/-- End the test under way; the term is evaluated on its real sources (R126). -/
def Dyn.endTest (c : Cfg) (d : Dyn) (st : Nat) : Dyn := (d.closeTest st).levee c

/-- A write of LVE_TEST_CTRL taking effect at C (R125); the matrix is evaluated when every write of the commit has. -/
def Dyn.testCtrl (c : Cfg) (d : Dyn) (w : Word) : Dyn :=
  let mode := w.field 8 2
  let term := w.field 0 6
  let busy := d.lve.testMode != 0
  if busy && mode == d.lve.testMode && term == d.lve.testTerm then d
  else if mode = 0 then if busy then d.closeTest 0 else d.put F.LVE_TEST_STAT_STATE 0
  else if mode = 3 || busy || c.get F.LVE_TEST_LIMIT_SECONDS == 0 || !c.flag (F.LVE_TCFG_TEST_EN term) ||
      (mode == 2 && !c.flag (F.LVE_TCFG_INHIBIT_OK term)) then
    d.put F.LVE_TEST_STAT_STATE 2
  else
    let d := { d with lve := { d.lve with testMode := mode, testTerm := term, testStart := d.clk.cycles } }
    d.put F.LVE_TEST_STAT_STATE 1

/-- P0 left RUN: a test under way ends and STATE reads IDLE (R126). -/
def Dyn.testOff (c : Cfg) (d : Dyn) : Dyn := if d.lve.testMode = 0 then d else d.endTest c 0

/-- The P0 flags (R108): the SAFE values until P0's first commit, in FAULT with FAULT_SAFE, and without a P0; else what P0
committed last. A first commit without a write of LVE_P0F commits its reset value 0 (DEDUCED, log entry 105). -/
def Dyn.p0Flags (c : Cfg) (d : Dyn) : BitVec 16 :=
  let safe := !c.polder 0 || (d.mode 0 == 4 && c.flag (F.PLD_CFG_FAULT_SAFE 0))
  let v := if safe then none else d.lve.p0c
  v.getD (BitVec.ofNat 16 (c.get F.LVE_P0F_SAFE_FLAGS))

/-- The P0 flags take a value (R108). -/
def Dyn.setP0Flags (c : Cfg) (d : Dyn) (v : BitVec 16) : Dyn :=
  ({ d with lve := { d.lve with src := v ++ d.lve.src.extractLsb' 0 160 } } : Dyn).levee c

end Sys2Proof.Machine
end

