-- ==== Sys2Proof/Machine/Digital.lean ====
section
/-! DEFINITION. The digital channels (R282–R314): filters, edges, counters, frequency, supervision, wire-break tests,
output diagnostics, field-side watchdogs, coupler links and field supply. -/

namespace Sys2Proof.Machine

/-- The image configures the channel: some field of DIO_CFG or DIO_OCFG was written (R282, R284). -/
def Cfg.digUsed (c : Cfg) (n : Nat) : Bool := c.rd (Reg.DIO_CFG n) != 0 || c.rd (Reg.DIO_OCFG n) != 0
def Cfg.groupUsed (c : Cfg) (g : Nat) : Bool := (List.range 16).any fun k => c.digUsed (16 * g + k)

/-- The merge rule of an entry (R255): digital channels 0–95, analogue 96–127, remote stations 128–159, CAN channels
160–163, levee words 164. -/
def Cfg.merge (c : Cfg) (entry : Nat) : Nat := (c.rd (Reg.SHL_MRG (entry / 8))).field (4 * (entry % 8)) 4

/-! Edges. -/

/-- Filter time in ns (R286); an output's readback has a fixed 5 µs filter (R288). -/
def filterNs (code : Nat) : Nat :=
  match code with
  | 0 => 500 | 1 => 1000 | 2 => 2000 | 3 => 5000 | 4 => 10000 | 5 => 20000 | 6 => 50000 | 7 => 100000
  | 8 => 200000 | 9 => 500000 | 10 => 1000000 | 11 => 2000000 | 12 => 5000000 | 13 => 10000000 | _ => 20000000

def Cfg.filterOf (c : Cfg) (n : Nat) : Nat := if c.isOut n then 5000 else filterNs (c.get (F.DIO_CFG_FILTER n))

/-- The instant whose FT was `w`, at most 2³² ns ago, on the extension of FT. -/
def Dyn.extend (d : Dyn) (w : Word) : Nat := d.now - (d.ft - w).toNat

/-! Field-side measurements (R314, R337). -/

/-- The coupler link that a register of a field-side measurement depends on has failed. -/
def Dyn.measLost (d : Dyn) (a : Nat) : Bool :=
  if a < 0x82000 then d.flag (F.DIO_STATUS_LINK_FAIL ((a - 0x80000) / 0x40))
  else if a < 0x90000 then false
  else if a < 0x92000 then d.flag (F.AIO_GSTATUS_LINK_FAIL ((a - 0x90000) / 0x400))
  else d.flag (F.AIO_GSTATUS_LINK_FAIL ((a - 0x92000) / 0x100))

/-- The registers that report what the field side measures. -/
def isMeas (a : Nat) : Bool :=
  (0x80000 ≤ a && a < 0x81800 && a % 0x40 == 0x2C) || (0x82000 ≤ a && a < 0x82600 && a % 0x100 == 8) ||
    (0x90000 ≤ a && a < 0x91000 && a % 0x80 == 0x20) || (0x92000 ≤ a && a < 0x92400 && a % 0x100 == 4)

/-- The live value: the measurement given last within 1 ms, which is how often values are refreshed, else a free value
(log entry 8); over a failed link the last value that crossed. HEADROOM of a channel that is no output reads zero. -/
def Dyn.measWord (c : Cfg) (d : Dyn) (a : Nat) : Word :=
  if d.measLost a || d.now < sget 0 d.slc.measured a + 10 ^ 6 then d.rd a
  else if 0x90000 ≤ a && a < 0x91000 && c.get (F.AIO_CFG_MODE ((a - 0x90000) / 0x80)) ≠ 2 then
    Config.measuredWord a d.clk.cycles &&& 0xFFFF
  else Config.measuredWord a d.clk.cycles

/-- A measurement enters its register; over a failed link none crosses. -/
def Dyn.setMeas (d : Dyn) (a : Nat) (w : Word) : Dyn :=
  if d.measLost a then d
  else
    let d := d.wr a w
    { d with slc := { d.slc with measured := sput 0 d.slc.measured a d.now } }

/-- A register keeps its live value: its link fails. -/
def Dyn.holdMeas (c : Cfg) (d : Dyn) (a : Nat) : Dyn := d.wr a (d.measWord c a)

/-- The owner of a digital channel, if it has one. -/
def Cfg.digOwner (c : Cfg) (n : Nat) : Option Nat :=
  if c.flag (F.DIO_CFG_OWNED n) then some (c.get (F.DIO_CFG_OWNER n)) else none

/-- A DI_RISE or DI_FALL entry when enabled (R290). -/
def Dyn.edgeEvent (c : Cfg) (d : Dyn) (n : Nat) (rise : Bool) (raw : Word) : Dyn :=
  let en := if rise then c.flag (F.DIO_CFG_EVT_RISE n) else c.flag (F.DIO_CFG_EVT_FALL n)
  let task := if rise then c.get (F.DIO_EVT_RISE_TASK n) else c.get (F.DIO_EVT_FALL_TASK n)
  let v := if c.get (F.DIO_CFG_CNT_MODE n) = 0 then 0 else d.rd (Reg.DIO_COUNT n)
  match c.digOwner n with
  | some p => if en then d.post c p (if rise then 1 else 2) task n raw v else d
  | none => d

/-- Counting of a confirmed rising edge (R291); the counter wraps. -/
def Dyn.countEdge (c : Cfg) (d : Dyn) (n : Nat) : Dyn :=
  let v := d.rd (Reg.DIO_COUNT n)
  match c.get (F.DIO_CFG_CNT_MODE n) with
  | 1 => d.wr (Reg.DIO_COUNT n) (v + 1)
  | 2 => d.wr (Reg.DIO_COUNT n) (v - 1)
  | 3 => d.wr (Reg.DIO_COUNT n) (if (d.dig (n + 1)).level then v + 1 else v - 1)
  | _ => d

/-- Period measurement at a confirmed rising edge at time `t` (R292), and OVERRATE (R294). -/
def Dyn.freqEdge (c : Cfg) (d : Dyn) (n t : Nat) : Dyn :=
  let s := d.dig n
  let fast : Bool := match s.riseSince with
    | some r => decide (t - r < 3600)
    | none => false
  let d := if fast && !d.flag (F.DIO_STATUS_OVERRATE n) then
      (d.setFlag (F.DIO_STATUS_OVERRATE n) true).bump (F.DIO_EVCNT_OVERRATE n) else d
  let d := d.setDig n fun s => { s with riseSince := some t }
  if c.flag (F.DIO_CFG_FREQ_EN n) then
    d.setDig n fun s => match s.anchor with
      | none => { s with anchor := some t, prev := some t }
      | some _ => { s with periods := s.periods + 1, last := t, lastPeriod := s.prev.map (t - ·), prev := some t }
  else d

/-- A confirmed change of an input, outside the suspension of CHATTER (R296). -/
def Dyn.changeEvent (c : Cfg) (d : Dyn) (n : Nat) (rise : Bool) (raw : Word) : Dyn :=
  let chatN := c.get (F.DIO_CHATCFG_CHAT_N n)
  let win := c.get (F.DIO_CHATCFG_CHAT_WIN n) * 10 ^ 6
  let t := d.now
  let ch := (t :: (d.dig n).changes).filter fun x => t - x ≤ win
  if d.flag (F.DIO_STATUS_CHATTER n) then
    d.setDig n fun s => { s with changes := ch, coolCount := s.coolCount + 1, coolRaw := raw }
  else if chatN ≠ 0 && ch.length > chatN then
    let d := d.setDig n fun s => { s with changes := [], coolCount := 0, coolFrom := !rise, coolRaw := raw, coolAt := t }
    let d := (d.setFlag (F.DIO_STATUS_CHATTER n) true).bump (F.DIO_EVCNT_CHATTER n)
    match c.digOwner n with
    | some p => d.post c p 7 (c.get (F.DIO_EVT_CHAT_TASK n)) n raw (BitVec.ofNat 32 (chatN + 1))
    | none => d
  else
    (d.setDig n fun s => { s with changes := ch }).edgeEvent c n rise raw

/-- STUCK follows the state of an input (R295): it counts from a change to the active state and ends with it. -/
def Dyn.activity (c : Cfg) (d : Dyn) (n : Nat) (changed level : Bool) : Dyn :=
  if level == c.flag (F.DIO_CFG_ACT_LEVEL n) then
    if changed then d.setDig n fun s => { s with activeAt := d.now } else d
  else d.setFlag (F.DIO_STATUS_STUCK n) false

/-- The confirmed state of channel `n` becomes `level`; `raw` is the raw time of the edge (R287–R296). -/
def Dyn.confirm (c : Cfg) (d : Dyn) (n : Nat) (level : Bool) (raw : Word) : Dyn :=
  let d := d.setDig n fun s => { s with level := level }
  if c.isOut n then d
  else
    let d := d.sourceTo c n level
    let d := d.wr (if level then Reg.DIO_TS_RISE n else Reg.DIO_TS_FALL n) raw
    let d := if level then (d.countEdge c n).freqEdge c n (d.extend raw) else d
    (d.activity c n true level).changeEvent c n level raw

/-- The raw state of a channel waits for its confirmation and has held for `min` ns at `at_`. A failed link or a running
wire-break test holds the channel (R300, R308). -/
def Dyn.held (d : Dyn) (k min : Nat) (at_ : Word) : Bool :=
  let ch := d.dig k
  k < 96 && ch.raw != ch.level && min ≤ (at_ - ch.rawAt).toNat &&
    !d.flag (F.DIO_STATUS_LINK_FAIL k) && !d.flag (F.DIO_STATUS_WB_ACTIVE k)

/-- RAW_EDGE (R287): the pin crosses its threshold at `at_`, which DEEP DOZE quantises to its 40 ns (R342). What has held for the filter time by then is confirmed: a
pulse of t_f or longer always is (R286). -/
def execRawEdge (n : BitVec 7) (level : Bool) (at_ : Word) (s : State) : Out :=
  s.upd fun c d =>
    let k := n.toNat
    let d := d.advTo at_
    let ch := d.dig k
    let at_ := if d.flag F.TSU_STATUS_DEEP then d.ft else at_
    if k < 96 && ch.raw != level then
      let d := if d.held k (c.filterOf k) at_ then d.confirm c k ch.raw ch.rawAt else d
      d.setDig k fun s => { s with raw := level, rawAt := at_ }
    else d

/-- FILTER_CONFIRM (R286, R287): the raw state has held for the filter time, less up to 10 ns; the edge crosses the coupler
14 ns later. A state held for less, or equal to the confirmed one, confirms nothing. -/
def execFilterConfirm (n : BitVec 7) (at_ : Word) (s : State) : Out :=
  s.upd fun c d =>
    let k := n.toNat
    let d := d.advTo at_
    let ch := d.dig k
    if d.held k (c.filterOf k - 10) at_ then (d.advTo (at_ + 14)).confirm c k ch.raw ch.rawAt else d

/-- CHATTER_COOL_DOWN_END, CHAT_COOL after the start (R296). -/
def execChatterCoolDownEnd (n : BitVec 7) (s : State) : Out :=
  s.upd fun c d =>
    let k := n.toNat
    let due := (d.dig k).coolAt + c.get (F.DIO_CHATCFG_CHAT_COOL k) * 10 ^ 8
    if k < 96 && d.flag (F.DIO_STATUS_CHATTER k) then d.whenDue c due fun d =>
      let ch := d.dig k
      let win := c.get (F.DIO_CHATCFG_CHAT_WIN k) * 10 ^ 6
      let recent := ch.changes.filter fun x => due - x ≤ win
      if recent.length > c.get (F.DIO_CHATCFG_CHAT_N k) then
        let d := (d.setDig k fun s => { s with coolCount := 0, coolAt := due, changes := recent }).bump (F.DIO_EVCNT_CHATTER k)
        match c.digOwner k with
        | some p => d.post c p 7 (c.get (F.DIO_EVT_CHAT_TASK k)) k ch.coolRaw (BitVec.ofNat 32 ch.coolCount)
        | none => d
      else
        let d := d.setFlag (F.DIO_STATUS_CHATTER k) false
        if ch.level != ch.coolFrom then d.edgeEvent c k ch.level ch.coolRaw else d
    else d

/-- STUCK (R295). -/
def execStuck (n : BitVec 7) (s : State) : Out :=
  s.upd fun c d =>
    let k := n.toNat
    let lim := c.get (F.DIO_STUCK_MAX_ACT k) * 10 ^ 8
    if k < 96 && !c.isOut k && lim ≠ 0 && (d.dig k).level == c.flag (F.DIO_CFG_ACT_LEVEL k) &&
        !d.flag (F.DIO_STATUS_STUCK k) then d.whenDue c ((d.dig k).activeAt + lim + 1) fun d =>
      (d.setFlag (F.DIO_STATUS_STUCK k) true).alarm c 0x0501 k 0 0
    else d

/-! Wire-break tests (R298–R300). -/

/-- A test is released: the channel stops following its input for 2 ms. -/
def Dyn.startWb (c : Cfg) (d : Dyn) (n : Nat) : Dyn :=
  ((d.setDig n fun s => { s with wbAt := d.now }).setFlag (F.DIO_STATUS_WB_ACTIVE n) true).fixDio c n

/-- Class of the measured current in µA: 1 CLOSED, 2 INTACT_OPEN, 3 BROKEN, 4 INDETERMINATE. -/
def wbClass (ua : Nat) : Nat := if ua < 350 then 3 else if ua < 1500 then 2 else if ua < 2000 then 4 else 1

/-- WIRE_BREAK_TEST_END, 2 ms after the start: the result is classed, and the filter restarts from the sensed state. Over a
failed link nothing crosses (R308). -/
def execWireBreakTestEnd (n : BitVec 7) (current : BitVec 12) (level : Bool) (s : State) : Out :=
  s.upd fun c d =>
    let k := n.toNat
    if k < 96 && d.flag (F.DIO_STATUS_WB_ACTIVE k) then d.whenDue c ((d.dig k).wbAt + 2 * 10 ^ 6) fun d =>
      if d.flag (F.DIO_STATUS_LINK_FAIL k) then (d.setFlag (F.DIO_STATUS_WB_ACTIVE k) false).fixDio c k else
      let cls := wbClass current.toNat
      let d := (d.put (F.DIO_WB_RESULT k) cls).put (F.DIO_WB_CURRENT k) current.toNat
      let d := d.setFlag (F.DIO_STATUS_WB_INDET k) (cls == 4)
      let d := if cls = 4 then d else d.setFlag (F.DIO_STATUS_WIRE_BREAK k) (cls == 3)
      let d := (d.setDig k fun s => { s with raw := level, rawAt := d.ft }).setFlag
        (F.DIO_STATUS_WB_ACTIVE k) false
      let d := if (d.dig k).level != level then d.confirm c k level d.ft else d
      let d := d.fixDio c k
      if cls = 3 then d.alarm c 0x0502 k 0 0 else d
    else d

/-! Output diagnostics (R302–R305). -/

/-- Set one condition of an output when `ok` holds, and recompute INVALID. -/
def Dyn.setCond (c : Cfg) (d : Dyn) (n : Nat) (f : Nat → Fld) (ok : Bool) : Dyn :=
  if n < 96 && c.isOut n && ok then (d.setFlag (f n) true).fixDio c n else d

/-- OVERLOAD; it ends DRV_FAIL, whose rule needs none (R303). -/
def execOverload (n : BitVec 7) (s : State) : Out :=
  s.upd fun c d =>
    let k := n.toNat
    if k < 96 && c.isOut k && d.switchOn c k then (d.setFlag (F.DIO_STATUS_OVERLOAD k) true).dropConds c k else d

/-- THERMAL: the driver turns off. Under AUTO a shutdown within 1 s of a retry is a failed retry, and RETRY_MAX failed
retries in a row (0: unlimited) latch the driver off; LATCH latches at the first shutdown (R302). -/
def execThermal (n : BitVec 7) (s : State) : Out :=
  s.upd fun c d =>
    let k := n.toNat
    if k < 96 && c.isOut k then
      let ch := d.dig k
      let failed : Bool := match ch.retryAt with
        | some t => decide (d.now - t < 10 ^ 9)
        | none => false
      let cnt := if failed then ch.failedRetries + 1 else 0
      let mx := c.get (F.DIO_OCFG_RETRY_MAX k)
      let latch := c.flag (F.DIO_OCFG_RETRY k) || (mx != 0 && decide (mx ≤ cnt))
      let d := d.setDig k fun s => { s with failedRetries := cnt, retryAt := none, rearmed := none, thermalAt := d.now }
      let d := (d.setFlag (F.DIO_STATUS_THERMAL k) true).bump (F.DIO_EVCNT_THERMAL k)
      let d := if latch then d.setFlag (F.DIO_STATUS_RETRY_LATCHED k) true else d
      d.dropConds c k
    else d

/-- RETRY: after RETRY_INT, and once cooled, an AUTO driver turns on again, at once or when its value becomes ON; THERMAL
clears then (R302, R303). -/
def execRetry (n : BitVec 7) (s : State) : Out :=
  s.upd fun c d =>
    let k := n.toNat
    if k < 96 && c.isOut k && d.flag (F.DIO_STATUS_THERMAL k) && !d.flag (F.DIO_STATUS_RETRY_LATCHED k) &&
        !c.flag (F.DIO_OCFG_RETRY k) then
      d.whenDue c ((d.dig k).thermalAt + c.get (F.DIO_OCFG_RETRY_INT k) * 10 ^ 7) fun d =>
        (d.setDig k fun s => { s with rearmed := some true }).dropConds c k
    else d

/-- EXT_DRIVE: driver value OFF, pin above 15 V for 1 ms; suppressed under UV_WARN and on a pair output that is OFF. -/
def execExtDrive (n : BitVec 7) (s : State) : Out :=
  s.upd fun c d =>
    let k := n.toNat
    let ok := !d.driver c k && d.diagOn k && !c.pairDo k && !d.flag (F.DIO_STATUS_EXT_DRIVE k)
    let d' := d.setCond c k F.DIO_STATUS_EXT_DRIVE ok
    if k < 96 && c.isOut k && ok then d'.bump (F.DIO_EVCNT_EXT_DRIVE k) else d'

/-- REVERSE: pin above L+ + 0.7 V for 1 ms; not set in pair-output mode. -/
def execReverse (n : BitVec 7) (s : State) : Out :=
  s.upd fun c d => d.setCond c n.toNat F.DIO_STATUS_REVERSE (d.diagOn n.toNat && !c.pairDo n.toNat)

/-- OPEN_ON: driver value ON, load current below the open-load threshold for 10 ms. -/
def execOpenOn (n : BitVec 7) (s : State) : Out :=
  s.upd fun c d => d.setCond c n.toNat F.DIO_STATUS_OPEN_ON (d.driver c n.toNat && d.diagOn n.toNat)

/-- OPEN_OFF: enabled, driver value OFF, pin above 4 V for 10 ms. -/
def execOpenOff (n : BitVec 7) (s : State) : Out :=
  s.upd fun c d => d.setCond c n.toNat F.DIO_STATUS_OPEN_OFF
    (c.flag (F.DIO_OCFG_OPEN_OFF_EN n.toNat) && !d.driver c n.toNat && d.diagOn n.toNat && !c.pairDo n.toNat)

/-- DRV_FAIL: driver value ON, none of OVERLOAD, THERMAL or lockout, pin below L+ − 3 V for 1 ms. -/
def execDrvFail (n : BitVec 7) (s : State) : Out :=
  s.upd fun c d => d.setCond c n.toNat F.DIO_STATUS_DRV_FAIL
    (d.driver c n.toNat && d.diagOn n.toNat && !d.flag (F.DIO_STATUS_OVERLOAD n.toNat) &&
      !d.flag (F.DIO_STATUS_THERMAL n.toNat))

/-- The status bit of a condition. -/
def condFld (n : Nat) : OutCondition → Fld
  | .extDrive => F.DIO_STATUS_EXT_DRIVE n
  | .reverse => F.DIO_STATUS_REVERSE n
  | .openOn => F.DIO_STATUS_OPEN_ON n
  | .openOff => F.DIO_STATUS_OPEN_OFF n
  | .overload => F.DIO_STATUS_OVERLOAD n
  | .drvFail => F.DIO_STATUS_DRV_FAIL n

/-- DIAGNOSTIC_CLEAR: a condition's detection rule no longer holds. -/
def execDiagnosticClear (n : BitVec 7) (cond : OutCondition) (s : State) : Out :=
  s.upd fun c d => if n.toNat < 96 then (d.setFlag (condFld n.toNat cond) false).fixDio c n.toNat else d

/-! Field-side watchdog (R306, R307) and coupler link (R308). -/

/-- Output `n` stands at its safe value, rank 3. -/
def Dyn.toSafe (c : Cfg) (d : Dyn) (n : Nat) : Dyn := (d.setFlag (F.DIO_STATUS_WD_SAFE n) true).dropConds c n

/-- A driver value OFF at a commit clears RETRY_LATCHED and BROWNOUT_LATCHED (R302, R311). -/
def Dyn.unlatch (c : Cfg) (d : Dyn) (n : Nat) : Dyn :=
  let d := if d.driverUnder c n then d
    else
      let d := d.setFlag (F.DIO_STATUS_BROWNOUT_LATCHED n) false
      if d.flag (F.DIO_STATUS_RETRY_LATCHED n) then
        (d.setFlag (F.DIO_STATUS_RETRY_LATCHED n) false).setDig n fun s => { s with rearmed := some false, failedRetries := 0 }
      else d
  d.dropConds c n

/-- A refresh at a commit (R98, R306): the field side receives the value of ranks 4 and 5, the watchdog restarts, and
the output leaves rank 3 when `leave` (the refresh carries a committed value). A failed link carries nothing. -/
def Dyn.refresh (c : Cfg) (d : Dyn) (n : Nat) (leave : Bool) : Dyn :=
  if d.flag (F.DIO_STATUS_LINK_FAIL n) || (d.dig n).cut then d
  else
    let v := d.lowRanks c n
    let d := d.setDig n fun s => { s with last45 := v, wdOn := true, wdAt := d.now }
    let d := if leave then d.setFlag (F.DIO_STATUS_WD_SAFE n) false else d
    d.unlatch c n

/-! Field supply (R309–R311). -/

/-- The channels of group `g`. -/
def members (g : Nat) : List Nat := (List.range 16).map (16 * g + ·)

/-- UV_WARN: L+ below 19.2 V for 50 µs. A group without a configured channel raises no status (R284). -/
def execUvWarn (g : BitVec 3) (s : State) : Out :=
  s.upd fun c d =>
    let k := g.toNat
    if k < 6 && c.groupUsed k && !d.flag (F.DIO_GSTATUS_UV_WARN k) then
      let d := (d.setFlag (F.DIO_GSTATUS_UV_WARN k) true).bump (F.DIO_GEVCNT_UV_WARN k)
      (members k).foldl (fun d n => if c.isOut n then d.dropConds c n else d.fixDio c n) d
    else d

/-- UV_WARN_CLEAR. -/
def execUvWarnClear (g : BitVec 3) (s : State) : Out :=
  s.upd fun c d =>
    let k := g.toNat
    if k < 6 && d.flag (F.DIO_GSTATUS_UV_WARN k) then
      (members k).foldl (fun d n => d.fixDio c n) (d.setFlag (F.DIO_GSTATUS_UV_WARN k) false)
    else d

/-- LOCKOUT (R310): every driver of the group turns off at rank 1. -/
def execLockout (g : BitVec 3) (s : State) : Out :=
  s.upd fun c d =>
    let k := g.toNat
    if k < 6 && c.groupUsed k && !d.flag (F.DIO_GSTATUS_LOCKOUT k) then
      let d := (d.setFlag (F.DIO_GSTATUS_LOCKOUT k) true).setFlag (F.DIO_GSTATUS_RECOVERING k) false
      let d := d.bump (F.DIO_GEVCNT_LOCKOUT k)
      let d := (members k).foldl (fun d n =>
        let d := d.setFlag (F.DIO_STATUS_LOCKOUT n) true
        if c.isOut n then d.dropConds c n else d.fixDio c n) d
      d.alarm c 0x0504 k 0 0
    else d

/-- Channel `n` is released (R310, R311): it leaves rank 1, unless it latches off because its value is ON. -/
def Dyn.release (c : Cfg) (d : Dyn) (n : Nat) : Dyn :=
  let d := d.setFlag (F.DIO_STATUS_LOCKOUT n) false
  let d := if c.isOut n && c.flag (F.DIO_GCFG_LATCH_BROWNOUT (groupOf n)) && d.driverUnder c n then
    d.setFlag (F.DIO_STATUS_BROWNOUT_LATCHED n) true else d
  if c.isOut n then d.dropConds c n else d.fixDio c n

/-- Release the next four channels of a recovering group, in channel order; after the last the recovery is complete. -/
def Dyn.releaseNext (c : Cfg) (d : Dyn) (g : Nat) : Dyn :=
  let todo := (members g).filter fun n => d.flag (F.DIO_STATUS_LOCKOUT n)
  let d := (todo.take 4).foldl (fun d n => d.release c n) d
  let d : Dyn := { d with released := sput 0 d.released g d.now }
  if todo.length ≤ 4 then d.setFlag (F.DIO_GSTATUS_RECOVERING g) false else d

/-- RECOVERY_START: wire-break tests of the group's inputs start, and the first four channels are released. -/
def execRecoveryStart (g : BitVec 3) (s : State) : Out :=
  s.upd fun c d =>
    let k := g.toNat
    if k < 6 && d.flag (F.DIO_GSTATUS_LOCKOUT k) then
      let d := (d.setFlag (F.DIO_GSTATUS_LOCKOUT k) false).setFlag (F.DIO_GSTATUS_RECOVERING k) true
      let d := (members k).foldl (fun d n =>
        if !c.isOut n && c.flag (F.DIO_CFG_WB_EN n) then d.startWb c n else d) d
      d.releaseNext c k
    else d

/-- CHANNEL_RELEASE: every 100 µs the next four. -/
def execChannelRelease (g : BitVec 3) (s : State) : Out :=
  s.upd fun c d =>
    if g.toNat < 6 && d.flag (F.DIO_GSTATUS_RECOVERING g.toNat) then
      d.whenDue c (sget 0 d.released g.toNat + 100000) fun d => d.releaseNext c g.toNat
    else d

/-! Input latch (R288, R292). -/

/-- The stop timeout in ns (R293). -/
def Dyn.stopTimeout (c : Cfg) (d : Dyn) (n : Nat) : Nat :=
  if c.flag (F.DIO_STOP_FIXED n) then c.get (F.DIO_STOP_STOP_MS n) * 10 ^ 6
  else match (d.dig n).lastPeriod with
    | some p => min (max (4 * p) (10 ^ 6)) (400 * 10 ^ 9)
    | none => 400 * 10 ^ 9

/-- The frequency at a latch: the average over the complete periods, ties toward positive infinity, Q20.12 Hz; it
holds over a failed link (R308). -/
def Dyn.latchFreq (c : Cfg) (d : Dyn) (n : Nat) : Dyn :=
  if c.flag (F.DIO_CFG_FREQ_EN n) && !d.flag (F.DIO_STATUS_LINK_FAIL n) then
    let s := d.dig n
    match s.anchor with
    | some a =>
      if s.periods > 0 then
        let span := s.last - a
        let f := if span = 0 then 0 else (2 * s.periods * 2 ^ 12 * 10 ^ 9 + span) / (2 * span)
        let d := d.wr (Reg.DIO_FREQ n) (BitVec.ofNat 32 (min f (2 ^ 31 - 1)))
        let d := (d.setFlag (F.DIO_STATUS_FREQ_VALID n) true).setFlag (F.DIO_STATUS_STOPPED n) false
        d.setDig n fun s => { s with anchor := some s.last, periods := 0 }
      else if s.prev.any fun p => d.now - p > d.stopTimeout c n then
        let d := d.wr (Reg.DIO_FREQ n) 0
        let d := (d.setFlag (F.DIO_STATUS_FREQ_VALID n) false).setFlag (F.DIO_STATUS_STOPPED n) true
        d.setDig n fun s => { s with anchor := none }
      else d
    | none => d
  else d

/-- This unit's contribution of channel `n`: state bit, status, counter, frequency, both time-stamps (R288). -/
def Dyn.digState (d : Dyn) (n : Nat) : Bool := (d.dig n).level

/-- A new interval since the latch begins for OVERRATE (R294). -/
def Dyn.endLatch (d : Dyn) (n : Nat) : Dyn :=
  let d := if (d.dig n).riseSince.isSome then d.setDig n fun s => { s with riseSince := none } else d
  if d.flag (F.DIO_STATUS_OVERRATE n) then d.setFlag (F.DIO_STATUS_OVERRATE n) false else d

end Sys2Proof.Machine
end

