-- ==== Sys2Proof/Machine/Rights.lean ====
section
/-! DEFINITION. Who may reach which register (R24, R42, R52, R53, R458). -/

namespace Sys2Proof.Machine

/-- Number of a requester's rights table: 0–15 polders, 16–31 clients (R70). -/
def Requester.table : Requester → Option Nat
  | .polder p => some p.toNat
  | .client c => some (16 + c.toNat)
  | _ => none

/-- A requester's number in the journal's COMMAND items (R447): its rights table, then firmware, boot code and port. -/
def Requester.code : Requester → Nat
  | .polder p => p.toNat
  | .client c => 16 + c.toNat
  | .firmware => 32
  | .boot => 33
  | .usb => 34

/-- The entries of a rights table. -/
def Cfg.rights (c : Cfg) (t : Nat) : List RightsEntry :=
  match c.img.rights.find? fun e => e.1 == t with
  | some e => e.2.take 32
  | none => []

/-- Some entry grants the access to the register at `addr` (R53); the identity registers are readable regardless. -/
def Cfg.granted (c : Cfg) (t addr : Nat) (write : Bool) : Bool :=
  ((c.rights t).any fun e => (if write then e.write else e.read) && e.first ≤ addr / 32 && addr / 32 ≤ e.last) ||
    (!write && 0x10000 ≤ addr && addr < 0x10100)

/-- The MOD, BOOT and SEC blocks, which the service port reads (R42). -/
def servicePortReads (addr : Nat) : Bool :=
  (0x10000 ≤ addr && addr < 0x20000) || (0x110000 ≤ addr && addr < 0x130000)

/-- The service port answers: not when the boot code is halted (R51). -/
def Dyn.portServed (d : Dyn) (who : Requester) : Bool := !(who == .usb && d.boot.stage == .halted)

/-- Stored windows are loaded and read over the service port (R456, R457): the port's services in the start-up hold are those
of R42, and without the boot code it has none (R51). -/
def Dyn.windowsServed (d : Dyn) : Bool := [.locked, .running, .service].contains d.boot.stage

/-- An access that the rights and the module's state allow: firmware and boot code are not restricted, the service port
reads the MOD, BOOT and SEC blocks and writes the BOOT block, a calibration command is never a polder's (R333), and in
REPLAY only the JRN block is written (R458). -/
def Dyn.mayAccess (c : Cfg) (d : Dyn) (who : Requester) (addr : Nat) (write : Bool) : Bool :=
  let own := match who with
    | .polder p => c.granted p.toNat addr write && !(write && addr == Reg.AIO_CAL_CMD)
    | .client k => c.granted (16 + k.toNat) addr write
    | .firmware => true
    | .boot => true
    | .usb => if write then 0x110000 ≤ addr && addr < 0x120000 else servicePortReads addr
  own && !(write && d.modState == 4 && !(0x100000 ≤ addr && addr < 0x110000))

/-- A write of a command register: denied accesses count under R24, the others act as `f` says. -/
def Dyn.gated (c : Cfg) (d : Dyn) (who : Requester) (addr : Nat) (f : Dyn → Dyn) : Dyn :=
  if !d.portServed who then d
  else if d.mayAccess c who addr true then f { d with twin := { d.twin with acting := Requester.code who } }
  else d.accErr (BitVec.ofNat 32 addr)

end Sys2Proof.Machine
end

