-- ==== Sys2Proof/Machine/Analogue.lean ====
section
/-! DEFINITION. The analogue channels (R315–R337): conversions, NE 43 classes, comparators, output stages, group supply
and calibration; and the field-side watchdogs and coupler links of both kinds of channel (R306, R308, R330, R331). -/

namespace Sys2Proof.Machine

/-! Configuration. MODE: 0 unused, 1 input, 2 output. -/

def Cfg.anaMode (c : Cfg) (m : Nat) : Nat := c.get (F.AIO_CFG_MODE m)
def Cfg.agUsed (c : Cfg) (g : Nat) : Bool := (List.range 8).any fun k => c.anaMode (8 * g + k) != 0
def agMembers (g : Nat) : List Nat := (List.range 8).map (8 * g + ·)
def optIf (b : Bool) (v : Nat) : Option Nat := if b then some v else none
/-- The owner of an analogue channel, if it has one (R315). -/
def Cfg.anaOwner (c : Cfg) (m : Nat) : Option Nat := optIf (c.flag (F.AIO_CFG_OWNED m)) (c.get (F.AIO_CFG_OWNER m))
/-- A pair analogue output of a twin (R276). -/
def Cfg.pairAo (c : Cfg) (m : Nat) : Bool := c.twin && (c.rd Reg.SHL_PAIR_AO).bit m

/-- Q16.16 mA of a number of hundredths of a mA, as the least numerator over 100. -/
def mA (w : Int) (cmp : Int → Int → Bool) (hundredths : Int) : Bool := cmp (w * 100) (hundredths * 65536)

/-! Output stage (R327–R330). -/

/-- The commanded value clamped to 0–24 mA, and whether it was outside (R327). -/
def clampStage (w : Word) : Word × Bool :=
  if w.toInt < 0 then (0, true) else if w.toInt > 0x180000 then (0x180000, true) else (w, false)

/-- The failure level of FAIL_LEVEL (R326): 3.5 or 21.5 mA. -/
def Cfg.failLevel (c : Cfg) (m : Nat) : Word := if c.flag (F.AIO_OCFG_FAIL_LEVEL m) then 0x158000 else 0x38000

/-- The unit that drives a pair analogue output: A while A is sending, otherwise B (R278). Its stage changes at a commit,
or with GIVEUP. -/
def Dyn.drivesPair (d : Dyn) : Bool :=
  if d.unitB then d.sending && d.get F.STN_STATE_ROLE_A != 2 else d.sending

/-- Ranks 4 and 5, clamped. -/
def Dyn.lowStage (d : Dyn) (m : Nat) : Word :=
  if d.twin.fieldHeld then (d.ana m).last45
  else (clampStage ((d.outForce true (0x200 + m)).getD (sget 0 d.outC (0x200 + m)))).1

/-- Calibration of channel `m` is in progress. -/
def Dyn.calOn (d : Dyn) (m : Nat) : Bool := d.flag F.AIO_CAL_STAT_ACTIVE && d.get F.AIO_CAL_STAT_CHAN == m

/-- Rank 2 stands: from BEGIN until the channel is back in service (R328, R333, R334). -/
def Dyn.calHolds (d : Dyn) (m : Nat) : Bool := d.calOn m || (d.ana m).waitCal

/-- The stage command (R328), 0 mA on the standby side of a pair, in REPLAY (R458) and before the commit of FN 0 (R44). -/
def Dyn.stage (c : Cfg) (d : Dyn) (m : Nat) : Word :=
  if c.anaMode m ≠ 2 || d.modState = 4 || d.outputsOff then 0
  else if d.flag (F.AIO_STATUS_LOCKOUT m) then 0
  else if c.pairAo m && !d.twin.aoOn then 0
  else if d.calHolds m then (d.ana m).calStage
  else if d.flag (F.AIO_STATUS_WD_SAFE m) then
    if (d.ana m).giveUp || c.get (F.AIO_OCFG_SAFE m) = 0 then c.failLevel m else (d.ana m).last45
  else d.lowStage m

/-- Output flags that lockout and the standby side of a pair hold clear (R278, R316). -/
def Dyn.stageDiag (c : Cfg) (d : Dyn) (m : Nat) : Bool :=
  c.anaMode m == 2 && !d.flag (F.AIO_STATUS_LOCKOUT m) && !(c.pairAo m && !d.twin.aoOn)

/-- What the diagnostics of an output leave standing: nothing while they are held clear; STAGE_FAIL only while its
conditions on the command and on the other two flags hold (R329; log entry 108). -/
def Dyn.stageConds (c : Cfg) (d : Dyn) (m : Nat) : Dyn :=
  let d := if d.stageDiag c m then d
    else (d.setFlag (F.AIO_STATUS_COMPLIANCE m) false).setFlag (F.AIO_STATUS_OPEN m) false
  if d.stageDiag c m && 0x10000 ≤ (d.stage c m).toNat && !d.flag (F.AIO_STATUS_COMPLIANCE m) &&
    !d.flag (F.AIO_STATUS_OPEN m) then d else d.setFlag (F.AIO_STATUS_STAGE_FAIL m) false

/-- raw = (command − O) / G, with the coefficients in effect: those of the field, or at a DRIVE point of a calibration the
factory's alone (R332, R333). The stage rests at a command of 0 mA. -/
def Aio.rawDrive (a : Aio) (v : Word) : Int :=
  if v = 0 then 0
  else if a.calPlain then v.toInt
  else
    let num := (v.toInt - a.offs.toInt) * 2 ^ 30
    let q := num / (a.gain.toNat : Int)
    if num % (a.gain.toNat : Int) ≠ 0 && Config.roundUp num a.gain.toNat then q + 1 else q

/-- INVALID, MODE, AIO_STAGE, what the stage drives and the diagnostics held clear follow from the rest (R335). -/
def Dyn.fixAio (c : Cfg) (d : Dyn) (m : Nat) : Dyn :=
  let d := d.stageConds c m
  let fl := fun f => d.flag f
  let common := fl (F.AIO_STATUS_OOS m) || fl (F.AIO_STATUS_LINK_FAIL m) || fl (F.AIO_STATUS_LOCKOUT m)
  let inv := match c.anaMode m with
    | 1 => common || fl (F.AIO_STATUS_FAIL_LO m) || fl (F.AIO_STATUS_FAIL_HI m)
    | 2 => common || fl (F.AIO_STATUS_STAGE_FAIL m)
    | _ => false
  let d := d.setFlag (F.AIO_STATUS_INVALID m) inv
  let d := d.put (F.AIO_STATUS_MODE m) (c.anaMode m)
  let v := d.stage c m
  (d.wr (Reg.AIO_STAGE m) v).setAna m fun s => { s with drive := s.rawDrive v }

/-- Output `m` stands at its safe value, rank 3. -/
def Dyn.anaSafe (c : Cfg) (d : Dyn) (m : Nat) : Dyn := (d.setFlag (F.AIO_STATUS_WD_SAFE m) true).fixAio c m

/-- A refresh at a commit (R98, R330). -/
def Dyn.anaRefresh (c : Cfg) (d : Dyn) (m : Nat) (leave : Bool) : Dyn :=
  if d.flag (F.AIO_STATUS_LINK_FAIL m) || (d.ana m).cut then d
  else
    let v := d.lowStage m
    let clamp := (clampStage ((d.outForce true (0x200 + m)).getD (sget 0 d.outC (0x200 + m)))).2
    let d := d.setAna m fun s => { s with last45 := v, wdOn := true, wdAt := d.now }
    let d := d.setFlag (F.AIO_STATUS_CLAMP m) clamp
    let d := if leave then
        (d.setFlag (F.AIO_STATUS_WD_SAFE m) false).setAna m fun s => { s with giveUp := false }
      else d
    d.fixAio c m

/-! Conversion (R319–R322). -/

/-- A start less than 100 µs after the previous one is skipped with OVERRUN. -/
def Dyn.startConversion (c : Cfg) (d : Dyn) (m : Nat) : Dyn :=
  if c.anaMode m = 0 then d
  else
    let soon : Bool := match (d.ana m).startAt with
      | some t => decide (d.now - t < 100000)
      | none => false
    if soon then (d.setFlag (F.AIO_STATUS_OVERRUN m) true).bump (F.AIO_EVCNT_OVERRUN m)
    else d.setAna m fun s => { s with startAt := some d.now, busy := true }

/-- CONVERSION_START: the start of a FRAME-triggered channel, at T − 100 µs of the next frame. A COMPARE-triggered channel
starts with its compare unit alone. -/
def execConversionStart (m : BitVec 5) (s : State) : Out :=
  s.upd fun c d =>
    if c.flag (F.AIO_CFG_TRIG m.toNat) then d
    else (if d.slc.framing then d.advTo (d.atT (c.period - 100000)) else d).startConversion c m.toNat

/-- G × mean + O, rounded once to Q16.16 with ties toward positive infinity: `sum` of `n` results, G × 2^30. -/
def corrected (sum : Int) (n : Nat) (gain offs : Word) : Int :=
  (2 * sum * gain.toNat + 2 ^ 30 * n) / (2 ^ 31 * n) + offs.toInt

/-- The field side classes an averaged result: the failure region it lies in, and the end of a declared failure from 3.65
to 20.95 mA (R322). -/
def Dyn.regionTo (d : Dyn) (m : Nat) (v : Int) : Dyn :=
  let reg := if mA v (fun a b => decide (a ≤ b)) 360 then 1 else if mA v (fun a b => decide (b ≤ a)) 2100 then 2 else 0
  let d := if mA v (fun a b => decide (b ≤ a)) 365 && mA v (fun a b => decide (a ≤ b)) 2095 then
    d.setAna m fun s => { s with failLo := false, failHi := false } else d
  if reg ≠ (d.ana m).region then d.setAna m fun s => { s with region := reg, regionAt := d.now } else d

/-- The flags an averaged result gives at once, as they show over the link (R322). -/
def Dyn.classify (d : Dyn) (m : Nat) (v : Int) : Dyn :=
  let lt := fun (a b : Int) => decide (a < b)
  let gt := fun (a b : Int) => decide (b < a)
  let d := d.setFlag (F.AIO_STATUS_LIMIT_LO m) (mA v gt 360 && mA v lt 380)
  let d := d.setFlag (F.AIO_STATUS_LIMIT_HI m) (mA v gt 2050 && mA v lt 2100)
  d.setFlag (F.AIO_STATUS_OVERRANGE m) (mA v gt 2500)

/-- FAIL_LO or FAIL_HI is declared, and counted, on the field side once the failure region has lasted FAIL_DELAY. -/
def Dyn.failDelay (c : Cfg) (d : Dyn) (m : Nat) : Dyn :=
  let s := d.ana m
  let set := if s.region = 1 then s.failLo else s.failHi
  if c.anaMode m = 1 && s.region ≠ 0 && c.get (F.AIO_CFG_FAIL_DELAY m) * 10 ^ 7 ≤ d.now - s.regionAt && !set then
    (d.setAna m fun s => if s.region = 1 then { s with failLo := true } else { s with failHi := true }).bump
      (F.AIO_EVCNT_FAIL m)
  else d

/-- The failure flags show as the field side has declared them; nothing crosses a failed link. -/
def Dyn.showFails (c : Cfg) (d : Dyn) (m : Nat) : Dyn :=
  if d.flag (F.AIO_STATUS_LINK_FAIL m) then d
  else ((d.setFlag (F.AIO_STATUS_FAIL_LO m) (d.ana m).failLo).setFlag (F.AIO_STATUS_FAIL_HI m) (d.ana m).failHi).fixAio c m

/-- The averaged result of the last 2^AVG results, or of as many as there are, under the coefficients in effect, and its
class on the field side, whether or not the link stands (R320, R322). -/
def Dyn.average (c : Cfg) (d : Dyn) (m : Nat) : Dyn :=
  let a := d.ana m
  let n := min a.results.length (2 ^ c.get (F.AIO_CFG_AVG m))
  let v := corrected ((a.results.take n).foldl (· + ·) 0) n a.gain a.offs
  ((d.setAna m fun s => { s with avg := v }).regionTo m v).failDelay c m

/-- What an averaged result brings across the group's link: the value, held at 25.0 mA and within its format (R6, R322), and
the flags of an input. Nothing crosses a failed link (R331, R337). -/
def Dyn.crossValue (c : Cfg) (d : Dyn) (m : Nat) : Dyn :=
  if d.flag (F.AIO_STATUS_LINK_FAIL m) then d
  else
    let v := (d.ana m).avg
    let d := d.wr (Reg.AIO_VALUE m) (BitVec.ofInt 32 (satTo 32 (min v 0x190000)))
    (if c.anaMode m = 1 then d.classify m v else d).showFails c m

/-- CONVERSION_RESULT: ready 96 µs after its start; the averaged result of the last 2^AVG results is formed, corrected
and classed (log entry 108). -/
def execConversionResult (m : BitVec 5) (raw : Word) (s : State) : Out :=
  s.upd fun c d =>
    let k := m.toNat
    let a := d.ana k
    match a.startAt with
    | some t =>
      if a.busy then
        let d := d.advTo (BitVec.ofNat 32 (t + 96000))
        let res := (raw.toInt :: a.results).take 16
        ((d.setAna k fun s => { s with results := res, busy := false, freshLockout := true, freshCal := true }).average c
          k).crossValue c k
      else d
    | none => d

/-- FAIL_DELAY_EXPIRY, FAIL_DELAY after the region was entered; the field side declares the failure also over a failed link
(R322). -/
def execFailDelayExpiry (m : BitVec 5) (s : State) : Out :=
  s.upd fun c d =>
    let k := m.toNat
    if c.anaMode k = 1 && (d.ana k).region ≠ 0 then
      d.whenDue c ((d.ana k).regionAt + c.get (F.AIO_CFG_FAIL_DELAY k) * 10 ^ 7) fun d =>
        (d.failDelay c k).showFails c k
    else d

/-! Comparators (R323–R325). -/

def Cfg.cmpFld (m : Nat) (j : Bool) (f0 f1 : Nat → Fld) : Fld := if j then f1 m else f0 m
def Cfg.cmpOn (c : Cfg) (m : Nat) (j : Bool) : Bool :=
  c.anaMode m != 0 && c.flag (if j then F.AIO_CMP1_EN m else F.AIO_CMP0_EN m)
def cmpFilterNs (code : Nat) : Nat :=
  match code with
  | 0 => 5000 | 1 => 20000 | 2 => 50000 | 3 => 100000 | 4 => 200000 | 5 => 500000 | 6 => 1000000 | _ => 5000000
def cmpSource (m : Nat) (j : Bool) : Nat := 96 + 2 * m + b2n j
def Aio.cmp (a : Aio) (j : Bool) : Bool := if j then a.cmp1 else a.cmp0
def Aio.src (a : Aio) (j : Bool) : Bool := if j then a.src1 else a.src0
def Aio.cross (a : Aio) (j : Bool) : Option (Bool × Nat) := if j then a.cross1 else a.cross0

/-- The state that crossed the link, and with it the levee source. -/
def Dyn.setCmpSrc (c : Cfg) (d : Dyn) (m : Nat) (j v : Bool) : Dyn :=
  (d.setAna m fun s => if j then { s with src1 := v } else { s with src0 := v }).sourceTo c (cmpSource m j) v

/-- The source of a comparator whose link is up shows the confirmed state; out of service it holds, or reads 1 with
OOS_ASSERT (R325). Over a failed link it holds. -/
def Dyn.showCmp (c : Cfg) (d : Dyn) (m : Nat) (j : Bool) : Dyn :=
  if d.flag (F.AIO_STATUS_LINK_FAIL m) then d
  else if d.flag (F.AIO_STATUS_OOS m) then
    if c.cmpOn m j && c.flag (if j then F.AIO_CMP1_OOS_ASSERT m else F.AIO_CMP0_OOS_ASSERT m) then d.setCmpSrc c m j true
    else d
  else d.setCmpSrc c m j ((d.ana m).cmp j)

/-- The output of a comparator whose output is `now`, at a current in Q16.16 mA: threshold and hysteresis in steps of
6.25 µA, in the sense of DIR (R323). -/
def Cfg.cmpLevel (c : Cfg) (m : Nat) (j now : Bool) (current : Int) : Bool :=
  let th : Int := c.get (if j then F.AIO_CMP1_THRESH m else F.AIO_CMP0_THRESH m)
  let hy : Int := c.get (if j then F.AIO_CMP1_HYST m else F.AIO_CMP0_HYST m)
  let i := current * 160
  if c.flag (if j then F.AIO_CMP1_DIR m else F.AIO_CMP0_DIR m) then
    if i < th * 65536 then true else if (th + hy) * 65536 < i then false else now
  else if th * 65536 < i then true else if i < (th - hy) * 65536 then false else now

/-- COMPARATOR_CROSSING: the output that a current gives starts the filter where it differs from the confirmed state; a
return to the confirmed state stops it. -/
def execComparatorCrossing (m : BitVec 5) (j : Bool) (current : Word) (s : State) : Out :=
  s.upd fun c d =>
    let k := m.toNat
    let a := d.ana k
    let now := ((a.cross j).map (·.1)).getD (a.cmp j)
    let level := c.cmpLevel k j now current.toInt
    if c.cmpOn k j && level != now then
      let x := if level == a.cmp j then none else some (level, d.now)
      d.setAna k fun s => if j then { s with cross1 := x } else { s with cross0 := x }
    else d

/-- COMPARATOR_CONFIRM: the new state held for the filter time. It reaches the levee source and queues AI_CMP unless
the group's link has failed or the channel is out of service. -/
def execComparatorConfirm (m : BitVec 5) (j : Bool) (at_ : Word) (s : State) : Out :=
  s.upd fun c d =>
    let k := m.toNat
    let d := d.advTo at_
    match (d.ana k).cross j with
    | some (level, t) =>
      let code := c.get (if j then F.AIO_CMP1_FILTER k else F.AIO_CMP0_FILTER k)
      if cmpFilterNs code ≤ d.now - t then
        let d := d.setAna k fun s =>
          if j then { s with cmp1 := level, cross1 := none } else { s with cmp0 := level, cross0 := none }
        if d.flag (F.AIO_STATUS_LINK_FAIL k) || d.flag (F.AIO_STATUS_OOS k) then d
        else
          let d := d.setCmpSrc c k j level
          let en := c.flag (if j then F.AIO_CMP1_EVT_EN k else F.AIO_CMP0_EVT_EN k)
          let task := c.get (if j then F.AIO_CMP1_EVT_TASK k else F.AIO_CMP0_EVT_TASK k)
          if en && c.flag (F.AIO_CFG_OWNED k) then
            d.post c (c.get (F.AIO_CFG_OWNER k)) 3 task (2 * k + b2n j) at_ (BitVec.ofNat 32 (b2n level))
          else d
      else d
    | none => d

/-! Output and loop diagnostics (R318, R329). -/

/-- Set a flag of an analogue channel when `ok` holds. -/
def Dyn.anaFlag (c : Cfg) (d : Dyn) (m : Nat) (f : Fld) (ok : Bool) : Dyn :=
  if ok then (d.setFlag f true).fixAio c m else d

/-- COMPLIANCE: headroom below 1.5 V for 2 ms. -/
def execCompliance (m : BitVec 5) (s : State) : Out :=
  s.upd fun c d =>
    let k := m.toNat
    let ok := d.stageDiag c k && !d.flag (F.AIO_STATUS_COMPLIANCE k)
    let d' := d.anaFlag c k (F.AIO_STATUS_COMPLIANCE k) ok
    if ok then d'.bump (F.AIO_EVCNT_COMPLIANCE k) else d'

/-- OPEN: stage command at least 1 mA, delivered current below 0.5 mA for 2 ms. -/
def execOpen (m : BitVec 5) (s : State) : Out :=
  s.upd fun c d =>
    let k := m.toNat
    let ok := d.stageDiag c k && 0x10000 ≤ (d.stage c k).toNat && !d.flag (F.AIO_STATUS_OPEN k)
    let d' := d.anaFlag c k (F.AIO_STATUS_OPEN k) ok
    if ok then d'.bump (F.AIO_EVCNT_OPEN k) else d'

/-- STAGE_FAIL: stage command at least 1 mA, neither COMPLIANCE nor OPEN, delivered current off by more than 0.5 mA. -/
def execStageFail (m : BitVec 5) (s : State) : Out :=
  s.upd fun c d =>
    let k := m.toNat
    d.anaFlag c k (F.AIO_STATUS_STAGE_FAIL k) (d.stageDiag c k && 0x10000 ≤ (d.stage c k).toNat &&
      !d.flag (F.AIO_STATUS_COMPLIANCE k) && !d.flag (F.AIO_STATUS_OPEN k))

/-- This module supplies the loop of input `m` (R318). -/
def Dyn.supplies (c : Cfg) (d : Dyn) (m : Nat) : Bool :=
  let p := c.get (F.AIO_CFG_LOOP_PWR m)
  c.anaMode m == 1 && (p == 3 || p == (if d.unitB then 2 else 1))

/-- SHORT: the limiter of a loop this module supplies has been active for 10 ms. -/
def execShort (m : BitVec 5) (s : State) : Out :=
  s.upd fun c d => d.anaFlag c m.toNat (F.AIO_STATUS_SHORT m.toNat)
    (d.supplies c m.toNat && !d.flag (F.AIO_STATUS_LOCKOUT m.toNat))

def anaFlagFld (m : Nat) : AnalogueFlag → Fld
  | .compliance => F.AIO_STATUS_COMPLIANCE m
  | .openLoad => F.AIO_STATUS_OPEN m
  | .stageFail => F.AIO_STATUS_STAGE_FAIL m
  | .short => F.AIO_STATUS_SHORT m

/-- ANALOGUE_FLAG_CLEAR: the condition of a flag has ended. -/
def execAnalogueFlagClear (m : BitVec 5) (flag : AnalogueFlag) (s : State) : Out :=
  s.upd fun c d => (d.setFlag (anaFlagFld m.toNat flag) false).fixAio c m.toNat

/-! Group supply (R316). -/

/-- Set one status bit in every configured channel of a group. -/
def Dyn.agAll (c : Cfg) (d : Dyn) (g : Nat) (f : Nat → Fld) (b : Bool) : Dyn :=
  (agMembers g).foldl (fun d m => if c.anaMode m = 0 then d else (d.setFlag (f m) b).fixAio c m) d

/-- AG_LOW: AG+ below 18 V for 50 µs. -/
def execAgLow (g : BitVec 2) (s : State) : Out :=
  s.upd fun c d =>
    if c.agUsed g.toNat then (d.setFlag (F.AIO_GSTATUS_AG_LOW g.toNat) true).agAll c g.toNat F.AIO_STATUS_AG_LOW true
    else d

/-- AG_LOW_CLEAR. -/
def execAgLowClear (g : BitVec 2) (s : State) : Out :=
  s.upd fun c d => (d.setFlag (F.AIO_GSTATUS_AG_LOW g.toNat) false).agAll c g.toNat F.AIO_STATUS_AG_LOW false

/-- AG_LOCKOUT: every stage of the group at 0 mA, its loops off, its output diagnostics held clear. -/
def execAgLockout (g : BitVec 2) (s : State) : Out :=
  s.upd fun c d =>
    let k := g.toNat
    if c.agUsed k && !d.flag (F.AIO_GSTATUS_LOCKOUT k) then
      let d := d.setFlag (F.AIO_GSTATUS_LOCKOUT k) true
      let d := (agMembers k).foldl (fun d m => d.setAna m fun s => { s with waitLockout := false }) d
      let d := (((d.agAll c k F.AIO_STATUS_LOCKOUT true).agAll c k F.AIO_STATUS_COMPLIANCE false).agAll c k
        F.AIO_STATUS_OPEN false).agAll c k F.AIO_STATUS_STAGE_FAIL false
      (d.agAll c k F.AIO_STATUS_SHORT false).alarm c 0x0601 k 0 0
    else d

/-- AG_RESTORATION: all channels are released together; an input becomes valid at the first latch that follows a
conversion completed after the release. -/
def execAgRestoration (g : BitVec 2) (s : State) : Out :=
  s.upd fun c d =>
    let k := g.toNat
    if d.flag (F.AIO_GSTATUS_LOCKOUT k) then
      let d := d.setFlag (F.AIO_GSTATUS_LOCKOUT k) false
      (agMembers k).foldl (fun d m => match c.anaMode m with
        | 1 => d.setAna m fun s => { s with waitLockout := true, freshLockout := false }
        | 2 => (d.setFlag (F.AIO_STATUS_LOCKOUT m) false).fixAio c m
        | _ => d) d
    else d

/-! Coupler links and field-side watchdogs. -/

/-- The logic side declares the link of a group failed (R331). -/
def Dyn.agLinkFail (c : Cfg) (d : Dyn) (g : Nat) : Dyn :=
  if d.flag (F.AIO_GSTATUS_LINK_FAIL g) then d
  else
    let d := (agMembers g).foldl (fun d m => d.holdMeas c (Reg.AIO_MEAS m)) (d.holdMeas c (Reg.AIO_GMEAS g))
    let d := (d.setFlag (F.AIO_GSTATUS_LINK_FAIL g) true).agAll c g F.AIO_STATUS_LINK_FAIL true
    d.alarm c 0x0602 g 0 0

/-- AG_LINK_FAIL. -/
def execAgLinkFail (g : BitVec 2) (s : State) : Out := s.upd fun c d => d.agLinkFail c g.toNat

/-- FIELD_WATCHDOG_EXPIRY: no refresh within the timeout, which the field side times to within 2 % (R306). -/
def execFieldWatchdogExpiry (ch : ChannelRef) (s : State) : Out :=
  s.always fun c d => match ch with
    | .digital n =>
      let k := n.toNat
      let w := d.dig k
      let due := d.boot.held || c.get (F.DIO_OCFG_WD_TIMEOUT k) * 98000 ≤ d.now - w.wdAt
      if k < 96 && c.isOut k && w.wdOn && due then d.toSafe c k
      else d
    | .analogue m =>
      let k := m.toNat
      let w := d.ana k
      let due := d.boot.held || c.get (F.AIO_OCFG_WD_TIMEOUT k) * 98000 ≤ d.now - w.wdAt
      if c.anaMode k == 2 && w.wdOn && due then d.anaSafe c k
      else d

/-- COUPLER_LINK_FIELD_FAIL: a field side that missed 10 link frames applies the safe values. -/
def execCouplerLinkFieldFail (ch : LinkRef) (s : State) : Out :=
  s.upd fun c d => match ch with
    | .digital n =>
      if n.toNat < 96 && c.isOut n.toNat then (d.setDig n.toNat fun s => { s with cut := true }).toSafe c n.toNat else d
    | .analogue g => (agMembers g.toNat).foldl (fun d m =>
        if c.anaMode m = 2 then (d.setAna m fun s => { s with cut := true }).anaSafe c m else d) d

/-- COUPLER_LINK_LOGIC_FAIL: a logic side that missed 10 answers. -/
def execCouplerLinkLogicFail (ch : LinkRef) (s : State) : Out :=
  s.upd fun c d => match ch with
    | .digital n =>
      let k := n.toNat
      if k < 96 && !d.flag (F.DIO_STATUS_LINK_FAIL k) then
        let d := ((d.holdMeas c (Reg.DIO_MEAS k)).setFlag (F.DIO_STATUS_LINK_FAIL k) true).fixDio c k
        let a := Reg.DIO_LINK0 + 4 * (k / 32)
        (d.wr a ((d.rd a).setBit (k % 32) true)).alarm c 0x0503 k 0 0
      else d
    | .analogue g => d.agLinkFail c g.toNat

/-- COUPLER_LINK_RETURN after 1 ms of error-free frames: the states that the field side holds cross anew: bit 0 of `states`
for a digital channel, the confirmed comparators of a group's channels. They queue no edge entries, count nothing and update
no time-stamp; a filter that runs on the field side runs on. An input with WB_EN is tested instead. -/
def execCouplerLinkReturn (ch : LinkRef) (states : BitVec 16) (s : State) : Out :=
  s.upd fun c d => match ch with
    | .digital n =>
      let k := n.toNat
      if k < 96 && (d.flag (F.DIO_STATUS_LINK_FAIL k) || (d.dig k).cut) then
        let a := Reg.DIO_LINK0 + 4 * (k / 32)
        let d := (d.setFlag (F.DIO_STATUS_LINK_FAIL k) false).wr a ((d.rd a).setBit (k % 32) false)
        let d := d.setDig k fun s => { s with cut := false }
        let b := states.getLsbD 0
        let d := if !c.isOut k && c.flag (F.DIO_CFG_WB_EN k) then d.startWb c k
          else
            let ch := d.dig k
            let runs := ch.raw != b && decide ((d.ft - ch.rawAt).toNat < c.filterOf k)
            let d := d.setDig k fun s => if runs then { s with level := b } else { s with level := b, raw := b, rawAt := d.ft }
            if c.isOut k then d else (d.sourceTo c k b).activity c k (ch.level != b) b
        if c.isOut k then d.dropConds c k else d.fixDio c k
      else d
    | .analogue g =>
      let k := g.toNat
      if d.flag (F.AIO_GSTATUS_LINK_FAIL k) || ((agMembers k).any fun m => (d.ana m).cut) then
        let d := (agMembers k).foldl (fun d m => d.setAna m fun s => { s with cut := false }) d
        let d := (d.setFlag (F.AIO_GSTATUS_LINK_FAIL k) false).agAll c k F.AIO_STATUS_LINK_FAIL false
        (List.range 8).foldl (fun d i =>
          let m := 8 * k + i
          let d := (d.showCmp c m false).showCmp c m true
          if c.anaMode m = 0 || (d.ana m).results.isEmpty then d else d.crossValue c m) d
      else d

/-! Input latch (R321, R334). -/

/-- Status changes that take effect at a latch: OOS begins at the first latch after BEGIN and ends, like the wait after
a lockout, at the first one after a fresh conversion. -/
def Dyn.latchAna (c : Cfg) (d : Dyn) (m : Nat) : Dyn :=
  if c.anaMode m = 0 then d
  else
    let a := d.ana m
    let d := if a.waitCal && a.freshCal then
        let d := (d.setFlag (F.AIO_STATUS_OOS m) false).setAna m fun s =>
          { s with waitCal := false, gain := d.rd (Reg.AIO_CAL_G m), offs := d.rd (Reg.AIO_CAL_O m) }
        (((d.average c m).crossValue c m).showCmp c m false).showCmp c m true
      else if d.calHolds m && !d.flag (F.AIO_STATUS_OOS m) then
        ((d.setFlag (F.AIO_STATUS_OOS m) true).showCmp c m false).showCmp c m true
      else d
    let d := if a.waitLockout && a.freshLockout then
        (d.setFlag (F.AIO_STATUS_LOCKOUT m) false).setAna m fun s => { s with waitLockout := false }
      else d
    let d := d.fixAio c m
    if c.anaMode m = 1 && !d.flag (F.AIO_STATUS_INVALID m) then
      d.setAna m fun s => { s with lastValid := d.rd (Reg.AIO_VALUE m) }
    else d

/-- The value word of the local contribution: the current, or the substitute of an invalid input (R321, R322). -/
def Dyn.anaWord (c : Cfg) (d : Dyn) (m : Nat) : Word :=
  match c.anaMode m with
  | 1 =>
    if d.flag (F.AIO_STATUS_INVALID m) then
      match c.get (F.AIO_CFG_SUBST m) with
      | 0 => (d.ana m).lastValid
      | 1 => c.rd (Reg.AIO_SUBST m)
      | _ => d.rd (Reg.AIO_VALUE m)
    else d.rd (Reg.AIO_VALUE m)
  | 2 => d.rd (Reg.AIO_VALUE m)
  | _ => 0

/-! Calibration (R332–R334). -/

/-- A calibration command is written: LAST, and the 600 s of its timeout, follow every one (R333, R337). -/
def Dyn.calMark (d : Dyn) (code : Nat) : Dyn :=
  let d := d.put F.AIO_CAL_STAT_LAST code
  { d with cal := { d.cal with lastCmd := d.now } }

/-- A calibration command ends: STATUS 2 DONE with REASON 0 (TIMEOUT apart), or 3 REFUSED with a reason. -/
def Dyn.calEnds (d : Dyn) (status reason : Nat) : Dyn :=
  let d := (d.put F.AIO_CAL_STAT_STATUS status).put F.AIO_CAL_STAT_REASON reason
  { d with cal := { d.cal with busy := 0 } }

/-- Answer of a calibration command: STATUS 2 DONE with REASON 0, or 3 REFUSED with a reason. -/
def Dyn.calStat (d : Dyn) (code status reason : Nat) : Dyn := (d.calMark code).calEnds status reason

/-- A calibration command that takes time: STATUS 1 BUSY. -/
def Dyn.calBusy (d : Dyn) (code : Nat) : Dyn :=
  let d := ((d.calMark code).put F.AIO_CAL_STAT_STATUS 1).put F.AIO_CAL_STAT_REASON 0
  { d with cal := { d.cal with busy := code, busyAt := d.now } }

/-- The bypass is removed: the channel waits for a fresh conversion (R334). -/
def Dyn.calEnd (c : Cfg) (d : Dyn) : Dyn :=
  let m := d.get F.AIO_CAL_STAT_CHAN
  let d := (d.setFlag F.AIO_CAL_STAT_ACTIVE false).setAna m fun s => { s with waitCal := true, freshCal := false }
  d.fixAio c m

/-- A command written while BUSY is refused: STATUS stays BUSY, LAST shows its CODE (R337). -/
def Dyn.calCmd (d : Dyn) (code : Nat) (f : Dyn → Dyn) : Dyn :=
  if d.get F.AIO_CAL_STAT_STATUS = 1 then d.calMark code else f d

def Dyn.calBegin (c : Cfg) (d : Dyn) (chan arg : Nat) : Dyn :=
  if c.anaMode chan = 0 then d.calStat 1 3 1
  else if d.flag F.AIO_CAL_STAT_ACTIVE then d.calStat 1 3 2
  else if 1 < arg || (arg = 0 && c.anaMode chan ≠ 1) then d.calStat 1 3 3
  else
    let st := d.stage c chan
    let d := ((d.setFlag F.AIO_CAL_STAT_ACTIVE true).put F.AIO_CAL_STAT_CHAN chan).put F.AIO_CAL_STAT_POINTS 0
    let d := ({ d with cal := { Cal.init with external := arg == 1 } } : Dyn).setAna chan fun s =>
      { s with calStage := st, calPlain := false, waitCal := false }
    (d.calStat 1 2 0).fixAio c chan

def Dyn.calDrive (c : Cfg) (d : Dyn) (arg : Nat) : Dyn :=
  let m := d.get F.AIO_CAL_STAT_CHAN
  if d.flag F.AIO_CAL_STAT_ACTIVE && d.cal.external && c.anaMode m == 2 && arg < 3 then
    let v : Word := if arg = 0 then 0x40000 else if arg = 1 then 0xC0000 else 0x140000
    ((d.setAna m fun s => { s with calStage := v, calPlain := true }).calStat 2 2 0).fixAio c m
  else d.calStat 2 3 3

def Dyn.calPoint (d : Dyn) (arg : Nat) : Dyn :=
  if d.flag F.AIO_CAL_STAT_ACTIVE && arg < (if d.cal.external then 3 else 2) then
    ({ d with cal := { d.cal with point := arg } } : Dyn).calBusy 3
  else d.calStat 3 3 3

/-- Least squares over the recorded points: numerators and the common denominator of G and O; `none` when the raw
values coincide. -/
def fit (pts : List (Nat × Int × Int)) : Option (Int × Int × Int) :=
  let n : Int := pts.length
  let sx := pts.foldl (fun a p => a + p.2.1) (0 : Int)
  let sy := pts.foldl (fun a p => a + p.2.2) (0 : Int)
  let sxx := pts.foldl (fun a p => a + p.2.1 * p.2.1) (0 : Int)
  let sxy := pts.foldl (fun a p => a + p.2.1 * p.2.2) (0 : Int)
  let den := n * sxx - sx * sx
  if den = 0 then none else some (n * sxy - sx * sy, sy * sxx - sx * sxy, den)

def Dyn.calCompute (d : Dyn) : Dyn :=
  let ys := d.cal.points.map (·.2.2)
  let span := ys.foldl max (ys.headD 0) - ys.foldl min (ys.headD 0)
  if !d.flag F.AIO_CAL_STAT_ACTIVE then d.calStat 4 3 3
  else if d.cal.points.length < 2 || (d.cal.external && span < 8 * 65536) then d.calStat 4 3 5
  else match fit d.cal.points with
    | none => d.calStat 4 3 4
    | some (g, o, den) =>
      if 200 * (g - den).natAbs > den.natAbs || 1000 * o.natAbs > 40 * 65536 * den.natAbs then d.calStat 4 3 4
      else
        let (rg, d) := d.roundFree (g * 2 ^ 30) den.natAbs
        let (ro, d) := d.roundFree o den.natAbs
        let d := (d.wr Reg.AIO_CAL_RES_G (BitVec.ofInt 32 rg)).wr Reg.AIO_CAL_RES_O (BitVec.ofInt 32 ro)
        ({ d with cal := { d.cal with computed := true } } : Dyn).calStat 4 2 0

def Dyn.calCommit (d : Dyn) : Dyn :=
  if d.flag F.AIO_CAL_STAT_ACTIVE && d.cal.computed then d.calBusy 5 else d.calStat 5 3 3

def Dyn.calAbort (c : Cfg) (d : Dyn) : Dyn :=
  if d.flag F.AIO_CAL_STAT_ACTIVE then (d.calStat 6 2 0).calEnd c else d.calStat 6 3 3

/-- What the copy of the store in use holds of channel `m`. -/
def NonVol.calOf (n : NonVol) (m : Nat) : Word × Word × Word := sget (0x40000000, 0, 0) (if n.calInB then n.calB else n.calA) m

/-- The copy not in use takes an entry and comes into use: the rule of R31. -/
def NonVol.calWrite (n : NonVol) (m : Nat) (x : Word × Word × Word) : NonVol :=
  let y := sput (0x40000000, 0, 0) (if n.calInB then n.calB else n.calA) m x
  if n.calInB then { n with calA := y, calInB := false } else { n with calB := y, calInB := true }

/-- The store takes G, O and the history of channel `m`. -/
def Dyn.calStore (d : Dyn) (m : Nat) (g o : Word) (source : Nat) (count : Bool) : Dyn :=
  let d := (d.wr (Reg.AIO_CAL_G m) g).wr (Reg.AIO_CAL_O m) o
  let d := d.put (F.AIO_CAL_INFO_SOURCE m) source
  let d := if count then d.bump (F.AIO_CAL_INFO_COUNT m) else d
  { d with nv := d.nv.calWrite m (g, o, d.rd (Reg.AIO_CAL_INFO m)) }

def Dyn.calFactory (d : Dyn) (chan : Nat) : Dyn :=
  if d.flag F.AIO_CAL_STAT_ACTIVE then d.calStat 7 3 2
  else
    let d := (d.calStore chan 0x40000000 0 0 false).setAna chan fun s => { s with gain := 0x40000000, offs := 0 }
    (d.put F.AIO_CAL_STAT_CHAN chan).calStat 7 2 0

/-- A write of AIO_CAL_CMD. -/
def Dyn.calWrite (c : Cfg) (d : Dyn) (w : Word) : Dyn :=
  d.calCmd (w.field 0 4) fun d =>
    let arg := w.field 16 2
    let chan := w.field 8 5
    match w.field 0 4 with
    | 1 => d.calBegin c chan arg
    | 2 => d.calDrive c arg
    | 3 => d.calPoint arg
    | 4 => d.calCompute
    | 5 => d.calCommit
    | 6 => d.calAbort c
    | 7 => d.calFactory chan
    | k => d.calStat k 3 3

/-- A calibration command written by `who`. -/
def calCommand (who : Requester) (code chan arg : Nat) (s : State) : Out :=
  s.upd fun c d => d.gated c who Reg.AIO_CAL_CMD fun d =>
    d.calWrite c (BitVec.ofNat 32 (arg * 2 ^ 16 + chan * 2 ^ 8 + code))

/-- BEGIN. -/
def execBegin (who : Requester) (chan : BitVec 5) (arg : BitVec 2) (s : State) : Out :=
  calCommand who 1 chan.toNat arg.toNat s
/-- DRIVE. -/
def execDrive (who : Requester) (arg : BitVec 2) (s : State) : Out := calCommand who 2 0 arg.toNat s
/-- POINT. -/
def execPoint (who : Requester) (arg : BitVec 2) (s : State) : Out := calCommand who 3 0 arg.toNat s
/-- COMPUTE. -/
def execCompute (who : Requester) (s : State) : Out := calCommand who 4 0 0 s
/-- COMMIT of a calibration. -/
def execCalCommit (who : Requester) (s : State) : Out := calCommand who 5 0 0 s
/-- ABORT. -/
def execAbort (who : Requester) (s : State) : Out := calCommand who 6 0 0 s
/-- FACTORY. -/
def execFactory (who : Requester) (chan : BitVec 5) (s : State) : Out := calCommand who 7 chan.toNat 0 s

/-- POINT_RECORDED, 6.4 ms after POINT: the mean of 64 conversions and their spread, both Q16.16 mA; a spread above 20 µA
is refused. -/
def execPointRecorded (mean spread : Word) (s : State) : Out :=
  s.upd fun c d =>
    if d.get F.AIO_CAL_STAT_STATUS = 1 && d.cal.busy = 3 then d.whenDue c (d.cal.busyAt + 6400000) fun d =>
      if spread.toNat * 1000 > 20 * 65536 then d.calEnds 3 6
      else
        let k := d.cal.point
        let y : Int := if d.cal.external then (d.rd Reg.AIO_CAL_REF).toInt else if k = 0 then 0 else 10 * 65536
        let pts := (d.cal.points.filter fun p => p.1 != k) ++ [(k, mean.toInt, y)]
        let d := { d with cal := { d.cal with points := pts } }
        (d.put F.AIO_CAL_STAT_POINTS (d.get F.AIO_CAL_STAT_POINTS ||| 1 <<< k)).calEnds 2 0
    else d

/-- CAL_STORE_WRITTEN: the store holds the new coefficients and the bypass is removed. -/
def execCalStoreWritten (s : State) : Out :=
  s.upd fun c d =>
    if d.get F.AIO_CAL_STAT_STATUS = 1 && d.cal.busy = 5 then
      let m := d.get F.AIO_CAL_STAT_CHAN
      let d := d.calStore m (d.rd Reg.AIO_CAL_RES_G) (d.rd Reg.AIO_CAL_RES_O) (if d.cal.external then 2 else 1) true
      (d.calEnds 2 0).calEnd c
    else d

/-- CALIBRATION_TIMEOUT: 600 s without a command end the calibration as ABORT does, with reason TIMEOUT. -/
def execCalibrationTimeout (s : State) : Out :=
  s.upd fun c d =>
    if d.flag F.AIO_CAL_STAT_ACTIVE then
      d.whenDue c (d.cal.lastCmd + 600 * 10 ^ 9) fun d => (d.calStat 6 2 7).calEnd c
    else d

end Sys2Proof.Machine
end

