-- ==== Sys2Proof/Machine/Roles.lean ====
section
/-! DEFINITION. Roles and station state of a twin (R244–R246), Shucel messages sent (R248, R249), hardware faults and
giving up (R263, R264), and link failure (R265, R272). -/

namespace Sys2Proof.Machine

/-! Messages. -/

def Dyn.send (d : Dyn) (m : Sent) : Dyn := { d with sent := m :: d.sent }

/-- Next SEQ of a message kind (R248). -/
def Dyn.nextSeq (d : Dyn) (kind : Nat) : Word × Dyn :=
  let n := sget 0 d.twin.seqOut kind
  (n, { d with twin := { d.twin with seqOut := sput 0 d.twin.seqOut kind (n + 1) } })

/-- Send a Shucel message of `kind`; a bulk message (FWD, XFER) waits for its acknowledgement (R249). -/
def Dyn.sendShl (d : Dyn) (kind : Nat) (m : Sent) : Dyn :=
  let (n, d) := d.nextSeq kind
  let d := d.send m
  if kind == 6 || kind == 8 then
    { d with twin := { d.twin with unacked := d.twin.unacked ++ [⟨n, d.clk.cycles, m⟩] } }
  else d

/-- Send a Shucel message with words only. -/
def Dyn.sendWords (d : Dyn) (kind : Nat) (ws : List Word) : Dyn := d.sendShl kind (.shucel kind d.fn ws)

/-! Roles and station state. -/

def Dyn.peerRole (d : Dyn) : Nat := d.get F.SHL_PEER_ROLE
def Dyn.lockstep (d : Dyn) : Bool := d.flag F.SHL_STATUS_LOCKSTEP
/-- A join is in progress (SHL_XFER.STATE LOCKING to VERIFY). -/
def Dyn.joining (d : Dyn) : Bool := 1 ≤ d.get F.SHL_XFER_STATE && d.get F.SHL_XFER_STATE ≤ 4
/-- Takes part in the agreement: in lockstep, or in the mapped agreement, whose frames `mapped` counts (R255, R273). -/
def Dyn.agreeing (d : Dyn) : Bool := d.lockstep || d.twin.mapped != 0

/-- STN_STATE follows roles, lanes and the join (R245, R246). A twin of which no station state of R245 holds (no unit ACTIVE, or
both in a split) reads DEGRADED (DESIGN CHOICE, log entry 62). -/
def Dyn.stnState (c : Cfg) (d : Dyn) : Dyn :=
  let st := if !c.twin then 0 else if d.lockstep && d.role == 2 && d.peerRole == 2 then 1 else 2
  let (a, b) := if d.unitB then (d.peerRole, d.role) else (d.role, d.peerRole)
  let d := d.put F.STN_STATE_STATE st
  let d := d.put F.STN_STATE_ROLE_A a
  let d := d.put F.STN_STATE_ROLE_B b
  let d := d.put F.STN_STATE_LANE0 (d.get F.SHL_STATUS_LANE0)
  let d := d.put F.STN_STATE_LANE1 (d.get F.SHL_STATUS_LANE1)
  d.setFlag F.STN_STATE_JOIN d.joining

/-- The pair outputs follow a change of the sending unit and of the driving one (R277, R278). -/
def Dyn.pairsTo (c : Cfg) (d : Dyn) (on ao : Bool) : Dyn :=
  if c.twin then
    let d : Dyn := { d with twin := { d.twin with pairOn := on, aoOn := ao } }
    let d := analogues.foldl (fun d m => if c.pairAo m then d.fixAio c m else d) d
    digitals.foldl (fun d n => if c.pairDo n then d.dropConds c n else d) d
  else d

/-! The twin time lock (R359): TSU_STATUS.TWIN 0 none, 1 MASTER, 2 FOLLOWER acquiring, 3 FOLLOWER locked. -/

/-- The unit that drives time: A while A is ACTIVE, else B while B is ACTIVE. -/
def Dyn.timeMaster (c : Cfg) (d : Dyn) : Bool :=
  c.twin && d.role == 2 && (!d.unitB || d.get F.STN_STATE_ROLE_A != 2)

def Dyn.follower (d : Dyn) : Bool := 2 ≤ d.get F.TSU_STATUS_TWIN

/-- Servo state (R354): 0 FREERUN, 1 ACQUIRING, 2 LOCKED, 3 HOLDOVER, 4 EXTERNAL. -/
def Dyn.servo (d : Dyn) : Nat := d.get F.TSU_STATUS_SERVO

/-- While it is not LOCKED, TAI_UTC is a stored value (R373), and PPS_OUT stays low with GATE_LOCKED (R364). -/
def Dyn.setServo (c : Cfg) (d : Dyn) (v : Nat) : Dyn :=
  let d := d.put F.TSU_STATUS_SERVO v
  if v = 2 then d
  else
    let d := d.setFlag F.RTC_CALSTATE_TAI_SRC false
    if c.flag F.TSU_PPS_CFG_GATE_LOCKED then { d with tsu := { d.tsu with ppsOut := false } } else d

/-- The unit becomes a follower, acquiring (2) or locked (3); its PTP ports only listen. -/
def Dyn.followTime (c : Cfg) (d : Dyn) (v : Nat) : Dyn :=
  let d : Dyn := { d.put F.TSU_STATUS_TWIN v with
    tsu := { d.tsu with lockGood := 0, lockBad := 0, lockSet := v == 3, masterA := none, masterB := none } }
  if c.get F.TSU_CFG_ROLE = 0 then d else d.put F.TSU_STATUS_PTP_STATE 1

/-- Neither master nor follower any longer: a follower's servo begins in HOLDOVER at the increment last steered, as that of one
that becomes master does (DESIGN CHOICE, log entry 117), or is EXTERNAL. -/
def Dyn.leaveLock (c : Cfg) (d : Dyn) : Dyn :=
  if d.get F.TSU_STATUS_TWIN = 0 then d
  else
    let f := d.follower
    let d := d.put F.TSU_STATUS_TWIN 0
    if f then (d.setServo c (if d.servo = 4 then 4 else 3)).put F.TSU_TWIN_STEER 0 else d

/-- This unit takes role `r`; a SHADOW and a unit that has given up are in no time lock. -/
def Dyn.setRole (c : Cfg) (d : Dyn) (r : Nat) : Dyn :=
  let d := d.put F.SHL_STATUS_ROLE r
  (if r = 3 || r = 7 then d.leaveLock c else d).stnState c

/-- The peer is seen in role `r`. -/
def Dyn.setPeer (c : Cfg) (d : Dyn) (r : Nat) : Dyn := (d.put F.SHL_PEER_ROLE r).stnState c

def Dyn.setLockstep (c : Cfg) (d : Dyn) (b : Bool) : Dyn := (d.setFlag F.SHL_STATUS_LOCKSTEP b).stnState c

/-! Giving up. -/

/-- The unit never retries a frame on CAN, and holds none (R443). -/
def Dyn.canDrop (d : Dyn) : Dyn :=
  let d := (List.range 4).foldl (fun d k =>
    { d with can := sput Can.init d.can k { sget Can.init d.can k with waiting := [], under := none, held := none } }) d
  (List.range 128).foldl (fun d q => if (d.queue q).rel.isEmpty then d else d.setQueue q fun x => { x with rel := [] }) d

/-- The single outputs of the unit to their safe values (R244): its pair outputs are off at rank 5, and their stages at
0 mA, while it does not send (R277, R278). With `failLevel`, at a give-up, every output, and every analogue output to its
failure level; a pair output is off by its safe value, and its stage at 0 mA by R278. -/
def Dyn.allSafe (c : Cfg) (d : Dyn) (failLevel : Bool) : Dyn :=
  let d := digitals.foldl (fun d n => if c.isOut n && (failLevel || !c.pairDo n) then d.toSafe c n else d) d
  analogues.foldl (fun d m =>
    if c.anaMode m = 2 && (failLevel || !c.pairAo m) then
      (if failLevel then d.setAna m fun s => { s with giveUp := true } else d).anaSafe c m
    else d) d

/-- The unit gives up (R264), and its journal freezes with cause GIVE_UP. -/
def Dyn.giveUp (c : Cfg) (d : Dyn) (cause : Nat) : Dyn :=
  let d := { d with slc := { d.slc with commitOff := true } }.canDrop
  let d := d.sendWords 7 [BitVec.ofNat 32 cause]
  let d := d.put F.SHL_GIVEUP_OWN cause
  let d := { d with twin := { d.twin with nextRole := none, decides := false, atCommit := none, mismatch := none,
                                          suppress := false } }
  let d := ((d.setLockstep c false).setRole c 7).pairsTo c false false
  let d := d.allSafe c true
  let d := d.enter 3 cause
  d.freeze c 6 cause d.fn

/-- A hardware fault (R263): a unit of a twin gives up; a simplex module enters FAULT with the cause, stops committing,
and its outputs reach their safe values when the field-side watchdogs expire (R475). -/
def Dyn.hardwareFault (c : Cfg) (d : Dyn) (cause : Nat) : Dyn :=
  if d.role == 7 || d.modState == 3 then d
  else if c.twin then d.giveUp c cause
  else ({ d with slc := { d.slc with commitOff := true } }.canDrop).enter 3 cause

/-! Link failure and failed joins. -/

/-- The entries of the identifier map that are in use: number and both words (R406). -/
def Cfg.idmap (c : Cfg) : List (Nat × Word × Word) :=
  (c.lk.filter fun e => 0xD8000 ≤ e.1 && e.1 < 0xDC000 && e.1 % 8 == 0 && e.2.field 30 2 != 0).map fun e =>
    ((e.1 - 0xD8000) / 8, e.2, c.rd (e.1 + 4))

/-- The receive entries of a stream (R406): number, and both words. -/
def Cfg.streamEntries (c : Cfg) (id : Nat) : List (Nat × Word × Word) :=
  c.idmap.filter fun e => e.2.1.field 30 2 == 2 && e.2.1.field 0 16 == id

/-- The polder whose queue an external trigger enters. -/
def Cfg.evOwner (c : Cfg) (e : EvEntry) : Option Nat :=
  match e.kind with
  | 3 => c.anaOwner (e.source / 2)
  | 4 => some ((c.rd (0xD8000 + 8 * e.source + 4)).field 23 4)
  | 5 => ((c.streamEntries e.source).find? fun x => x.2.1.field 20 4 == e.task).map fun x => x.2.1.field 24 4
  | 6 => some (if 0x100 ≤ e.source then c.get F.TSU_CFG_WRAP_POLDER else c.get (F.TSU_CMP_CFG_OWNER e.source))
  | _ => c.digOwner e.source

/-- Lockstep ends: triggers collected for an agreement are this unit's own entries of the slot under way, reports that were
not sent yet are triggers to collect (R259). -/
def Dyn.handOn (c : Cfg) (d : Dyn) : Dyn :=
  let put := fun (f : EvEntry → Polder → Polder) (d : Dyn) (e : EvEntry) => match c.evOwner e with
    | some p => d.setPolder p (f e)
    | none => d
  let d := (d.twin.ownSlot ++ d.twin.ownWait).foldl (put fun e s => { s with coll := s.coll ++ [e] }) d
  let d := d.twin.ownRep.foldl (put fun e s => { s with trig := s.trig ++ [e] }) d
  { d with twin := { d.twin with ownSlot := [], ownWait := [], ownRep := [], peerRep := [] } }

/-- Forwarding numbers restart at the start of an agreement, and what waits is forwarded (R256). -/
def Dyn.renumber (d : Dyn) : Dyn :=
  let x := (d.twin.rx.filter fun r => !r.peer).foldl (fun (x : Nat × List Rx) r =>
    (x.1 + 1, x.2 ++ [{ r with num := x.1 + 1 }])) (0, [])
  let d : Dyn := { d with twin := { d.twin with rx := x.2, numbered := x.1, peerCut := 0,
                                                seen := d.twin.seen.map fun r => { r with num := 0 } } }
  x.2.foldl (fun (d : Dyn) r => d.sendShl 6 (.forward r.num r.item)) d

/-- A join fails (R272): the joining unit gives up with JOIN_FAILED, the active unit continues. -/
def Dyn.joinFail (c : Cfg) (d : Dyn) (cause : Nat) : Dyn :=
  let d := ((d.put F.SHL_XFER_STATE 6).put F.SHL_XFER_CAUSE cause).stnState c
  let d := { d with twin := { d.twin with lockFn := none, recs := [], peerReady := 0 } }
  if d.role == 4 || d.role == 6 then d.giveUp c 0x35 else d.setLockstep c false

/-- The link fails (R265): lockstep ends; what was to be agreed goes on alone, and B suppresses on to V (R262). A stays ACTIVE; B becomes SHADOW at the next frame
if a heartbeat of an ACTIVE A arrived in the previous frame, and otherwise is ACTIVE. A unit that is MAPPED acts as B
does. -/
def Dyn.linkFail (c : Cfg) (d : Dyn) : Dyn :=
  if d.joining then d.joinFail c 4
  else if d.agreeing then
    let yields := (d.unitB && d.role == 2 && d.peerRole == 2) || d.role == 5
    let d := ({ d with twin := { d.twin with mapped := 0, lostFn := some d.fn } } : Dyn).setLockstep c false |>.handOn c
    if !yields then d
    else { d with twin := { d.twin with decides := true } }
  else d

/-! Lanes (R249, R250). -/

def laneFld (lane1 : Bool) : Fld := if lane1 then F.SHL_STATUS_LANE1 else F.SHL_STATUS_LANE0
def latFld (lane1 : Bool) : Fld := if lane1 then F.SHL_LAT_LANE1_NS else F.SHL_LAT_LANE0_NS

/-- Some lane is UP. -/
def Dyn.linkUp (d : Dyn) : Bool := d.flag F.SHL_STATUS_LANE0 || d.flag F.SHL_STATUS_LANE1

/-- A lane goes DOWN; the link fails with the second one, and the peer may count its messages anew (log entry 111). -/
def Dyn.laneDown (c : Cfg) (d : Dyn) (lane1 : Bool) : Dyn :=
  if !c.twin || !d.flag (laneFld lane1) then d
  else
    let d := (((d.setFlag (laneFld lane1) false).put (latFld lane1) 0).stnState c).alarm c 0x0401 (b2n lane1) 0 0
    if d.linkUp then d else ({ d with twin := { d.twin with seqIn := [] } } : Dyn).linkFail c

/-- `n` further CRC errors on a lane: more than 8 within a frame take it DOWN. -/
def Dyn.laneErrors (c : Cfg) (d : Dyn) (lane1 : Bool) (n : Nat) : Dyn :=
  let l := b2n lane1
  let k := sget 0 d.twin.crcFrame l + n
  let d := d.bumpBy (F.SHL_LANE_ERR_COUNT l) n
  let d : Dyn := { d with twin := { d.twin with crcFrame := if d.slc.framing then sput 0 d.twin.crcFrame l k else [] } }
  if 8 < k then d.laneDown c lane1 else d

/-! Messages received. -/

/-- This SEQ of this kind has been received. -/
def Dyn.gotSeq (d : Dyn) (kind : Nat) (h : ShlHdr) : Bool := (sget [] d.twin.seqIn kind).contains h.seq

/-- The SEQ of a message is noted (log entry 111). -/
def Dyn.noteSeq (d : Dyn) (kind : Nat) (h : ShlHdr) : Dyn :=
  { d with twin := { d.twin with seqIn := sput [] d.twin.seqIn kind ((h.seq :: sget [] d.twin.seqIn kind).take 64) } }

/-- A received Shucel message: one whose CRC fails is discarded and counted, a second copy is discarded by SEQ, the
clock stands at its arrival. -/
def Dyn.received (c : Cfg) (d : Dyn) (kind : Nat) (h : ShlHdr) (f : Dyn → Dyn) : Dyn :=
  let d := d.advTo h.at_
  if !h.crcOk then d.laneErrors c h.lane1 1
  else if d.gotSeq kind h then d
  else f (d.noteSeq kind h)

/-- A received bulk message is acknowledged, a second copy too; one whose CRC fails is not. -/
def Dyn.receivedBulk (c : Cfg) (d : Dyn) (kind : Nat) (h : ShlHdr) (f : Dyn → Dyn) : Dyn :=
  let d := d.advTo h.at_
  if !h.crcOk then d.laneErrors c h.lane1 1
  else
    let ack := d.sendWords 9 [0, BitVec.ofNat 32 kind, h.seq]
    if d.gotSeq kind h then ack else f (ack.noteSeq kind h)

end Sys2Proof.Machine
end

