-- ==== Sys2Proof/Machine/LeveeCmd.lean ====
section
/-! DEFINITION. The events of the levee matrix (R107–R126): source changes, holds, plane disagreement, the end of a term
test, and what a commit of P0 brings it. -/

namespace Sys2Proof.Machine

/-- A source line can change: a digital line not of an output (R107), during a wire-break test or over a failed link (R300,
R308); the line of an enabled comparator not
out of service or over a failed link (R315, R323, R325). A P0 flag changes at a commit alone (R108). -/
def Dyn.lineLive (c : Cfg) (d : Dyn) (i : Nat) : Bool :=
  let m := (i - 96) / 2
  if i < 96 then !c.isOut i && !d.flag (F.DIO_STATUS_WB_ACTIVE i) && !d.flag (F.DIO_STATUS_LINK_FAIL i)
  else decide (i < 160) && c.get (F.AIO_CFG_MODE m) != 0 &&
    c.flag (if i % 2 = 1 then F.AIO_CMP1_EN m else F.AIO_CMP0_EN m) && !d.flag (F.AIO_STATUS_OOS m) && !d.flag (F.AIO_STATUS_LINK_FAIL m)

/-- SOURCE_CHANGE on a digital (0–95) or comparator (96–159) line. -/
def execSourceChange (src : BitVec 8) (level : Bool) (s : State) : Out :=
  s.upd fun c d =>
    let i := src.toNat
    if d.lineLive c i then d.sourceTo c i level else d

/-- TERM_HOLD_ELAPSED: the minimum hold of an active term has run, 0 to 2 µs beyond its value (R111). -/
def execTermHoldElapsed (t : BitVec 6) (s : State) : Out :=
  s.upd fun c d =>
    let k := t.toNat
    if d.lve.holding.getLsbD k then
      d.whenCycle c (sget 0 d.lve.since k + c.get (F.LVE_HOLD_HOLD_US k) * 500) fun d => (d.setHolding k false).levee c
    else d

/-- PLANE_MISMATCH: the planes disagree for more than 20 ns, by the gate commands and flags that only the other plane
asserts; until reset each gate command and each flag is the OR of the two planes, of which a later command gives the
other one anew. A unit of a twin gives up, a simplex module stays in RUN (R120). -/
def execPlaneMismatch (gates : BitVec 96) (flags : BitVec 16) (s : State) : Out :=
  s.upd fun c d =>
    let l := d.lve
    let known := d.flag F.LVE_STATUS_PLANE_MISMATCH
    let d : Dyn := { d with lve := { l with planeGate := gates, planeFlag := flags } }
    let d := (d.setFlag F.LVE_STATUS_PLANE_MISMATCH true).levee c
    if known then d
    else
      let d := d.alarm c 0x0301 0 0 0
      if c.twin then d.hardwareFault c 0x23 else d

/-- TEST_EXPIRED: the test has run for LVE_TEST_LIMIT seconds (R126). -/
def execTestExpired (s : State) : Out :=
  s.upd fun c d =>
    if d.lve.testMode = 0 then d
    else d.whenCycle c (d.lve.testStart + c.get F.LVE_TEST_LIMIT_SECONDS * 500000000) fun d =>
      let t := d.lve.testTerm
      (d.endTest c 3).alarm c 0x0302 t 0 0

/-- At a commit of P0 its writes act together (R108, R124, R125): flags, test values, and each write of LVE_TEST_CTRL as a
request of its own, in their order (DESIGN CHOICE, log entry 104). Writes of a frame in which P0 spills act at its next
commit (DESIGN CHOICE, log entry 105). -/
def Dyn.leveeCommit (c : Cfg) (d : Dyn) : Dyn :=
  let ws := d.lve.pend
  let d : Dyn := { d with lve := { d.lve with pend := [], p0c := some (d.lve.p0c.getD 0) } }
  ws.foldl (fun (d : Dyn) w =>
    let d := d.wr w.1 w.2
    if w.1 = Reg.LVE_P0F then { d with lve := { d.lve with p0c := some (w.2.extractLsb' 0 16) } }
    else if w.1 = Reg.LVE_TEST_VAL then { d with lve := { d.lve with testVal := w.2 } }
    else d.testCtrl c w.2) d

/-- P0 will not commit the writes of this frame. -/
def Dyn.leveeDrop (d : Dyn) : Dyn := { d with lve := { d.lve with pend := [] } }

end Sys2Proof.Machine
end

