-- ==== Sys2Proof/Machine/Polder.lean ====
section
/-! DEFINITION. What one polder is to the engines: which image entries it owns or may read (R15, R135), its modes
(R153), its faults (R92, R149), its spills (R87–R92), and when an instruction of it issues (R82, R87, R155, R156). -/

namespace Sys2Proof.Machine

/-! Ownership of image entries. -/

/-- Data bytes of a CAN frame by its DLC (R424). -/
def dlcLen (dlc : Nat) : Nat :=
  match dlc with
  | 9 => 12 | 10 => 16 | 11 => 20 | 12 => 24 | 13 => 32 | 14 => 48 | 15 => 64 | n => n

/-- What an entry places in the image: transmit area, first word, number of words, owner. -/
def segOf (w0 w1 : Word) : Option (Bool × Nat × Nat × Nat) :=
  match w0.field 30 2 with
  | 1 => if w1.field 27 2 = 0 then some (w1.bit 29, w1.field 4 12, (dlcLen (w1.field 0 4) + 3) / 4, w1.field 23 4)
    else none
  | 2 => if w0.bit 28 then none else some (false, w1.field 20 12, w1.field 11 9, w0.field 24 4)
  | 3 => some (true, w1.field 20 12, w1.field 11 9, w0.field 24 4)
  | _ => none

/-- The owner of a word that the identifier map places. -/
def Cfg.placed (c : Cfg) (tx : Bool) (w : Nat) : Option Nat :=
  c.idmap.findSome? fun e => match segOf e.2.1 e.2.2 with
    | some (t, first, n, o) => if t == tx && first ≤ w && w < first + n then some o else none
    | none => none

/-- Whether an output image bit belongs to a resource, and the resource's owner (R134). Channels are resources whether
configured or not; published words and transmit words are where the image places them. -/
def Cfg.outRes (c : Cfg) (bit : Nat) : Bool × Option Nat :=
  let w := bit / 32
  if w < 3 then (true, c.digOwner bit)
  else if 0x200 ≤ w && w < 0x220 then (true, c.anaOwner (w - 0x200))
  else if 0x220 ≤ w && w < 0x400 then (true, (c.img.published.find? fun e => e.1 == w).map (·.2))
  else
    let o := if 0x400 ≤ w && w < 0x1000 then c.placed true w else none
    (o.isSome, o)

/-- The same for an input image bit (R133). The levee words are a resource without an owner. -/
def Cfg.inRes (c : Cfg) (bit : Nat) : Bool × Option Nat :=
  let w := bit / 32
  if w < 3 then (true, c.digOwner bit)
  else if 8 ≤ w && w < 0x1E8 then (true, c.digOwner ((w - 8) % 96))
  else if 0x200 ≤ w && w < 0x240 then (true, c.anaOwner (w % 32))
  else if w = 0x240 || w = 0x241 then (true, c.anaOwner ((bit - 0x240 * 32) / 2))
  else if 0x242 ≤ w && w < 0x24D then (true, none)
  else if 0x260 ≤ w && w < 0x280 then
    let s := w - 0x260
    (true, optIf (c.flag (F.NET_RS_CFG_EN s)) (c.get (F.NET_RS_CFG_OWNER s)))
  else if 0x280 ≤ w && w < 0x284 then
    let k := w - 0x280
    (true, optIf (c.flag (F.CAN_CFG_EN k)) (c.get (F.CAN_CFG_OWNER k)))
  else if 0x284 ≤ w && w < 0x28C then
    let s := w - 0x284
    (true, optIf (c.flag (F.SLV_CFG_CONFIGURED s)) (c.get (F.SLV_CFG_OWNER s)))
  else if 0x300 ≤ w && w < 0x1000 then (fun o => (o.isSome, o)) (c.placed false w)
  else (false, none)

/-- A grant covers bits `lo … hi` (R135). -/
def grants (l : List Grant) (p lo hi : Nat) : Bool := l.any fun g => g.polder == p && g.lo ≤ lo && hi ≤ g.hi

/-- Access of `p` to a bit: 0 no resource, 1 readable, 2 denied. -/
def Cfg.inClass (c : Cfg) (p bit : Nat) : Nat :=
  let (ex, o) := c.inRes bit
  let w := bit / 32
  if o == some p || grants c.img.inGrants p bit bit || (0x250 ≤ w && w ≤ 0x255) then 1 else if ex then 2 else 0

def Cfg.outClass (c : Cfg) (p bit : Nat) : Nat :=
  let (ex, o) := c.outRes bit
  if o == some p || grants c.img.outGrants p bit bit then 1 else if ex then 2 else 0

/-- The bits of a word that satisfy `f`. -/
def maskOf (f : Nat → Bool) : Word :=
  (List.range 32).foldl (fun m i => if f i then m.setBit i true else m) 0

/-- Words that pack bits of several resources. -/
def inPacked (w : Nat) : Bool := w < 3 || w == 0x240 || w == 0x241
def outPacked (w : Nat) : Bool := w < 3

/-- The readable bits of an input word; `none` is ACCESS. -/
def Cfg.inMask (c : Cfg) (p w : Nat) : Option Word :=
  if inPacked w then some (maskOf fun i => c.inClass p (32 * w + i) == 1)
  else
    let (ex, o) := c.inRes (32 * w)
    if o == some p || grants c.img.inGrants p (32 * w) (32 * w + 31) || (0x250 ≤ w && w ≤ 0x255) then some (-1)
    else if ex then none else some 0

def Cfg.outMask (c : Cfg) (p w : Nat) : Option Word :=
  if outPacked w then some (maskOf fun i => c.outClass p (32 * w + i) == 1)
  else
    let (ex, o) := c.outRes (32 * w)
    if o == some p || grants c.img.outGrants p (32 * w) (32 * w + 31) then some (-1) else if ex then none else some 0

/-- The bits of output word `w` that `p` owns. -/
def Cfg.ownMask (c : Cfg) (p w : Nat) : Word :=
  if outPacked w then maskOf fun i => (c.outRes (32 * w + i)).2 == some p
  else if (c.outRes (32 * w)).2 == some p then -1 else 0

/-- Output words in use, in the working or the committed image. -/
def Dyn.outKeys (d : Dyn) : List Nat := d.outW.map (·.1) ++ d.outC.map (·.1)

/-- The words of `m` take the owned bits of `p` from `n`. -/
def Dyn.mergeOwn (c : Cfg) (d : Dyn) (p : Nat) (m n : SMap Word) : SMap Word :=
  d.outKeys.foldl (fun m w =>
    let k := c.ownMask p w
    sput 0 m w ((sget 0 m w &&& ~~~k) ||| (sget 0 n w &&& k))) m

/-- The owned entries return to the values of the last commit (R92). -/
def Dyn.dropOut (c : Cfg) (d : Dyn) (p : Nat) : Dyn := { d with outW := d.mergeOwn c p d.outW d.outC }
/-- The owned entries are committed (R91). -/
def Dyn.commitOut (c : Cfg) (d : Dyn) (p : Nat) : Dyn := { d with outC := d.mergeOwn c p d.outC d.outW }

/-- The analogue output word is bound to a loop context (R136). -/
def Cfg.loopBound (c : Cfg) (w : Nat) : Bool :=
  0x200 ≤ w && w < 0x220 && (List.range 128).any fun k =>
    c.flag (F.LPE_CFG_CONFIGURED k) && c.flag (F.LPE_AO_BOUND k) && c.get (F.LPE_AO_CHAN k) == w - 0x200

/-! Hardware queues owned by a polder. -/

/-- A configured queue: the smallest DEPTH is 1 (R402). -/
def Cfg.queueUsed (c : Cfg) (q : Nat) : Bool := c.get (F.HQ_SIZE_DEPTH q) != 0
def Cfg.queuesOf (c : Cfg) (p : Nat) : List Nat :=
  (List.range 128).filter fun q => c.queueUsed q && c.get (F.HQ_CFG_OWNER q) == p

/-- FAULT, STOP and restarts empty the pending parts (R403). -/
def Dyn.dropPending (c : Cfg) (d : Dyn) (p : Nat) : Dyn :=
  (c.queuesOf p).foldl (fun d q => d.setQueue q fun x => { x with pend := [] }) d

/-! Modes, error causes and faults. -/

/-- LGE_PC, LGE_ACC and LGE_WA of a polder without a task: TASK 15, depths 0, and free values (R158). -/
def Dyn.noTask (d : Dyn) (p : Nat) : Dyn :=
  let (x, d) := d.fresh
  let (y, d) := d.fresh
  ((d.wr (Reg.LGE_PC p) ((x &&& 0x7FFFF) ||| 0xF0000000)).wr (Reg.LGE_ACC p) (y &&& 0x80000000)).wrFresh (Reg.LGE_WA p)

/-- PLD_STATE.STATE: 1 STOP, 2 RUN, 3 HOLD, 4 FAULT; SLC_FAULT_MAP and a test of P0 follow (R103, R126). -/
def Dyn.setMode (c : Cfg) (d : Dyn) (p m : Nat) : Dyn :=
  let d := (d.put (F.PLD_STATE_STATE p) m).setPolder p fun s => { s with jobsEnd := m == 1 || m == 4 }
  let d := d.wr Reg.SLC_FAULT_MAP ((d.rd Reg.SLC_FAULT_MAP).setBit p (m == 4))
  let d := if m = 3 && (d.polder p).tasks.isEmpty then d.noTask p else d
  if p = 0 && m ≠ 2 then d.testOff c else d

def Cfg.errTask (c : Cfg) (p : Nat) : Bool := c.flag (F.LGE_CTRL_ERR_TASK p)

/-- An error cause is made pending (R147): only with an error task, and only in RUN or HOLD. -/
def Dyn.addCause (c : Cfg) (d : Dyn) (p code : Nat) : Dyn :=
  if c.polder p && c.errTask p && (d.mode p == 2 || d.mode p == 3) then
    d.setPolder p fun s => { s with causes := s.causes ++ [code] }
  else d

/-- FAULT, STOP and restarts discard the wire-break tests requested and not released (R299). -/
def Dyn.dropTests (c : Cfg) (d : Dyn) (p : Nat) : Dyn :=
  digitals.foldl (fun d n =>
    if (d.dig n).wb && c.digOwner n == some p then d.setDig n fun s => { s with wb := false } else d) d

/-- Unfinished tasks are abandoned with their writes since the last commit (R92, R153). -/
def Dyn.abandon (c : Cfg) (d : Dyn) (p : Nat) : Dyn :=
  let d := d.setPolder p fun s =>
    { s with tasks := [], carried := [], begun := [], left := [], preempt := 0, unfinishedX := false, steps := none, skipBp := false }
  let d := ((d.dropOut c p).dropPending c p).dropTests c p
  if p = 0 then d.leveeDrop else d

/-- Entry into FAULT with a cause; the error task may run once at the next E, with this cause before any that was pending
(R92, R149). -/
def Dyn.enterFault (c : Cfg) (d : Dyn) (p code : Nat) (again : Bool) : Dyn :=
  let d := (d.abandon c p).setMode c p 4
  let d := d.put (F.PLD_ERR_CAUSE p) code
  d.setPolder p fun s =>
    { s with causes := if c.errTask p && again then code :: s.causes else [], errRun := c.errTask p && again,
             faulted := true }

/-- LGE_PC.TASK of a task number. -/
def Dyn.programFault (c : Cfg) (d : Dyn) (p task code pc : Nat) : Dyn :=
  let d := d.enterFault c p code (task != 9)
  let d := d.wr (Reg.LGE_FAULT p) (BitVec.ofNat 32 (b2n (task == 9) * 2 ^ 31 + task * 2 ^ 20 + code))
  d.put (F.LGE_FAULT_PC_PC p) pc

/-! Spills. -/

/-- The polder spills: `kind` 1 BUDGET, 2 WINDOW (R87, R88, R92). -/
def Dyn.spill (c : Cfg) (d : Dyn) (p kind : Nat) : Dyn :=
  let n := min (d.get (F.PLD_SPILL_CONSEC p) + 1) 255
  let d := (d.put (F.PLD_SPILL_CONSEC p) n).put (F.PLD_SPILL_LAST_KIND p) kind
  let d := (d.bump (F.PLD_SPILL_TOTAL_COUNT p)).wr (Reg.PLD_SPILL_FN p) d.fn
  let d := d.setPolder p fun s => { s with spilled := true, preempt := kind, bLogic := if kind = 1 then 0 else s.bLogic }
  let d := d.post c p 0x10 15 p d.slc.tFt (BitVec.ofNat 32 (kind * 256 + n))
  d.alarm c 0x0201 p (BitVec.ofNat 32 n) (BitVec.ofNat 32 kind)

/-! Tasks. -/

/-- The order of tasks (R147): error task, event tasks, cyclic task. -/
def taskOrder : List Nat := [9, 1, 2, 3, 4, 5, 6, 7, 8, 0]

/-- The task that has the polder's lane: an unfinished task of an earlier frame first, else by rank. -/
def Polder.current (s : Polder) : Option (Nat × TaskCtx) :=
  let old := s.tasks.filter fun t => s.carried.contains t.1
  let from_ := if old.isEmpty then s.tasks else old
  taskOrder.findSome? fun k => from_.find? fun t => t.1 == k

/-- An instruction of task `k` has issued: its context from then on, or its end. -/
def Polder.setTask (s : Polder) (k : Nat) (t : Option TaskCtx) : Polder :=
  let rest := s.tasks.filter fun x => x.1 != k
  match t with
  | some x => { s with tasks := rest ++ [(k, x)], begun := s.begun.filter (· != k) ++ [k] }
  | none => { s with tasks := rest, begun := s.begun.filter (· != k), carried := s.carried.filter (· != k), left := s.left.filter (· != k) }

/-- The image's POLDER section. -/
def Cfg.pimg (c : Cfg) (p : Nat) : Option PolderImg := c.img.polders.find? fun x => x.num == p

/-- Entry point of a task. -/
def Cfg.entryOf (c : Cfg) (p k : Nat) : Nat :=
  match c.pimg p with
  | some i => if k = 0 then i.cyclicEntry else if k = 9 then i.errorEntry else i.eventEntries.getD (k - 1) 0
  | none => 0

def Dyn.startTask (c : Cfg) (d : Dyn) (p k : Nat) : Dyn :=
  d.setPolder p fun s =>
    { s with tasks := s.tasks.filter (·.1 != k) ++ [(k, { TaskCtx.init with pc := c.entryOf p k })],
             begun := s.begun.filter (· != k) }

/-- The task may issue: the polder is in RUN, or in FAULT with its error task; it is not pre-empted, and steps are left
when it is stepping. -/
def Dyn.able (d : Dyn) (p : Nat) : Option (Nat × TaskCtx) :=
  let s := d.polder p
  if s.preempt ≠ 0 || s.steps == some 0 then none
  else match s.current with
    | some (k, t) => if d.mode p = 2 || (d.mode p = 4 && s.errRun && k = 9) then some (k, t) else none
    | none => none

/-- Order of placement (R81): class, then number. -/
def Cfg.rank (c : Cfg) (p : Nat) : Nat := c.get (F.PLD_CFG_CLASS p) * 16 + p
def Dyn.home (d : Dyn) (p : Nat) : Nat := (d.rd Reg.SLC_HOME).field (2 * p) 2

/-- The task whose instruction issues next (R82): execution is open, and no polder before it on its lane has work and
budget left. -/
def Dyn.ready (c : Cfg) (d : Dyn) (p : Nat) : Option (Nat × TaskCtx) :=
  if d.get F.SLC_STATUS_PHASE = 2 && d.running && c.polder p &&
      !(polders.any fun q => c.polder q && c.rank q < c.rank p && d.home q == d.home p && (d.able q).isSome &&
        (d.polder q).bLogic != 0) then d.able p
  else none

/-- A valid breakpoint of `p` at `pc`; never of P0 (R156). -/
def Dyn.breakAt (d : Dyn) (p pc : Nat) : Bool :=
  p != 0 && (List.range 16).any fun i =>
    d.flag (F.LGE_BP_VALID i) && d.get (F.LGE_BP_POLDER i) == p && d.get (F.LGE_BP_ADDR i) == pc

/-- What an instruction does to the polder's state and its task; `none` ends the task, an error is a fault code. -/
abbrev Effect := Cfg → Dyn → Nat → TaskCtx → Except Nat (Dyn × Option TaskCtx)

/-- Cycles charged to polder `p` on its home lane. -/
def Dyn.charge (d : Dyn) (p cost : Nat) : Dyn :=
  let d := d.setPolder p fun s => { s with bLogic := s.bLogic - cost, uLogic := s.uLogic + cost }
  { d with slc := { d.slc with laneUse := d.slc.laneUse.modify (d.home p) (· + cost) } }

/-- One instruction is counted against a STEP. -/
def Dyn.counted (d : Dyn) (p : Nat) : Dyn :=
  d.setPolder p fun s => { s with steps := s.steps.map (· - 1), skipBp := false }

/-- An instruction of `p` comes to issue (R82, R87, R139, R149, R156): it waits for its turn; a breakpoint at its address
holds a polder in RUN; without budget the polder spills; past the segment it is JUMP_BOUNDS; a fault has no effect beyond
the charge. -/
def Dyn.issue (c : Cfg) (d : Dyn) (p : Nat) (cost : Dyn → TaskCtx → Nat) (f : Effect) : Dyn :=
  match d.ready c p with
  | none => d
  | some (k, t) =>
    let len := c.get (F.LGE_SEG_LEN_VALUE p)
    if len ≤ t.pc then d.programFault c p k 0x15 len
    else if !(d.polder p).skipBp && d.breakAt p t.pc && d.mode p == 2 then d.setMode c p 3
    else
      let n := cost d t
      if (d.polder p).bLogic < n then d.spill c p 1
      else
        let d := (d.charge p n).counted p
        match f c d p t with
        | .ok (d', t') => d'.setPolder p fun s => s.setTask k t'
        | .error code => d.programFault c p k code t.pc

end Sys2Proof.Machine
end

