-- ==== Sys2Proof/Machine/Queues.lean ====
section
/-! DEFINITION. The hardware queues (R402–R404): what Q_SEND puts in, what arrives, and what Q_RECV takes out. -/

namespace Sys2Proof.Machine

/-! HQ_CFG: TKIND 0 CAN, 1 STREAM, 2 INTERNAL, 3 ALARM; DIR receive; POLICY DROP_OLDEST. -/

def Cfg.qKind (c : Cfg) (q : Nat) : Nat := c.get (F.HQ_CFG_TKIND q)
def Cfg.qReceive (c : Cfg) (q : Nat) : Bool := c.qKind q ≤ 1 && c.flag (F.HQ_CFG_DIR q)
def Cfg.qOwner (c : Cfg) (q : Nat) : Nat := c.get (F.HQ_CFG_OWNER q)
def Cfg.qPeer (c : Cfg) (q : Nat) : Nat := c.get (F.HQ_CFG_PEER q)
def Cfg.qWords (c : Cfg) (q : Nat) : Nat := c.get (F.HQ_SIZE_EWORDS q) + 1
def Cfg.qDepth (c : Cfg) (q : Nat) : Nat := c.get (F.HQ_SIZE_DEPTH q)

/-- The channel on which a CAN queue's entries go to the bus (R439). -/
def Dyn.qChannel (c : Cfg) (d : Dyn) (q : Nat) : Nat :=
  if (d.queue q).alt then c.get (F.HQ_ALT_CH q) else c.get (F.HQ_CFG_CANCH q)

/-- The bus attempt of a CAN queue's oldest entry is under way (R436). -/
def Dyn.onBus (c : Cfg) (d : Dyn) (q : Nat) : Bool :=
  c.qKind q == 0 && ((sget Can.init d.can (d.qChannel c q)).under.map (·.1)) == some (.queue q)

/-- Committed entries: a CAN queue's released entries stay in the queue until they are sent (R433, R436). -/
def HQueue.committed (x : HQueue) : Nat := x.done.length + x.rel.length
def HQueue.total (x : HQueue) : Nat := x.committed + x.pend.length

/-- Drop the oldest committed entry, or the oldest pending one if none is committed (R403). -/
def HQueue.dropOldest (x : HQueue) : HQueue :=
  match x.done with
  | _ :: l => { x with done := l }
  | [] => { x with pend := x.pend.drop 1 }

/-- Drop the oldest released entry that is not on a bus, or else the oldest committed one. -/
def HQueue.dropReleased (x : HQueue) (bus : Bool) : HQueue :=
  match x.rel, bus with
  | _ :: l, false => { x with rel := l }
  | e :: _ :: l, true => { x with rel := e :: l }
  | _, _ => { x with done := x.done.drop 1 }

def Dyn.canOf (d : Dyn) (k : Nat) : Can := sget Can.init d.can k
def Dyn.setCan (d : Dyn) (k : Nat) (f : Can → Can) : Dyn := { d with can := sput Can.init d.can k (f (d.canOf k)) }
/-- The candidate counted under R442 leaves its place: what follows there is a different candidate. -/
def Dyn.uncount (d : Dyn) (x : Cand) : Dyn :=
  (List.range 4).foldl (fun d k =>
    if (d.canOf k).counted == some x then d.setCan k fun y => { y with counted := none, errors := 0 } else d) d
def Cfg.canUsed (c : Cfg) (k : Nat) : Bool := c.flag (F.CAN_CFG_EN k)
def Dyn.canState (d : Dyn) (k : Nat) : Nat := d.get (F.CAN_STATUS_STATE k)

/-- CAN transmit queues. -/
def Cfg.canQueues (c : Cfg) : List Nat :=
  (List.range 128).filter fun q => c.queueUsed q && c.qKind q == 0 && !c.qReceive q

/-- ALT of the channels follows their queues. -/
def Dyn.altBits (c : Cfg) (d : Dyn) : Dyn :=
  (List.range 4).foldl (fun d k =>
    if c.canUsed k then
      d.setFlag (F.CAN_STATUS_ALT k) (c.canQueues.any fun q => c.get (F.HQ_CFG_CANCH q) == k && (d.queue q).alt)
    else d) d

/-- A queue that compare firings release. -/
def Cfg.timedQueue (c : Cfg) (q : Nat) : Bool :=
  (List.range 32).any fun u => c.flag (F.TSU_CMP_CFG_CAN_REL u) && c.get (F.TSU_CMP_CFG_QUEUE u) == q

/-- A queue on its alternate returns at its first release at which its own channel is ERROR_ACTIVE and none of its entries is
under way (R439). -/
def Dyn.altReturn (c : Cfg) (d : Dyn) (q : Nat) : Dyn :=
  if (d.queue q).alt && d.canState (c.get (F.HQ_CFG_CANCH q)) == 0 && !d.onBus c q then
    (d.setQueue q fun x => { x with alt := false }).altBits c
  else d

/-- Release of a CAN transmit queue: every committed entry may go to the bus; a unit that is not sending discards them (R432,
R434). -/
def Dyn.releaseQueue (c : Cfg) (d : Dyn) (q : Nat) : Dyn :=
  (d.altReturn c q).setQueue q fun x => { x with rel := if d.sending then x.rel ++ x.done else x.rel, done := [] }

/-- HQ_PEAK: the highest total fill. -/
def Dyn.qPeak (d : Dyn) (q : Nat) : Dyn :=
  d.put (F.HQ_PEAK_COUNT q) (max (d.get (F.HQ_PEAK_COUNT q)) (d.queue q).total)

/-- The fill of transmit queue `q` for its owner `p`, by which Q_SEND refuses: the entries committed and not released at its
view, and the pending ones. A bus, whose pace no agreed vector carries, has no part in it (R17, R18, R151; DEDUCED, log entry
106). -/
def Dyn.qSeen (d : Dyn) (p q : Nat) : Nat := sget 0 (d.polder p).fillView q + (d.queue q).pend.length

/-- One committed entry fewer for `p`, where it sees one. -/
def Dyn.unsee (d : Dyn) (p q : Nat) : Dyn :=
  d.setPolder p fun s => { s with fillView := sput 0 s.fillView q (sget 0 s.fillView q - 1) }

/-- Q_SEND's entry under the queue's policy, by the fill that its owner sees; `false` when it was refused (R403). -/
def Dyn.qSend (c : Cfg) (d : Dyn) (q : Nat) (e : QEntry) : Dyn × Bool :=
  let p := c.qOwner q
  let full := decide (c.qDepth q ≤ d.qSeen p q)
  let d := if full then d.bump (F.HQ_DROP_COUNT q) else d
  if full && !c.flag (F.HQ_CFG_POLICY q) then (d, false)
  else
    let gone := sget 0 (d.polder p).fillView q != 0 && (d.queue q).done.isEmpty
    let d := if full then
        (d.setQueue q fun x => if gone then x else x.dropOldest).unsee p q
      else d
    ((d.setQueue q fun x => { x with pend := x.pend ++ [e] }).qPeak q, true)

/-- Append an arrival under the queue's policy; `false` when it was refused (R404). -/
def Dyn.qPut (c : Cfg) (d : Dyn) (q : Nat) (e : QEntry) : Dyn × Bool :=
  let full := c.qDepth q ≤ (d.queue q).total
  let d := if full then d.bump (F.HQ_DROP_COUNT q) else d
  if full && !c.flag (F.HQ_CFG_POLICY q) then (d, false)
  else
    let d := d.setQueue q fun x =>
      let x := if full then x.dropOldest else x
      { x with done := x.done ++ [e] }
    (d.qPeak q, true)

/-- Entries that `p` sees: those appended before its view was taken (R404). -/
def Dyn.qVisible (d : Dyn) (p q : Nat) : Nat :=
  ((d.queue q).done.takeWhile fun e => e.seq ≤ (d.polder p).viewSeq).length

/-- Word 0 names a transmit entry of DEST 1 of queue `q`, and the count fits its length (R432). -/
def Cfg.canMessage (c : Cfg) (q : Nat) (ws : List Word) : Bool :=
  match ws with
  | [] => false
  | w :: l =>
    w.toNat < 2048 && c.idmap.any fun e =>
      e.1 == w.toNat && e.2.1.field 30 2 == 1 && e.2.2.bit 29 && e.2.2.field 27 2 == 1 && e.2.2.field 4 7 == q &&
        l.length == (dlcLen (e.2.2.field 0 4) + 3) / 4

/-- One entry becomes committed. Where a bus has left the queue at its DEPTH, the policy applies here (log entry 106). -/
def Dyn.qEnter (c : Cfg) (d : Dyn) (q : Nat) (e : QEntry) : Dyn :=
  let e := { e with seq := d.latches + 1 }
  if (d.queue q).committed < c.qDepth q then d.setQueue q fun x => { x with done := x.done ++ [e] }
  else
    let bus := d.onBus c q
    let d := d.bump (F.HQ_DROP_COUNT q)
    if c.flag (F.HQ_CFG_POLICY q) then
      let d := if bus then d else d.uncount (.queue q)
      d.setQueue q fun x => let x := x.dropReleased bus; { x with done := x.done ++ [e] }
    else d

/-- At a commit of the owner the pending part becomes committed (R403). -/
def Dyn.qCommit (c : Cfg) (d : Dyn) (p : Nat) : Dyn :=
  (c.queuesOf p).foldl (fun (d : Dyn) q =>
    let es := (d.queue q).pend
    es.foldl (fun d e => d.qEnter c q e) (d.setQueue q fun x => { x with pend := [] })) d

end Sys2Proof.Machine
end

