-- ==== Sys2Proof/Machine/Flags.lean ====
section
/-! DEFINITION. Word arithmetic (R141): saturation, and the sticky flags SAT and DIVZ with their count. -/

namespace Sys2Proof.Machine

/-- A result limited to the signed 32-bit range, and whether it was beyond. -/
def satWord (v : Int) : Word × Bool :=
  if v > 0x7FFFFFFF then (0x7FFFFFFF, true)
  else if v < -0x80000000 then (0x80000000, true)
  else (BitVec.ofInt 32 v, false)

/-- One setting of SAT. -/
def Dyn.setSat (d : Dyn) (p : Nat) : Dyn :=
  (d.setPolder p fun s => { s with sat := true }).bump (F.LGE_ARITH_COUNT p)

/-- One setting of DIVZ. -/
def Dyn.setDivz (d : Dyn) (p : Nat) : Dyn :=
  (d.setPolder p fun s => { s with divz := true }).bump (F.LGE_ARITH_COUNT p)

/-- A saturating result: the word, and the flag set when the exact value was beyond the range. -/
def Dyn.arith (d : Dyn) (p : Nat) (v : Int) : Word × Dyn :=
  let (w, s) := satWord v
  (w, if s then d.setSat p else d)

/-- Division toward zero (R141). -/
def Dyn.divide (d : Dyn) (p : Nat) (a b : Word) : Word × Dyn :=
  if b = 0 then (if 0 ≤ a.toInt then 0x7FFFFFFF else 0x80000000, d.setDivz p)
  else d.arith p (a.toInt.tdiv b.toInt)

/-- LA and WA of a task. -/
def TaskCtx.setLa (t : TaskCtx) (b : Bool) : TaskCtx := { t with la := b }
def TaskCtx.setWa (t : TaskCtx) (w : Word) : TaskCtx := { t with wa := w }
/-- The next instruction. -/
def TaskCtx.next (t : TaskCtx) : TaskCtx := { t with pc := t.pc + 1 }

end Sys2Proof.Machine
end

