-- ==== Sys2Proof/Machine/Operands.lean ====
section
/-! DEFINITION. The operand forms of the instructions (R131, R139) and the accesses to operands, with their limits
(R132) and rights (R135–R138). Fault codes: 0x12 MEM_BOUNDS, 0x13 ILLEGAL, 0x14 ACCESS. -/

namespace Sys2Proof.Machine

/-- An operand by space (R131); an index may be negative after an indexed load. -/
inductive Opd where
  | mem (i : Int)
  | inp (i : Int)
  | out (i : Int)
  | tmr (i : Nat)
  | cnt (i : Nat)
  | edge (i : Nat)
  | konst (i : Int)
  deriving DecidableEq, Repr

abbrev illegal {α : Type} : Except Nat α := .error 0x13
abbrev memBounds {α : Type} : Except Nat α := .error 0x12
abbrev access {α : Type} : Except Nat α := .error 0x14

/-- Operand of spaces 0 to 2. -/
def Opd.plain (sp : Nat) (i : Int) : Opd := match sp with | 0 => .mem i | 1 => .inp i | _ => .out i

/-- Bits `hi … lo` of ADDR. -/
def af (a hi lo : Nat) : Nat := (a >>> lo) % 2 ^ (hi - lo + 1)

/-- Bit reads. -/
def bitForm (sp a : Nat) : Except Nat Opd :=
  if sp = 3 then
    if af a 21 10 ≠ 0 then illegal
    else match af a 23 22 with
      | 0 => .ok (.tmr (af a 9 0))
      | 1 => .ok (.cnt (af a 9 0))
      | _ => illegal
  else if af a 23 17 ≠ 0 then illegal
  else .ok (.plain sp (af a 16 0))

/-- Bit writes: spaces 0 and 2. -/
def bitWriteForm (sp a : Nat) : Except Nat Opd := if sp = 1 || sp = 3 then illegal else bitForm sp a

/-- EDR and EDF. -/
def edgeForm (sp a : Nat) : Except Nat Nat :=
  if sp ≠ 3 || af a 23 22 ≠ 2 || af a 21 14 ≠ 0 then illegal else .ok (af a 13 0)

/-- LDW: the index before WA is added, and X. -/
def loadForm (sp a : Nat) : Except Nat (Opd × Bool) :=
  match sp with
  | 0 => if af a 22 18 ≠ 0 then illegal else .ok (.mem (af a 17 0), a.testBit 23)
  | 3 =>
    if af a 21 12 ≠ 0 then illegal
    else match af a 23 22 with
      | 0 => .ok (.tmr (af a 11 0), false)
      | 1 => .ok (.cnt (af a 11 0), false)
      | 3 => .ok (.konst (af a 11 0), false)
      | _ => illegal
  | _ => if af a 22 12 ≠ 0 then illegal else .ok (.plain sp (af a 11 0), a.testBit 23)

/-- Word operands without X. -/
def wordForm (sp a : Nat) : Except Nat Opd :=
  match loadForm sp a with
  | .ok (o, false) => .ok o
  | .ok (_, true) => illegal
  | .error e => .error e

/-- STW: space 1 is ACCESS, space 3 takes counters only. -/
def storeForm (sp a : Nat) : Except Nat Opd :=
  match wordForm sp a with
  | .ok (.inp _) => access
  | .ok (.tmr _) => illegal
  | .ok (.konst _) => illegal
  | r => r

/-- LIM: in space 3, constants only. -/
def limForm (sp a : Nat) : Except Nat Opd :=
  match wordForm sp a with
  | .ok (.tmr _) => illegal
  | .ok (.cnt _) => illegal
  | r => r

/-- An operand moved by `n` words. -/
def Opd.move (o : Opd) (n : Int) : Opd :=
  match o with
  | .mem i => .mem (i + n)
  | .inp i => .inp (i + n)
  | .out i => .out (i + n)
  | .konst i => .konst (i + n)
  | o => o

/-! Memories of a polder. -/

def Cfg.bits (c : Cfg) (p : Nat) : Nat := c.get (F.PLD_BITWIN_SIZE p) * 256
def Cfg.words (c : Cfg) (p : Nat) : Nat := c.get (F.PLD_WORDWIN_SIZE p) * 256
def Cfg.bitKey (c : Cfg) (p i : Nat) : Nat := c.get (F.PLD_BITWIN_BASE p) * 256 + i
def Cfg.wordKey (c : Cfg) (p i : Nat) : Nat := c.get (F.PLD_WORDWIN_BASE p) * 256 + i
def Dyn.mbit (c : Cfg) (d : Dyn) (p i : Nat) : Bool := sget false d.bitMem (c.bitKey p i)
def Dyn.mword (c : Cfg) (d : Dyn) (p i : Nat) : Word := sget 0 d.wordMem (c.wordKey p i)
def Dyn.setMbit (c : Cfg) (d : Dyn) (p i : Nat) (b : Bool) : Dyn :=
  { d with bitMem := sput false d.bitMem (c.bitKey p i) b }
def Dyn.setMword (c : Cfg) (d : Dyn) (p i : Nat) (w : Word) : Dyn :=
  { d with wordMem := sput 0 d.wordMem (c.wordKey p i) w }

def Cfg.tmrKey (c : Cfg) (p i : Nat) : Nat := c.get (F.LGE_TMR_BASE p) + i
def Cfg.cntKey (c : Cfg) (p i : Nat) : Nat := c.get (F.LGE_CNT_BASE p) + i
def Cfg.edgeKey (c : Cfg) (p i : Nat) : Nat := c.get (F.LGE_EDGE_BASE p) + i
def Dyn.timer (d : Dyn) (k : Nat) : Timer := sget Timer.init d.timers k
def Dyn.counter (d : Dyn) (k : Nat) : Counter := sget Counter.init d.counters k
def Dyn.setTimer (d : Dyn) (k : Nat) (t : Timer) : Dyn := { d with timers := sput Timer.init d.timers k t }
def Dyn.setCounter (d : Dyn) (k : Nat) (x : Counter) : Dyn := { d with counters := sput Counter.init d.counters k x }

/-- The image value of constant `i`, and the value in the table (R177). -/
def Cfg.konstOf (c : Cfg) (p i : Nat) : Word :=
  match c.pimg p with
  | some m => ((m.consts.find? fun e => e.1 == i).map (·.2)).getD 0
  | none => 0
def Dyn.konst (c : Cfg) (d : Dyn) (p i : Nat) : Word :=
  (((d.polder p).overlay.find? fun e => e.1 == i).map (·.2)).getD (c.konstOf p i)

/-- Index `i` when it lies in `0 … n - 1`, else MEM_BOUNDS (R132). -/
def inRange (i : Int) (n : Nat) : Except Nat Nat :=
  match i with
  | .ofNat k => if k < n then .ok k else memBounds
  | .negSucc _ => memBounds

/-- A word of the polder's input view. -/
def Dyn.viewWord (d : Dyn) (p w : Nat) : Word := sget 0 (d.polder p).view w

/-! Accesses. -/

def Dyn.readBit (c : Cfg) (d : Dyn) (p : Nat) (o : Opd) : Except Nat Bool := do
  match o with
  | .mem i => let k ← inRange i (c.bits p); pure (d.mbit c p k)
  | .inp i =>
    let k ← inRange i 131072
    match c.inClass p k with
    | 1 => pure ((d.viewWord p (k / 32)).bit (k % 32))
    | 2 => access
    | _ => pure false
  | .out i =>
    let k ← inRange i 131072
    match c.outClass p k with
    | 1 => pure ((sget 0 (if (c.outRes k).2 == some p then d.outW else d.outC) (k / 32)).bit (k % 32))
    | 2 => access
    | _ => pure false
  | .tmr i => let k ← inRange i (c.get (F.LGE_TMR_COUNT p)); pure (d.timer (c.tmrKey p k)).q
  | .cnt i => let k ← inRange i (c.get (F.LGE_CNT_COUNT p)); pure (d.counter (c.cntKey p k)).q
  | _ => illegal

def Dyn.readWord (c : Cfg) (d : Dyn) (p : Nat) (o : Opd) : Except Nat Word := do
  match o with
  | .mem i => let k ← inRange i (c.words p); pure (d.mword c p k)
  | .inp i =>
    let k ← inRange i 4096
    match c.inMask p k with
    | some m => pure (d.viewWord p k &&& m)
    | none => access
  | .out i =>
    let k ← inRange i 4096
    match c.outMask p k with
    | some m =>
      let own := c.ownMask p k
      pure (((sget 0 d.outW k &&& own) ||| (sget 0 d.outC k &&& ~~~own)) &&& m)
    | none => access
  | .tmr i =>
    let k ← inRange i (c.get (F.LGE_TMR_COUNT p))
    let t := d.timer (c.tmrKey p k)
    pure (BitVec.ofNat 32 (t.acc / t.res))
  | .cnt i => let k ← inRange i (c.get (F.LGE_CNT_COUNT p)); pure (d.counter (c.cntKey p k)).cv
  | .konst i => let k ← inRange i (c.get (F.LGE_CTRL_KSIZE p)); pure (d.konst c p k)
  | .edge _ => illegal

/-- A bit write; `none` makes every check and writes nothing (SET and RST with LA = 0). -/
def Dyn.writeBit (c : Cfg) (d : Dyn) (p : Nat) (o : Opd) (v : Option Bool) : Except Nat Dyn := do
  match o with
  | .mem i =>
    let k ← inRange i (c.bits p)
    pure (match v with | some b => d.setMbit c p k b | none => d)
  | .out i =>
    let k ← inRange i 131072
    if (c.outRes k).2 == some p && !c.loopBound (k / 32) then
      pure (match v with
        | some b => { d with outW := sput 0 d.outW (k / 32) ((sget 0 d.outW (k / 32)).setBit (k % 32) b) }
        | none => d)
    else access
  | _ => access

def Dyn.writeWord (c : Cfg) (d : Dyn) (p : Nat) (o : Opd) (v : Word) : Except Nat Dyn := do
  match o with
  | .mem i => let k ← inRange i (c.words p); pure (d.setMword c p k v)
  | .out i =>
    let k ← inRange i 4096
    let own := c.ownMask p k
    let any := if outPacked k then (List.range 32).any fun i => (c.outRes (32 * k + i)).1 else own != 0
    if any && !c.loopBound k then
      pure { d with outW := sput 0 d.outW k ((sget 0 d.outW k &&& ~~~own) ||| (v &&& own)) }
    else access
  | .cnt i =>
    let k ← inRange i (c.get (F.LGE_CNT_COUNT p))
    pure (d.setCounter (c.cntKey p k) { d.counter (c.cntKey p k) with cv := v })
  | _ => access

end Sys2Proof.Machine
end

