-- ==== Sys2Proof/Machine/Loop.lean ====
section
/-! DEFINITION. The loop engine (R186–R212): coefficients, the evaluation in the order and formats of the spec,
supervision, issue to the pipelines, and the initialisation of contexts. Numbers are exact integers: Q24.24 values as
multiples of 2^-24, Q16.16 values as words. -/

namespace Sys2Proof.Machine

/-! Arithmetic (R191). Each operation notes in the state whether it saturated. -/

abbrev Arith := StateM Bool

/-- `num / den` rounded to an integer, ties toward positive infinity. -/
def rnd (num : Int) (den : Nat) : Int := (2 * num + den) / (2 * den : Int)

def satBits (n : Nat) (v : Int) : Arith Int := fun s =>
  let r := satTo n v
  (r, s || r != v)

/-- A value saturated to Q24.24. -/
def s24 (v : Int) : Arith Int := satBits 48 v
/-- `num / den` in units of 2^-24. -/
def rnd24 (num : Int) (den : Nat) : Arith Int := satBits 48 (rnd num den)
/-- A Q24.24 value to Q16.16. -/
def q16 (v : Int) : Arith Int := satBits 32 (rnd v 256)
/-- A Q24.24 value as the Q16.16 word that shows it. -/
def narrow (v : Int) : Word := BitVec.ofInt 32 (satTo 32 (rnd v 256))
/-- Widening from Q16.16. -/
def widen (v : Int) : Int := v * 256
def clampI (x lo hi : Int) : Int := min (max x lo) hi

/-- The largest integer whose square does not exceed `n`, for roots below 2^49. -/
def isqrtStep (n : Nat) : Nat → Nat → Nat
  | 0, r => r
  | b + 1, r => if (r + 2 ^ b) * (r + 2 ^ b) ≤ n then isqrtStep n b (r + 2 ^ b) else isqrtStep n b r
def isqrt (n : Nat) : Nat := isqrtStep n 49 0

/-! Items (R207). -/

def Dyn.loop (d : Dyn) (k : Nat) : Loop := sget Loop.init d.loops k
def Dyn.setLoop (d : Dyn) (k : Nat) (f : Loop → Loop) : Dyn :=
  { d with loops := sput Loop.init d.loops k (f (d.loop k)) }
def Loop.item (l : Loop) (code : Nat) : Word := sget 0 l.items code
def Loop.ival (l : Loop) (code : Nat) : Int := (l.item code).toInt
def Loop.setItem (l : Loop) (code : Nat) (v : Word) : Loop := { l with items := sput 0 l.items code v }
/-- A value from the program or the image; a target is kept as written beside the clamped SP_T (R195). -/
def Loop.putItem (l : Loop) (code : Nat) (v : Word) : Loop :=
  { l.setItem code v with spReq := if code = 2 then v else l.spReq }
/-- The value written since the last evaluation, or the value after it (R209). -/
def Loop.latest (l : Loop) (code : Nat) : Word :=
  match l.writes.reverse.find? fun w => w.1 == code with
  | some w => w.2
  | none => l.item code
/-- First item code of a bank. -/
def bankBase (b : Bool) : Nat := if b then 0x28 else 0x20

/-- h in microseconds (R189). -/
def Cfg.loopH (c : Cfg) (k : Nat) : Nat := c.get (F.LPE_SCHED_PERIOD k) * c.periodUs

/-! Coefficients (R192), from raw item values and h in µs. -/

/-- n × KP × h + KD in common units: the denominator of CA and CB. -/
def filterDen (kp kd : Int) (n h : Nat) : Int := kd * 10 ^ 6 + h * n * kp
def coefCI (ki : Int) (h : Nat) : Int := rnd (ki * h * 2 ^ 24) (10 ^ 6)
def coefCA (kp kd : Int) (n h : Nat) : Int :=
  if kd = 0 then 0 else min (rnd (kd * 10 ^ 6 * 2 ^ 32) (filterDen kp kd n h).toNat) (2 ^ 32 - 1)
def coefCB (kp kd : Int) (n h : Nat) : Int :=
  if kd = 0 then 0 else rnd (kd * n * kp * 10 ^ 6 * 2 ^ 8) (filterDen kp kd n h).toNat
def coefCT (tt : Int) (h : Nat) : Int :=
  if tt ≤ 0 then 0 else min (rnd (h * 2 ^ 48) (10 ^ 6 * tt.toNat)) (2 ^ 32 - 1)
/-- A rate per evaluation. -/
def coefRate (v : Int) (h : Nat) : Int := rnd (v * h * 2 ^ 8) (10 ^ 6)
def coefA (v : Int) (h : Nat) : Int := rnd (v * h * h * 2 ^ 8) (10 ^ 12)

/-! The evaluation (R194–R206). -/

def statusBit (i : Nat) (b : Bool) : Word := if b then BitVec.ofNat 32 (1 <<< i) else 0

/-- The limiting function (R196): the output, and whether a rate step changed w. -/
def Loop.limit (l : Loop) (h : Nat) (rates : Bool) (v : Int) : Arith (Int × Bool) := do
  let lo := widen (l.ival 0x09)
  let hi := widen (l.ival 0x08)
  let w := clampI (widen v) lo hi
  let up ← s24 (widen l.u.toInt + coefRate (l.ival 0x0A) h)
  let dn ← s24 (widen l.u.toInt - coefRate (l.ival 0x0B) h)
  let w1 := if rates && decide (0 < l.ival 0x0A) then min w up else w
  let w2 := if rates && decide (0 < l.ival 0x0B) then max w1 dn else w1
  let u ← q16 (clampI w2 lo hi)
  pure (u, w2 != w)

/-- The set-point step (R195): SP_T, SP_W and r follow; bits SP_CLAMP and RAMPING. -/
def Loop.setpoint (l : Loop) (h : Nat) (target : Int) (track : Bool) : Arith (Loop × Word) := do
  if track then
    let pv := l.pv
    pure ({ l.putItem 0x02 pv with spW := widen pv.toInt, r := 0 }, 0)
  else
    let t := clampI target (l.ival 0x0D) (l.ival 0x0C)
    let sp := widen t
    let dist ← s24 (sp - l.spW)
    let ru := coefRate (l.ival 0x0E) h
    let rd := coefRate (l.ival 0x0F) h
    let (w, r) ←
      if l.item 0x10 = 0 then do
        let w ← s24 (if dist > 0 then l.spW + (if l.item 0x0E = 0 then dist else min dist ru)
          else if dist < 0 then l.spW - (if l.item 0x0F = 0 then -dist else min (-dist) rd) else l.spW)
        pure (w, (0 : Int))
      else do
        let a := coefA (l.ival 0x10) h
        let root : Int := isqrt (2 * a.toNat * dist.natAbs)
        let cap := if dist > 0 then (if l.item 0x0E = 0 then root else min ru root)
          else (if l.item 0x0F = 0 then root else min rd root)
        let want := dist.sign * cap
        let dr ← s24 (want - l.r)
        let r ← s24 (l.r + clampI dr (-a) a)
        if r ≠ 0 && r.sign == dist.sign && dist.natAbs ≤ r.natAbs then pure (sp, 0)
        else do
          let w ← s24 (l.spW + r)
          pure (w, r)
    let l := { l.setItem 0x02 (BitVec.ofInt 32 t) with spReq := BitVec.ofInt 32 target, spW := w, r := r }
    pure (l, statusBit 1 (t != target) ||| statusBit 0 (w != sp || r != 0))

/-- Apply the items written since the last evaluation (R199: entering MAN takes the last output unless MAN_OUT was
written). -/
def Loop.apply (l : Loop) : Loop :=
  let man := l.writes.any fun w => w.1 == 0x03
  let l' := l.writes.foldl (fun l w =>
    let l1 := l.putItem w.1 w.2
    if w.1 = 0x01 && w.2 = 0 && l.item 0x01 != 0 && !man then l1.setItem 0x03 l.u else l1) l
  { l' with writes := [] }

/-- The swap of a requested bank (R203): returns held_up and held_dn. -/
def Loop.doSwap (l : Loop) (raw : Bool) : Arith (Loop × Bool × Bool) := do
  if !l.swap then pure (l, false, false)
  else
    let l := { l with swap := false, bankB := !l.bankB }
    if raw then pure (l, false, false)
    else
      let kp := l.ival (bankBase l.bankB)
      let p ← rnd24 (kp * l.e.toInt) 256
      let x ← s24 (widen l.u.toInt - p - l.dTerm)
      let i := clampI x (widen (l.ival 0x09)) (widen (l.ival 0x08))
      pure ({ l with i := i }, l.status.bit 2, l.status.bit 3)

/-- What the evaluation takes from outside the context. -/
structure LoopIn where
  pv : Word
  pvBad : Bool
  /-- Blocked up and down by external limits, AO_SHORT, FORCED. -/
  extUp : Bool
  extDn : Bool
  short : Bool
  forced : Bool
  /-- The primary's output, for a secondary in CAS. -/
  casSp : Int
  /-- SP_W of the secondary that the primary follows. -/
  follow : Option Int

/-- Structure bits and FAIL_OUT of a context. -/
structure LoopCfg where
  direct : Bool
  derivError : Bool
  backCalc : Bool
  spTrack : Bool
  raw : Bool
  manSafe : Bool
  failOut : Word
  h : Nat

def Cfg.loopCfg (c : Cfg) (k : Nat) : LoopCfg :=
  { direct := c.flag (F.LPE_CFG_ACTION k), derivError := c.flag (F.LPE_CFG_DERIV_ON k),
    backCalc := c.flag (F.LPE_CFG_AW k), spTrack := c.flag (F.LPE_CFG_SP_TRACK k),
    raw := c.flag (F.LPE_CFG_NON_BUMPLESS k), manSafe := c.flag (F.LPE_CFG_PV_BAD_ACT k),
    failOut := c.rd (Reg.LPE_FAIL_OUT k), h := c.loopH k }

/-- Integrate and limit (R197). -/
def Loop.integrate (l : Loop) (g : LoopCfg) (x : LoopIn) (rates heldUp heldDn : Bool) (e : Int) :
    Arith (Loop × Word) := do
  let b := bankBase l.bankB
  let di ← rnd24 (coefCI (l.ival (b + 1)) g.h * e) (2 ^ 32)
  let ic ← s24 (l.i + di)
  let sum ← s24 (l.p + ic + l.dTerm)
  let v ← q16 sum
  let (u, rate) ← l.limit g.h rates v
  let up := x.extUp || heldUp || (!g.backCalc && decide (v > u))
  let dn := x.extDn || heldDn || (!g.backCalc && decide (v < u))
  let bu := decide (di > 0) && up
  let bd := decide (di < 0) && dn
  let (ic, v, u, rate) ←
    if bu || bd then do
      let sum ← s24 (l.p + l.i + l.dTerm)
      let v ← q16 sum
      let (u, rate) ← l.limit g.h rates v
      pure (l.i, v, u, rate)
    else pure (ic, v, u, rate)
  let ic ←
    if g.backCalc then do
      let t ← rnd24 (coefCT (l.ival (b + 4)) g.h * (u - v)) (2 ^ 24)
      s24 (ic + t)
    else pure ic
  let i := clampI ic (widen (l.ival 0x09)) (widen (l.ival 0x08))
  let cu := bu || (g.backCalc && decide (v > u))
  let cd := bd || (g.backCalc && decide (v < u))
  pure ({ l with i := i, v := BitVec.ofInt 32 v, u := BitVec.ofInt 32 u },
    statusBit 2 cu ||| statusBit 3 cd ||| statusBit 4 rate)

/-- The output is set from outside the PID law: the integrator tracks it, V is u. -/
def Loop.trackI (l : Loop) (u : Int) : Arith Loop := do
  let x ← s24 (widen u - l.p - l.dTerm)
  let i := clampI x (widen (l.ival 0x09)) (widen (l.ival 0x08))
  pure { l with i := i, u := BitVec.ofInt 32 u, v := BitVec.ofInt 32 u }

/-- The first evaluation since a restart sets SP_W to PV unless it was carried, a bad PV in HOLD too (DEDUCED, log entry
116). -/
def Loop.startSp (l : Loop) : Loop := if l.spKnown then l else { l with spW := widen l.pv.toInt, spKnown := true }

/-- The evaluation up to the supervision step; the bits of LPE_STATUS that it sets. In PV_BAD with action HOLD it is an
evaluation too: the next one is not the first (R210), and RAMPING shows how SP_W stands. -/
def Loop.pid (l : Loop) (g : LoopCfg) (x : LoopIn) : Arith (Loop × Word) := do
  let l := l.apply
  let (l, heldUp, heldDn) ← l.doSwap g.raw
  let l := { l with pv := x.pv }
  let l := if x.pvBad && g.manSafe && decide (l.item 0x01 ≠ (0 : Word)) then (l.setItem 0x01 0).setItem 0x03 g.failOut else l
  let mode := BitVec.toNat (l.item 0x01) % 4
  if x.pvBad && !g.manSafe then
    let l := l.startSp
    pure ({ l with dTerm := 0, restartD := true, v := l.u, held := true, mode := mode, first := false, uKnown := true },
      statusBit 0 (decide (l.spW ≠ widen (l.ival 0x02)) || l.r != (0 : Int)))
  else
    let l := l.startSp
    let target := if mode = 2 then x.casSp else l.spReq.toInt
    let (l, st) ← l.setpoint g.h target (g.spTrack && (mode == 0 || mode == 3))
    let s : Int := if g.direct then -1 else 1
    let e ← satBits 32 (rnd (s * (l.spW - widen l.pv.toInt)) 256)
    let xx := if g.derivError then e else -s * l.pv.toInt
    let l := if l.first || l.restartD then { l with xPrev := xx, dTerm := 0, restartD := false } else l
    let rates := l.uKnown
    let b := bankBase l.bankB
    let kp := l.ival b
    let kd := l.ival (b + 2)
    let n := (l.item (b + 3)).toNat
    let p ← rnd24 (kp * e) 256
    let d1 ← rnd24 (coefCA kp kd n g.h * l.dTerm) (2 ^ 32)
    let d2 ← rnd24 (coefCB kp kd n g.h * (xx - l.xPrev)) (2 ^ 16)
    let dt ← s24 (d1 + d2)
    let l := { l with p := p, dTerm := dt, xPrev := xx, e := BitVec.ofInt 32 e, first := false, uKnown := true,
                      held := false, mode := mode }
    let lo := l.ival 0x09
    let hi := l.ival 0x08
    if mode = 3 then
      let l ← l.trackI (clampI (l.ival 0x04) lo hi)
      pure (l, st)
    else if mode = 0 then
      let (u, rate) ← l.limit g.h rates (l.ival 0x03)
      let l ← l.trackI u
      pure (l, st ||| statusBit 4 rate)
    else match x.follow with
      | some w =>
        let u ← q16 (clampI w (widen lo) (widen hi))
        let l ← l.trackI u
        pure (l, st ||| statusBit 14 true)
      | none =>
        let (l, st2) ← l.integrate g x rates heldUp heldDn e
        pure (l, st ||| st2)

/-- Number of set bits. -/
def popcount (h : BitVec 256) : Nat := (List.range 256).foldl (fun n i => if h.getLsbD i then n + 1 else n) 0

/-- Supervision (R204, R205), and the whole status word. -/
def Loop.supervise (l : Loop) (g : LoopCfg) (x : LoopIn) (st : Word) (sat : Bool) : Loop :=
  let auto := (l.mode == 1 || l.mode == 2) && !l.held
  let hi := l.u == l.item 0x08
  let lo := l.u == l.item 0x09
  let at_ := auto && (hi || lo || x.short)
  let t := if at_ then min (l.satTime + g.h) (2 ^ 48 - 1) else 0
  let hist := (l.hist <<< 1) ||| (if at_ then 1 else 0)
  let lim := BitVec.toNat (l.item 0x11)
  let flim := BitVec.toNat (l.item 0x12)
  let st := st ||| statusBit 5 hi ||| statusBit 6 lo ||| statusBit 7 (lim != 0 && decide (lim * 1000 ≤ t))
  let st := st ||| statusBit 8 (flim != 0 && decide (flim ≤ popcount hist)) ||| statusBit 9 x.extUp |||
    statusBit 10 x.extDn ||| statusBit 11 x.pvBad ||| statusBit 12 x.short ||| statusBit 13 x.forced |||
    statusBit 15 sat
  { l with satTime := t, hist := hist, status := st }

/-! In the machine. -/

/-- The secondary of a primary, and the primary of a secondary (R200). -/
def Cfg.secondaryOf (c : Cfg) (k : Nat) : Option Nat :=
  (List.range 128).find? fun j =>
    c.flag (F.LPE_CFG_CONFIGURED j) && c.flag (F.LPE_CFG_SECONDARY j) && c.get (F.LPE_CFG_PRIMARY j) == k
def Cfg.primaryOf (c : Cfg) (k : Nat) : Option Nat := optIf (c.flag (F.LPE_CFG_SECONDARY k)) (c.get (F.LPE_CFG_PRIMARY k))

/-- The contexts of a polder in number order. -/
def Cfg.loopsOf (c : Cfg) (p : Nat) : List Nat :=
  (List.range 128).filter fun k => c.flag (F.LPE_CFG_CONFIGURED k) && c.get (F.LPE_CFG_OWNER k) == p

/-- A force stands on the output word (R198). -/
def Dyn.forcedWord (d : Dyn) (w : Nat) : Bool :=
  d.life.forces.any fun e => match e.2 with
    | some f => f.space == 2 && f.word && f.index == w
    | none => false

/-- PV of the source (R193): `kept` is the word of a memory source as the scan left it. -/
def Dyn.loopPv (c : Cfg) (d : Dyn) (k p : Nat) (kept : Word) : Word × Bool :=
  let i := c.get (F.LPE_PV_SRC_INDEX k)
  match c.get (F.LPE_PV_SRC_KIND k) with
  | 0 => (kept, false)
  | 1 => (d.viewWord p i, false)
  | _ => (d.viewWord p (0x200 + i), (d.viewWord p (0x220 + i)).bit (F.AIO_STATUS_INVALID i).lo)

/-- External limits (R198) and the links of a cascade (R201). -/
def Dyn.loopIn (c : Cfg) (d : Dyn) (k p : Nat) (kept : Word) : LoopIn :=
  let (pv, bad) := d.loopPv c k p kept
  let l := d.loop k
  let ch := c.get (F.LPE_AO_CHAN k)
  let bound := c.flag (F.LPE_AO_BOUND k)
  let st := if bound then d.viewWord p (0x220 + ch) else 0
  let shortUp := st.bit (F.AIO_STATUS_COMPLIANCE ch).lo || st.bit (F.AIO_STATUS_OPEN ch).lo
  let oos := st.bit (F.AIO_STATUS_OOS ch).lo
  let forced := bound && d.forcedWord (0x200 + ch)
  let sec := (c.secondaryOf k).map fun j => (d.loop j, c.flag (F.LPE_CFG_ACTION j))
  let follow := match sec with
    | some (s, _) => if s.mode ≠ 2 || s.held then some s.spW else none
    | none => none
  let (cu, cd) := match sec, follow with
    | some (s, direct), none =>
      let u := widen l.u.toInt
      let up := s.status.bit 2
      let dn := s.status.bit 3
      (decide (s.spW < u) || (if direct then dn else up), decide (u < s.spW) || (if direct then up else dn))
    | _, _ => (false, false)
  { pv := pv, pvBad := bad, extUp := shortUp || oos || forced || cu, extDn := oos || forced || cd,
    short := shortUp || oos, forced := forced,
    casSp := match c.primaryOf k with | some j => (d.loop j).u.toInt | none => l.spReq.toInt,
    follow := follow }

/-- One evaluation of context `k` (R194), with its output, its alarms (R206) and its counts. -/
def Dyn.evalLoop (c : Cfg) (d : Dyn) (k : Nat) (kept : Word) : Dyn :=
  let p := c.get (F.LPE_CFG_OWNER k)
  let g := c.loopCfg k
  let x := d.loopIn c k p kept
  let old := (d.loop k).status
  let ((l, st), sat) := ((d.loop k).pid g x).run false
  let l := { l.supervise g x st sat with evalFn := d.fn, issued := none }
  let d := d.setLoop k fun _ => l
  let d : Dyn := { d with slc := { d.slc with evals := d.slc.evals + 1 } }
  let d := if c.flag (F.LPE_AO_BOUND k) then
      { d with outW := sput 0 d.outW (0x200 + c.get (F.LPE_AO_CHAN k)) l.u }
    else d
  let d := if sat then d.bump F.LPE_ARITH_COUNT else d
  let up := fun i => l.status.bit i && !old.bit i
  [(7, 1), (8, 2), (11, 3), (12, 4)].foldl (fun d (b : Nat × Nat) =>
    if up b.1 then d.post c p 0x12 (c.get (F.LPE_CFG_EVT_TASK k)) k d.slc.tFt (BitVec.ofNat 32 b.2) else d) d

/-- An issued context is evaluated, its primary before it (R201); not one whose polder has left RUN (R188). -/
def Dyn.evalIssued (c : Cfg) (d : Dyn) (k : Nat) : Dyn :=
  let one := fun (d : Dyn) (k : Nat) => match (d.loop k).issued with
    | some (_, w) =>
      if d.mode (c.get (F.LPE_CFG_OWNER k)) = 2 then d.evalLoop c k w else d.setLoop k fun l => { l with issued := none }
    | none => d
  match c.primaryOf k with
  | some j => one (one d j) k
  | none => one d k

/-- LOOP_EVALUATION. -/
def execLoopEvaluation (k : BitVec 7) (s : State) : Out := s.upd fun c d => d.evalIssued c k.toNat

/-- Every issued context is evaluated before C − 4 µs (R95). -/
def Dyn.evalAll (c : Cfg) (d : Dyn) : Dyn := (List.range 128).foldl (fun d k => d.evalIssued c k) d

/-- Every context whose results are written by `t` ns after T, 20 lane cycles after its issue (R190), is evaluated. -/
def Dyn.evalBy (c : Cfg) (d : Dyn) (t : Nat) : Dyn :=
  (List.range 128).foldl (fun d k =>
    if (d.loop k).issued.any fun x => x.1 + 40 ≤ t then d.evalIssued c k else d) d

/-- How far the home lane of `p` has come, in ns since T: its cycles of 2 ns from E on, or the present instant if later. -/
def Dyn.laneNs (d : Dyn) (p : Nat) : Nat := max d.sinceT (8000 + 2 * d.slc.laneUse.getD (d.home p) 0)

/-- Issue one context or one pair on the pipeline that is free first, or defer it when the budget does not suffice or an
issue would fall after X (R95, R190, R201; log entry 103). -/
def Dyn.issueUnit (c : Cfg) (d : Dyn) (p : Nat) (ks : List Nat) : Dyn :=
  let one := decide (d.slc.pipes.1 ≤ d.slc.pipes.2)
  let at_ := max (d.laneNs p) (if one then d.slc.pipes.1 else d.slc.pipes.2)
  let free := at_ + 20 * ks.length
  if d.get F.SLC_STATUS_PHASE = 2 && decide (ks.length ≤ (d.polder p).bLoop) &&
      decide (free ≤ 8020 + 2 * c.winK) then
    let d : Dyn := { d with slc := { d.slc with
      pipes := if one then (free, d.slc.pipes.2) else (d.slc.pipes.1, free) } }
    let d := d.setPolder p fun s => { s with bLoop := s.bLoop - ks.length, uLoop := s.uLoop + ks.length }
    ks.zipIdx.foldl (fun d e =>
      let w := d.mword c p (c.get (F.LPE_PV_SRC_INDEX e.1))
      d.setLoop e.1 fun l => { l with isDue := false, issued := some (at_ + 20 * e.2, w) }) d
  else
    let d := d.setPolder p fun s => { s with deferred := s.deferred ++ ks }
    ks.foldl (fun d k => (d.setLoop k fun l => { l with isDue := false }).bump (F.PLD_LOOP_DEFER_COUNT p)) d

/-- A context and, for a primary, its secondary; a secondary goes with its primary. -/
def Cfg.unitOf (c : Cfg) (k : Nat) : List Nat :=
  match c.secondaryOf k with
  | some j => [k, j]
  | none => [k]

/-- The cyclic scan finished: deferred contexts first, then the due ones in number order (R95). What no scan of the next
frame issues stays deferred until the polder's next scan ends (DESIGN CHOICE, log entry 103). -/
def Dyn.issueLoops (c : Cfg) (d : Dyn) (p : Nat) : Dyn :=
  let old := (d.polder p).deferred.filter fun k => (c.primaryOf k).isNone
  let due := (c.loopsOf p).filter fun k => (d.loop k).isDue && (c.primaryOf k).isNone && !old.contains k
  let d := d.setPolder p fun s => { s with deferred := [] }
  (old ++ due).foldl (fun d k => d.issueUnit c p (c.unitOf k)) d

/-- The due counters at E (R188). -/
def Dyn.loopsDue (c : Cfg) (d : Dyn) : Dyn :=
  (List.range 128).foldl (fun d k =>
    if c.flag (F.LPE_CFG_CONFIGURED k) then
      let p := c.get (F.LPE_CFG_OWNER k)
      let run := d.mode p == 2
      let due := (d.loop k).due
      let d := d.setLoop k fun l =>
        { l with due := if due = 0 then c.get (F.LPE_SCHED_PERIOD k) - 1 else due - 1,
                 isDue := run && (l.isDue || due == 0) }
      if run then d else d.setPolder p fun s => { s with deferred := [] }
    else d) d

/-! Restarts (R210). -/

def Cfg.loopImg (c : Cfg) (k : Nat) : Option LoopImg := c.img.loops.find? fun x => x.num == k
def imgItem (m : LoopImg) (code : Nat) : Word := ((m.items.find? fun e => e.1 == code).map (·.2)).getD 0

/-- Codes of the writable items. -/
def writableItems : List Nat :=
  [1, 2, 3, 4, 8, 9, 10, 11, 12, 13, 14, 15, 16, 17, 18, 0x20, 0x21, 0x22, 0x23, 0x24, 0x28, 0x29, 0x2A, 0x2B, 0x2C]

/-- The items that may be declared retentive (R207). -/
def retentiveItems : List Nat := writableItems.filter (· != 0x04) ++ [0x30, 0x31, 0x32, 0x3B]

/-- A cold restart of context `k`. Until its first evaluation a secondary counts, for its primary, with the MODE and the
SP_W it starts with (DESIGN CHOICE, log entry 116). -/
def Dyn.coldLoop (c : Cfg) (d : Dyn) (k : Nat) : Dyn :=
  match c.loopImg k with
  | some m =>
    let l := writableItems.foldl (fun (l : Loop) code => l.putItem code (imgItem m code)) Loop.init
    let u := clampI (imgItem m 0xFF).toInt (l.ival 0x09) (l.ival 0x08)
    d.setLoop k fun old =>
      { l with bankB := (imgItem m 0x3B).bit 0, u := BitVec.ofInt 32 u, i := widen u, due := old.due,
               mode := (l.item 0x01).toNat % 4 }
  | none => d

/-- Retentive items as (context, code, value); I takes two codes, 0x31 and 0x131 for its upper half. -/
def Dyn.keepLoop (c : Cfg) (d : Dyn) (k : Nat) : List (Nat × Nat × Word) :=
  let l := d.loop k
  let codes := match c.loopImg k with
    | some m => m.retentive
    | none => []
  codes.flatMap fun code => match code with
    | 0x30 => [(k, 0x30, narrow l.spW)]
    | 0x31 => [(k, 0x31, BitVec.ofInt 32 l.i), (k, 0x131, BitVec.ofInt 32 (l.i / 2 ^ 32))]
    | 0x32 => [(k, 0x32, l.u)]
    | 0x3B => [(k, 0x3B, BitVec.ofNat 32 (b2n l.bankB))]
    | x => [(k, x, l.item x)]

/-- Carry retentive items into the context, where it declares them retentive (R167). I and U that are not carried stand as
on a cold restart, within the image's limits (DEDUCED, log entry 116). -/
def Dyn.carryLoop (c : Cfg) (d : Dyn) (src : List (Nat × Nat × Word)) (k : Nat) : Dyn :=
  match c.loopImg k with
  | some m =>
    let find := fun code => (src.find? fun e => e.1 == k && e.2.1 == code).map (·.2.2)
    let q := fun code => match find code, find (0x100 + code) with
      | some a, some b => some (b.toInt * 2 ^ 32 + a.toNat)
      | _, _ => none
    m.retentive.foldl (fun d code => d.setLoop k fun l => match code with
      | 0x30 => match find 0x30 with | some v => { l with spW := widen v.toInt, spKnown := true } | none => l
      | 0x31 => match q 0x31 with | some v => { l with i := v } | none => l
      | 0x32 => match find 0x32 with | some v => { l with u := v, uKnown := true } | none => l
      | 0x3B => match find 0x3B with | some v => { l with bankB := v.bit 0 } | none => l
      | 0x01 => match find 0x01 with | some v => { l.putItem 0x01 v with mode := v.toNat % 4 } | none => l
      | x => match find x with | some v => l.putItem x v | none => l) d
  | none => d

/-- What a register of the LPE block reads as from the context (R212); `off` is its offset in the context's window. -/
def Loop.reg (l : Loop) (off : Nat) : Word :=
  let q := narrow
  match off with
  | 0x10 => l.status
  | 0x14 => BitVec.ofNat 32 (b2n l.bankB * 256 + b2n l.swap * 16 + (l.item 1).toNat % 4)
  | 0x18 => l.pv
  | 0x1C => l.item 2
  | 0x20 => q l.spW
  | 0x24 => l.u
  | 0x28 => l.v
  | 0x2C => q l.p
  | 0x30 => q l.dTerm
  | 0x34 => BitVec.ofInt 32 l.i
  | 0x3C => BitVec.ofNat 32 (min (l.satTime / 1000) 0xFFFFFFFF)
  | 0x40 => BitVec.ofNat 32 (popcount l.hist)
  | 0x44 => l.evalFn
  | 0x48 => l.item 3
  | 0x4C => l.item 4
  | 0x78 => l.item 0x12
  | o =>
    if 0x50 ≤ o && o ≤ 0x74 then l.item (8 + (o - 0x50) / 4)
    else if 0x80 ≤ o && o ≤ 0x90 then l.item (0x20 + (o - 0x80) / 4)
    else if 0xA0 ≤ o && o ≤ 0xB0 then l.item (0x28 + (o - 0xA0) / 4)
    else 0

/-- What a register of the LPE block reads as; LPE_I_HI holds what the last read of LPE_I_LO latched. -/
def Loop.live (l : Loop) (d : Dyn) (a : Nat) : Word := if a % 0x100 = 0x38 then d.rd a else l.reg (a % 0x100)

end Sys2Proof.Machine
end

