-- ==== Sys2Proof/Machine/Solver.lean ====
section
/-! DEFINITION. The solver (R213–R243): jobs, the front stage, the factorisations, the interior point, deadlines, and
records, computed in the formats of R227. The right-hand sides of a QP pass, which no rule writes out, are those for which
the matrix of R230 gives the Newton step (log entry 7). -/

namespace Sys2Proof.Machine

/-! Slots and their templates. -/

def Dyn.slot (d : Dyn) (s : Nat) : SlvSlot := sget SlvSlot.init d.slv s
def Dyn.setSlot (d : Dyn) (s : Nat) (f : SlvSlot → SlvSlot) : Dyn :=
  { d with slv := sput SlvSlot.init d.slv s (f (d.slot s)) }
def Dyn.setJob (d : Dyn) (s : Nat) (f : Job → Job) : Dyn := d.setSlot s fun x => { x with job := f x.job }
def Cfg.slvUsed (c : Cfg) (s : Nat) : Bool := c.flag (F.SLV_CFG_CONFIGURED s)
def Cfg.template (c : Cfg) (s : Nat) : Template :=
  (c.img.solver.find? fun t => t.slot == s).getD ⟨s, [], [], [], []⟩
def Cfg.slvN (c : Cfg) (s : Nat) : Nat := c.get (F.SLV_DIM_N s)
def Cfg.slvRows (c : Cfg) (s : Nat) : Nat := c.get (F.SLV_DIM_ROWS s)
/-- 0 LDL, 1 LU, 2 LSQ, 3 QP. -/
def Cfg.slvClass (c : Cfg) (s : Nat) : Nat := c.get (F.SLV_CFG_CLASS s)
def Job.busy (j : Job) : Bool := 1 ≤ j.state && j.state ≤ 3

/-- Words of a record (R236). -/
def Cfg.recLen (c : Cfg) (s : Nat) : Nat :=
  if c.slvClass s = 3 then 8 + 2 * c.slvN s + c.slvRows s else 8 + c.slvN s

/-- Word `i` of a record; an empty record is NO_RESULT with STALE. -/
def recWord (r : List Word) (i : Nat) : Word := r.getD i (if i = 0 then 0x80000000 else 0)

/-- The published status word, with BUSY as at the latch (R238). -/
def Dyn.slvStatus (d : Dyn) (s : Nat) : Word := recWord (d.slot s).pub 0

/-! Formats (R227). Fractional bits. -/

structure Fmt where
  mat : Nat
  vec : Nat
  x : Nat
  dual : Nat
  l : Nat
  coef : Nat

def Cfg.fmt (c : Cfg) (s : Nat) : Fmt :=
  let a := c.rd (Reg.SLV_FMT s)
  let b := c.rd (Reg.SLV_FMT2 s)
  ⟨a.field 24 8, a.field 16 8, a.field 8 8, a.field 0 8, b.field 8 8, b.field 0 8⟩

/-- Format of a target (R225). -/
def Fmt.of (f : Fmt) (cls target : Nat) : Nat :=
  match target with
  | 0 => f.mat
  | 1 => f.vec
  | 2 => f.mat
  | 3 => f.vec
  | 4 => f.vec
  | 5 => f.x
  | 6 => f.x
  | 7 => f.coef
  | 8 => f.x
  | _ => if cls = 2 then f.mat else f.vec

/-- Arithmetic of the array: the state counts saturations (R227). -/
abbrev Cnt := StateM Nat

/-- A value limited to 32 bits. -/
def sat32 (v : Int) : Cnt Int := fun k =>
  let r := satTo 32 v
  (r, if r = v then k else k + 1)

/-- `num × 2^up / 2^down` rounded once, saturated to 32 bits. -/
def fix (num : Int) (up down : Nat) : Cnt Int := sat32 (rnd (num * 2 ^ up) (2 ^ down))

/-! The front stage (R223–R226). -/

/-- Index of the first measurement outside its range. -/
def firstOut (ms : List Meas) (ws : List Word) : Option Nat :=
  (List.range ms.length).find? fun i =>
    match ms[i]?, ws[i]? with
    | some m, some w => decide (w.toInt < m.lo.toInt) || decide (m.hi.toInt < w.toInt)
    | _, _ => false

/-- An entry descriptor from its eight words (R224). -/
def descOf (w : List Word) : Desc :=
  let at_ := fun j => w.getD j 0
  let terms := [((at_ 2).field 0 9, at_ 4), ((at_ 2).field 16 9, at_ 5), ((at_ 3).field 0 9, at_ 6),
    ((at_ 3).field 16 9, at_ 7)]
  { target := (at_ 0).field 28 4, row := (at_ 0).field 16 8, col := (at_ 0).field 0 7, c0 := at_ 1,
    terms := terms.take ((at_ 0).field 24 3) }

/-- The value of one entry: C0 plus the terms, exact, rounded once. -/
def entryValue (f : Fmt) (cls : Nat) (ms : List Meas) (ws : List Word) (e : Desc) : Cnt Int :=
  let ft := f.of cls e.target
  let terms := e.terms.map fun t =>
    let mf := match ms[t.1]? with | some m => m.mf | none => 0
    t.2.toInt * (ws.getD t.1 0).toInt * 2 ^ (ft + 62 - f.coef - mf)
  sat32 (rnd (terms.foldl (· + ·) (e.c0.toInt * 2 ^ 62)) (2 ^ 62))

/-- All entries, as (target, row, column, value). -/
def assemble (f : Fmt) (cls : Nat) (ms : List Meas) (ws : List Word) : List Desc → Cnt (List (Nat × Nat × Nat × Int))
  | [] => pure []
  | e :: es => do
    let v ← entryValue f cls ms ws e
    let r ← assemble f cls ms ws es
    pure ((e.target, e.row, e.col, v) :: r)

abbrev Data := List (Nat × Nat × Nat × Int)

def Data.at_ (t : Data) (target row col : Nat) : Int :=
  match t.find? fun e => e.1 == target && e.2.1 == row && e.2.2.1 == col with
  | some e => e.2.2.2
  | none => 0

/-- An entry of a symmetric target: the upper triangle mirrors the lower. -/
def Data.sym (t : Data) (target row col : Nat) : Int := Data.at_ t target (max row col) (min row col)

/-! Matrices as lists of rows. -/

abbrev Mat := List (List Int)
def Mat.at_ (m : Mat) (i j : Nat) : Int := (m.getD i []).getD j 0
def mapM2 (n k : Nat) (f : Nat → Nat → Cnt Int) : Cnt Mat :=
  (List.range n).mapM fun i => (List.range k).mapM fun j => f i j

/-- `1 / p` to 32 significant bits: a mantissa from 2^31 on and the exponent e of its scale 2^-e, for p = `raw` / 2^`f`. -/
def recip (raw : Int) (f : Nat) : Int × Nat :=
  let a := raw.natAbs
  let e := (if a = 2 ^ Nat.log2 a then 31 else 32) + Nat.log2 a - f
  let q := rnd (2 ^ (f + e) : Int) (max a 1)
  (if raw < 0 then -q else q, e)

/-- A regularised pivot (R229): the pivot, and whether it was regularised. -/
def pivot (pd : Bool) (eps reg p : Int) : Int × Bool :=
  let small := if pd then decide (p < eps) else decide (p.natAbs < eps.natAbs)
  if small then (if !pd && decide (p < 0) then -reg else reg, true) else (p, false)

/-- Column `j` of the LDL factorisation: factor column in place, trailing square updated. -/
def ldlColumn (f : Fmt) (n j : Nat) (p : Int) (m : Mat) : Cnt Mat := do
  let (q, e) := recip p f.mat
  let l ← (List.range n).mapM fun i => if j < i then fix (m.at_ i j * q) f.l (f.mat + e) else pure 0
  mapM2 n n fun i k =>
    if j < i && j < k then fix (m.at_ i k * 2 ^ (2 * f.l) - l.getD i 0 * p * l.getD k 0) 0 (2 * f.l)
    else if k = j && j < i then pure (l.getD i 0)
    else pure (m.at_ i k)

/-- The real number that `v` with `f` fractional bits stands for. -/
def real (f : Nat) (v : Int) : Rat := (v : Rat) / ((2 ^ f : Nat) : Rat)

/-- A real number rounded once to `f` fractional bits. -/
def store (f : Nat) (r : Rat) : Cnt Int := sat32 (r * ((2 ^ f : Nat) : Rat) + 1 / 2).floor

/-- Forward substitution with the unit lower triangle of `m`, whose entries have `lf` fractional bits, exact. -/
def forward (lf : Nat) (n : Nat) (m : Mat) (b : List Rat) : List Rat :=
  (List.range n).foldl (fun (y : List Rat) i =>
    y ++ [(List.range i).foldl (fun v k => v - real lf (m.at_ i k) * y.getD k 0) (b.getD i 0)]) []

/-- Backward substitution: x_i = (y_i − Σ u_ik x_k) / p_i, each stored once in the X format. -/
def backward (f : Fmt) (n : Nat) (u : Nat → Nat → Rat) (p : Nat → Rat) (y : List Rat) : Cnt (List Int) :=
  (List.range n).foldlM (fun (x : List Int) r => do
    let i := n - 1 - r
    let s := (List.range n).foldl (fun v k => if i < k then v - u i k * real f.x (x.getD (k - i - 1) 0) else v) (y.getD i 0)
    let v ← store f.x (s / p i)
    pure (v :: x)) []

/-- Forward and backward substitution of LDL: the solution is in the X format, y is exact (DEDUCED, log entry 115). -/
def ldlSolve (f : Fmt) (n : Nat) (m : Mat) (dia b : List Int) : Cnt (List Int) :=
  let d := fun i => real f.mat (dia.getD i 1)
  backward f n (fun i k => d i * real f.l (m.at_ k i)) d (forward f.l n m (b.map (real f.vec)))

/-- The row of the LU pivot: largest magnitude in column `j`, the lowest on ties. -/
def luRow (n j : Nat) (m : Mat) : Nat :=
  (List.range n).foldl (fun q i => if j < i && (m.at_ q j).natAbs < (m.at_ i j).natAbs then i else q) j

def swapAt {α : Type} (l : List α) (i j : Nat) : List α :=
  match l[i]?, l[j]? with
  | some a, some b => (l.set i b).set j a
  | _, _ => l

/-- Column `j` of the LU factorisation after the exchange; the multipliers stay in the MAT format (DEDUCED, log entry
115). -/
def luColumn (f : Fmt) (n j : Nat) (p : Int) (m : Mat) : Cnt Mat := do
  let (q, e) := recip p f.mat
  let l ← (List.range n).mapM fun i => if j < i then fix (m.at_ i j * q) 0 e else pure 0
  mapM2 n n fun i k =>
    if i = j && k = j then pure p
    else if j < i && k = j then pure (l.getD i 0)
    else if j < i && j < k then fix (m.at_ i k * 2 ^ f.mat - l.getD i 0 * m.at_ j k) 0 f.mat
    else pure (m.at_ i k)

def luSolve (f : Fmt) (n : Nat) (m : Mat) (b : List Int) : Cnt (List Int) :=
  backward f n (fun i k => real f.mat (m.at_ i k)) (fun i => real f.mat (m.at_ i i)) (forward f.mat n m (b.map (real f.vec)))

/-- The system of an LDL, LU or LSQ template: matrix (MAT) and right-hand side (VEC). The normal equations of LSQ are
formed exactly and each entry is rounded once. -/
def system (f : Fmt) (cls n rows : Nat) (t : Data) : Cnt (Mat × List Int) := do
  match cls with
  | 0 =>
    pure ((List.range n).map fun i => (List.range n).map fun j => Data.sym t 0 i j, (List.range n).map fun i => Data.at_ t 1 i 0)
  | 1 =>
    pure ((List.range n).map fun i => (List.range n).map fun j => Data.at_ t 0 i j, (List.range n).map fun i => Data.at_ t 1 i 0)
  | _ =>
    let lam := Data.at_ t 9 0 0
    let sum := fun (g : Nat → Int) => (List.range rows).foldl (fun a r => a + g r) (0 : Int)
    let m ← mapM2 n n fun i j =>
      fix (sum (fun r => Data.at_ t 7 r 0 * Data.at_ t 0 r i * Data.at_ t 0 r j) +
        (if i = j then lam * 2 ^ (f.mat + f.coef) else 0)) 0 (f.mat + f.coef)
    let b ← (List.range n).mapM fun i =>
      -- common scale 2^-(mat + coef + vec + x)
      let a := sum (fun r => Data.at_ t 7 r 0 * Data.at_ t 0 r i * Data.at_ t 1 r 0) * 2 ^ f.x
      let z := lam * Data.at_ t 8 i 0 * 2 ^ (f.coef + f.vec)
      sat32 (rnd (a + z) (2 ^ (f.mat + f.coef + f.x)))
    pure (m, b)

/-! QP: fixing (R216). -/

/-- Variable `i` is fixed at the value given. -/
def fixedVar (f : Fmt) (eps : Int) (vars : List (Bool × Bool)) (t : Data) (i : Nat) : Option Int :=
  let (hl, hu) := vars.getD i (false, false)
  let lb := Data.at_ t 5 i 0
  let ub := Data.at_ t 6 i 0
  if hl && hu && decide ((ub - lb) * 2 ^ f.vec ≤ eps * 2 ^ f.x) then some ((lb + ub).tdiv 2) else none

/-- Row `r` is a RANGE row treated as EQUAL. -/
def fixedRow (eps : Int) (rows : List (Nat × Bool × Bool)) (t : Data) (r : Nat) : Bool :=
  let (k, hl, hh) := rows.getD r (0, false, false)
  k == 0 && hl && hh && decide (Data.at_ t 4 r 0 - Data.at_ t 3 r 0 ≤ eps)

/-! QP: the interior point (R215, R216, R230). -/

def dot (a b : List Int) : Int := (List.zipWith (· * ·) a b).foldl (· + ·) 0

/-- The problem after setup: variables and rows fixed, elastic rows folded into H and f. -/
def qpProb (f : Fmt) (n rows : Nat) (eps : Int) (tp : Template) (t : Data) : Cnt QpProb := do
  let fixed := (List.range n).map fun i => (fixedVar f eps tp.vars t i).isSome
  let g := (List.range rows).map fun r => (List.range n).map fun i => Data.at_ t 2 r i
  let row := fun r => tp.rows.getD r (0, false, false)
  let kinds := (List.range rows).map fun r =>
    if (row r).1 = 2 then 2
    else if (List.zipWith (fun (b : Bool) (v : Int) => b || v == 0) fixed (g.getD r [])).all id then 3
    else if (row r).1 = 1 || fixedRow eps tp.rows t r then 1 else 0
  let d := (List.range rows).map fun r =>
    if (row r).1 = 0 then rnd (Data.at_ t 3 r 0 + Data.at_ t 4 r 0) 2 else Data.at_ t 3 r 0
  let side := fun (on : Bool) (target r : Nat) => if on && kinds.getD r 3 == 0 then some (Data.at_ t target r 0) else none
  let el := (List.range rows).filter fun r => kinds.getD r 3 == 2
  let wg := fun (r i : Nat) => Data.at_ t 7 r 0 * Mat.at_ g r i
  let h ← mapM2 n n fun i k =>
    if el.isEmpty then pure (Data.sym t 0 i k)
    else fix (el.foldl (fun a r => a + wg r i * Mat.at_ g r k) (Data.sym t 0 i k * 2 ^ (f.coef + f.mat))) 0 (f.coef + f.mat)
  let fv ← (List.range n).mapM fun i =>
    fix (el.foldl (fun a r => a - wg r i * d.getD r 0) (Data.at_ t 1 i 0 * 2 ^ (f.coef + f.mat))) 0 (f.coef + f.mat)
  let bound := fun (on : Bool) (target i : Nat) => if on then some (Data.at_ t target i 0) else none
  let vars := fun i => tp.vars.getD i (false, false)
  pure { fixed := fixed, h := h, f := fv, g := g, kinds := kinds, d := d,
         glo := (List.range rows).map fun r => side (row r).2.1 3 r,
         ghi := (List.range rows).map fun r => side (row r).2.2 4 r,
         lb := (List.range n).map fun i => bound (vars i).1 5 i,
         ub := (List.range n).map fun i => bound (vars i).2 6 i }

def QpProb.isFixed (p : QpProb) (i : Nat) : Bool := p.fixed.getD i false
def QpProb.kind (p : QpProb) (r : Nat) : Nat := p.kinds.getD r 3
/-- Bounds of a variable that takes part, and sides of a row; none for the others. -/
def QpProb.low (p : QpProb) (i : Nat) : Option Int := if p.isFixed i then none else p.lb.getD i none
def QpProb.high (p : QpProb) (i : Nat) : Option Int := if p.isFixed i then none else p.ub.getD i none
def QpProb.lo (p : QpProb) (r : Nat) : Option Int := p.glo.getD r none
def QpProb.hi (p : QpProb) (r : Nat) : Option Int := p.ghi.getD r none

/-- A value kept strictly inside the sides it has (R215, R230); where a format leaves nothing between them it lies on the
upper one (log entry 7). -/
def inside (lo hi : Option Int) (v : Int) : Int :=
  let v := match hi with | some b => min v (b - 1) | none => v
  match lo with | some a => max v (a + 1) | none => v

/-- The start of a variable or slack between the sides it has; `init` is X_INIT in its format. -/
def startIn (init : Int) (lo hi : Option Int) : Int :=
  inside lo hi (match lo, hi with
    | some a, some b => rnd (a + b) 2
    | some a, none => a + init
    | none, some b => b - init
    | none, none => 0)

/-- The start point. -/
def qpStart (f : Fmt) (n rows : Nat) (eps initX initD : Int) (tp : Template) (t : Data) (p : QpProb) : Cnt Qp := do
  let x ← (List.range n).mapM fun i => match fixedVar f eps tp.vars t i with
    | some v => pure v
    | none => sat32 (startIn initX (p.low i) (p.high i))
  let initS ← fix initX f.vec f.x
  let s ← (List.range rows).mapM fun r => sat32 (startIn initS (p.lo r) (p.hi r))
  let dual := fun (o : Option Int) => if o.isSome then initD else 0
  pure { x := x, s := s, ll := (List.range rows).map fun r => dual (p.lo r), lu := (List.range rows).map fun r => dual (p.hi r),
         y := (List.range rows).map fun _ => 0, zl := (List.range n).map fun i => dual (p.low i),
         zu := (List.range n).map fun i => dual (p.high i) }

/-- The sum of dual / gap over the present sides, clamped to SIGMA_MAX, in the MAT format; `gf` is the gap's format. A gap of
zero gives SIGMA_MAX. -/
def sigmaOf (f : Fmt) (cap : Int) (gf : Nat) (terms : List (Int × Int)) : Int :=
  if terms.any fun t => decide (t.2 ≤ 0) then cap
  else
    let (a, b) := terms.foldl (fun (x : Int × Int) t => (x.1 * t.2 + t.1 * x.2, x.2 * t.2)) ((0 : Int), (1 : Int))
    let num := a * 2 ^ (gf + f.mat)
    let den := b * 2 ^ f.dual
    if cap * den ≤ num then cap else rnd num den.toNat

/-- Gaps of variable `i` and of the slack of row `r`, each with its dual; `x` has `xf` fractional bits. -/
def QpProb.xGaps (p : QpProb) (f : Fmt) (xf : Nat) (x : List Int) (q : Qp) (i : Nat) : List (Int × Int) :=
  let v := x.getD i 0 * 2 ^ f.x
  ((p.low i).map fun b => (q.zl.getD i 0, v - b * 2 ^ xf)).toList ++
    ((p.high i).map fun b => (q.zu.getD i 0, b * 2 ^ xf - v)).toList
def QpProb.sGaps (p : QpProb) (q : Qp) (r : Nat) : List (Int × Int) :=
  ((p.lo r).map fun b => (q.ll.getD r 0, q.s.getD r 0 - b)).toList ++
    ((p.hi r).map fun b => (q.lu.getD r 0, b - q.s.getD r 0)).toList

/-- m = h + diag(sigma_x) + gᵀ diag(sigma_s) g + eᵀe / delta_eq, each entry rounded once; a fixed variable takes no part. -/
def qpMatrix (f : Fmt) (n rows : Nat) (delta cap : Int) (p : QpProb) (q : Qp) : Cnt Mat :=
  let del := max delta 1
  let wt := (List.range rows).map fun r => match p.kind r with
    | 0 => sigmaOf f cap f.vec (p.sGaps q r) * del
    | 1 => 2 ^ (2 * f.mat)
    | _ => 0
  let sx := (List.range n).map fun i => sigmaOf f cap (2 * f.x) (p.xGaps f f.x q.x q i)
  let cols := (List.range n).map fun i => p.g.map fun row => row.getD i 0
  let wcols := cols.map fun col => List.zipWith (· * ·) wt col
  mapM2 n n fun i k =>
    if p.isFixed i || p.isFixed k then pure 0
    else
      let a := (Mat.at_ p.h i k + if i = k then sx.getD i 0 else 0) * del * 2 ^ (2 * f.mat)
      sat32 (rnd (a + dot (wcols.getD i []) (cols.getD k [])) (del.toNat * 2 ^ (2 * f.mat)))

/-- Multipliers of the rows in the iteration. -/
def QpProb.lam (p : QpProb) (q : Qp) (rows : Nat) : List Int :=
  (List.range rows).map fun r => match p.kind r with
    | 0 => q.lu.getD r 0 - q.ll.getD r 0
    | 1 => q.y.getD r 0
    | _ => 0
/-- z_u − z_l. -/
def Qp.bnd (q : Qp) : List Int := List.zipWith (· - ·) q.zu q.zl

/-- The largest of some magnitudes. -/
def largest (l : List Int) : Int := l.foldl (fun a v => max a (v.natAbs : Int)) 0

/-- rp, rd and mu of an x with `xf` fractional bits and multipliers with `df`, as numerators and denominators. -/
def QpProb.rp (p : QpProb) (f : Fmt) (rows xf : Nat) (x : List Int) (q : Qp) : Int × Nat :=
  (largest ((List.range rows).map fun r =>
    let gx := dot (p.g.getD r []) x * 2 ^ f.vec
    match p.kind r with
    | 0 => gx - q.s.getD r 0 * 2 ^ (f.mat + xf)
    | 1 => gx - p.d.getD r 0 * 2 ^ (f.mat + xf)
    | _ => 0), 2 ^ (f.mat + xf + f.vec))
def QpProb.rd (p : QpProb) (f : Fmt) (n xf df : Nat) (x lam z : List Int) : Int × Nat :=
  (largest ((List.range n).map fun i =>
    if p.isFixed i then 0
    else dot (p.h.getD i []) x * 2 ^ (f.vec + df) + p.f.getD i 0 * 2 ^ (f.mat + xf + df) +
      dot (p.g.map fun row => row.getD i 0) lam * 2 ^ (xf + f.vec) + z.getD i 0 * 2 ^ (f.mat + xf + f.vec)),
    2 ^ (f.mat + xf + f.vec + df))
def QpProb.mu (p : QpProb) (f : Fmt) (n rows xf : Nat) (x : List Int) (q : Qp) : Int × Nat :=
  let xs := (List.range n).flatMap fun i => p.xGaps f xf x q i
  let ss := (List.range rows).flatMap fun r => p.sGaps q r
  let sum := fun (l : List (Int × Int)) => l.foldl (fun a t => a + t.1 * t.2) (0 : Int)
  (sum xs * 2 ^ f.vec + sum ss * 2 ^ (xf + f.x), (xs.length + ss.length) * 2 ^ (xf + f.x + f.vec + f.dual))

/-- A quotient in the format of `fr` fractional bits; of an empty mean, zero. -/
def toFmt (fr : Nat) (v : Int × Nat) : Cnt Int := if v.2 = 0 then pure 0 else sat32 (rnd (v.1 * 2 ^ fr) v.2)

/-- rp, rd and mu of an iterate, in the VEC format of the tolerances. -/
def QpProb.residuals (p : QpProb) (f : Fmt) (n rows : Nat) (q : Qp) : Cnt (Int × Int × Int) := do
  let rp ← toFmt f.vec (p.rp f rows f.x q.x q)
  let rd ← toFmt f.vec (p.rd f n f.x f.dual q.x (p.lam q rows) q.bnd)
  let mu ← toFmt f.vec (p.mu f n rows f.x q.x q)
  pure (rp, rd, mu)

/-! QP: a pass (R230). -/

/-- A pass whose matrix is factorised: formats and sizes, delta_eq and SIGMA_MAX, the problem, the last complete iterate,
and the factors. -/
structure Pass where
  f : Fmt
  n : Nat
  rows : Nat
  delta : Int
  cap : Int
  prob : QpProb
  q : Qp
  mat : Mat
  dia : List Int

def Pass.x (a : Pass) (i : Nat) : Rat := real a.f.x (a.q.x.getD i 0)
def Pass.s (a : Pass) (r : Nat) : Rat := real a.f.vec (a.q.s.getD r 0)
def Pass.dual (a : Pass) (l : List Int) (i : Nat) : Rat := real a.f.dual (l.getD i 0)
/-- Gaps of a variable and of a slack to their lower and upper sides. -/
def Pass.xLow (a : Pass) (i : Nat) : Option Rat := (a.prob.low i).map fun b => a.x i - real a.f.x b
def Pass.xHigh (a : Pass) (i : Nat) : Option Rat := (a.prob.high i).map fun b => real a.f.x b - a.x i
def Pass.sLow (a : Pass) (r : Nat) : Option Rat := (a.prob.lo r).map fun b => a.s r - real a.f.vec b
def Pass.sHigh (a : Pass) (r : Nat) : Option Rat := (a.prob.hi r).map fun b => real a.f.vec b - a.s r
/-- gᵣᵀv of a vector of real numbers. -/
def Pass.row (a : Pass) (r : Nat) (v : Nat → Rat) : Rat :=
  (List.range a.n).foldl (fun t i => t + real a.f.mat ((a.prob.g.getD r []).getD i 0) * v i) 0
def Pass.del (a : Pass) : Rat := real a.f.mat (max a.delta 1)

/-- The complementarity products at which a solve aims: of each variable and each slack, at the lower and the upper side. -/
structure Aim where
  x : Nat → Rat × Rat
  s : Nat → Rat × Rat

/-- What the sides of a value with these gaps pull with: the duals that the aim gives at the present gaps. -/
def pull (lo hi : Option Rat) (c : Rat × Rat) : Rat :=
  (hi.map fun g => c.2 / g).getD 0 - (lo.map fun g => c.1 / g).getD 0

/-- The multiplier of a row that a step of zero would leave. -/
def Pass.rowPull (a : Pass) (t : Aim) (r : Nat) : Rat :=
  match a.prob.kind r with
  | 0 => pull (a.sLow r) (a.sHigh r) (t.s r) +
      real a.f.mat (sigmaOf a.f a.cap a.f.vec (a.prob.sGaps a.q r)) * (a.row r a.x - a.s r)
  | 1 => a.dual a.q.y r + (a.row r a.x - real a.f.vec (a.prob.d.getD r 0)) / a.del
  | _ => 0

/-- The right-hand side of a solve: the negated gradient that remains when the slacks and the duals are eliminated, as the
matrix of R230 eliminates them (DEDUCED, log entry 7). -/
def Pass.rhs (a : Pass) (t : Aim) : Cnt (List Int) :=
  let ys := (List.range a.rows).map (a.rowPull t)
  (List.range a.n).mapM fun i =>
    if a.prob.isFixed i then pure 0
    else
      let hx := (List.range a.n).foldl (fun v k => v + real a.f.mat (Mat.at_ a.prob.h i k) * a.x k) 0
      let gy := (List.range a.rows).foldl (fun v r => v + real a.f.mat (Mat.at_ a.prob.g r i) * ys.getD r 0) 0
      store a.f.vec (-(hx + real a.f.vec (a.prob.f.getD i 0) + gy + pull (a.xLow i) (a.xHigh i) (t.x i)))

/-- The change of a dual: its gap with the change `dg`, and the product aimed at. -/
def Pass.dualStep (a : Pass) (z : List Int) (i : Nat) (gap : Option Rat) (c dg : Rat) : Cnt Int :=
  match gap with
  | some g => store a.f.dual ((c - a.dual z i * dg) / g - a.dual z i)
  | none => pure 0

/-- A solve: the changes of x, slacks and duals. -/
def Pass.solve (a : Pass) (t : Aim) : Cnt Qp := do
  let b ← a.rhs t
  let dx ← ldlSolve a.f a.n a.mat a.dia b
  let dxr := fun i => real a.f.x (dx.getD i 0)
  let ds ← (List.range a.rows).mapM fun r =>
    if a.prob.kind r = 0 then store a.f.vec (a.row r (fun i => a.x i + dxr i) - a.s r) else pure 0
  let dsr := fun r => real a.f.vec (ds.getD r 0)
  let zl ← (List.range a.n).mapM fun i => a.dualStep a.q.zl i (a.xLow i) (t.x i).1 (dxr i)
  let zu ← (List.range a.n).mapM fun i => a.dualStep a.q.zu i (a.xHigh i) (t.x i).2 (-dxr i)
  let ll ← (List.range a.rows).mapM fun r => a.dualStep a.q.ll r (a.sLow r) (t.s r).1 (dsr r)
  let lu ← (List.range a.rows).mapM fun r => a.dualStep a.q.lu r (a.sHigh r) (t.s r).2 (-dsr r)
  pure { x := dx, s := ds, ll := ll, lu := lu, y := [], zl := zl, zu := zu }

/-- The sides present, each as gap, its change, dual and its change, for the changes `dq`. -/
def Pass.sides (a : Pass) (dq : Qp) : List ((Rat × Rat) × Rat × Rat) :=
  let side := fun (g : Option Rat) (dg : Rat) (z dz : List Int) (i : Nat) =>
    (g.map fun g => ((g, dg), (a.dual z i, a.dual dz i))).toList
  ((List.range a.n).flatMap fun i =>
    side (a.xLow i) (real a.f.x (dq.x.getD i 0)) a.q.zl dq.zl i ++
      side (a.xHigh i) (-real a.f.x (dq.x.getD i 0)) a.q.zu dq.zu i) ++
  ((List.range a.rows).flatMap fun r =>
    side (a.sLow r) (real a.f.vec (dq.s.getD r 0)) a.q.ll dq.ll r ++
      side (a.sHigh r) (-real a.f.vec (dq.s.getD r 0)) a.q.lu dq.lu r)

/-- The largest step, `scale` times it, that keeps the gaps and duals from falling below zero, at most 1. -/
def stepLen (scale : Rat) (l : List ((Rat × Rat) × Rat × Rat)) : Rat :=
  (l.flatMap fun t => [t.1, t.2]).foldl (fun a t => if t.2 < 0 then min a (scale * (t.1 / -t.2)) else a) 1

/-- Mean complementarity after a step. -/
def meanAfter (alpha : Rat) (l : List ((Rat × Rat) × Rat × Rat)) : Rat :=
  l.foldl (fun a t => a + (t.1.1 + alpha * t.1.2) * (t.2.1 + alpha * t.2.2)) 0 / (l.length : Rat)

/-- The predictor and the corrector: the changes that the corrector gives. Whether it takes the products of the predictor's
changes into its aim no rule says (Config.secondOrder, log entry 7). -/
def Pass.directions (a : Pass) : Cnt Qp := do
  let aff ← a.solve ⟨fun _ => (0, 0), fun _ => (0, 0)⟩
  let sides := a.sides aff
  let mu := meanAfter 0 sides
  let sigma := max (1 / 1024) (min 1 ((meanAfter (stepLen 1 sides) sides / mu) ^ 3))
  let aim := fun (dv : Rat) (dl du : Rat) =>
    let c := fun (p : Rat) => sigma * mu - if Config.secondOrder then p else 0
    (c (dv * dl), c (-dv * du))
  a.solve ⟨fun i => aim (real a.f.x (aff.x.getD i 0)) (a.dual aff.zl i) (a.dual aff.zu i),
    fun r => aim (real a.f.vec (aff.s.getD r 0)) (a.dual aff.ll r) (a.dual aff.lu r)⟩

/-- The iterate after a step of `alpha` along `dq`; y follows from the new x. Every step keeps gaps and duals above zero, so
rounding takes neither there (R230). -/
def Pass.move (a : Pass) (alpha : Rat) (dq : Qp) : Cnt Qp := do
  let p := a.prob
  let is := List.range a.n
  let rs := List.range a.rows
  let dual := fun (o : Option Int) (z dz : List Int) (i : Nat) => do
    if o.isSome then
      let v ← store a.f.dual (a.dual z i + alpha * a.dual dz i)
      pure (max v (min 1 (z.getD i 0)))
    else pure 0
  let x ← is.mapM fun i => do
    if p.isFixed i then pure (a.q.x.getD i 0)
    else
      let v ← store a.f.x (a.x i + alpha * real a.f.x (dq.x.getD i 0))
      pure (inside (p.low i) (p.high i) v)
  let s ← rs.mapM fun r => do
    if p.kind r = 0 then
      let v ← store a.f.vec (a.s r + alpha * real a.f.vec (dq.s.getD r 0))
      pure (inside (p.lo r) (p.hi r) v)
    else pure 0
  let ll ← rs.mapM fun r => dual (p.lo r) a.q.ll dq.ll r
  let lu ← rs.mapM fun r => dual (p.hi r) a.q.lu dq.lu r
  let zl ← is.mapM fun i => dual (p.low i) a.q.zl dq.zl i
  let zu ← is.mapM fun i => dual (p.high i) a.q.zu dq.zu i
  let y ← rs.mapM fun r =>
    if p.kind r = 1 then
      store a.f.dual (a.dual a.q.y r +
        alpha * (a.row r (fun i => real a.f.x (x.getD i 0)) - real a.f.vec (p.d.getD r 0)) / a.del)
    else pure 0
  pure { x := x, s := s, ll := ll, lu := lu, y := y, zl := zl, zu := zu }

/-- The iterate that the pass gives. -/
def Pass.next (a : Pass) : Cnt Qp := do
  let dq ← a.directions
  a.move (stepLen (255 / 256) (a.sides dq)) dq

/-- What the record holds of a QP job (R233, R236): rp, rd and mu of the delivered values, x clamped to its bounds, row words
and bound words, all Q16.16. -/
def QpProb.record (p : QpProb) (f : Fmt) (n rows : Nat) (q : Qp) : Cnt (List Int) := do
  let x ← (List.range n).mapM fun i =>
    let v := rnd (q.x.getD i 0 * 2 ^ 16) (2 ^ f.x)
    let v := match p.lb.getD i none with
      | some b => max v (-((-b * 2 ^ 16) / 2 ^ f.x))
      | none => v
    sat32 (match p.ub.getD i none with
      | some b => min v ((b * 2 ^ 16) / 2 ^ f.x)
      | none => v)
  let lam ← (p.lam q rows).mapM fun v => toFmt 16 (v, 2 ^ f.dual)
  let z ← q.bnd.mapM fun v => toFmt 16 (v, 2 ^ f.dual)
  let row ← (List.range rows).mapM fun r =>
    if p.kind r = 2 then
      toFmt 16 (dot (p.g.getD r []) x * 2 ^ f.vec - p.d.getD r 0 * 2 ^ (f.mat + 16), 2 ^ (f.mat + 16 + f.vec))
    else pure (lam.getD r 0)
  let rp ← toFmt 16 (p.rp f rows 16 x q)
  let rd ← toFmt 16 (p.rd f n 16 16 x lam z)
  let mu ← toFmt 16 (p.mu f n rows 16 x q)
  pure ([rp, rd, mu] ++ x ++ row ++ z)

/-! Job control. -/

/-- Cost of an LDL or LU column with `k` rows below the pivot (R234). -/
def columnCost (lu : Bool) (k : Nat) : Nat :=
  if lu then max 10 (6 + (k * k + 255) / 256) else max 8 (4 + (k * k + 255) / 256)

def Cfg.columnsCost (c : Cfg) (s : Nat) : Nat :=
  let n := c.slvN s
  (List.range n).foldl (fun a j => a + columnCost (c.slvClass s == 1) (n - 1 - j)) 0

/-- Cycles of a pass around its factorisation: before and after. For LDL, LU and LSQ the one iteration is the columns and
the substitution (DEDUCED, log entry 115). -/
def Cfg.passRest (c : Cfg) (s : Nat) : Nat := c.get (F.SLV_COST_ITER_CYCLES s) - c.columnsCost s
def Cfg.passFront (c : Cfg) (s : Nat) : Nat :=
  if c.slvClass s = 3 then Config.passFront s % (c.passRest s + 1) else 0

/-- Range check (R223). -/
def rangeCost (m : Nat) : Nat := 8 + (m + 15) / 16

/-- Assembly (R226). -/
def assemblyCost (e : Nat) : Nat := 16 + (e + 7) / 8

/-- The deadline has passed (R231). -/
def Dyn.passed (c : Cfg) (d : Dyn) (j : Job) : Bool :=
  decide (j.offset ≤ (d.latches - j.frame) * c.period + 2 * (d.sinceT / 2))

/-- Count saturations. -/
def Dyn.overflowed (d : Dyn) (s : Nat) (n : Nat) : Dyn :=
  if n = 0 then d else (d.setJob s fun j => { j with ovf := true }).bumpBy (F.SLV_OVF_COUNT s) n

/-- The delivered x of an LDL, LU or LSQ job and its residuals, Q16.16 (R233): rp of LDL and LU; of LSQ rd, the largest
magnitude in the gradient of the objective of R213, and free values for the two that no rule states. -/
def Dyn.linRecord (c : Cfg) (d : Dyn) (s : Nat) : Cnt (List Int) := do
  let j := (d.slot s).job
  let n := c.slvN s
  let f := c.fmt s
  let t := j.data
  let x ← j.x.mapM fun v => toFmt 16 (v, 2 ^ f.x)
  if c.slvClass s = 2 then
    let rs := (List.range (c.slvRows s)).map fun r =>
      let a := (List.range n).map fun k => Data.at_ t 0 r k
      (a, Data.at_ t 7 r 0 * (dot a x * 2 ^ f.vec - Data.at_ t 1 r 0 * 2 ^ (f.mat + 16)))
    let grad := (List.range n).map fun i =>
      rs.foldl (fun a r => a + r.1.getD i 0 * r.2) (0 : Int) * 2 ^ f.x +
        Data.at_ t 9 0 0 * (x.getD i 0 * 2 ^ f.x - Data.at_ t 8 i 0 * 2 ^ 16) * 2 ^ (f.coef + f.mat + f.vec)
    let rd ← toFmt 16 (2 * largest grad, 2 ^ (f.coef + 2 * f.mat + 16 + f.vec + f.x))
    pure ([(Config.solverWord s t 0 0).toInt, rd, (Config.solverWord s t 0 1).toInt] ++ x)
  else
    let (m, b) ← system f (c.slvClass s) n (c.slvRows s) t
    let rp ← toFmt 16 (largest ((List.range n).map fun i =>
      dot (m.getD i []) x * 2 ^ f.vec - b.getD i 0 * 2 ^ (f.mat + 16)), 2 ^ (f.mat + 16 + f.vec))
    pure ([rp, 0, 0] ++ x)

/-- Write the working record and end the job (R233, R235–R238). ITER of a STALE record is 0 (DESIGN CHOICE, log entry
115). -/
def Dyn.endJob (c : Cfg) (d : Dyn) (s : Nat) : Dyn :=
  let stale := fun (j : Job) => j.status == 0 || j.status == 6 || j.status == 7
  let j := (d.slot s).job
  let (vals, o) :=
    if stale j then ([], 0)
    else (if c.slvClass s = 3 then j.prob.record (c.fmt s) (c.slvN s) (c.slvRows s) j.qp else d.linRecord c s).run 0
  let d := d.overflowed s o
  let sl := d.slot s
  let j := sl.job
  let stale := stale j
  let iters := if stale || c.slvClass s ≠ 3 then 0 else j.iter
  let st : Word := BitVec.ofNat 32
    (b2n stale * 2 ^ 31 + b2n (j.piv != 0) * 2 ^ 30 + b2n j.ovf * 2 ^ 29 + b2n (j.late && !stale && j.status != 5) * 2 ^ 28 +
      b2n j.fixed * 2 ^ 27 + iters * 2 ^ 16 + j.status)
  let exc : Word := BitVec.ofNat 32 (if j.status = 6 then j.exc else 0)
  let vals := vals.map fun v => BitVec.ofInt 32 v
  let old := (List.range (c.recLen s)).map (recWord sl.work)
  let work :=
    if stale then ((old.set 0 st).set 2 j.fn).set 7 exc
    else
      let pw : Word := BitVec.ofNat 32 (min j.piv 0xFFFF * 2 ^ 16 + j.pivFirst)
      [st, j.fn, j.fn, pw] ++ vals.take 3 ++ [exc] ++ vals.drop 3
  d.setSlot s fun x => { x with work := work, ended := true, job := { j with state := 4, stepEnd := none, cancel := false } }

/-- The job goes to its finishing step with a status. -/
def Dyn.finish (c : Cfg) (d : Dyn) (s status : Nat) : Dyn :=
  d.setJob s fun j => { j with stage := 5, left := c.get (F.SLV_COST_FINISH_CYCLES s), status := status }

/-- The setup ends: the system to factorise, or the start point of a QP job and its residuals. -/
def Dyn.startSolve (c : Cfg) (d : Dyn) (s : Nat) : Dyn :=
  let j := (d.slot s).job
  let cls := c.slvClass s
  let f := c.fmt s
  if cls = 3 then
    let tp := c.template s
    let n := c.slvN s
    let rows := c.slvRows s
    let eps := (c.rd (Reg.SLV_EPS_FIX s)).toInt
    let run : Cnt (QpProb × Qp × Int × Int × Int) := do
      let p ← qpProb f n rows eps tp j.data
      let q ← qpStart f n rows eps (c.rd (Reg.SLV_INIT_X s)).toInt (c.rd (Reg.SLV_INIT_DUAL s)).toInt tp j.data p
      let r ← p.residuals f n rows q
      pure (p, q, r)
    let ((p, q, r), o) := run.run 0
    let anyR := (List.range rows).any fun r => p.kind r == 3 || fixedRow eps tp.rows j.data r
    let late := d.passed c j
    (d.setJob s fun j => { j with fixed := p.fixed.any id || anyR, stage := 3, left := 0, iter := 0, prob := p, qp := q,
                                  res := r, late := late }).overflowed s o
  else
    let ((m, b), o) := (system f cls (c.slvN s) (c.slvRows s) j.data).run 0
    (d.setJob s fun j => { j with mat := m, rhs := b, dia := [], stage := 2, col := 0 }).overflowed s o

/-- The pass completes: its iterate becomes the last complete one. -/
def Dyn.qpIterate (c : Cfg) (d : Dyn) (s : Nat) : Dyn :=
  let j := (d.slot s).job
  let f := c.fmt s
  let n := c.slvN s
  let rows := c.slvRows s
  let run : Cnt (Qp × Int × Int × Int) := do
    let q ← Pass.next ⟨f, n, rows, (c.rd (Reg.SLV_DELTA_EQ s)).toInt, (c.rd (Reg.SLV_SIGMA_MAX s)).toInt, j.prob, j.qp,
      j.mat, j.dia⟩
    let r ← j.prob.residuals f n rows q
    pure (q, r)
  let ((q, r), o) := run.run 0
  (d.setJob s fun j => { j with qp := q, res := r }).overflowed s o

/-- The tolerances are met by the residuals of the last complete iterate, or of the start point (R230). -/
def Dyn.converged (c : Cfg) (d : Dyn) (s : Nat) : Bool :=
  let r := (d.slot s).job.res
  decide (r.1 ≤ (c.rd (Reg.SLV_TOL_P s)).toInt) && decide (r.2.1 ≤ (c.rd (Reg.SLV_TOL_D s)).toInt) &&
    decide (r.2.2 ≤ (c.rd (Reg.SLV_TOL_MU s)).toInt)

/-- A QP pass is about to start. -/
def Job.passDue (j : Job) : Bool := j.stage == 3 && j.left == 0

/-- Convergence and the cap, which are tested before the deadline (R230, R232). -/
def Dyn.passTests (c : Cfg) (d : Dyn) (s : Nat) : Dyn :=
  let j := (d.slot s).job
  if !j.passDue then d
  else if d.converged c s then d.finish c s 2
  else if j.iter = c.get (F.SLV_ITER_CAP s) then d.finish c s 3
  else d

/-- A QP pass starts: its matrix is formed, and the cycles before its factorisation are due. -/
def Dyn.beginPass (c : Cfg) (d : Dyn) (s : Nat) : Dyn :=
  let j := (d.slot s).job
  let (m, o) := (qpMatrix (c.fmt s) (c.slvN s) (c.slvRows s) (c.rd (Reg.SLV_DELTA_EQ s)).toInt
    (c.rd (Reg.SLV_SIGMA_MAX s)).toInt j.prob j.qp).run 0
  (d.setJob s fun j => { j with iter := j.iter + 1, col := 0, left := c.passFront s, mat := m, dia := [],
                                stage := if c.passFront s = 0 then 2 else 3 }).overflowed s o

/-- The deadline checks of the step about to start (R231, R232): at the start of a QP pass, and before a column. -/
def Dyn.checkStep (c : Cfg) (d : Dyn) (s : Nat) : Dyn :=
  let j := (d.slot s).job
  let past := d.passed c j
  if j.passDue then (if past then d.finish c s (if j.iter = 0 then 0 else 4) else d.beginPass c s)
  else if j.stage = 2 && past then
    if c.slvClass s = 3 && 2 ≤ j.iter then (d.finish c s 5).setJob s fun j => { j with iter := j.iter - 1 }
    else d.finish c s 0
  else d

/-- Cycles of the next step. -/
def Dyn.nextCost (c : Cfg) (d : Dyn) (s : Nat) : Nat :=
  let j := (d.slot s).job
  if j.stage = 2 || (j.passDue && c.passFront s = 0) then
    columnCost (c.slvClass s == 1) (c.slvN s - 1 - if j.stage = 2 then j.col else 0)
  else if j.passDue then min (c.passFront s) (max 1 (min 512 (Config.stepCost s 3 (c.passFront s))))
  else min j.left (max 1 (min 512 (Config.stepCost s j.stage j.left)))

/-- One column of the factorisation is done. The iteration matrix of QP counts as PD-declared (DESIGN CHOICE, log entry
115). -/
def Dyn.columnDone (c : Cfg) (d : Dyn) (s : Nat) : Dyn :=
  let j := (d.slot s).job
  let n := c.slvN s
  let f := c.fmt s
  let cls := c.slvClass s
  let eps := (c.rd (Reg.SLV_EPS_PIV s)).toInt
  let reg := (c.rd (Reg.SLV_DELTA_REG s)).toInt
  let d :=
    if cls = 3 && j.prob.isFixed j.col then d.setJob s fun j => { j with dia := j.dia ++ [0] }
    else
      let q := if cls = 1 then luRow n j.col j.mat else j.col
      let m := if cls = 1 then swapAt j.mat j.col q else j.mat
      let b := if cls = 1 then swapAt j.rhs j.col q else j.rhs
      let pd := cls == 2 || cls == 3 || (cls == 0 && c.flag (F.SLV_CFG_PD s))
      let (p, small) := pivot pd eps reg (Mat.at_ m j.col j.col)
      let (m, o) := (if cls = 1 then luColumn f n j.col p m else ldlColumn f n j.col p m).run 0
      let d := d.setJob s fun j =>
        { j with mat := m, rhs := b, dia := j.dia ++ [p], piv := j.piv + b2n small,
                 pivFirst := if small && j.piv = 0 then j.col else j.pivFirst }
      d.overflowed s o
  d.setJob s fun j =>
    if j.col + 1 < n then { j with col := j.col + 1 }
    else { j with col := 0, stage := 4, left := c.passRest s - c.passFront s }

/-- A stage with no cycles left gives way to the next. LATE is judged where the solution or the iterate is complete, not at
the end of the finishing step (DEDUCED, log entry 115). -/
def Dyn.stageDone (c : Cfg) (d : Dyn) (s : Nat) : Dyn :=
  let j := (d.slot s).job
  let t := c.template s
  match j.stage with
  | 0 =>
    match firstOut t.meas j.meas with
    | some i => (d.finish c s 6).setJob s fun j => { j with exc := i }
    | none => d.setJob s fun j =>
        { j with stage := 1, left := assemblyCost (c.get (F.SLV_ITER_DESC s)) }
  | 1 =>
    let (data, o) := (assemble (c.fmt s) (c.slvClass s) t.meas j.meas (t.desc.map descOf)).run 0
    let rest := c.get (F.SLV_COST_SETUP_CYCLES s) -
      (rangeCost (c.get (F.SLV_DIM_MEAS s)) + assemblyCost (c.get (F.SLV_ITER_DESC s)))
    let d := (d.setJob s fun j => { j with data := data, stage := 6, left := rest }).overflowed s o
    if rest = 0 then d.startSolve c s else d
  | 6 => d.startSolve c s
  | 3 => d.setJob s fun j => { j with stage := 2, col := 0 }
  | 4 =>
    let late := d.passed c j
    if c.slvClass s = 3 then (d.qpIterate c s).setJob s fun j => { j with late := late, stage := 3, left := 0 }
    else
      let f := c.fmt s
      let (x, o) := (if c.slvClass s = 1 then luSolve f (c.slvN s) j.mat j.rhs
        else ldlSolve f (c.slvN s) j.mat j.dia j.rhs).run 0
      ((d.overflowed s o).setJob s fun j => { j with x := x, late := late }).finish c s 1
  | 5 => d.endJob c s
  | _ => d

/-- Order of jobs (R96). -/
def Cfg.slotRank (c : Cfg) (s : Nat) : Nat := c.rank (c.get (F.SLV_CFG_OWNER s)) * 8 + s

/-- The job competes for the array: an array tick has come since its submission (R219). -/
def Dyn.competes (d : Dyn) (s : Nat) : Bool :=
  let j := (d.slot s).job
  j.busy && j.stepEnd.isNone && decide (j.at_ ≤ d.now - d.sinceT % 1000)

/-- The slots in the order of R96. -/
def Cfg.slotOrder (c : Cfg) : List Nat := (List.range 8).foldr (insertBy c.slotRank) []

/-- The budget and the array berm allow the next step (R220). -/
def Dyn.mayStep (c : Cfg) (d : Dyn) (s : Nat) : Bool :=
  let n := d.nextCost c s
  decide (n ≤ (d.polder (c.get (F.SLV_CFG_OWNER s))).bSlv) && decide (d.sinceT + 2 * n ≤ c.period * 95 / 100)

/-- Start the step of slot `s` if it may; its deadline check is made only then (R231). -/
def Dyn.tryStep (c : Cfg) (d : Dyn) (s : Nat) : Dyn × Bool :=
  let d := d.passTests c s
  let d := if d.mayStep c s then d.checkStep c s else d
  let n := d.nextCost c s
  let p := c.get (F.SLV_CFG_OWNER s)
  if d.mayStep c s then
    let d := d.setPolder p fun x => { x with bSlv := x.bSlv - n, uSlv := x.uSlv + n }
    let d := (d.put (F.SLV_JOB_CYC_CYCLES s) (d.get (F.SLV_JOB_CYC_CYCLES s) + n)).setJob s fun j =>
      { j with state := 2, left := j.left - (if j.stage = 2 then 0 else n), stepEnd := some (d.now + 2 * n) }
    (d, true)
  else (d.setJob s fun j => { j with state := if j.state = 2 then 3 else j.state }, false)

/-- A free array takes the first competing job that may step. -/
def Dyn.takeArray (c : Cfg) (d : Dyn) : Dyn :=
  if (List.range 8).any fun s => (d.slot s).job.stepEnd.isSome then d
  else
    (c.slotOrder.foldl (fun (x : Dyn × Bool) s =>
      if x.1.competes s && !x.2 then x.1.tryStep c s
      else if x.2 && (x.1.slot s).job.state = 2 && (x.1.slot s).job.stepEnd.isNone then
        (x.1.setJob s fun j => { j with state := 3 }, x.2)
      else x) (d, false)).1

/-- The step under way ends (R220); a cancelled job takes its status at this boundary (R222). -/
def Dyn.stepDone (c : Cfg) (d : Dyn) (s : Nat) : Dyn :=
  let j := (d.slot s).job
  let d := d.setJob s fun j => { j with stepEnd := none }
  let d := if !j.cancel then d
    else (if j.stage = 5 then d.setJob s fun j => { j with status := 7 } else d.finish c s 7).setJob s fun j => { j with cancel := false }
  if j.cancel && j.stage ≠ 5 then d
  else if j.stage = 2 then d.columnDone c s
  else if j.left = 0 then d.stageDone c s
  else d

/-- ARRAY_TICK: at T + k µs the array, when free, takes the first job. -/
def execArrayTick (s : State) : Out :=
  s.upd fun c d =>
    let r := d.sinceT % 1000
    (if r = 0 then d else d.advTo (d.ft + BitVec.ofNat 32 (1000 - r))).takeArray c

/-- SOLVER_STEP: the step under way ends and the next starts. -/
def execSolverStep (s : State) : Out :=
  s.upd fun c d =>
    match (List.range 8).find? fun s => (d.slot s).job.stepEnd.isSome with
    | some k =>
      let d := match (d.slot k).job.stepEnd with
        | some t => d.advTo (BitVec.ofNat 32 t)
        | none => d
      (d.stepDone c k).takeArray c
    | none => d.takeArray c

/-- ARRAY_BERM: from T + 0.95 P no polder step runs; `ok` is the outcome of the test factorisation (R220, R242). -/
def execArrayBerm (ok : Bool) (s : State) : Out :=
  s.upd fun c d =>
    let d := d.advTo (d.atT (c.period * 95 / 100))
    let d := (List.range 8).foldl (fun d k =>
      let d := if (d.slot k).job.stepEnd.isSome then d.stepDone c k else d
      d.setJob k fun j => { j with state := if j.state = 2 then 3 else j.state }) d
    if ok then d else (d.setFlag F.SLV_GSTATUS_ARRAY_FAULT true).hardwareFault c 0x22

/-- The array alone up to `lim` (ns): steps that end are followed by the next, and a free array looks for work at the next
tick. -/
def Dyn.arrayTo (c : Cfg) (lim : Nat) : Nat → Dyn → Dyn
  | 0, d => d
  | n + 1, d =>
    let at_ := fun (t : Nat) => { d with clk := { d.clk with ft := t * 2 ^ 24 } }
    match (List.range 8).find? fun s => (d.slot s).job.stepEnd.isSome with
    | some k =>
      match (d.slot k).job.stepEnd with
      | some t => if t ≤ lim then ((((at_ t).stepDone c k).takeArray c).arrayTo c lim n) else d
      | none => d
    | none =>
      let t := d.now + (1000 - d.sinceT % 1000) % 1000
      if lim < t then d
      else
        let x := (at_ t).takeArray c
        if (List.range 8).any fun s => (x.slot s).job.stepEnd.isSome then x.arrayTo c lim n else x

/-- Steps of the array in one frame, at most. -/
def Cfg.arrayFuel (c : Cfg) : Nat := c.period + 16

/-- The rest of the frame whose T lay at `t` (ns), after its commit: jobs of a loaded checkpoint run to the array berm. The
clock stands as it stood. -/
def Dyn.finishArray (c : Cfg) (d : Dyn) (t : Nat) : Dyn :=
  let at_ := fun (n : Nat) => { d.clk with ft := n * 2 ^ 24 }
  let x : Dyn := { d with clk := at_ (t + c.offset), slc := { d.slc with tFt := BitVec.ofNat 32 t },
                          slv := d.slv.foldl (fun m e => sput SlvSlot.init m e.1
                            { e.2 with job := { e.2.job with stepEnd := e.2.job.stepEnd.map (· + t) } }) [] }
  { x.arrayTo c (t + c.period * 95 / 100) c.arrayFuel with clk := d.clk, slc := d.slc }

/-- The slot's job goes to its finishing step, with status CANCELLED, at its next step boundary (R222, R233). -/
def Dyn.cancelJob (c : Cfg) (d : Dyn) (s : Nat) : Dyn :=
  let j := (d.slot s).job
  if !j.busy then d
  else if j.stepEnd.isSome then d.setJob s fun j => { j with cancel := true }
  else if j.stage = 5 then d.setJob s fun j => { j with status := 7 }
  else d.finish c s 7

/-- The slots of a polder. -/
def Cfg.slotsOf (c : Cfg) (p : Nat) : List Nat :=
  (List.range 8).filter fun s => c.slvUsed s && c.get (F.SLV_CFG_OWNER s) == p

/-- A restart empties the slots (R165). -/
def Dyn.emptySlots (c : Cfg) (d : Dyn) (p : Nat) : Dyn :=
  (c.slotsOf p).foldl (fun d s => d.setSlot s fun _ => SlvSlot.init) d

/-- At T the records of the jobs that ended are published, BUSY is set as it stands, and SOLVER_DONE is queued
(R235, R241). -/
def Dyn.publishSolver (c : Cfg) (d : Dyn) : Dyn :=
  (List.range 8).foldl (fun d s =>
    if c.slvUsed s then
      let sl := d.slot s
      let pub := if sl.ended then sl.work else sl.pub
      let full := (List.range (c.recLen s)).map (recWord pub)
      let pub := full.set 0 ((recWord pub 0).setBit 26 sl.job.busy)
      let d := d.setSlot s fun x => { x with pub := pub, ended := false }
      if sl.ended then
        d.post c (c.get (F.SLV_CFG_OWNER s)) 0x11 (c.get (F.SLV_CFG_EVT_TASK s)) s d.slc.tFt (recWord pub 0)
      else d
    else d) d

/-- What a register of the SLV block reads as from the slot (R243); `off` is its offset in the slot's window. -/
def Dyn.slvReg (c : Cfg) (d : Dyn) (s off : Nat) : Word :=
  let sl := d.slot s
  let j := sl.job
  let w := recWord sl.pub
  match off with
  | 0x4C =>
    let ph := if j.stage ≤ 1 || j.stage = 6 then 0 else if j.stage = 2 then 1 else if j.stage = 5 then 3 else 2
    BitVec.ofNat 32 (j.col * 2 ^ 24 + j.iter * 2 ^ 16 + ph * 16 + j.state)
  | 0x50 => j.fn
  | 0x5C => w 0
  | 0x60 => w 1
  | 0x64 => w 2
  | 0x68 => w 3
  | 0x6C => w 4
  | 0x70 => w 5
  | 0x74 => w 6
  | 0x78 => if (w 0).field 0 4 = 6 then (w 7).setBit 31 true else 0
  | o => if 0x400 ≤ o && o < 0x400 + 4 * c.slvN s then w (8 + (o - 0x400) / 4) else d.rd (0x70000 + 0x800 * s + o)

end Sys2Proof.Machine
end

