-- ==== Sys2Proof/Machine/Logic.lean ====
section
/-! DEFINITION. The instructions of the logic engine (R139–R145): one effect per instruction, its lane cycles, and its
meaning as a command, which brings the instruction to issue for polder `p` with the operand fields SPACE and ADDR of its
word. -/

namespace Sys2Proof.Machine

/-- An instruction goes on at the next address with task `t`. -/
abbrev goOn (d : Dyn) (t : TaskCtx) : Except Nat (Dyn × Option TaskCtx) := .ok (d, some t.next)

/-- An instruction whose ADDR must be zero, in space 0 (NOT, PUSH, POPA, POPO, RET, END). -/
def bare (sp : BitVec 2) (a : BitVec 24) (f : Effect) : Effect := fun c d p t =>
  if sp = 0 && a = 0 then f c d p t else illegal

/-- A bit read that combines the operand with LA. -/
def bitOp (g : Bool → Bool → Bool) (sp : BitVec 2) (a : BitVec 24) : Effect := fun c d p t => do
  let o ← bitForm sp.toNat a.toNat
  let m ← d.readBit c p o
  goOn d (t.setLa (g t.la m))

/-- A bit write; `g` gives what LA writes. -/
def bitStore (g : Bool → Option Bool) (sp : BitVec 2) (a : BitVec 24) : Effect := fun c d p t => do
  let o ← bitWriteForm sp.toNat a.toNat
  let d ← d.writeBit c p o (g t.la)
  goOn d t

/-- EDR and EDF (R144): `g prev la`. -/
def edgeOp (g : Bool → Bool → Bool) (sp : BitVec 2) (a : BitVec 24) : Effect := fun c d p t => do
  let i ← edgeForm sp.toNat a.toNat
  let i ← inRange i (c.get (F.LGE_EDGE_COUNT p))
  let k := c.edgeKey p i
  let prev := sget false d.edges k
  goOn { d with edges := sput false d.edges k t.la } (t.setLa (g prev t.la))

/-- A word operation on WA and the operand. -/
def wordOp (g : Dyn → Nat → Word → Word → Word × Dyn) (sp : BitVec 2) (a : BitVec 24) : Effect := fun c d p t => do
  let o ← wordForm sp.toNat a.toNat
  let m ← d.readWord c p o
  let (w, d) := g d p t.wa m
  goOn d (t.setWa w)

/-- A comparison of WA with the operand, signed. -/
def cmpOp (g : Int → Int → Bool) (sp : BitVec 2) (a : BitVec 24) : Effect := fun c d p t => do
  let o ← wordForm sp.toNat a.toNat
  let m ← d.readWord c p o
  goOn d (t.setLa (g t.wa.toInt m.toInt))

/-! Bit instructions. -/

def opLd := bitOp fun _ m => m
def opLdn := bitOp fun _ m => !m
def opAnd := bitOp fun la m => la && m
def opAndn := bitOp fun la m => la && !m
def opOr := bitOp fun la m => la || m
def opOrn := bitOp fun la m => la || !m
def opXor := bitOp fun la m => la != m
def opNot (sp : BitVec 2) (a : BitVec 24) : Effect := bare sp a fun _ d _ t => goOn d (t.setLa (!t.la))

/-- PUSH: STACK on a 17th entry. -/
def opPush (sp : BitVec 2) (a : BitVec 24) : Effect := bare sp a fun _ d _ t =>
  if 16 ≤ t.stack.length then .error 0x10 else goOn d { t with stack := t.la :: t.stack }

/-- POPA and POPO: STACK when empty. -/
def popOp (g : Bool → Bool → Bool) (sp : BitVec 2) (a : BitVec 24) : Effect := bare sp a fun _ d _ t =>
  match t.stack with
  | [] => .error 0x10
  | b :: l => goOn d { t with stack := l, la := g b t.la }
def opPopa := popOp fun b la => b && la
def opPopo := popOp fun b la => b || la

def opSt := bitStore fun la => some la
def opStn := bitStore fun la => some !la
def opSet := bitStore fun la => if la then some true else none
def opRst := bitStore fun la => if la then some false else none
def opEdr := edgeOp fun prev la => la && !prev
def opEdf := edgeOp fun prev la => prev && !la

/-! Timers and counters. -/

/-- A timer evaluation (R142): function 0 TON, 1 TOF, 2 TP. -/
def Timer.eval (x : Timer) (fnc res pUs : Nat) (fn : Word) (la : Bool) (wa : Word) : Timer :=
  let pt := min (wa.toNat * res) (2 ^ 48 - 1)
  let dt := (fn - x.lastFn).toNat * pUs
  let x := { x with lastFn := fn, res := res }
  let x :=
    match fnc with
    | 0 =>
      let acc := if la && x.prevIn then min (x.acc + dt) pt else 0
      { x with acc := acc, q := la && decide (pt ≤ acc) }
    | 1 =>
      if la then { x with acc := 0, q := true }
      else if x.prevIn then { x with acc := 0 }
      else if x.q then
        let acc := min (x.acc + dt) pt
        { x with acc := acc, q := decide (acc < pt) }
      else x
    | _ =>
      let y :=
        if la && !x.prevIn && !x.q then { x with acc := 0, q := true }
        else if x.q then
          let acc := min (x.acc + dt) pt
          { x with acc := acc, q := decide (acc < pt) }
        else x
      if !y.q && !la then { y with acc := 0 } else y
  { x with prevIn := la }

/-- Resolution in µs by its code. -/
def resUs (code : Nat) : Nat := match code with | 0 => 1 | 1 => 1000 | _ => 1000000

def opTmr (sp : BitVec 2) (a : BitVec 24) : Effect := fun c d p t => do
  let a := a.toNat
  if sp ≠ 3 || af a 23 22 ≠ 0 || af a 21 20 = 3 || af a 19 18 = 3 || af a 17 10 ≠ 0 then illegal
  else
    let i ← inRange (af a 9 0) (c.get (F.LGE_TMR_COUNT p))
    let k := c.tmrKey p i
    let x := (d.timer k).eval (af a 21 20) (resUs (af a 19 18)) c.periodUs (d.viewWord p 0x250) t.la t.wa
    goOn (d.setTimer k x) (t.setLa x.q)

/-- A counter evaluation (R143): function 0 UP, 1 DOWN, 2 LOAD, 3 RESET; counter, LA, and whether CV saturated. -/
def Counter.eval (x : Counter) (fnc : Nat) (la : Bool) (wa : Word) : Counter × Bool × Bool :=
  match fnc with
  | 0 =>
    let (v, s) := if la && !x.prevUp then satWord (x.cv.toInt + 1) else (x.cv, false)
    let q := decide (wa.toInt ≤ v.toInt)
    ({ x with cv := v, prevUp := la, q := q }, q, s)
  | 1 =>
    let (v, s) := if la && !x.prevDn then satWord (x.cv.toInt - 1) else (x.cv, false)
    let q := decide (v.toInt ≤ 0)
    ({ x with cv := v, prevDn := la, q := q }, q, s)
  | 2 => ({ x with cv := if la then wa else x.cv }, la, false)
  | _ => ({ x with cv := if la then 0 else x.cv }, la, false)

def opCnt (sp : BitVec 2) (a : BitVec 24) : Effect := fun c d p t => do
  let a := a.toNat
  if sp ≠ 3 || af a 23 22 ≠ 1 || af a 19 10 ≠ 0 then illegal
  else
    let i ← inRange (af a 9 0) (c.get (F.LGE_CNT_COUNT p))
    let k := c.cntKey p i
    let (x, la, s) := (d.counter k).eval (af a 21 20) t.la t.wa
    let d := d.setCounter k x
    goOn (if s then d.setSat p else d) (t.setLa la)

/-! Word instructions. -/

/-- LDW, the only indexed instruction. -/
def opLdw (sp : BitVec 2) (a : BitVec 24) : Effect := fun c d p t => do
  let (o, x) ← loadForm sp.toNat a.toNat
  let w ← d.readWord c p (if x then o.move t.wa.toInt else o)
  goOn d (t.setWa w)

def opStw (sp : BitVec 2) (a : BitVec 24) : Effect := fun c d p t => do
  let o ← storeForm sp.toNat a.toNat
  let d ← d.writeWord c p o t.wa
  goOn d t

/-- LDK: the constant at ADDR + WA. -/
def opLdk (sp : BitVec 2) (a : BitVec 24) : Effect := fun c d p t => do
  if sp ≠ 0 || af a.toNat 23 12 ≠ 0 then illegal
  else
    let w ← d.readWord c p (.konst (af a.toNat 11 0 + t.wa.toInt))
    goOn d (t.setWa w)

def opAdd := wordOp fun d p w m => d.arith p (w.toInt + m.toInt)
def opSub := wordOp fun d p w m => d.arith p (w.toInt - m.toInt)
def opMul := wordOp fun d p w m => d.arith p (w.toInt * m.toInt)
def opDiv := wordOp fun d p w m => d.divide p w m
def opAndw := wordOp fun d _ w m => (w &&& m, d)
def opOrw := wordOp fun d _ w m => (w ||| m, d)
def opMin := wordOp fun d _ w m => (if w.toInt ≤ m.toInt then w else m, d)
def opMax := wordOp fun d _ w m => (if w.toInt ≤ m.toInt then m else w, d)

def opShl (sp : BitVec 2) (a : BitVec 24) : Effect := fun _ d _ t =>
  if sp = 0 && af a.toNat 23 5 = 0 then goOn d (t.setWa (t.wa <<< af a.toNat 4 0)) else illegal

def opShr (sp : BitVec 2) (a : BitVec 24) : Effect := fun _ d _ t =>
  if sp = 0 && af a.toNat 23 6 = 0 then
    let n := af a.toNat 4 0
    goOn d (t.setWa (if a.toNat.testBit 5 then t.wa.sshiftRight n else t.wa >>> n))
  else illegal

def opCmpeq := cmpOp fun a b => a == b
def opCmpne := cmpOp fun a b => a != b
def opCmplt := cmpOp fun a b => decide (a < b)
def opCmple := cmpOp fun a b => decide (a ≤ b)
def opCmpgt := cmpOp fun a b => decide (b < a)
def opCmpge := cmpOp fun a b => decide (b ≤ a)

/-- LIM: lo at the operand, hi at the next index. -/
def opLim (sp : BitVec 2) (a : BitVec 24) : Effect := fun c d p t => do
  let o ← limForm sp.toNat a.toNat
  let lo ← d.readWord c p o
  let hi ← d.readWord c p (o.move 1)
  let w := if lo.toInt > hi.toInt then lo
    else if t.wa.toInt < lo.toInt then lo
    else if hi.toInt < t.wa.toInt then hi
    else t.wa
  goOn d (t.setWa w)

/-! Flow. -/

/-- The target of a flow instruction, or ILLEGAL. -/
def targetOf (sp : BitVec 2) (a : BitVec 24) : Except Nat Nat :=
  if sp = 0 && af a.toNat 23 19 = 0 then .ok (af a.toNat 18 0) else illegal

/-- Transfer of control to `x`: JUMP_BOUNDS at or beyond the segment length. -/
def jumpTo (c : Cfg) (d : Dyn) (p : Nat) (t : TaskCtx) (x : Nat) : Except Nat (Dyn × Option TaskCtx) :=
  if x < c.get (F.LGE_SEG_LEN_VALUE p) then .ok (d, some { t with pc := x }) else .error 0x15

/-- JMP, JC and JNC: the branch is taken when `g LA`. -/
def branch (g : Bool → Bool) (sp : BitVec 2) (a : BitVec 24) : Effect := fun c d p t => do
  let x ← targetOf sp a
  if g t.la then jumpTo c d p t x else goOn d t
/-- A flow instruction costs 2 cycles when it transfers control and 1 otherwise. -/
def branchCost (g : Bool → Bool) (t : TaskCtx) : Nat := if g t.la then 2 else 1

def opJmp := branch fun _ => true
def opJc := branch fun la => la
def opJnc := branch fun la => !la

def opCall (sp : BitVec 2) (a : BitVec 24) : Effect := fun c d p t => do
  let x ← targetOf sp a
  if 32 ≤ t.calls.length then .error 0x11 else jumpTo c d p { t with calls := (t.pc + 1) :: t.calls } x

def opRet (sp : BitVec 2) (a : BitVec 24) : Effect := bare sp a fun c d p t =>
  match t.calls with
  | [] => .error 0x11
  | x :: l => jumpTo c d p { t with calls := l } x

/-- The end of a task: the cyclic task drops the entries bound to no task and its loop contexts are issued (R95, R148);
the error task discards the causes it has not read, and in FAULT it does not run again (R92, R148). -/
def Dyn.taskEnded (c : Cfg) (d : Dyn) (p k : Nat) : Dyn :=
  if k = 0 then
    (d.setPolder p fun s => { s with evq := s.evq.filter fun e => e.task != 15 }).issueLoops c p
  else if k = 9 then d.setPolder p fun s => { s with causes := [], errRun := false }
  else d

/-- END; the task that issues is the current one. -/
def opEnd (sp : BitVec 2) (a : BitVec 24) : Effect := bare sp a fun c d p _ =>
  match (d.polder p).current with
  | some (k, _) => .ok (d.taskEnded c p k, none)
  | none => .ok (d, none)

/-! The commands. -/

/-- An instruction of polder `p` that costs `n` cycles. -/
def logic (p : BitVec 4) (n : Nat) (f : Effect) (s : State) : Out :=
  s.upd fun c d => d.issue c p.toNat (fun _ _ => n) f

/-- LD. -/
def execLd (p : BitVec 4) (sp : BitVec 2) (a : BitVec 24) (s : State) : Out := logic p 1 (opLd sp a) s
/-- LDN. -/
def execLdn (p : BitVec 4) (sp : BitVec 2) (a : BitVec 24) (s : State) : Out := logic p 1 (opLdn sp a) s
/-- AND. -/
def execAnd (p : BitVec 4) (sp : BitVec 2) (a : BitVec 24) (s : State) : Out := logic p 1 (opAnd sp a) s
/-- ANDN. -/
def execAndn (p : BitVec 4) (sp : BitVec 2) (a : BitVec 24) (s : State) : Out := logic p 1 (opAndn sp a) s
/-- OR. -/
def execOr (p : BitVec 4) (sp : BitVec 2) (a : BitVec 24) (s : State) : Out := logic p 1 (opOr sp a) s
/-- ORN. -/
def execOrn (p : BitVec 4) (sp : BitVec 2) (a : BitVec 24) (s : State) : Out := logic p 1 (opOrn sp a) s
/-- XOR. -/
def execXor (p : BitVec 4) (sp : BitVec 2) (a : BitVec 24) (s : State) : Out := logic p 1 (opXor sp a) s
/-- NOT. -/
def execNot (p : BitVec 4) (sp : BitVec 2) (a : BitVec 24) (s : State) : Out := logic p 1 (opNot sp a) s
/-- PUSH. -/
def execPush (p : BitVec 4) (sp : BitVec 2) (a : BitVec 24) (s : State) : Out := logic p 1 (opPush sp a) s
/-- POPA. -/
def execPopa (p : BitVec 4) (sp : BitVec 2) (a : BitVec 24) (s : State) : Out := logic p 1 (opPopa sp a) s
/-- POPO. -/
def execPopo (p : BitVec 4) (sp : BitVec 2) (a : BitVec 24) (s : State) : Out := logic p 1 (opPopo sp a) s
/-- ST. -/
def execSt (p : BitVec 4) (sp : BitVec 2) (a : BitVec 24) (s : State) : Out := logic p 1 (opSt sp a) s
/-- STN. -/
def execStn (p : BitVec 4) (sp : BitVec 2) (a : BitVec 24) (s : State) : Out := logic p 1 (opStn sp a) s
/-- SET. -/
def execSet (p : BitVec 4) (sp : BitVec 2) (a : BitVec 24) (s : State) : Out := logic p 1 (opSet sp a) s
/-- RST. -/
def execRst (p : BitVec 4) (sp : BitVec 2) (a : BitVec 24) (s : State) : Out := logic p 1 (opRst sp a) s
/-- EDR. -/
def execEdr (p : BitVec 4) (sp : BitVec 2) (a : BitVec 24) (s : State) : Out := logic p 1 (opEdr sp a) s
/-- EDF. -/
def execEdf (p : BitVec 4) (sp : BitVec 2) (a : BitVec 24) (s : State) : Out := logic p 1 (opEdf sp a) s
/-- TMR. -/
def execTmr (p : BitVec 4) (sp : BitVec 2) (a : BitVec 24) (s : State) : Out := logic p 1 (opTmr sp a) s
/-- CNT. -/
def execCnt (p : BitVec 4) (sp : BitVec 2) (a : BitVec 24) (s : State) : Out := logic p 1 (opCnt sp a) s
/-- LDW. -/
def execLdw (p : BitVec 4) (sp : BitVec 2) (a : BitVec 24) (s : State) : Out := logic p 1 (opLdw sp a) s
/-- STW. -/
def execStw (p : BitVec 4) (sp : BitVec 2) (a : BitVec 24) (s : State) : Out := logic p 1 (opStw sp a) s
/-- LDK. -/
def execLdk (p : BitVec 4) (sp : BitVec 2) (a : BitVec 24) (s : State) : Out := logic p 1 (opLdk sp a) s
/-- ADD. -/
def execAdd (p : BitVec 4) (sp : BitVec 2) (a : BitVec 24) (s : State) : Out := logic p 1 (opAdd sp a) s
/-- SUB. -/
def execSub (p : BitVec 4) (sp : BitVec 2) (a : BitVec 24) (s : State) : Out := logic p 1 (opSub sp a) s
/-- MUL. -/
def execMul (p : BitVec 4) (sp : BitVec 2) (a : BitVec 24) (s : State) : Out := logic p 2 (opMul sp a) s
/-- DIV. -/
def execDiv (p : BitVec 4) (sp : BitVec 2) (a : BitVec 24) (s : State) : Out := logic p 18 (opDiv sp a) s
/-- ANDW. -/
def execAndw (p : BitVec 4) (sp : BitVec 2) (a : BitVec 24) (s : State) : Out := logic p 1 (opAndw sp a) s
/-- ORW. -/
def execOrw (p : BitVec 4) (sp : BitVec 2) (a : BitVec 24) (s : State) : Out := logic p 1 (opOrw sp a) s
/-- SHL. -/
def execShl (p : BitVec 4) (sp : BitVec 2) (a : BitVec 24) (s : State) : Out := logic p 1 (opShl sp a) s
/-- SHR. -/
def execShr (p : BitVec 4) (sp : BitVec 2) (a : BitVec 24) (s : State) : Out := logic p 1 (opShr sp a) s
/-- CMPEQ. -/
def execCmpeq (p : BitVec 4) (sp : BitVec 2) (a : BitVec 24) (s : State) : Out := logic p 1 (opCmpeq sp a) s
/-- CMPNE. -/
def execCmpne (p : BitVec 4) (sp : BitVec 2) (a : BitVec 24) (s : State) : Out := logic p 1 (opCmpne sp a) s
/-- CMPLT. -/
def execCmplt (p : BitVec 4) (sp : BitVec 2) (a : BitVec 24) (s : State) : Out := logic p 1 (opCmplt sp a) s
/-- CMPLE. -/
def execCmple (p : BitVec 4) (sp : BitVec 2) (a : BitVec 24) (s : State) : Out := logic p 1 (opCmple sp a) s
/-- CMPGT. -/
def execCmpgt (p : BitVec 4) (sp : BitVec 2) (a : BitVec 24) (s : State) : Out := logic p 1 (opCmpgt sp a) s
/-- CMPGE. -/
def execCmpge (p : BitVec 4) (sp : BitVec 2) (a : BitVec 24) (s : State) : Out := logic p 1 (opCmpge sp a) s
/-- MIN. -/
def execMin (p : BitVec 4) (sp : BitVec 2) (a : BitVec 24) (s : State) : Out := logic p 1 (opMin sp a) s
/-- MAX. -/
def execMax (p : BitVec 4) (sp : BitVec 2) (a : BitVec 24) (s : State) : Out := logic p 1 (opMax sp a) s
/-- LIM. -/
def execLim (p : BitVec 4) (sp : BitVec 2) (a : BitVec 24) (s : State) : Out := logic p 1 (opLim sp a) s
/-- JMP. -/
def execJmp (p : BitVec 4) (sp : BitVec 2) (a : BitVec 24) (s : State) : Out := logic p 2 (opJmp sp a) s
/-- JC. -/
def execJc (p : BitVec 4) (sp : BitVec 2) (a : BitVec 24) (s : State) : Out :=
  s.upd fun c d => d.issue c p.toNat (fun _ t => branchCost (fun la => la) t) (opJc sp a)
/-- JNC. -/
def execJnc (p : BitVec 4) (sp : BitVec 2) (a : BitVec 24) (s : State) : Out :=
  s.upd fun c d => d.issue c p.toNat (fun _ t => branchCost (fun la => !la) t) (opJnc sp a)
/-- CALL. -/
def execCall (p : BitVec 4) (sp : BitVec 2) (a : BitVec 24) (s : State) : Out := logic p 2 (opCall sp a) s
/-- RET. -/
def execRet (p : BitVec 4) (sp : BitVec 2) (a : BitVec 24) (s : State) : Out := logic p 2 (opRet sp a) s
/-- END. -/
def execEndTask (p : BitVec 4) (sp : BitVec 2) (a : BitVec 24) (s : State) : Out := logic p 1 (opEnd sp a) s

/-- Lane cycles of an instruction that fails its encoding (R87 charges the cycles of its opcode; an unlisted opcode
has none in the table, so a free value). -/
def illegalCost (w : Word) : Nat :=
  match w.field 26 6 with
  | 0x1D => 2
  | 0x1E => 18
  | 0x30 => 2
  | 0x33 => 2
  | 0x34 => 2
  | k => if (1 ≤ k && k ≤ 0x11) || (0x14 ≤ k && k ≤ 0x15) || (0x18 ≤ k && k ≤ 0x2B) || (0x30 ≤ k && k ≤ 0x35) || k = 0x3C
    then 1 else (Config.freeWord w.toNat).toNat

/-- The effect of an instruction word by its opcode (R139, R140); SYS has its own command rows. -/
def effectOf (w : Word) : Option Effect :=
  let sp : BitVec 2 := w.extractLsb' 24 2
  let a : BitVec 24 := w.extractLsb' 0 24
  match w.field 26 6 with
  | 0x01 => some (opLd sp a)
  | 0x02 => some (opLdn sp a)
  | 0x03 => some (opAnd sp a)
  | 0x04 => some (opAndn sp a)
  | 0x05 => some (opOr sp a)
  | 0x06 => some (opOrn sp a)
  | 0x07 => some (opXor sp a)
  | 0x08 => some (opNot sp a)
  | 0x09 => some (opPush sp a)
  | 0x0A => some (opPopa sp a)
  | 0x0B => some (opPopo sp a)
  | 0x0C => some (opSt sp a)
  | 0x0D => some (opStn sp a)
  | 0x0E => some (opSet sp a)
  | 0x0F => some (opRst sp a)
  | 0x10 => some (opEdr sp a)
  | 0x11 => some (opEdf sp a)
  | 0x14 => some (opTmr sp a)
  | 0x15 => some (opCnt sp a)
  | 0x18 => some (opLdw sp a)
  | 0x19 => some (opStw sp a)
  | 0x1A => some (opLdk sp a)
  | 0x1B => some (opAdd sp a)
  | 0x1C => some (opSub sp a)
  | 0x1D => some (opMul sp a)
  | 0x1E => some (opDiv sp a)
  | 0x1F => some (opAndw sp a)
  | 0x20 => some (opOrw sp a)
  | 0x21 => some (opShl sp a)
  | 0x22 => some (opShr sp a)
  | 0x23 => some (opCmpeq sp a)
  | 0x24 => some (opCmpne sp a)
  | 0x25 => some (opCmplt sp a)
  | 0x26 => some (opCmple sp a)
  | 0x27 => some (opCmpgt sp a)
  | 0x28 => some (opCmpge sp a)
  | 0x29 => some (opMin sp a)
  | 0x2A => some (opMax sp a)
  | 0x2B => some (opLim sp a)
  | 0x30 => some (opJmp sp a)
  | 0x31 => some (opJc sp a)
  | 0x32 => some (opJnc sp a)
  | 0x33 => some (opCall sp a)
  | 0x34 => some (opRet sp a)
  | 0x35 => some (opEnd sp a)
  | _ => none

/-- Its cycles. -/
def costOf (w : Word) (t : TaskCtx) : Nat :=
  match w.field 26 6 with
  | 0x31 => branchCost (fun la => la) t
  | 0x32 => branchCost (fun la => !la) t
  | _ => illegalCost w

/-- ILLEGAL_OPCODE: an instruction word whose opcode is not listed or whose encoding is not permitted. A word that is
permitted acts as its instruction. -/
def execIllegalOpcode (p : BitVec 4) (word : Word) (s : State) : Out :=
  s.upd fun c d => d.issue c p.toNat (fun _ t => costOf word t) (fun c d p t =>
    match effectOf word with
    | some f => f c d p t
    | none => illegal)

/-- RUN_PAST_END: the instruction boundary past the last instruction of the segment (R140). -/
def Dyn.pastEnd (c : Cfg) (d : Dyn) (p : Nat) : Dyn :=
  match d.ready c p with
  | some (k, t) =>
    let len := c.get (F.LGE_SEG_LEN_VALUE p)
    if len ≤ t.pc then d.programFault c p k 0x15 len else d
  | none => d

def execRunPastEnd (p : BitVec 4) (s : State) : Out := s.upd fun c d => d.pastEnd c p.toNat

/-- BREAKPOINT_HIT (R156). -/
def execBreakpointHit (p : BitVec 4) (s : State) : Out :=
  s.upd fun c d =>
    match d.ready c p.toNat with
    | some (_, t) =>
      if d.mode p.toNat = 2 && !(d.polder p.toNat).skipBp && d.breakAt p.toNat t.pc then d.setMode c p.toNat 3 else d
    | none => d

/-- A stepping polder that has no steps left enters HOLD again (R155). -/
def Dyn.stepsDone (c : Cfg) (d : Dyn) (p : Nat) : Dyn :=
  if d.mode p = 2 && (d.polder p).steps == some 0 then
    (d.setPolder p fun s => { s with steps := none }).setMode c p 3
  else d

def execStepComplete (p : BitVec 4) (s : State) : Out := s.upd fun c d => d.stepsDone c p.toNat

/-- BUDGET_EXHAUSTION: the next instruction costs more than the budget left (R87). -/
def execBudgetExhaustion (p : BitVec 4) (cost : BitVec 8) (s : State) : Out :=
  s.upd fun c d =>
    match d.ready c p.toNat with
    | some _ => if (d.polder p.toNat).bLogic < cost.toNat then d.spill c p.toNat 1 else d
    | none => d

end Sys2Proof.Machine
end

