-- ==== Sys2Proof/Machine/Access.lean ====
section
/-! DEFINITION. The access type of every register of the register tables (R23): which addresses hold a register, and
the bits of it that a write reaches. -/

namespace Sys2Proof.Machine

/-- Access types (R23); a compare target is writable in ONE_SHOT only (R366). -/
inductive Acc where
  | ro
  | lk
  | rw
  | wo
  | rc
  | lt
  | w1c
  | oneShot
  deriving DecidableEq, Repr

/-- A row of a register table: first address, access type, writable bits, strides and counts (largest stride first). -/
structure RegRow where
  base : Nat
  acc : Acc
  mask : Word
  dims : List (Nat × Nat)
  deriving DecidableEq, Repr

def rowsMOD : List RegRow :=
  [⟨Reg.MOD_ID, .ro, 0x0, []⟩,
   ⟨Reg.MOD_ORDER, .ro, 0x0, []⟩,
   ⟨Reg.MOD_SERIAL_LO, .ro, 0x0, []⟩,
   ⟨Reg.MOD_SERIAL_HI, .ro, 0x0, []⟩,
   ⟨Reg.MOD_HW_REV, .ro, 0x0, []⟩,
   ⟨Reg.MOD_FW_REV, .ro, 0x0, []⟩,
   ⟨Reg.MOD_UNIT, .ro, 0x0, []⟩,
   ⟨Reg.MOD_STATE, .ro, 0x0, []⟩,
   ⟨Reg.MOD_ACC_ERR, .rc, 0x0, []⟩,
   ⟨Reg.MOD_ACC_ADDR, .ro, 0x0, []⟩,
   ⟨Reg.MOD_PWR_CFG, .lk, 0xFF000007, []⟩,
   ⟨Reg.MOD_PWR_STATUS, .ro, 0x0, []⟩,
   ⟨Reg.MOD_VIN, .ro, 0x0, []⟩,
   ⟨Reg.MOD_RAIL0, .ro, 0x0, []⟩,
   ⟨Reg.MOD_RAIL1, .ro, 0x0, []⟩,
   ⟨Reg.MOD_HOLDUP, .ro, 0x0, []⟩,
   ⟨Reg.MOD_TEMP, .ro, 0x0, []⟩,
   ⟨Reg.MOD_TEMP_PEAK, .rc, 0x0, []⟩,
   ⟨Reg.MOD_POWER, .ro, 0x0, []⟩,
   ⟨Reg.MOD_PWR_EVCNT, .rc, 0x0, []⟩,
   ⟨Reg.MOD_PF_COUNT, .ro, 0x0, []⟩,
   ⟨Reg.MOD_PF_LAST, .ro, 0x0, []⟩,
   ⟨Reg.MOD_CLK, .ro, 0x0, []⟩]
def rowsBOOT : List RegRow :=
  [⟨Reg.BOOT_STATUS, .ro, 0x0, []⟩,
   ⟨Reg.BOOT_LOCK, .lk, 0xFFFFFFFF, []⟩,
   ⟨Reg.BOOT_PV_COUNT, .rc, 0x0, []⟩,
   ⟨Reg.BOOT_PV_ADDR, .ro, 0x0, []⟩,
   ⟨Reg.BOOT_PV_SRC, .ro, 0x0, []⟩,
   ⟨Reg.BOOT_IMG_ID_LO, .ro, 0x0, []⟩,
   ⟨Reg.BOOT_IMG_ID_HI, .ro, 0x0, []⟩,
   ⟨Reg.BOOT_KEY_SN_LO, .ro, 0x0, []⟩,
   ⟨Reg.BOOT_KEY_SN_HI, .ro, 0x0, []⟩,
   ⟨Reg.BOOT_PEND, .ro, 0x0, []⟩,
   ⟨Reg.BOOT_FW, .ro, 0x0, []⟩,
   ⟨Reg.BOOT_START_US, .ro, 0x0, []⟩,
   ⟨Reg.BOOT_CMD, .wo, 0x10F, []⟩,
   ⟨Reg.BOOT_CMD_STAT, .ro, 0x0, []⟩,
   ⟨Reg.BOOT_UPD_OFFSET, .rw, 0x1FFFF00, []⟩,
   ⟨Reg.BOOT_RIGHTS_SEL, .rw, 0x3F1F, []⟩,
   ⟨Reg.BOOT_RIGHTS_LO, .ro, 0x0, []⟩,
   ⟨Reg.BOOT_RIGHTS_HI, .ro, 0x0, []⟩,
   ⟨Reg.BOOT_UPD_BUF 0, .wo, 0xFFFFFFFF, [(0x4, 64)]⟩]
def rowsSEC : List RegRow :=
  [⟨Reg.SEC_STATUS, .ro, 0x0, []⟩,
   ⟨Reg.SEC_SK_KCV, .ro, 0x0, []⟩,
   ⟨Reg.SEC_IK_KCV, .ro, 0x0, []⟩,
   ⟨Reg.SEC_VK_FPR, .ro, 0x0, []⟩,
   ⟨Reg.SEC_PROV_COUNT, .ro, 0x0, []⟩,
   ⟨Reg.SEC_OPEN_COUNT, .ro, 0x0, []⟩,
   ⟨Reg.SEC_AUTH_STAT, .ro, 0x0, []⟩,
   ⟨Reg.SEC_FW_SVN, .ro, 0x0, []⟩,
   ⟨Reg.SEC_NONCE 0, .ro, 0x0, [(0x4, 4)]⟩,
   ⟨Reg.SEC_DEVPUB 0, .ro, 0x0, [(0x4, 16)]⟩]
def rowsSLC : List RegRow :=
  [⟨Reg.SLC_PERIOD, .lk, 0x3FFF, []⟩,
   ⟨Reg.SLC_OFFSET, .lk, 0x7FFF, []⟩,
   ⟨Reg.SLC_CTRL, .lk, 0x3, []⟩,
   ⟨Reg.SLC_FN, .lt, 0x0, []⟩,
   ⟨Reg.SLC_T_FT, .ro, 0x0, []⟩,
   ⟨Reg.SLC_STATUS, .ro, 0x0, []⟩,
   ⟨Reg.SLC_K, .ro, 0x0, []⟩,
   ⟨Reg.SLC_S, .ro, 0x0, []⟩,
   ⟨Reg.SLC_BERM, .ro, 0x0, []⟩,
   ⟨Reg.SLC_LOOP_CAP, .ro, 0x0, []⟩,
   ⟨Reg.SLC_SLV_CAP, .ro, 0x0, []⟩,
   ⟨Reg.SLC_HOME, .ro, 0x0, []⟩,
   ⟨Reg.SLC_SPILL_MAP, .ro, 0x0, []⟩,
   ⟨Reg.SLC_FAULT_MAP, .ro, 0x0, []⟩,
   ⟨Reg.SLC_LANE_USE 0, .ro, 0x0, [(0x4, 4)]⟩]
def rowsPLD : List RegRow :=
  [⟨Reg.PLD_CFG 0, .lk, 0xFF0F, [(0x1000, 16)]⟩,
   ⟨Reg.PLD_CYCLIC 0, .lk, 0x3FF03FF, [(0x1000, 16)]⟩,
   ⟨Reg.PLD_BUD_LOGIC 0, .lk, 0x7FFFFFF, [(0x1000, 16)]⟩,
   ⟨Reg.PLD_BUD_LOOP 0, .lk, 0x7FFFFFF, [(0x1000, 16)]⟩,
   ⟨Reg.PLD_BUD_SLV 0, .lk, 0x7FFFFFF, [(0x1000, 16)]⟩,
   ⟨Reg.PLD_BITWIN 0, .lk, 0x1FF03FF, [(0x1000, 16)]⟩,
   ⟨Reg.PLD_WORDWIN 0, .lk, 0x3FF07FF, [(0x1000, 16)]⟩,
   ⟨Reg.PLD_STATE 0, .ro, 0x0, [(0x1000, 16)]⟩,
   ⟨Reg.PLD_USE_LOGIC 0, .ro, 0x0, [(0x1000, 16)]⟩,
   ⟨Reg.PLD_PEAK_LOGIC 0, .rc, 0x0, [(0x1000, 16)]⟩,
   ⟨Reg.PLD_USE_LOOP 0, .ro, 0x0, [(0x1000, 16)]⟩,
   ⟨Reg.PLD_USE_SLV 0, .ro, 0x0, [(0x1000, 16)]⟩,
   ⟨Reg.PLD_SPILL 0, .ro, 0x0, [(0x1000, 16)]⟩,
   ⟨Reg.PLD_SPILL_TOTAL 0, .rc, 0x0, [(0x1000, 16)]⟩,
   ⟨Reg.PLD_MISSED 0, .rc, 0x0, [(0x1000, 16)]⟩,
   ⟨Reg.PLD_SPILL_FN 0, .ro, 0x0, [(0x1000, 16)]⟩,
   ⟨Reg.PLD_ERR 0, .ro, 0x0, [(0x1000, 16)]⟩,
   ⟨Reg.PLD_EVQ 0, .ro, 0x0, [(0x1000, 16)]⟩,
   ⟨Reg.PLD_EVQ_OVF 0, .rc, 0x0, [(0x1000, 16)]⟩,
   ⟨Reg.PLD_LOOP_DEFER 0, .rc, 0x0, [(0x1000, 16)]⟩]
def rowsLVE0 : List RegRow :=
  [⟨Reg.LVE_LIT01 0, .lk, 0xC0FFC0FF, [(0x40, 64)]⟩,
   ⟨Reg.LVE_LIT23 0, .lk, 0xC0FFC0FF, [(0x40, 64)]⟩,
   ⟨Reg.LVE_LIT45 0, .lk, 0xC0FFC0FF, [(0x40, 64)]⟩,
   ⟨Reg.LVE_LIT67 0, .lk, 0xC0FFC0FF, [(0x40, 64)]⟩,
   ⟨Reg.LVE_TCFG 0, .lk, 0xE00003FF, [(0x40, 64)]⟩,
   ⟨Reg.LVE_HOLD 0, .lk, 0xFFFF, [(0x40, 64)]⟩,
   ⟨Reg.LVE_MAP0 0, .lk, 0xFFFFFFFF, [(0x40, 64)]⟩,
   ⟨Reg.LVE_MAP1 0, .lk, 0xFFFFFFFF, [(0x40, 64)]⟩,
   ⟨Reg.LVE_MAP2 0, .lk, 0xFFFFFFFF, [(0x40, 64)]⟩,
   ⟨Reg.LVE_FMAP 0, .lk, 0xFFFF, [(0x40, 64)]⟩,
   ⟨Reg.LVE_STATUS, .ro, 0x0, []⟩,
   ⟨Reg.LVE_TRIPST0, .lk, 0xFFFFFFFF, []⟩,
   ⟨Reg.LVE_TRIPST1, .lk, 0xFFFFFFFF, []⟩,
   ⟨Reg.LVE_TRIPST2, .lk, 0xFFFFFFFF, []⟩,
   ⟨Reg.LVE_P0F, .rw, 0xFFFF, []⟩,
   ⟨Reg.LVE_P0F_SAFE, .lk, 0xFFFF, []⟩,
   ⟨Reg.LVE_TEST_LIMIT, .lk, 0x3FF, []⟩,
   ⟨Reg.LVE_TEST_CTRL, .rw, 0x33F, []⟩,
   ⟨Reg.LVE_TEST_VAL, .rw, 0xFFFF, []⟩,
   ⟨Reg.LVE_TEST_STAT, .ro, 0x0, []⟩,
   ⟨Reg.LVE_RAW0, .ro, 0x0, []⟩,
   ⟨Reg.LVE_RAW1, .ro, 0x0, []⟩,
   ⟨Reg.LVE_ACT0, .ro, 0x0, []⟩,
   ⟨Reg.LVE_ACT1, .ro, 0x0, []⟩]
def rowsLVE1 : List RegRow :=
  [⟨Reg.LVE_LATCHED0, .ro, 0x0, []⟩,
   ⟨Reg.LVE_LATCHED1, .ro, 0x0, []⟩,
   ⟨Reg.LVE_FLAG, .ro, 0x0, []⟩,
   ⟨Reg.LVE_TRIP0, .ro, 0x0, []⟩,
   ⟨Reg.LVE_TRIP1, .ro, 0x0, []⟩,
   ⟨Reg.LVE_TRIP2, .ro, 0x0, []⟩]
def rowsLGE : List RegRow :=
  [⟨Reg.LGE_STATUS, .ro, 0x0, []⟩,
   ⟨Reg.LGE_CMD, .wo, 0xFF000F, []⟩,
   ⟨Reg.LGE_CMD_ARG, .rw, 0x7FFFF, []⟩,
   ⟨Reg.LGE_CMD_STAT, .ro, 0x0, []⟩,
   ⟨Reg.LGE_BP 0, .ro, 0x0, [(0x4, 16)]⟩,
   ⟨Reg.LGE_SEG_BASE 0, .lk, 0xFFFFF, [(0x40, 16)]⟩,
   ⟨Reg.LGE_SEG_LEN 0, .lk, 0xFFFFF, [(0x40, 16)]⟩,
   ⟨Reg.LGE_TMR 0, .lk, 0x7FF03FF, [(0x40, 16)]⟩,
   ⟨Reg.LGE_CNT 0, .lk, 0x7FF03FF, [(0x40, 16)]⟩,
   ⟨Reg.LGE_EDGE 0, .lk, 0x7FFF3FFF, [(0x40, 16)]⟩,
   ⟨Reg.LGE_CTRL 0, .lk, 0x1FFF0F07, [(0x40, 16)]⟩,
   ⟨Reg.LGE_PC 0, .ro, 0x0, [(0x40, 16)]⟩,
   ⟨Reg.LGE_ACC 0, .ro, 0x0, [(0x40, 16)]⟩,
   ⟨Reg.LGE_WA 0, .ro, 0x0, [(0x40, 16)]⟩,
   ⟨Reg.LGE_FAULT 0, .ro, 0x0, [(0x40, 16)]⟩,
   ⟨Reg.LGE_FAULT_PC 0, .ro, 0x0, [(0x40, 16)]⟩,
   ⟨Reg.LGE_ARITH 0, .rc, 0x0, [(0x40, 16)]⟩]
def rowsSTN0 : List RegRow :=
  [⟨Reg.STN_PL_CMD, .wo, 0xF000F, []⟩,
   ⟨Reg.STN_PL_ADDR, .rw, 0xE003FFFF, []⟩,
   ⟨Reg.STN_PL_VALUE, .rw, 0xFFFFFFFF, []⟩,
   ⟨Reg.STN_PL_STAT, .ro, 0x0, []⟩,
   ⟨Reg.STN_PL_FN, .ro, 0x0, []⟩,
   ⟨Reg.STN_PL_BATCH, .ro, 0x0, []⟩,
   ⟨Reg.STN_PL_PERMIT, .lk, 0xFFFFFFFF, []⟩,
   ⟨Reg.STN_PL_POLICY, .lk, 0xFFFFFFFF, []⟩,
   ⟨Reg.STN_PL_START, .lk, 0xFFFF, []⟩,
   ⟨Reg.STN_PL_OVERLAY, .ro, 0x0, []⟩,
   ⟨Reg.STN_FORCE_SEL, .rw, 0xFF, []⟩,
   ⟨Reg.STN_FORCE_DESC, .ro, 0x0, []⟩,
   ⟨Reg.STN_FORCE_VAL, .ro, 0x0, []⟩,
   ⟨Reg.STN_FORCE_COUNT, .ro, 0x0, []⟩,
   ⟨Reg.STN_RST_KIND 0, .ro, 0x0, [(0x10, 16)]⟩,
   ⟨Reg.STN_RST_KEPT 0, .ro, 0x0, [(0x10, 16)]⟩,
   ⟨Reg.STN_RST_INIT 0, .ro, 0x0, [(0x10, 16)]⟩,
   ⟨Reg.STN_RST_DROP 0, .ro, 0x0, [(0x10, 16)]⟩,
   ⟨Reg.STN_PL_KIDX 0, .rw, 0xFFF, [(0x8, 64)]⟩,
   ⟨Reg.STN_PL_KVAL 0, .rw, 0xFFFFFFFF, [(0x8, 64)]⟩,
   ⟨Reg.STN_STATE, .ro, 0x0, []⟩,
   ⟨Reg.STN_TWIN_CMD, .wo, 0xF, []⟩,
   ⟨Reg.STN_TWIN_ARG, .rw, 0x101, []⟩,
   ⟨Reg.STN_TWIN_STAT, .ro, 0x0, []⟩]
def rowsSTN1 : List RegRow :=
  [⟨Reg.STN_LOCK_FN, .ro, 0x0, []⟩,
   ⟨Reg.STN_DIV, .ro, 0x0, []⟩,
   ⟨Reg.STN_DIV_FN, .ro, 0x0, []⟩,
   ⟨Reg.STN_GAP, .ro, 0x0, []⟩]
def rowsLPE0 : List RegRow :=
  [⟨Reg.LPE_CFG 0, .lk, 0xFEFF807F, [(0x100, 128)]⟩,
   ⟨Reg.LPE_SCHED 0, .lk, 0x3FF03FF, [(0x100, 128)]⟩,
   ⟨Reg.LPE_PV_SRC 0, .lk, 0xC003FFFF, [(0x100, 128)]⟩,
   ⟨Reg.LPE_AO 0, .lk, 0x8000001F, [(0x100, 128)]⟩,
   ⟨Reg.LPE_STATUS 0, .ro, 0x0, [(0x100, 128)]⟩,
   ⟨Reg.LPE_MODE 0, .ro, 0x0, [(0x100, 128)]⟩,
   ⟨Reg.LPE_PV 0, .ro, 0x0, [(0x100, 128)]⟩,
   ⟨Reg.LPE_SP_T 0, .ro, 0x0, [(0x100, 128)]⟩,
   ⟨Reg.LPE_SP_W 0, .ro, 0x0, [(0x100, 128)]⟩,
   ⟨Reg.LPE_OUT 0, .ro, 0x0, [(0x100, 128)]⟩,
   ⟨Reg.LPE_V 0, .ro, 0x0, [(0x100, 128)]⟩,
   ⟨Reg.LPE_P 0, .ro, 0x0, [(0x100, 128)]⟩,
   ⟨Reg.LPE_D 0, .ro, 0x0, [(0x100, 128)]⟩,
   ⟨Reg.LPE_I_LO 0, .lt, 0x0, [(0x100, 128)]⟩,
   ⟨Reg.LPE_I_HI 0, .ro, 0x0, [(0x100, 128)]⟩,
   ⟨Reg.LPE_SAT_TIME 0, .ro, 0x0, [(0x100, 128)]⟩,
   ⟨Reg.LPE_SAT_FRAC 0, .ro, 0x0, [(0x100, 128)]⟩,
   ⟨Reg.LPE_EVAL_FN 0, .ro, 0x0, [(0x100, 128)]⟩,
   ⟨Reg.LPE_MAN_OUT 0, .ro, 0x0, [(0x100, 128)]⟩,
   ⟨Reg.LPE_TRACK_VAL 0, .ro, 0x0, [(0x100, 128)]⟩,
   ⟨Reg.LPE_OUT_HI 0, .ro, 0x0, [(0x100, 128)]⟩,
   ⟨Reg.LPE_OUT_LO 0, .ro, 0x0, [(0x100, 128)]⟩,
   ⟨Reg.LPE_OUT_UP 0, .ro, 0x0, [(0x100, 128)]⟩,
   ⟨Reg.LPE_OUT_DN 0, .ro, 0x0, [(0x100, 128)]⟩]
def rowsLPE1 : List RegRow :=
  [⟨Reg.LPE_SP_HI 0, .ro, 0x0, [(0x100, 128)]⟩,
   ⟨Reg.LPE_SP_LO 0, .ro, 0x0, [(0x100, 128)]⟩,
   ⟨Reg.LPE_SP_UP 0, .ro, 0x0, [(0x100, 128)]⟩,
   ⟨Reg.LPE_SP_DN 0, .ro, 0x0, [(0x100, 128)]⟩,
   ⟨Reg.LPE_SP_ACC 0, .ro, 0x0, [(0x100, 128)]⟩,
   ⟨Reg.LPE_SAT_LIM 0, .ro, 0x0, [(0x100, 128)]⟩,
   ⟨Reg.LPE_SAT_FRAC_LIM 0, .ro, 0x0, [(0x100, 128)]⟩,
   ⟨Reg.LPE_FAIL_OUT 0, .lk, 0xFFFFFFFF, [(0x100, 128)]⟩,
   ⟨Reg.LPE_KP_A 0, .ro, 0x0, [(0x100, 128)]⟩,
   ⟨Reg.LPE_KI_A 0, .ro, 0x0, [(0x100, 128)]⟩,
   ⟨Reg.LPE_KD_A 0, .ro, 0x0, [(0x100, 128)]⟩,
   ⟨Reg.LPE_N_A 0, .ro, 0x0, [(0x100, 128)]⟩,
   ⟨Reg.LPE_TT_A 0, .ro, 0x0, [(0x100, 128)]⟩,
   ⟨Reg.LPE_KP_B 0, .ro, 0x0, [(0x100, 128)]⟩,
   ⟨Reg.LPE_KI_B 0, .ro, 0x0, [(0x100, 128)]⟩,
   ⟨Reg.LPE_KD_B 0, .ro, 0x0, [(0x100, 128)]⟩,
   ⟨Reg.LPE_N_B 0, .ro, 0x0, [(0x100, 128)]⟩,
   ⟨Reg.LPE_TT_B 0, .ro, 0x0, [(0x100, 128)]⟩,
   ⟨Reg.LPE_GSTATUS, .ro, 0x0, []⟩,
   ⟨Reg.LPE_EVALS, .ro, 0x0, []⟩,
   ⟨Reg.LPE_ARITH, .rc, 0x0, []⟩]
def rowsSLV0 : List RegRow :=
  [⟨Reg.SLV_CFG 0, .lk, 0xF0FF0000, [(0x800, 8)]⟩,
   ⟨Reg.SLV_DIM 0, .lk, 0xFFFF03FF, [(0x800, 8)]⟩,
   ⟨Reg.SLV_ITER 0, .lk, 0xFFFF007F, [(0x800, 8)]⟩,
   ⟨Reg.SLV_FMT 0, .lk, 0xFFFFFFFF, [(0x800, 8)]⟩,
   ⟨Reg.SLV_FMT2 0, .lk, 0xFFFF, [(0x800, 8)]⟩,
   ⟨Reg.SLV_EPS_PIV 0, .lk, 0xFFFFFFFF, [(0x800, 8)]⟩,
   ⟨Reg.SLV_DELTA_REG 0, .lk, 0xFFFFFFFF, [(0x800, 8)]⟩,
   ⟨Reg.SLV_DELTA_EQ 0, .lk, 0xFFFFFFFF, [(0x800, 8)]⟩,
   ⟨Reg.SLV_SIGMA_MAX 0, .lk, 0xFFFFFFFF, [(0x800, 8)]⟩,
   ⟨Reg.SLV_EPS_FIX 0, .lk, 0xFFFFFFFF, [(0x800, 8)]⟩,
   ⟨Reg.SLV_TOL_P 0, .lk, 0xFFFFFFFF, [(0x800, 8)]⟩,
   ⟨Reg.SLV_TOL_D 0, .lk, 0xFFFFFFFF, [(0x800, 8)]⟩,
   ⟨Reg.SLV_TOL_MU 0, .lk, 0xFFFFFFFF, [(0x800, 8)]⟩,
   ⟨Reg.SLV_INIT_X 0, .lk, 0xFFFFFFFF, [(0x800, 8)]⟩,
   ⟨Reg.SLV_INIT_DUAL 0, .lk, 0xFFFFFFFF, [(0x800, 8)]⟩,
   ⟨Reg.SLV_COST_SETUP 0, .lk, 0x7FFFFFF, [(0x800, 8)]⟩,
   ⟨Reg.SLV_COST_ITER 0, .lk, 0x7FFFFFF, [(0x800, 8)]⟩,
   ⟨Reg.SLV_COST_FINISH 0, .lk, 0x7FFFFFF, [(0x800, 8)]⟩,
   ⟨Reg.SLV_COST_GAP 0, .lk, 0x7FFFFFF, [(0x800, 8)]⟩,
   ⟨Reg.SLV_JOB 0, .ro, 0x0, [(0x800, 8)]⟩,
   ⟨Reg.SLV_JOB_FN 0, .ro, 0x0, [(0x800, 8)]⟩,
   ⟨Reg.SLV_JOB_DL 0, .ro, 0x0, [(0x800, 8)]⟩,
   ⟨Reg.SLV_JOB_CYC 0, .ro, 0x0, [(0x800, 8)]⟩,
   ⟨Reg.SLV_RES_STAT 0, .ro, 0x0, [(0x800, 8)]⟩]
def rowsSLV1 : List RegRow :=
  [⟨Reg.SLV_RES_FN 0, .ro, 0x0, [(0x800, 8)]⟩,
   ⟨Reg.SLV_RES_JOBFN 0, .ro, 0x0, [(0x800, 8)]⟩,
   ⟨Reg.SLV_RES_PIV 0, .ro, 0x0, [(0x800, 8)]⟩,
   ⟨Reg.SLV_RES_RP 0, .ro, 0x0, [(0x800, 8)]⟩,
   ⟨Reg.SLV_RES_RD 0, .ro, 0x0, [(0x800, 8)]⟩,
   ⟨Reg.SLV_RES_MU 0, .ro, 0x0, [(0x800, 8)]⟩,
   ⟨Reg.SLV_RES_EXC 0, .ro, 0x0, [(0x800, 8)]⟩,
   ⟨Reg.SLV_OVF 0, .rc, 0x0, [(0x800, 8)]⟩,
   ⟨Reg.SLV_RES_X 0 0, .ro, 0x0, [(0x800, 8), (0x4, 128)]⟩,
   ⟨Reg.SLV_GSTATUS, .ro, 0x0, []⟩,
   ⟨Reg.SLV_ARRAY_USE, .ro, 0x0, []⟩,
   ⟨Reg.SLV_BUSY, .ro, 0x0, []⟩]
def rowsSHL : List RegRow :=
  [⟨Reg.SHL_CFG, .lk, 0x3F0001, []⟩,
   ⟨Reg.SHL_IFP_LO, .lk, 0xFFFFFFFF, []⟩,
   ⟨Reg.SHL_IFP_HI, .lk, 0xFFFFFFFF, []⟩,
   ⟨Reg.SHL_INPUT_MAX, .lk, 0xFFFF, []⟩,
   ⟨Reg.SHL_STATUS, .ro, 0x0, []⟩,
   ⟨Reg.SHL_PEER, .ro, 0x0, []⟩,
   ⟨Reg.SHL_LAT, .ro, 0x0, []⟩,
   ⟨Reg.SHL_LANE_ERR 0, .rc, 0x0, [(0x4, 2)]⟩,
   ⟨Reg.SHL_AGREE_MISS, .rc, 0x0, []⟩,
   ⟨Reg.SHL_SIG_MISMATCH, .rc, 0x0, []⟩,
   ⟨Reg.SHL_INPUT_CARRY, .rc, 0x0, []⟩,
   ⟨Reg.SHL_AGREE_PEAK, .rc, 0x0, []⟩,
   ⟨Reg.SHL_GIVEUP, .ro, 0x0, []⟩,
   ⟨Reg.SHL_XFER, .ro, 0x0, []⟩,
   ⟨Reg.SHL_XFER_FN, .ro, 0x0, []⟩,
   ⟨Reg.SHL_XFER_KIND 0, .ro, 0x0, [(0x10, 16)]⟩,
   ⟨Reg.SHL_XFER_KEPT 0, .ro, 0x0, [(0x10, 16)]⟩,
   ⟨Reg.SHL_XFER_INIT 0, .ro, 0x0, [(0x10, 16)]⟩,
   ⟨Reg.SHL_XFER_DROP 0, .ro, 0x0, [(0x10, 16)]⟩,
   ⟨Reg.SHL_MRG 0, .lk, 0xFFFFFFFF, [(0x4, 20)]⟩,
   ⟨Reg.SHL_MRG 20, .lk, 0xFFFFF, []⟩,
   ⟨Reg.SHL_PAIR_DO0, .lk, 0xFFFFFFFF, []⟩,
   ⟨Reg.SHL_PAIR_DO1, .lk, 0xFFFFFFFF, []⟩,
   ⟨Reg.SHL_PAIR_DO2, .lk, 0xFFFFFFFF, []⟩,
   ⟨Reg.SHL_PAIR_AO, .lk, 0xFFFFFFFF, []⟩]
def rowsDIO : List RegRow :=
  [⟨Reg.DIO_CFG 0, .lk, 0xFEFFE000, [(0x40, 96)]⟩,
   ⟨Reg.DIO_OCFG 0, .lk, 0xDFFFBFFF, [(0x40, 96)]⟩,
   ⟨Reg.DIO_CHATCFG 0, .lk, 0xFFFFFFFF, [(0x40, 96)]⟩,
   ⟨Reg.DIO_STUCK 0, .lk, 0xFFFFFF, [(0x40, 96)]⟩,
   ⟨Reg.DIO_STOP 0, .lk, 0x8000FFFF, [(0x40, 96)]⟩,
   ⟨Reg.DIO_EVT 0, .lk, 0xFFF, [(0x40, 96)]⟩,
   ⟨Reg.DIO_STATUS 0, .ro, 0x0, [(0x40, 96)]⟩,
   ⟨Reg.DIO_COUNT 0, .ro, 0x0, [(0x40, 96)]⟩,
   ⟨Reg.DIO_FREQ 0, .ro, 0x0, [(0x40, 96)]⟩,
   ⟨Reg.DIO_TS_RISE 0, .ro, 0x0, [(0x40, 96)]⟩,
   ⟨Reg.DIO_TS_FALL 0, .ro, 0x0, [(0x40, 96)]⟩,
   ⟨Reg.DIO_MEAS 0, .ro, 0x0, [(0x40, 96)]⟩,
   ⟨Reg.DIO_WB 0, .ro, 0x0, [(0x40, 96)]⟩,
   ⟨Reg.DIO_EVCNT 0, .rc, 0x0, [(0x40, 96)]⟩,
   ⟨Reg.DIO_GCFG 0, .lk, 0x1, [(0x100, 6)]⟩,
   ⟨Reg.DIO_GSTATUS 0, .ro, 0x0, [(0x100, 6)]⟩,
   ⟨Reg.DIO_GMEAS 0, .ro, 0x0, [(0x100, 6)]⟩,
   ⟨Reg.DIO_GEVCNT 0, .rc, 0x0, [(0x100, 6)]⟩,
   ⟨Reg.DIO_LINK0, .ro, 0x0, []⟩,
   ⟨Reg.DIO_LINK1, .ro, 0x0, []⟩,
   ⟨Reg.DIO_LINK2, .ro, 0x0, []⟩]
def rowsAIO : List RegRow :=
  [⟨Reg.AIO_CFG 0, .lk, 0xFFFFFFF0, [(0x80, 32)]⟩,
   ⟨Reg.AIO_SUBST 0, .lk, 0xFFFFFFFF, [(0x80, 32)]⟩,
   ⟨Reg.AIO_OCFG 0, .lk, 0xC0003FFF, [(0x80, 32)]⟩,
   ⟨Reg.AIO_CMP0 0, .lk, 0xFFEFFFFF, [(0x80, 32)]⟩,
   ⟨Reg.AIO_CMP1 0, .lk, 0xFFEFFFFF, [(0x80, 32)]⟩,
   ⟨Reg.AIO_STATUS 0, .ro, 0x0, [(0x80, 32)]⟩,
   ⟨Reg.AIO_VALUE 0, .ro, 0x0, [(0x80, 32)]⟩,
   ⟨Reg.AIO_STAGE 0, .ro, 0x0, [(0x80, 32)]⟩,
   ⟨Reg.AIO_MEAS 0, .ro, 0x0, [(0x80, 32)]⟩,
   ⟨Reg.AIO_CAL_G 0, .ro, 0x0, [(0x80, 32)]⟩,
   ⟨Reg.AIO_CAL_O 0, .ro, 0x0, [(0x80, 32)]⟩,
   ⟨Reg.AIO_CAL_INFO 0, .ro, 0x0, [(0x80, 32)]⟩,
   ⟨Reg.AIO_EVCNT 0, .rc, 0x0, [(0x80, 32)]⟩,
   ⟨Reg.AIO_GSTATUS 0, .ro, 0x0, [(0x100, 4)]⟩,
   ⟨Reg.AIO_GMEAS 0, .ro, 0x0, [(0x100, 4)]⟩,
   ⟨Reg.AIO_CAL_CMD, .wo, 0x31F0F, []⟩,
   ⟨Reg.AIO_CAL_REF, .rw, 0xFFFFFFFF, []⟩,
   ⟨Reg.AIO_CAL_STAT, .ro, 0x0, []⟩,
   ⟨Reg.AIO_CAL_RES_G, .ro, 0x0, []⟩,
   ⟨Reg.AIO_CAL_RES_O, .ro, 0x0, []⟩]
def rowsTSU0 : List RegRow :=
  [⟨Reg.TSU_CFG, .lk, 0xFFCFFD, []⟩,
   ⟨Reg.TSU_PTP_CFG, .lk, 0xFFFFFF7F, []⟩,
   ⟨Reg.TSU_PTP_INTV, .lk, 0xFFFFFFF, []⟩,
   ⟨Reg.TSU_STATUS, .w1c, 0x1000, []⟩,
   ⟨Reg.TSU_FT, .ro, 0x0, []⟩,
   ⟨Reg.TSU_NS, .lt, 0x0, []⟩,
   ⟨Reg.TSU_SEC_LO, .ro, 0x0, []⟩,
   ⟨Reg.TSU_SEC_HI, .ro, 0x0, []⟩,
   ⟨Reg.TSU_FT_SNAP, .ro, 0x0, []⟩,
   ⟨Reg.TSU_INCR, .ro, 0x0, []⟩,
   ⟨Reg.TSU_ST_INCR, .rw, 0xFFFFFFFF, []⟩,
   ⟨Reg.TSU_ST_SEC_LO, .rw, 0xFFFFFFFF, []⟩,
   ⟨Reg.TSU_ST_SEC_HI, .rw, 0xFFFF, []⟩,
   ⟨Reg.TSU_ST_NS, .rw, 0xFFFFFFFF, []⟩,
   ⟨Reg.TSU_ST_ADJ, .rw, 0xFFFFFFFF, []⟩,
   ⟨Reg.TSU_CMD, .wo, 0x7F, []⟩,
   ⟨Reg.TSU_CMD_STAT, .ro, 0x0, []⟩,
   ⟨Reg.TSU_EPOCH, .rw, 0xFFFFFFFF, []⟩,
   ⟨Reg.TSU_OFFSET, .ro, 0x0, []⟩,
   ⟨Reg.TSU_PATH, .ro, 0x0, []⟩,
   ⟨Reg.TSU_GM_LO, .lt, 0x0, []⟩,
   ⟨Reg.TSU_GM_HI, .ro, 0x0, []⟩,
   ⟨Reg.TSU_STEPS, .rc, 0x0, []⟩,
   ⟨Reg.TSU_TWIN, .ro, 0x0, []⟩]
def rowsTSU1 : List RegRow :=
  [⟨Reg.TSU_PPS_CFG, .lk, 0xFFFFFFFF, []⟩,
   ⟨Reg.TSU_PPS_OFS, .lk, 0x3FFFFFFF, []⟩,
   ⟨Reg.TSU_PHY_LAT_A, .lk, 0xFFFFFFFF, []⟩,
   ⟨Reg.TSU_PHY_LAT_B, .lk, 0xFFFFFFFF, []⟩,
   ⟨Reg.TSU_CMP_CFG 0, .lk, 0xFF00FE3B, [(0x20, 32)]⟩,
   ⟨Reg.TSU_CMP_PER 0, .lk, 0xFFFFFFFF, [(0x20, 32)]⟩,
   ⟨Reg.TSU_CMP_OFS 0, .lk, 0xFFFFFFFF, [(0x20, 32)]⟩,
   ⟨Reg.TSU_CMP_TGT 0, .oneShot, 0xFFFFFFFF, [(0x20, 32)]⟩,
   ⟨Reg.TSU_CMP_ARM 0, .wo, 0x1, [(0x20, 32)]⟩,
   ⟨Reg.TSU_CMP_STAT 0, .ro, 0x0, [(0x20, 32)]⟩,
   ⟨Reg.TSU_CMP_LAST 0, .ro, 0x0, [(0x20, 32)]⟩,
   ⟨Reg.TSU_CAP_CFG 0, .lk, 0x1F3F, [(0x20, 16)]⟩,
   ⟨Reg.TSU_CAP_FT 0, .lt, 0x0, [(0x20, 16)]⟩,
   ⟨Reg.TSU_CAP_NS 0, .ro, 0x0, [(0x20, 16)]⟩,
   ⟨Reg.TSU_CAP_SEC_LO 0, .ro, 0x0, [(0x20, 16)]⟩,
   ⟨Reg.TSU_CAP_SEC_HI 0, .ro, 0x0, [(0x20, 16)]⟩,
   ⟨Reg.TSU_CAP_STAT 0, .rc, 0x0, [(0x20, 16)]⟩]
def rowsRTC : List RegRow :=
  [⟨Reg.RTC_STATUS, .ro, 0x0, []⟩,
   ⟨Reg.RTC_TICK_LO, .lt, 0x0, []⟩,
   ⟨Reg.RTC_TICK_HI, .ro, 0x0, []⟩,
   ⟨Reg.RTC_EPOCH_LO, .lt, 0x0, []⟩,
   ⟨Reg.RTC_EPOCH_HI, .ro, 0x0, []⟩,
   ⟨Reg.RTC_TRIM, .rw, 0xFF, []⟩,
   ⟨Reg.RTC_CALSTATE, .ro, 0x0, []⟩,
   ⟨Reg.RTC_CMD, .wo, 0xFF000F, []⟩,
   ⟨Reg.RTC_CMD_STAT, .ro, 0x0, []⟩,
   ⟨Reg.RTC_ST_DATE, .rw, 0xFFFFFFFF, []⟩,
   ⟨Reg.RTC_ST_TIME, .rw, 0xFFFFFF, []⟩,
   ⟨Reg.RTC_SWO_TICK_LO, .lt, 0x0, []⟩,
   ⟨Reg.RTC_SWO_TICK_HI, .ro, 0x0, []⟩,
   ⟨Reg.RTC_SWO_COUNT, .ro, 0x0, []⟩,
   ⟨Reg.RTC_SQW, .rw, 0xC000000F, []⟩,
   ⟨Reg.RTC_BACKUP, .ro, 0x0, []⟩,
   ⟨Reg.RTC_REWRITES, .rc, 0x0, []⟩]
def rowsNET0 : List RegRow :=
  [⟨Reg.NET_CFG, .lk, 0x1F01FF, []⟩,
   ⟨Reg.NET_ADDR_A, .lk, 0xFFFFFFFF, []⟩,
   ⟨Reg.NET_ADDR_B, .lk, 0xFFFFFFFF, []⟩,
   ⟨Reg.NET_GROUP, .lk, 0xFFFFFFFF, []⟩,
   ⟨Reg.NET_PORT_STAT, .ro, 0x0, []⟩,
   ⟨Reg.NET_ACK_DL, .ro, 0x0, []⟩,
   ⟨Reg.NET_PRP_A, .rc, 0x0, []⟩,
   ⟨Reg.NET_PRP_B, .rc, 0x0, []⟩,
   ⟨Reg.NET_AUTH_FAIL, .rc, 0x0, []⟩,
   ⟨Reg.NET_POL_DROP, .rc, 0x0, []⟩,
   ⟨Reg.NET_FILT_DROP, .rc, 0x0, []⟩,
   ⟨Reg.NET_RA_STAT, .ro, 0x0, []⟩,
   ⟨Reg.NET_ALM_STAT, .ro, 0x0, []⟩,
   ⟨Reg.NET_ALM_EVN, .ro, 0x0, []⟩,
   ⟨Reg.NET_ALM_LOST, .rc, 0x0, []⟩,
   ⟨Reg.NET_CLIENT 0, .lk, 0xFFFFFFFF, [(0x4, 16)]⟩,
   ⟨Reg.NET_ALMSRV 0, .lk, 0xFFFFFFFF, [(0x4, 4)]⟩,
   ⟨Reg.NET_RS_CFG 0, .lk, 0xFF3FFFFF, [(0x80, 32)]⟩,
   ⟨Reg.NET_RS_ADDR 0, .lk, 0xFFFFFFFF, [(0x80, 32)]⟩,
   ⟨Reg.NET_RS_STATUS 0, .ro, 0x0, [(0x80, 32)]⟩,
   ⟨Reg.NET_RS_RX 0, .ro, 0x0, [(0x80, 32)]⟩,
   ⟨Reg.NET_RS_ERR 0, .rc, 0x0, [(0x80, 32)]⟩,
   ⟨Reg.NET_RS_LOSS 0, .rc, 0x0, [(0x80, 32)]⟩,
   ⟨Reg.NET_RS_DIAG 0, .ro, 0x0, [(0x80, 32)]⟩]
def rowsNET1 : List RegRow :=
  [⟨Reg.NET_SUBST 0, .lk, 0xFFFFFFFF, [(0x4, 3328)]⟩]
def rowsHQ : List RegRow :=
  [⟨Reg.HQ_CFG 0, .lk, 0xFFFFFFFF, [(0x20, 128)]⟩,
   ⟨Reg.HQ_SIZE 0, .lk, 0xFFFF003F, [(0x20, 128)]⟩,
   ⟨Reg.HQ_BASE 0, .lk, 0x3FFF, [(0x20, 128)]⟩,
   ⟨Reg.HQ_FILL 0, .ro, 0x0, [(0x20, 128)]⟩,
   ⟨Reg.HQ_DROP 0, .rc, 0x0, [(0x20, 128)]⟩,
   ⟨Reg.HQ_ALT 0, .lk, 0x80000003, [(0x20, 128)]⟩,
   ⟨Reg.HQ_PEAK 0, .rc, 0x0, [(0x20, 128)]⟩,
   ⟨Reg.HQ_GSTATUS, .ro, 0x0, []⟩]
def rowsCAN : List RegRow :=
  [⟨Reg.CAN_CFG 0, .lk, 0xFEFFFFFF, [(0x2000, 4)]⟩,
   ⟨Reg.CAN_NBT 0, .lk, 0xFFFFFFFC, [(0x2000, 4)]⟩,
   ⟨Reg.CAN_DBT 0, .lk, 0xFFFFFFC0, [(0x2000, 4)]⟩,
   ⟨Reg.CAN_STATUS 0, .ro, 0x0, [(0x2000, 4)]⟩,
   ⟨Reg.CAN_CMD 0, .wo, 0x7F0F, [(0x2000, 4)]⟩,
   ⟨Reg.CAN_CMD_STAT 0, .ro, 0x0, [(0x2000, 4)]⟩,
   ⟨Reg.CAN_TXCNT 0, .rc, 0x0, [(0x2000, 4)]⟩,
   ⟨Reg.CAN_RXCNT 0, .rc, 0x0, [(0x2000, 4)]⟩,
   ⟨Reg.CAN_ERRCNT0 0, .rc, 0x0, [(0x2000, 4)]⟩,
   ⟨Reg.CAN_ERRCNT1 0, .rc, 0x0, [(0x2000, 4)]⟩,
   ⟨Reg.CAN_RXDROP 0, .rc, 0x0, [(0x2000, 4)]⟩,
   ⟨Reg.CAN_COLL 0, .ro, 0x0, [(0x2000, 4)]⟩,
   ⟨Reg.CAN_RXB_CFG 0 0, .lk, 0x8000001F, [(0x2000, 4), (0x4, 32)]⟩,
   ⟨Reg.CAN_RXB 0 0 0, .ro, 0x0, [(0x2000, 4), (0x50, 32), (0x4, 20)]⟩]
def rowsJRN : List RegRow :=
  [⟨Reg.JRN_CFG, .lk, 0x7F0F01, []⟩,
   ⟨Reg.JRN_STATUS, .ro, 0x0, []⟩,
   ⟨Reg.JRN_OLD_FN, .ro, 0x0, []⟩,
   ⟨Reg.JRN_NEW_FN, .ro, 0x0, []⟩,
   ⟨Reg.JRN_CKPT_FN, .ro, 0x0, []⟩,
   ⟨Reg.JRN_SPAN, .ro, 0x0, []⟩,
   ⟨Reg.JRN_CMD, .wo, 0xF, []⟩,
   ⟨Reg.JRN_ARG, .rw, 0xFFFFFFFF, []⟩,
   ⟨Reg.JRN_CMD_STAT, .ro, 0x0, []⟩,
   ⟨Reg.JRN_WIN_SEL, .rw, 0xF, []⟩,
   ⟨Reg.JRN_WIN_INFO, .ro, 0x0, []⟩,
   ⟨Reg.JRN_WIN_FN0, .ro, 0x0, []⟩,
   ⟨Reg.JRN_WIN_TFN, .ro, 0x0, []⟩,
   ⟨Reg.JRN_WIN_FN1, .ro, 0x0, []⟩,
   ⟨Reg.JRN_WIN_SIZE, .ro, 0x0, []⟩,
   ⟨Reg.JRN_REPLAY, .ro, 0x0, []⟩,
   ⟨Reg.JRN_RP_FN, .ro, 0x0, []⟩,
   ⟨Reg.JRN_DIFF_FN, .ro, 0x0, []⟩,
   ⟨Reg.JRN_DIFF_CNT, .ro, 0x0, []⟩,
   ⟨Reg.JRN_ECC, .rc, 0x0, []⟩,
   ⟨Reg.JRN_FLASH, .ro, 0x0, []⟩,
   ⟨Reg.JRN_RD_OFS, .rw, 0xFFFFFFFF, []⟩,
   ⟨Reg.JRN_TRIG 0, .lk, 0x8000FFFF, [(0x4, 16)]⟩,
   ⟨Reg.JRN_RD 0, .ro, 0x0, [(0x4, 256)]⟩]
def rowsIDMAP : List RegRow :=
  [⟨Reg.IDMAP_W0 0, .lk, 0xFFFFFFFF, [(0x8, 2048)]⟩,
   ⟨Reg.IDMAP_W1 0, .lk, 0xFFFFFFFF, [(0x8, 2048)]⟩]

/-- All register tables. -/
def regRows : List RegRow :=
  rowsMOD ++
  rowsBOOT ++ rowsSEC ++ rowsSLC ++ rowsPLD ++ rowsLVE0 ++ rowsLVE1 ++ rowsLGE ++ rowsSTN0 ++
  rowsSTN1 ++ rowsLPE0 ++ rowsLPE1 ++ rowsSLV0 ++ rowsSLV1 ++ rowsSHL ++ rowsDIO ++ rowsAIO ++
  rowsTSU0 ++ rowsTSU1 ++ rowsRTC ++ rowsNET0 ++ rowsNET1 ++ rowsHQ ++ rowsCAN ++ rowsJRN ++
  rowsIDMAP

/-- An offset is an instance of a register with these strides and counts. -/
def atDims : List (Nat × Nat) → Nat → Bool
  | [], off => off == 0
  | (s, n) :: l, off => decide (off / s < n) && atDims l (off % s)

/-- The row of the register at an address; `none` is an unoccupied address (R24). -/
def regRow (addr : Nat) : Option RegRow := regRows.find? fun r => decide (r.base ≤ addr) && atDims r.dims (addr - r.base)

/-- An LK register of the register tables. -/
def isLk (addr : Nat) : Bool := (regRow addr).any fun r => r.acc == .lk

end Sys2Proof.Machine
end

