-- ==== Sys2Proof/Machine/Calendar.lean ====
section
/-! DEFINITION. The calendar service (R371, R372): seconds since 2000-01-01 00:00:00 and Gregorian dates from 2000 to
2199. A refused conversion answers the status code of R150: 8 CAL_INVALID, 7 OUT_OF_RANGE. -/

namespace Sys2Proof.Machine

/-- A date and time of day. -/
structure CalTime where
  year : Int
  month : Int
  day : Int
  hour : Int
  minute : Int
  second : Int
  deriving DecidableEq, Repr

/-- Divisible by 4, except years divisible by 100 and not by 400 (R371). -/
def isLeap (y : Int) : Bool := y % 4 == 0 && (y % 100 != 0 || y % 400 == 0)

def monthLen (y m : Int) : Int :=
  if m = 2 then (if isLeap y then 29 else 28) else if m = 4 ∨ m = 6 ∨ m = 9 ∨ m = 11 then 30 else 31

/-- Days from 2000-01-01 to the first of January of year 2000 + n, n up to 200: one leap day for each started four
years, less that of 2100. -/
def daysToYear (n : Nat) : Nat := 365 * n + (n + 3) / 4 - (if 100 < n then 1 else 0)

/-- Days of year `y` before month `m`. -/
def daysToMonth (y : Int) (m : Nat) : Nat := ((List.range (m - 1)).map fun i => (monthLen y (i + 1 : Nat)).toNat).sum

/-- The first second beyond 2199-12-31 23:59:59. -/
def endOf2199 : Nat := daysToYear 200 * 86400

def CalTime.valid (t : CalTime) : Bool :=
  decide (1 ≤ t.month ∧ t.month ≤ 12 ∧ 1 ≤ t.day ∧ t.day ≤ monthLen t.year t.month ∧ 0 ≤ t.hour ∧ t.hour ≤ 23 ∧
    0 ≤ t.minute ∧ t.minute ≤ 59 ∧ 0 ≤ t.second ∧ t.second ≤ 59)

/-- Seconds of a date; CAL_INVALID is checked before OUT_OF_RANGE. -/
def CalTime.toSeconds (t : CalTime) : Except Nat Int :=
  if !t.valid then .error 8
  else if t.year < 2000 ∨ 2199 < t.year then .error 7
  else
    let days := daysToYear (t.year - 2000).toNat + daysToMonth t.year t.month.toNat + (t.day.toNat - 1)
    .ok (((days * 24 + t.hour.toNat) * 60 + t.minute.toNat) * 60 + t.second.toNat : Nat)

/-- Seconds within the range of the calendar. -/
def calRange (u : Int) : Except Nat Int := if 0 ≤ u ∧ u < endOf2199 then .ok u else .error 7

/-- The date of a number of seconds within the range. -/
def CalTime.ofSeconds (u : Nat) : CalTime :=
  let day := u / 86400
  let s := u % 86400
  let n := ((List.range 200).reverse.find? fun n => daysToYear n ≤ day).getD 0
  let y : Int := 2000 + n
  let rest := day - daysToYear n
  let m := ((List.range 12).reverse.find? fun m => daysToMonth y (m + 1) ≤ rest).getD 0 + 1
  { year := y, month := m, day := (rest - daysToMonth y m + 1 : Nat), hour := (s / 3600 : Nat),
    minute := (s % 3600 / 60 : Nat), second := (s % 60 : Nat) }

/-- ISO weekday, 1 Monday to 7 Sunday; 2000-01-01 was a Saturday. -/
def weekday (u : Nat) : Nat := (u / 86400 + 5) % 7 + 1

/-! The calendar state (R372), laid out as RTC_CALSTATE. -/

def taiUtc (cal : Word) : Nat := cal.field 24 8
def localOfs (cal : Word) : Int := (BitVec.ofNat 8 (cal.field 0 8)).toInt

/-- UTC seconds since 2000-01-01 of PTP seconds, and back (R372). -/
def utcOfPtp (cal : Word) (s : Nat) : Int := (s : Int) - 946684800 - taiUtc cal
def ptpOfUtc (cal : Word) (u : Int) : Int := u + 946684800 + taiUtc cal

end Sys2Proof.Machine
end

