-- ==== Sys2Proof/Machine/Time.lean ====
section
/-! DEFINITION. The time base and network time (R338–R366): setting and stepping, compare and capture units, PTP and its
servo, the twin time lock, pulse per second and the wrap of FT. -/

namespace Sys2Proof.Machine

/-! Setting and stepping (R339, R344–R347). -/

/-- PTP time in ns since its epoch. -/
def Dyn.ptpTotal (d : Dyn) : Nat := d.clk.sec.toNat * 10 ^ 9 + d.ptpNs

/-- TSU_INCR takes a value; the values of the last 64 s stand in the history. -/
def Dyn.loadIncr (d : Dyn) (w : Word) : Dyn :=
  let now := d.clk.cycles
  let old := d.tsu.hist.takeWhile fun e => now - e.1 < 32000000000
  let kept := old ++ (d.tsu.hist.drop old.length).take 1
  { d with tsu := { d.tsu with hist := (now, w) :: kept } }.wr Reg.TSU_INCR w

/-- Mean of TSU_INCR over the last 64 s, or since the first value (R357). -/
def Dyn.meanIncr (d : Dyn) : Word × Dyn :=
  let now := d.clk.cycles
  let go := d.tsu.hist.foldl (fun (x : Nat × Nat × Nat) e =>
    -- end of the value's time, sum, total
    let from_ := max e.1 (now - min now 32000000000)
    let len := x.1 - min x.1 from_
    (min x.1 e.1, x.2.1 + len * e.2.toNat, x.2.2 + len)) (now, 0, 0)
  if go.2.2 = 0 then (d.rd Reg.TSU_INCR, d)
  else let (q, d) := d.roundFree (go.2.1 : Int) go.2.2; (BitVec.ofInt 32 q, d)

/-- The range of R339. -/
def incrOk (w : Word) : Bool := 33520878 ≤ w.toNat && w.toNat ≤ 33587986

def Dyn.aligned (d : Dyn) (u : Nat) : Nat := sget 0 d.tsu.aligned u

/-- The first instant k × PERIOD + OFFSET at or after `t` (R348; PERIOD divides 10⁹). -/
def Cfg.alignedFrom (c : Cfg) (u t : Nat) : Nat :=
  let per := c.get (F.TSU_CMP_PER_NS u)
  if per = 0 then t else t + (c.get (F.TSU_CMP_OFS_NS u) + (per - t % per)) % per

def Dyn.setAligned (d : Dyn) (u t : Nat) : Dyn :=
  ({ d with tsu := { d.tsu with aligned := sput 0 d.tsu.aligned u t } } : Dyn).wr (Reg.TSU_CMP_TGT u)
    (BitVec.ofNat 32 (t % 10 ^ 9))

/-- Latch a capture record, corrected by `corr` ns (R352, R353). -/
def Dyn.captureAt (d : Dyn) (u : Nat) (corr : Int) : Dyn :=
  let t := ((d.ptpTotal : Int) + corr).toNat
  let r : CapRec := ⟨d.ft + BitVec.ofInt 32 corr, t % 10 ^ 9, BitVec.ofNat 48 (t / 10 ^ 9)⟩
  ({ d with tsu := { d.tsu with cap := sput CapRec.init d.tsu.cap u r } } : Dyn).bump (F.TSU_CAP_STAT_COUNT u)

/-- Every capture unit of source `src` captures. -/
def Dyn.captureSrc (c : Cfg) (d : Dyn) (src : Nat) (corr : Int) : Dyn :=
  (List.range 16).foldl (fun d u => if c.get (F.TSU_CAP_CFG_SRC u) = src then d.captureAt u corr else d) d

/-- A firing at `ft`, its actions and counts (R351). A compare firing releases every committed entry of the named queue (R434). -/
def Dyn.fire (c : Cfg) (d : Dyn) (u : Nat) (ft : Word) : Dyn :=
  let n := sget 0 d.tsu.fired u + 1
  let d : Dyn := { d with tsu := { d.tsu with fired := sput 0 d.tsu.fired u n } }
  let d := (d.put (F.TSU_CMP_STAT_FIRED u) n.toNat).wr (Reg.TSU_CMP_LAST u) ft
  let d := if c.flag (F.TSU_CMP_CFG_START u) then
      analogues.foldl (fun d m =>
        if c.flag (F.AIO_CFG_TRIG m) && c.get (F.AIO_CFG_CMP_UNIT m) == u then d.startConversion c m else d) d
    else d
  let d := if c.flag (F.TSU_CMP_CFG_EVT u) then
      d.post c (c.get (F.TSU_CMP_CFG_OWNER u)) 6 (c.get (F.TSU_CMP_CFG_EVT_TASK u)) u ft n
    else d
  let d := if c.flag (F.TSU_CMP_CFG_CAN_REL u) then d.releaseQueue c (c.get (F.TSU_CMP_CFG_QUEUE u)) else d
  (List.range 16).foldl (fun d k =>
    if c.get (F.TSU_CAP_CFG_SRC k) = 7 && c.get (F.TSU_CAP_CFG_INDEX k) = u then d.captureAt k (ft - d.ft).toInt else d) d

/-- After a step of PTP time from `before` ns: a PTP_ALIGNED unit whose instants the step passed fires once, the others
passed are counted, and its next target is the first aligned instant strictly after the new time (R350). -/
def Dyn.retarget (c : Cfg) (d : Dyn) (u : Nat) : Dyn :=
  if c.get (F.TSU_CMP_CFG_MODE u) = 2 && d.flag (F.TSU_CMP_STAT_ARMED u) then
    let t := d.ptpTotal
    let next := c.alignedFrom u (t + 1)
    let tgt := d.aligned u
    let d := if tgt ≤ t then
        let passed := (next - tgt) / max 1 (c.get (F.TSU_CMP_PER_NS u))
        (d.fire c u d.ft).bumpBy (F.TSU_CMP_STAT_MISSED u) (passed - 1)
      else d
    d.setAligned u next
  else d

/-- Count a step (R347): TSU_STEPS, STEPPED, SEEDED, and the compare units follow. -/
def Dyn.afterStep (c : Cfg) (d : Dyn) : Dyn :=
  let d := (d.bump F.TSU_STEPS_COUNT).setFlag F.TSU_STATUS_SEEDED true
  let d : Dyn := { d with tsu := { d.tsu with stepped := true } }
  (List.range 32).foldl (fun d u => d.retarget c u) d

/-- PTP time shifted by `ns`, with borrow and carry; the fraction is kept. -/
def Clock.adjust (k : Clock) (ns : Int) : Clock :=
  let t := (k.sec.toNat * 10 ^ 9 : Int) + (k.ns24 >>> 24 : Nat) + ns
  let m := t % (2 ^ 48 * 10 ^ 9 : Int)
  { k with sec := BitVec.ofNat 48 (m.toNat / 10 ^ 9),
           ns24 := (m.toNat % 10 ^ 9) * 2 ^ 24 + k.ns24 % 2 ^ 24 }

/-- An accepted change takes effect (R344). -/
def Dyn.change (c : Cfg) (d : Dyn) (x : TimeChange) : Dyn :=
  let d := match x.incr with
    | some w => d.loadIncr w
    | none => d
  match x.time, x.adj with
  | some (sec, ns), _ =>
    ({ d with clk := { d.clk with sec := sec, ns24 := ns * 2 ^ 24 } } : Dyn).afterStep c
  | none, some a => ({ d with clk := d.clk.adjust a.toInt } : Dyn).afterStep c
  | none, none => d

def Dyn.tsuStat (d : Dyn) (status reason : Nat) : Dyn :=
  d.wr Reg.TSU_CMD_STAT (BitVec.ofNat 32 (reason * 256 + status))

/-- An accepted APPLY: in the fabric cycle after the write, or on the time master at T of frame N + 2 (R346, R347). -/
def Dyn.accept (c : Cfg) (d : Dyn) (x : TimeChange) : Dyn :=
  if d.timeMaster c then
    { d with tsu := { d.tsu with apply := some (x, d.fn + 2) } }.tsuStat 1 0
  else ((d.ticks 1).change c x).tsuStat 2 0

/-- A write of TSU_CMD by the runtime firmware (`firmware`) or another requester (R344, R345). -/
def Dyn.tsuCmd (c : Cfg) (d : Dyn) (firmware : Bool) (w : Word) : Dyn :=
  let si := w.bit 4
  let st := w.bit 5
  let adj := w.bit 6
  let ns := (d.rd Reg.TSU_ST_NS).toNat
  if w.field 0 4 ≠ 1 then d.tsuStat 3 0
  else if st && decide (10 ^ 9 ≤ ns) then d.tsuStat 3 1
  else if (st && adj) || !(si || st || adj) then d.tsuStat 3 2
  else if si && !incrOk (d.rd Reg.TSU_ST_INCR) then d.tsuStat 3 3
  else if !c.flag F.TSU_CFG_SERVO && !firmware then d.tsuStat 3 4
  else if d.follower then d.tsuStat 3 5
  else if d.tsu.apply.isSome then d.tsuStat 3 6
  else
    let sec := BitVec.ofNat 48 (d.get F.TSU_ST_SEC_HI_SEC_HI * 2 ^ 32 + (d.rd Reg.TSU_ST_SEC_LO).toNat)
    d.accept c
      { incr := if si then some (d.rd Reg.TSU_ST_INCR) else none,
        time := if st then some (sec, ns) else none,
        adj := if adj then some (d.rd Reg.TSU_ST_ADJ) else none }

/-- The firmware sets PTP time to `t` ns by SET_TIME (R344): it stages the value for the instant of the apply (R346), and, while
an earlier APPLY is pending, writes its own when that is DONE (R345). -/
def Dyn.firmwareSet (c : Cfg) (d : Dyn) (t : Nat) : Dyn :=
  if d.tsu.apply.isSome then { d with tsu := { d.tsu with want := some (t, d.now) } }
  else
    let v := t + if d.timeMaster c then ((d.slc.tFt - d.ft).toInt + 2 * (c.period : Int)).toNat else 2
    let sec := v / 10 ^ 9
    let d := (d.put F.TSU_ST_SEC_HI_SEC_HI (sec / 2 ^ 32)).wr Reg.TSU_ST_SEC_LO (BitVec.ofNat 32 sec)
    (d.wr Reg.TSU_ST_NS (BitVec.ofNat 32 (v % 10 ^ 9))).tsuCmd c true 0x21

/-- APPLY with SET_INCR. -/
def execSetIncr (who : Requester) (s : State) : Out :=
  s.upd fun c d => d.gated c who Reg.TSU_CMD fun d => d.tsuCmd c (who == .firmware) 0x11

/-- APPLY with SET_TIME. -/
def execSetTime (who : Requester) (s : State) : Out :=
  s.upd fun c d => d.gated c who Reg.TSU_CMD fun d => d.tsuCmd c (who == .firmware) 0x21

/-- APPLY with ADJ_TIME. -/
def execAdjTime (who : Requester) (s : State) : Out :=
  s.upd fun c d => d.gated c who Reg.TSU_CMD fun d => d.tsuCmd c (who == .firmware) 0x41

/-- At T an APPLY whose frame has come takes effect, before the input latch (R347). -/
def Dyn.applyDue (c : Cfg) (d : Dyn) : Dyn :=
  match d.tsu.apply with
  | some (x, fn) =>
    if later fn d.fn then d
    else
      let d := ({ d with tsu := { d.tsu with apply := none } } : Dyn).change c x
      let d := if d.follower then d else d.tsuStat 2 0
      match d.tsu.want with
      | some (t, at_) => ({ d with tsu := { d.tsu with want := none } } : Dyn).firmwareSet c (t + (d.now - at_))
      | none => d
  | none => d

/-! Compare units (R348–R351, R363). -/

/-- The first instant OFFSET + k × PERIOD at or after `e`, in ns since T of FN 0. -/
def Cfg.periodicFrom (c : Cfg) (u e : Nat) : Nat :=
  let ofs := c.get (F.TSU_CMP_OFS_NS u)
  let per := max 1 (c.get (F.TSU_CMP_PER_NS u))
  ofs + (e - ofs + per - 1) / per * per

/-- At T of its first frame, `e` ns after T of FN 0, the periodic and the aligned units of a unit take their targets: those
at which the units of its partner fire too (R348, R362, log entry 117). -/
def Dyn.startCompare (c : Cfg) (d : Dyn) (e : Nat) : Dyn :=
  (List.range 32).foldl (fun d u =>
    match c.get (F.TSU_CMP_CFG_MODE u) with
    | 1 => (d.wr (Reg.TSU_CMP_TGT u) (d.slc.tFt + BitVec.ofNat 32 (c.periodicFrom u e - e))).setFlag (F.TSU_CMP_STAT_ARMED u) true
    | 2 => (d.setAligned u (c.alignedFrom u d.ptpTotal)).setFlag (F.TSU_CMP_STAT_ARMED u) true
    | _ => d) d

/-- Fabric cycles in which PTP time gains `ns`. -/
def Dyn.cyclesFor (d : Dyn) (ns : Nat) : Nat :=
  let incr := (d.rd Reg.TSU_INCR).toNat
  if ns = 0 || incr = 0 then 0 else (ns * 2 ^ 24 - d.clk.ns24 % 2 ^ 24 + incr - 1) / incr

/-- The clock stands where unit `u` fires: at its target, at once when that is past; with COMPAT a ONE_SHOT target is
reached by FT counting up to it, through a wrap if it lies below FT (R363). -/
def Dyn.toTarget (c : Cfg) (d : Dyn) (u : Nat) : Dyn :=
  match c.get (F.TSU_CMP_CFG_MODE u) with
  | 2 => d.ticks (d.cyclesFor (d.aligned u - d.ptpTotal))
  | 3 =>
    let tgt := d.rd (Reg.TSU_CMP_TGT u)
    if c.flag F.TSU_CFG_COMPAT then
      let ns := (tgt - d.ft).toNat
      let incr := (d.rd Reg.TSU_INCR).toNat
      if ns = 0 || incr = 0 then d else d.ticks ((ns * 2 ^ 24 - d.clk.ft % 2 ^ 24 + incr - 1) / incr)
    else d.advTo tgt
  | _ => d.advTo (d.rd (Reg.TSU_CMP_TGT u))

/-- The FT of a firing: while the units agree, a target between T and the agreement that armed it is the instant (R349). -/
def Dyn.firedFt (c : Cfg) (d : Dyn) (u : Nat) : Word :=
  let tgt := d.rd (Reg.TSU_CMP_TGT u)
  if c.get (F.TSU_CMP_CFG_MODE u) = 3 && d.agreeing && later d.ft tgt && later tgt d.slc.tFt then tgt else d.ft

/-- COMPARE_FIRE: an armed unit reaches its target, fires, and takes its next target. No unit fires before T of FN 0. -/
def execCompareFire (u : BitVec 5) (s : State) : Out :=
  s.upd fun c d =>
    let u := u.toNat
    if d.flag (F.TSU_CMP_STAT_ARMED u) && d.boot.stage == .running then
      let d := d.toTarget c u
      let d := d.fire c u (d.firedFt c u)
      match c.get (F.TSU_CMP_CFG_MODE u) with
      | 1 => d.wr (Reg.TSU_CMP_TGT u) (d.rd (Reg.TSU_CMP_TGT u) + c.rd (Reg.TSU_CMP_PER u))
      | 2 => d.setAligned u (d.aligned u + c.get (F.TSU_CMP_PER_NS u))
      | _ => d.setFlag (F.TSU_CMP_STAT_ARMED u) false
    else d

/-- A register write that waits for the input latch it counts at (R256, R257, R349). -/
def Dyn.stage_ (d : Dyn) (addr : Nat) (v : Word) : Dyn :=
  let n := d.twin.numbered + 1
  let w : RxItem := .write d.twin.acting addr v
  let d : Dyn := { d with twin := { d.twin with numbered := n, rx := d.twin.rx ++ [⟨n, false, d.ft, w⟩] } }
  if d.agreeing then d.sendShl 6 (.forward n w) else d

/-- TSU_CMP_TGT: writable in ONE_SHOT only (R366). -/
def execTsuCmpTgt (who : Requester) (u : BitVec 5) (val : Word) (s : State) : Out :=
  s.upd fun c d => d.gated c who (Reg.TSU_CMP_TGT u.toNat) fun d =>
    if c.get (F.TSU_CMP_CFG_MODE u.toNat) = 3 then d.stage_ (Reg.TSU_CMP_TGT u.toNat) val else d

/-- TSU_CMP_ARM with ARM set. -/
def execTsuCmpArm (who : Requester) (u : BitVec 5) (s : State) : Out :=
  s.upd fun c d => d.gated c who (Reg.TSU_CMP_ARM u.toNat) fun d => d.stage_ (Reg.TSU_CMP_ARM u.toNat) 1

/-- A counted target, and a counted ARM (R349). -/
def Dyn.targetWrite (c : Cfg) (d : Dyn) (u : Nat) (v : Word) : Dyn :=
  if c.get (F.TSU_CMP_CFG_MODE u) = 3 then d.wr (Reg.TSU_CMP_TGT u) v else d
/-- The target lies at or before FT `t`; with COMPAT, FT has to count up to it (R348, R363). -/
def Dyn.targetPast (c : Cfg) (d : Dyn) (u : Nat) (t : Word) : Bool :=
  let tgt := d.rd (Reg.TSU_CMP_TGT u)
  if c.flag F.TSU_CFG_COMPAT then tgt == t else !later tgt t
/-- An ARM that counts at T; a target that lies before FT at T fires in the cycle of T (R349). -/
def Dyn.armWrite (c : Cfg) (d : Dyn) (u : Nat) (v : Word) : Dyn :=
  if c.get (F.TSU_CMP_CFG_MODE u) = 3 && v.bit 0 then
    if d.targetPast c u d.slc.tFt then (d.setFlag (F.TSU_CMP_STAT_ARMED u) false).fire c u d.slc.tFt
    else d.setFlag (F.TSU_CMP_STAT_ARMED u) true
  else d

/-- CAPTURE: an edge of PPS_IN of the kind that EDGE selects, at its corrected instant (log entry 117). The other sources
capture with their own events. -/
def execCapture (u : BitVec 4) (at_ : Word) (s : State) : Out :=
  s.upd fun c d =>
    if c.get (F.TSU_CAP_CFG_SRC u.toNat) = 1 then (d.advTo at_).captureAt u.toNat 0 else d

/-! Time status (R354). -/

def Dyn.timeStatus (d : Dyn) : Word :=
  BitVec.ofNat 32 (d.servo * 2 ^ 13 + b2n (d.flag F.TSU_STATUS_SEEDED) * 2 ^ 12 + b2n d.tsu.stepped * 2 ^ 11)

/-! Twin time lock (R360–R362). -/

/-- The TIME message at T + 0.25 µs: FT, and PTP time, time status and calendar state at T, increment and a change under
way. -/
def Dyn.sendTime (c : Cfg) (d : Dyn) : Dyn :=
  let sec := d.slc.tSec
  if d.timeMaster c then
    let chg := match d.tsu.apply with
      | some (x, fn) =>
        [fn, x.incr.getD 0, x.adj.getD 0] ++ (match x.time with
          | some (s, n) => [s.extractLsb' 0 32, s.extractLsb' 32 16 |>.setWidth 32, BitVec.ofNat 32 n]
          | none => [])
      | none => []
    d.sendWords 2 ([d.atT 250, sec.extractLsb' 0 32, (sec.extractLsb' 32 16).setWidth 32, BitVec.ofNat 32 d.slc.tNs,
      d.slc.tStatus.setWidth 32, d.rd Reg.TSU_INCR, d.slc.tCal] ++ chg)
  else d

/-- TIME_SEND_BEFORE_FN0: the master's message every 1 ms before FN 0. Of two units that are to start together it is A
(R252: B's time base is locked to A's). -/
def execTimeSendBeforeFn0 (s : State) : Out :=
  s.upd fun c d =>
    if c.twin && d.boot.stage == .locked && d.twin.outcome == 2 && !d.unitB then
      d.sendWords 2 [d.ft, d.clk.sec.extractLsb' 0 32, (d.clk.sec.extractLsb' 32 16).setWidth 32,
        BitVec.ofNat 32 d.ptpNs, d.timeStatus, d.rd Reg.TSU_INCR, d.rd Reg.RTC_CALSTATE]
    else d

/-- The follower steers by up to ±20 ppm; the law is not stated: STEER, in 0.01 ppm, is a free value in that range. -/
def Dyn.steer (d : Dyn) (base : Word) : Dyn :=
  let (w, d) := d.fresh
  let st := max (-2000) (min 2000 w.toInt)
  let (q, d) := d.roundFree ((base.toNat : Int) * st) (10 ^ 8)
  (d.put F.TSU_TWIN_STEER (st % 65536).toNat).loadIncr (base + BitVec.ofInt 32 q)

/-- The follower copies the master's calendar state (R375); an offset risen by one at a leap second marks the inserted
second (R373). -/
def Dyn.copyCal (d : Dyn) (cal : Word) (sec : BitVec 48) : Dyn :=
  let up := cal.bit 23 && cal.field 24 8 == d.get F.RTC_CALSTATE_TAI_UTC + 1 && d.flag F.RTC_CALSTATE_TAI_SRC
  let d := d.wr Reg.RTC_CALSTATE cal
  if up then { d with rtc := { d.rtc with leap := some sec } } else d

/-- The PTP time is set to the master's `t` ns; the compare units follow (R350, R362). -/
def Dyn.lockPtp (c : Cfg) (d : Dyn) (t : Nat) : Dyn :=
  let d : Dyn := { d with clk := { d.clk with sec := BitVec.ofNat 48 (t / 10 ^ 9), ns24 := t % 10 ^ 9 * 2 ^ 24 } }
  (List.range 32).foldl (fun d u => d.retarget c u) d

/-- TIME_MESSAGE: at the follower (R361, R362). Its first message sets FT and PTP time to the master's, corrected for the
latency of the lane; a frame's message is sent 250 ns after its T. It then steers, which moves both times alike: a PTP time
that is off by another amount than FT, as after FN 0, is set again (log entry 117). A locked follower above 50 ns for 8 frames
gives up with CLOCK_MONITOR. -/
def execTimeMessage (msg : TimeMsg) (s : State) : Out :=
  s.upd fun c d => d.received c 2 msg.hdr fun d =>
    let d := d.captureSrc c 8 0
    let d : Dyn := { d with twin := { d.twin with timeFn := some msg.hdr.fn } }
    if !d.follower then d
    else
      let lat := d.get (if msg.hdr.lane1 then F.SHL_LAT_LANE1_NS else F.SHL_LAT_LANE0_NS)
      let ofs := (d.ft - BitVec.ofNat 32 lat - msg.masterFt).toInt
      let frames := d.boot.stage == .running || d.role == 4
      let time : Nat := msg.sec.toNat * 10 ^ 9 + msg.ns + (if frames then 250 else 0) + lat
      let apart := (d.ptpTotal : Int) - (time : Int) - ofs
      let first := !d.tsu.lockSet
      let d : Dyn := if first then
          let ft := (d.clk.ft : Int) - ofs * 2 ^ 24
          { d with clk := { d.clk with ft := (ft % 2 ^ 56).toNat + d.clk.ft / 2 ^ 56 * 2 ^ 56 },
                   tsu := { d.tsu with lockSet := true, lockGood := 0, lockBad := 0 } }
        else
          let good := if ofs.natAbs ≤ 10 then d.tsu.lockGood + 1 else 0
          let bad := if 50 < ofs.natAbs then d.tsu.lockBad + 1 else 0
          { d with tsu := { d.tsu with lockGood := good, lockBad := bad } }
      let d := if first || decide (10 < apart.natAbs) then d.lockPtp c time else d
      let d := d.put F.TSU_TWIN_OFFSET (satTo 16 ofs % 65536).toNat
      let d := d.steer msg.incr
      let d := d.setServo c (msg.status.toNat / 2 ^ 13)
      let d := if msg.status.getLsbD 12 then d.setFlag F.TSU_STATUS_SEEDED true else d
      let d : Dyn := { d with tsu := { d.tsu with master := some (msg.sec, msg.ns, msg.status, msg.hdr.fn),
                                                   apply := msg.change } }
      let d := d.copyCal msg.calState msg.sec
      if d.get F.TSU_STATUS_TWIN = 3 && decide (8 ≤ d.tsu.lockBad) then d.hardwareFault c 0x25 else d

/-! PTP (R355–R357). PTP_STATE: 0 DISABLED, 1 LISTENING, 2 MASTER, 3 PASSIVE, 4 UNCALIBRATED, 5 SLAVE, 6 FAULTY. The default
best master clock algorithm and its states are those of IEEE 1588 (PRESUMED, log entry 117). -/

/-- The role of this unit's ports: of a twin only the time master runs PTP as the image says; a unit that is neither master
nor follower is SLAVE_ONLY (R359). -/
def Dyn.ptpRole (c : Cfg) (d : Dyn) : Nat :=
  let role := c.get F.TSU_CFG_ROLE
  if role ≠ 0 && c.twin && !d.timeMaster c then 1 else role

/-- The ports start: MASTER_ONLY as MASTER, else listening. -/
def Dyn.ptpStart (c : Cfg) (d : Dyn) : Dyn :=
  match d.ptpRole c with
  | 0 => d
  | 3 => d.put F.TSU_STATUS_PTP_STATE 2
  | _ => d.put F.TSU_STATUS_PTP_STATE 1

/-- The unit that is to drive time does so, a follower without a step, its servo in HOLDOVER (R362), or EXTERNAL where the
image says so. -/
def Dyn.takeTime (c : Cfg) (d : Dyn) : Dyn :=
  if !d.timeMaster c then d
  else
    let f := d.follower
    let d := d.put F.TSU_STATUS_TWIN 1
    let d := if f then ((d.setServo c (if d.servo = 4 then 4 else 3)).put F.TSU_TWIN_STEER 0).ptpStart c else d
    if d.ptpRole c = 3 && d.get F.TSU_STATUS_PTP_STATE = 1 then d.put F.TSU_STATUS_PTP_STATE 2 else d

/-- The master of the followed port. -/
def Dyn.masterOf (d : Dyn) (lanB : Bool) : Option (BitVec 64 × Nat) := if lanB then d.tsu.masterB else d.tsu.masterA
def Dyn.setMaster (d : Dyn) (lanB : Bool) (m : Option (BitVec 64 × Nat)) : Dyn :=
  { d with tsu := if lanB then { d.tsu with masterB := m } else { d.tsu with masterA := m } }

/-- The port to follow: the one whose master the algorithm places first. -/
def Dyn.bestPort (d : Dyn) : Option Bool :=
  match d.tsu.masterA, d.tsu.masterB with
  | some a, some b => some (decide (b.2 < a.2))
  | some _, none => some false
  | none, some _ => some true
  | none, none => none

/-- Follow a port: its master, its path delay, and the state that goes with the servo. -/
def Dyn.follow (d : Dyn) (lanB : Bool) : Dyn :=
  let gm := ((d.masterOf lanB).map (·.1)).getD 0
  let d := d.setFlag F.TSU_STATUS_PORT lanB
  let d : Dyn := { d.wr Reg.TSU_GM_LO (gm.extractLsb' 0 32) with tsu := { d.tsu with gmHi := gm.extractLsb' 32 32 } }
  let d := d.wr Reg.TSU_PATH (BitVec.ofNat 32 (if lanB then d.tsu.pathB else d.tsu.pathA))
  d.put F.TSU_STATUS_PTP_STATE (if d.servo == 2 then 5 else 4)

/-- The firmware servo writes an APPLY through the staging registers, when none is pending. -/
def Dyn.servoApply (c : Cfg) (d : Dyn) (a : Nat) (v cmd : Word) : Dyn :=
  if d.tsu.apply.isSome then d else (d.wr a v).tsuCmd c true cmd

/-- One Sync at the servo of the slave clock (R357): a step above STEP_THRESH, else a new increment (the law is not
stated: a free value in the range of R339). A step that ADJ_TIME cannot hold is one by SET_TIME (R358, log entry 117). -/
def Dyn.servoSync (c : Cfg) (d : Dyn) (ofs : Int) : Dyn :=
  let d := d.wr Reg.TSU_OFFSET (BitVec.ofInt 32 (max (-(2 ^ 31 - 1)) (min (2 ^ 31 - 1) ofs)))
  if c.flag F.TSU_CFG_SERVO then d
  else if 10 ^ (c.get F.TSU_CFG_STEP_THRESH) * 1000 < ofs.natAbs then
    let d := if satTo 32 (-ofs) = -ofs then d.servoApply c Reg.TSU_ST_ADJ (BitVec.ofInt 32 (-ofs)) 0x41
      else if d.tsu.apply.isSome then d
      else d.firmwareSet c ((d.ptpTotal : Int) - ofs).toNat
    ({ d with tsu := { d.tsu with servoGood := 0 } } : Dyn).setServo c 1
  else
    let (w, d) := d.fresh
    let d := d.servoApply c Reg.TSU_ST_INCR
      (BitVec.ofNat 32 (max 33520878 (min 33587986 w.toNat))) 0x11
    let good := if ofs.natAbs ≤ 1000 then d.tsu.servoGood + 1 else 0
    let d : Dyn := { d with tsu := { d.tsu with servoGood := good } }
    if 8 ≤ good then (d.setServo c 2).put F.TSU_STATUS_PTP_STATE 5
    else (d.setServo c 1).put F.TSU_STATUS_PTP_STATE 4

/-- TAI_UTC follows the offset of the followed master while it is valid and the servo is LOCKED (R373). A change by one second
at the same grandmaster (`same`) is that of a leap second, and waits for LEAP_SECOND (log entry 117). -/
def Dyn.followUtc (d : Dyn) (utc : Option (BitVec 8)) (same : Bool) : Dyn :=
  match utc with
  | some v =>
    let old := d.get F.RTC_CALSTATE_TAI_UTC
    let leap := same && d.flag F.RTC_CALSTATE_TAI_SRC && (old == v.toNat + 1 || v.toNat == old + 1)
    if d.servo == 2 && !leap then (d.put F.RTC_CALSTATE_TAI_UTC v.toNat).setFlag F.RTC_CALSTATE_TAI_SRC true else d
  | none => d.setFlag F.RTC_CALSTATE_TAI_SRC false

/-- An Announce on a port: the port keeps a better master of its own. -/
def Dyn.heard (d : Dyn) (lanB : Bool) (gm : BitVec 64) (ds : Nat) : Dyn :=
  match d.masterOf lanB with
  | some (g, k) => if g != gm && decide (k ≤ ds) then d else d.setMaster lanB (some (gm, ds))
  | none => d.setMaster lanB (some (gm, ds))

/-- An Announce is evaluated: a clock of class 1 to 127 that is not the best is PASSIVE; one that is, MASTER; else the ports'
best master is followed. -/
def Dyn.announced (c : Cfg) (d : Dyn) (lanB : Bool) (gm : BitVec 64) (ds : Nat) (better : Bool) (utc : Option (BitVec 8)) : Dyn :=
  let auto := d.ptpRole c = 2
  if auto && !better then (if d.bestPort.isNone then d.put F.TSU_STATUS_PTP_STATE 2 else d)
  else if auto && decide (1 ≤ c.get F.TSU_PTP_CFG_CLOCK_CLASS ∧ c.get F.TSU_PTP_CFG_CLOCK_CLASS ≤ 127) then d.put F.TSU_STATUS_PTP_STATE 3
  else
    let was := d.tsu.gmHi ++ d.rd Reg.TSU_GM_LO
    let d := d.heard lanB gm ds
    match d.bestPort with
    | some p =>
      let d := if p == lanB && (d.masterOf p).any (fun m => m.1 == gm) then d.followUtc utc (was == gm) else d
      let d := if d.servo == 0 || d.servo == 3 then d.setServo c (if c.flag F.TSU_CFG_SERVO then 4 else 1) else d
      d.follow p
    | none => d

/-- A message this port sends (R355), with its stamp: as MASTER, Sync (0), with its time or, two-step, followed by Follow_Up (8),
and Announce (11); else a delay request (1 or 2). -/
def Dyn.ptpSend (c : Cfg) (d : Dyn) (lanB : Bool) (body : PtpBody) (stamp : Int) : Dyn :=
  let send := fun (d : Dyn) (kind : Nat) (ws : List Word) =>
    d.send (.ptp lanB (c.flag F.TSU_CFG_UDP) kind (BitVec.ofNat 32 (c.get F.TSU_PTP_CFG_DOMAIN) :: ws))
  let time := [BitVec.ofInt 32 (stamp / 10 ^ 9), BitVec.ofInt 32 (stamp / 10 ^ 9 / 2 ^ 32), BitVec.ofInt 32 (stamp % 10 ^ 9)]
  let master := d.get F.TSU_STATUS_PTP_STATE == 2
  match body with
  | .sync _ _ =>
    if !master then d
    else if c.flag F.TSU_CFG_TWO_STEP then send (send d 0 []) 8 time
    else send d 0 time
  | .announce _ _ _ _ =>
    if master then
      send d 11 [BitVec.ofNat 32 (c.get F.TSU_PTP_CFG_PRIORITY1), BitVec.ofNat 32 (c.get F.TSU_PTP_CFG_CLOCK_CLASS),
        BitVec.ofNat 32 (c.get F.TSU_PTP_CFG_PRIORITY2), 0xA0, BitVec.ofNat 32 (d.get F.RTC_CALSTATE_TAI_UTC)]
    else d
  | .event => send d (if c.get F.TSU_CFG_PROFILE = 0 then 1 else 2) []
  | .delay _ => d

/-- PTP_MESSAGE: time-stamped at the PHY and corrected, which the capture units of its source take (R352); a follower's ports
listen only (R359). -/
def execPtpMessage (msg : PtpMsg) (s : State) : Out :=
  s.upd fun c d =>
    let lat := if msg.lanB then Reg.TSU_PHY_LAT_B else Reg.TSU_PHY_LAT_A
    let corr : Int := if msg.sent then ((c.rd lat).field 16 16 : Nat) else -(((c.rd lat).field 0 16 : Nat) : Int)
    let src := (if msg.lanB then 4 else 2) + b2n msg.sent
    let role := d.ptpRole c
    let quiet := role = 0 || d.follower
    let sent := msg.sent && (msg.body.isEvent || msg.body.fromMaster)
    if sent && (quiet || (msg.body.fromMaster && d.get F.TSU_STATUS_PTP_STATE ≠ 2)) then d
    else
    let d := d.advTo msg.at_
    let d := if msg.body.isEvent then d.captureSrc c src corr else d
    let stamp := (d.ptpTotal : Int) + corr
    if sent then d.ptpSend c msg.lanB msg.body stamp
    else if role = 0 || msg.domain ≠ c.get F.TSU_PTP_CFG_DOMAIN then d
    else
      match msg.body with
      | .event => d
      | .delay path =>
        let d : Dyn := { d with tsu := if msg.lanB then { d.tsu with pathB := path } else { d.tsu with pathA := path } }
        if d.flag F.TSU_STATUS_PORT == msg.lanB then d.wr Reg.TSU_PATH (BitVec.ofNat 32 path) else d
      | .announce gm ds better utc =>
        if d.follower || role = 3 then d else d.announced c msg.lanB gm ds better utc
      | .sync origin corrNs =>
        if d.follower || role = 3 || (d.masterOf msg.lanB).isNone || d.flag F.TSU_STATUS_PORT != msg.lanB then d
        else
          let path := if msg.lanB then d.tsu.pathB else d.tsu.pathA
          d.servoSync c (stamp - origin - corrNs - path)

/-- ANNOUNCE_RECEIPT_TIMEOUT: no master was heard, and an AUTO port becomes MASTER; or the port's master fell silent. The clock changes to the other port without a step, or the
servo reports HOLDOVER and freezes TSU_INCR at its mean over the last 64 s (R356, R357). -/
def execAnnounceReceiptTimeout (lanB : Bool) (s : State) : Out :=
  s.upd fun c d =>
    if d.follower then d
    else if (d.masterOf lanB).isNone then
      if d.ptpRole c = 2 && d.bestPort.isNone && [1, 3].contains (d.get F.TSU_STATUS_PTP_STATE) then d.put F.TSU_STATUS_PTP_STATE 2
      else d
    else
      let d := d.setMaster lanB none
      if d.flag F.TSU_STATUS_PORT != lanB then d
      else match d.bestPort with
        | some p => d.follow p
        | none =>
          let d := d.put F.TSU_STATUS_PTP_STATE (if d.ptpRole c = 1 then 1 else 2)
          if c.flag F.TSU_CFG_SERVO then d
          else
            let (w, d) := d.meanIncr
            (d.loadIncr w).setServo c 3

/-! Pulse per second (R364) and the wrap of FT (R363). -/

/-- PPS_OUT_RISE: PTP time reaches a whole second plus PPS_OFS; at most one pulse for each value of the seconds. -/
def execPpsOutRise (s : State) : Out :=
  s.upd fun c d =>
    if !c.flag F.TSU_PPS_CFG_EN || (c.flag F.TSU_PPS_CFG_GATE_LOCKED && d.servo != 2) then d
    else
      let ofs := c.get F.TSU_PPS_OFS_NS
      let d := d.ticks (d.cyclesFor ((ofs + 10 ^ 9 - d.ptpNs % 10 ^ 9) % 10 ^ 9))
      if d.tsu.ppsDone.contains d.clk.sec then d
      else { d with tsu := { d.tsu with ppsOut := true, ppsAt := d.now, ppsDone := d.clk.sec :: d.tsu.ppsDone } }

/-- PPS_OUT_FALL: after WIDTH. -/
def execPpsOutFall (s : State) : Out :=
  s.upd fun c d =>
    if d.tsu.ppsOut then
      let d := d.advTo (BitVec.ofNat 32 (d.tsu.ppsAt + c.get F.TSU_PPS_CFG_WIDTH * 1000))
      { d with tsu := { d.tsu with ppsOut := false } }
    else d

/-- The wrap entries of the compatibility mode, with FT 0; the spec gives them no VALUE (a free value). -/
def Dyn.wrapEvents (c : Cfg) (d : Dyn) : Dyn :=
  let n := d.tsu.wraps
  let d : Dyn := if n = 0 then d else { d with tsu := { d.tsu with wraps := 0 } }
  if c.flag F.TSU_CFG_COMPAT && c.flag F.TSU_CFG_WRAP_EVT then
    (List.range n).foldl (fun (d : Dyn) _ =>
      let (v, d) := d.fresh
      d.post c (c.get F.TSU_CFG_WRAP_POLDER) 6 (c.get F.TSU_CFG_WRAP_TASK) 0x100 0 v) d
  else d

/-- FT_WRAP: a wrap that other commands have passed is reported; without one FT counts on to its next. -/
def execFtWrap (s : State) : Out :=
  s.upd fun c d =>
    let incr := (d.rd Reg.TSU_INCR).toNat
    let d := if incr = 0 || d.tsu.wraps ≠ 0 then d else d.ticks ((2 ^ 56 - d.clk.ft % 2 ^ 56 + incr - 1) / incr)
    d.wrapEvents c

end Sys2Proof.Machine
end

