-- ==== Sys2Proof/Machine/Rtc.lean ====
section
/-! DEFINITION. The real-time clock (R367–R384): trim, commands, the step with PTP, the square wave and the backup
supply. -/

namespace Sys2Proof.Machine

/-- The RTC time (R369), in ticks since 2000-01-01, in 48 bits. -/
def Dyn.rtcTime (d : Dyn) : Nat := (d.rtc.epoch + d.rtc.tick).toNat

/-- RTC_STATUS.OUT_OF_RANGE (R371). -/
def Dyn.rtcBeyond (d : Dyn) : Bool := decide (endOf2199 * 32768 ≤ d.rtcTime)

/-- R379 is in force: the time status is LOCKED, or the unit is a locked follower of a LOCKED master. -/
def Dyn.ptpSync (d : Dyn) : Bool := d.servo == 2 && d.get F.TSU_STATUS_TWIN != 2

/-- The SQW pin (R380): a square wave of 2^SEL Hz that rises where RTC_TICK is a multiple of 2^(15 − SEL). -/
def Dyn.sqw (d : Dyn) : Bool :=
  let half := 2 ^ (15 - d.get F.RTC_SQW_SEL) * 250000000
  d.flag F.RTC_SQW_EN && (d.flag F.RTC_SQW_BACKUP_EN || !d.rtc.onBackup) &&
    decide ((d.rtc.tick.toNat * 500000000 + d.rtc.phase) % (2 * half) < half)

/-! Commands (R376, R377). -/

def Dyn.rtcStat (d : Dyn) (code status reason : Nat) : Dyn :=
  d.wr Reg.RTC_CMD_STAT (BitVec.ofNat 32 (reason * 256 + code * 16 + status))

/-- The command in hand has ended; LAST is that of the last one written, which may be one refused meanwhile. -/
def Dyn.rtcDone (d : Dyn) (status reason : Nat) : Dyn := d.rtcStat (d.get F.RTC_CMD_STAT_LAST) status reason

/-- A write of RTC_CMD. While a command is PENDING a further one is refused with BUSY, which RTC_CMD_STAT shows until the
first has taken effect (DEDUCED, log entry 112); codes that name no command are refused. -/
def Dyn.rtcWrite (d : Dyn) (w : Word) : Dyn :=
  let code := w.field 0 4
  if d.rtc.cmd.isSome || d.rtc.hour.isSome then d.rtcStat code 3 1
  else if code = 0 || 5 < code then d.rtcStat code 3 0
  else { d.rtcStat code 1 0 with rtc := { d.rtc with cmd := some (code, w.field 16 8) } }

/-- The value RTC_TICK takes at the next tick. -/
def Rtc.nextTick (r : Rtc) : BitVec 48 :=
  let c := trimmed r.trim.toInt.natAbs (r.raw + 1) - trimmed r.trim.toInt.natAbs r.raw
  r.tick + BitVec.ofNat 48 (if r.trim.toInt < 0 then 1 - c else 1 + c)

/-- The staged UTC time. -/
def Dyn.staged (d : Dyn) : CalTime :=
  { year := d.get F.RTC_ST_DATE_YEAR, month := d.get F.RTC_ST_DATE_MONTH, day := d.get F.RTC_ST_DATE_DAY,
    hour := d.get F.RTC_ST_TIME_HOUR, minute := d.get F.RTC_ST_TIME_MINUTE, second := d.get F.RTC_ST_TIME_SECOND }

/-- SET_CAL with valid staged seconds `u`; the firmware sets PTP time to the same instant (R344). -/
def Dyn.setCal (c : Cfg) (d : Dyn) (u : Int) : Dyn :=
  let d : Dyn := { d with rtc := { d.rtc with epoch := BitVec.ofInt 48 (u * 32768) - d.rtc.nextTick } }
  let d := (d.setFlag F.RTC_STATUS_LOST false).setFlag F.RTC_STATUS_VALID true
  d.firmwareSet c ((ptpOfUtc (d.rd Reg.RTC_CALSTATE) u).toNat * 10 ^ 9)

/-- CLR_SWO; a switch-over in the same tick counts after the clearing (R383). -/
def Dyn.clearSwo (d : Dyn) : Dyn :=
  let d := (d.setFlag F.RTC_STATUS_SWO_FLAG false).put F.RTC_SWO_COUNT_COUNT 0
  if d.rtc.swoAt == some d.rtc.tick then
    { d.setFlag F.RTC_STATUS_SWO_FLAG true with rtc := { d.rtc with swoTick := d.rtc.tick } }
  else d

/-- The pending command is executed. -/
def Dyn.rtcExecute (c : Cfg) (d : Dyn) : Dyn :=
  match d.rtc.cmd with
  | none => d
  | some (code, arg) =>
    let d : Dyn := { d with rtc := { d.rtc with cmd := none } }
    let ofs := localOfs (d.rd Reg.RTC_CALSTATE)
    let second := (d.rtcTime / 32768 + 1) * 32768
    if code ≠ 5 && d.follower then d.rtcDone 3 5
    else match code with
      | 1 => if 56 < ofs + 4 then d.rtcDone 3 3 else { d with rtc := { d.rtc with hour := some (true, second) } }
      | 2 => if ofs - 4 < -56 then d.rtcDone 3 3 else { d with rtc := { d.rtc with hour := some (false, second) } }
      | 3 =>
        match d.staged.toSeconds with
        | .error e => d.rtcDone 3 (if e = 8 then 2 else 3)
        | .ok u => if d.servo = 2 || d.servo = 4 then d.rtcDone 3 4 else (d.setCal c u).rtcDone 2 0
      | 4 =>
        if d.flag F.RTC_CALSTATE_TAI_SRC then d.rtcDone 3 4
        else (d.put F.RTC_CALSTATE_TAI_UTC arg).rtcDone 2 0
      | _ => d.clearSwo.rtcDone 2 0

def rtcCommand (who : Requester) (w : Word) (s : State) : Out :=
  s.upd fun c d => d.gated c who Reg.RTC_CMD fun d => d.rtcWrite w

/-- ADD_HOUR written. -/
def execAddHour (who : Requester) (s : State) : Out := rtcCommand who 1 s
/-- SUB_HOUR written. -/
def execSubHour (who : Requester) (s : State) : Out := rtcCommand who 2 s
/-- SET_CAL written. -/
def execSetCal (who : Requester) (s : State) : Out := rtcCommand who 3 s
/-- SET_TAI_UTC written, with its ARG. -/
def execSetTaiUtc (who : Requester) (arg : BitVec 8) (s : State) : Out :=
  rtcCommand who (BitVec.ofNat 32 (arg.toNat * 65536 + 4)) s
/-- CLR_SWO written. -/
def execClrSwo (who : Requester) (s : State) : Out := rtcCommand who 5 s

/-- RTC_COMMAND_EXECUTION. -/
def execRtcCommandExecution (s : State) : Out := s.upd fun c d => d.rtcExecute c

/-- Fabric cycles until RTC_TICK has gained `n` ticks: the trim adds or drops at most 5 of 32,768 counts. -/
def Dyn.cyclesToTick (d : Dyn) (n : Nat) : Nat :=
  let cyc := fun k => (k * 500000000 - d.rtc.phase + 32767) / 32768
  let found := (List.range 16).find? fun i =>
    decide (n ≤ ((d.rtc.advance d.trimReg (cyc (n + i - 7))).tick - d.rtc.tick).toNat)
  cyc (n + found.getD 15 - 7)

/-- OFFSET_CHANGE: at the next whole UTC second of the RTC time after the execution. -/
def execOffsetChange (s : State) : Out :=
  s.upd fun _ d =>
    match d.rtc.hour with
    | none => d
    | some (up, t) =>
      let d := if d.rtcTime < t then d.ticks (d.cyclesToTick (t - d.rtcTime)) else d
      let ofs := localOfs (d.rd Reg.RTC_CALSTATE) + (if up then 4 else -4)
      let d := d.put F.RTC_CALSTATE_LOCAL_OFS (ofs % 256).toNat
      let d := d.setFlag F.RTC_CALSTATE_DST !(d.flag F.RTC_CALSTATE_DST)
      { d.rtcDone 2 0 with rtc := { d.rtc with hour := none } }

/-- RTC_TRIM_WRITE: a write of 0x80 has no effect; the trim counts from the next window on (R368). -/
def Dyn.trimWrite (d : Dyn) (w : Word) : Dyn :=
  if w.field 0 8 = 0x80 then d else d.put F.RTC_TRIM_TRIM (w.field 0 8)
def execRtcTrimWrite (who : Requester) (val : Word) (s : State) : Out :=
  s.upd fun c d => d.gated c who Reg.RTC_TRIM fun d => d.trimWrite val

/-! In step with PTP. -/

/-- UTC from PTP time, in ns since 2000-01-01. -/
def Dyn.utcNs (d : Dyn) : Int := utcOfPtp (d.rd Reg.RTC_CALSTATE) d.clk.sec.toNat * 10 ^ 9 + d.ptpNs

/-- RTC_REWRITE (R379): the difference, RTC time less UTC in ms, goes to the alarm servers. -/
def execRtcRewrite (s : State) : Out :=
  s.upd fun c d =>
    -- difference in 1/32,768 ns
    let diff := (d.rtcTime : Int) * 10 ^ 9 - d.utcNs * 32768
    if d.ptpSync && decide (10 ^ 9 * 16384 < diff.natAbs) then
      let ticks := d.utcNs * 32768 / 10 ^ 9
      let d : Dyn := { d with rtc := { d.rtc with epoch := BitVec.ofInt 48 ticks - d.rtc.tick } }
      let d := (d.setFlag F.RTC_STATUS_LOST false).setFlag F.RTC_STATUS_VALID true
      let d := d.bump F.RTC_REWRITES_COUNT
      let (ms, d) := d.roundFree diff (32768 * 10 ^ 6)
      d.alarm c 0x0701 0 (BitVec.ofInt 32 ms) 0
    else d

/-- LEAP_SECOND: the master's offset changes at the start of the inserted or deleted second, the next whole PTP second
(R373). -/
def execLeapSecond (utc : BitVec 8) (s : State) : Out :=
  s.upd fun _ d =>
    if d.servo = 2 && d.flag F.RTC_CALSTATE_TAI_SRC && !d.follower then
      let old := d.get F.RTC_CALSTATE_TAI_UTC
      let d := d.ticks (d.cyclesFor ((10 ^ 9 - d.ptpNs) % 10 ^ 9))
      let d := d.put F.RTC_CALSTATE_TAI_UTC utc.toNat
      if old < utc.toNat then { d with rtc := { d.rtc with leap := some d.clk.sec } } else d
    else d

/-- PTP time seeded from the RTC time (R378); a seed is no step of R347. -/
def Dyn.seed (d : Dyn) : Dyn :=
  if d.flag F.RTC_STATUS_VALID then
    let t := d.rtcTime
    let sec := (ptpOfUtc (d.rd Reg.RTC_CALSTATE) (t / 32768 : Nat)).toNat
    let (ns, d) := d.roundFree ((t % 32768 * 10 ^ 9 : Nat) : Int) 32768
    ({ d with clk := { d.clk with sec := BitVec.ofNat 48 sec, ns24 := ns.toNat * 2 ^ 24 } } : Dyn).setFlag F.TSU_STATUS_SEEDED true
  else d

/-! Backup supply. -/

/-- BACKUP_SWITCH_OVER (R383). -/
def execBackupSwitchOver (s : State) : Out :=
  s.always fun _ d =>
    let d := if d.flag F.RTC_STATUS_SWO_FLAG then d.bump F.RTC_SWO_COUNT_COUNT
      else { d.setFlag F.RTC_STATUS_SWO_FLAG true with rtc := { d.rtc with swoTick := d.rtc.tick } }
    { d with rtc := { d.rtc with swoAt := some d.rtc.tick, onBackup := true } }

/-- TIME_LOST (R382): seen at the next start. -/
def execTimeLost (s : State) : Out := s.always fun _ d => { d with rtc := { d.rtc with lost := true } }

/-- The always-on domain at a start: a loss of retention restarts the ticks, with LOST set, and the calendar state comes
from the image once there is one (R372, R382). The spec gives no values for what else the domain held: the trim, the
square wave and the switch-over record take those of `State.reset` (DESIGN CHOICE, log entry 5). -/
def Dyn.rtcStart (d : Dyn) : Dyn :=
  let d := ((d.wr Reg.RTC_STATUS (d.rd Reg.RTC_STATUS &&& 0x25)).setFlag F.RTC_CALSTATE_TAI_SRC false)
  let d := (d.wr Reg.RTC_CMD_STAT 0).wr Reg.RTC_REWRITES 0
  let d := ((d.wr Reg.RTC_ST_DATE 0).wr Reg.RTC_ST_TIME 0).wr Reg.RTC_BACKUP 0
  if d.rtc.lost then
    let d := ((d.wr Reg.RTC_STATUS 4).wr Reg.RTC_TRIM 0).wr Reg.RTC_SQW 0
    let d := ((d.wr Reg.RTC_TICK_HI 0).wr Reg.RTC_EPOCH_HI 0).wr Reg.RTC_SWO_TICK_HI 0
    { d.wr Reg.RTC_SWO_COUNT 0 with rtc := { Rtc.init with needCal := true } }
  else { d with rtc := { d.rtc with cmd := none, hour := none, onBackup := false, leap := none } }

/-- The calendar state of the TIME section, when the time was lost (R372). -/
def Dyn.rtcDefaults (c : Cfg) (d : Dyn) : Dyn :=
  if d.rtc.needCal then
    { d.wr Reg.RTC_CALSTATE (c.img.calState &&& 0xFF0100FF) with rtc := { d.rtc with needCal := false } }
  else d

/-- CELL_MEASUREMENT: below 2.4 V, or absent, the cell is low; from 2.6 V on it is not; between the limits of the
threshold the bit is a free value (R381). -/
def execCellMeasurement (mv : BitVec 16) (s : State) : Out :=
  s.upd fun _ d =>
    let d := d.put F.RTC_BACKUP_CELL_MV mv.toNat
    let n := mv.toNat
    if n < 2400 then d.setFlag F.RTC_STATUS_CELL_LOW true
    else if 2600 ≤ n then d.setFlag F.RTC_STATUS_CELL_LOW false
    else let (w, d) := d.fresh; d.setFlag F.RTC_STATUS_CELL_LOW (w.bit 0)

end Sys2Proof.Machine
end

