-- ==== Sys2Proof/Machine/Services.lean ====
section
/-! DEFINITION. The system services (R150–R152). A service reads its parameter block, checks its arguments, and answers
a result, or a status code: 1 NOT_OWNED, 2 BAD_ARG, 3 BUSY, 4 EMPTY, 5 FULL, 6 MEM_BOUNDS, 7 OUT_OF_RANGE,
8 CAL_INVALID. -/

namespace Sys2Proof.Machine

/-- A service of polder `p` called by task `k`, with WA, the index of its block and the block's words. -/
abbrev Service := Cfg → Dyn → Nat → Nat → Word → Nat → List Word → Dyn × Except Nat Word

abbrev notOwned : Except Nat Word := .error 1
abbrev badArg : Except Nat Word := .error 2
abbrev outside : Except Nat Word := .error 6

/-- Words `first … first + n - 1` lie within the polder's window. -/
def Cfg.inWindow (c : Cfg) (p : Nat) (first : Int) (n : Nat) : Bool := decide (0 ≤ first ∧ first + n ≤ c.words p)

def Dyn.block (c : Cfg) (d : Dyn) (p a n : Nat) : List Word := (List.range n).map fun i => d.mword c p (a + i)

def Dyn.store (c : Cfg) (d : Dyn) (p a : Nat) (ws : List Word) : Dyn :=
  ((List.range ws.length).foldl (fun d i => d.setMword c p (a + i) (ws.getD i 0)) d)

/-- The call (R150): `n` block words, MEM_BOUNDS when they do not lie within the window. -/
def serve (n : Nat) (f : Service) : Effect := fun c d p t =>
  let k := ((d.polder p).current.map (·.1)).getD 0
  let a := t.wa.toInt
  if n ≠ 0 && !c.inWindow p a n then goOn d { t with la := false, wa := 6 }
  else
    match f c d p k t.wa a.toNat (d.block c p a.toNat n) with
    | (d, .ok w) => goOn d { t with la := true, wa := w }
    | (d, .error e) => goOn d { t with la := false, wa := BitVec.ofNat 32 e }

/-- Word `i` of the block. -/
abbrev arg (b : List Word) (i : Nat) : Word := b.getD i 0

/-! Tasks and arithmetic. -/

/-- EVQ_POP: an event task pops its own entries, the cyclic task those bound to no task (R148). -/
def svcEvqPop : Service := fun c d p k _ a _ =>
  let mine := fun (e : EvEntry) => if k = 0 then e.task == 15 else if k ≤ 8 then e.task == k - 1 else false
  match (d.polder p).evq.find? mine with
  | none => (d, .error 4)
  | some e =>
    let w0 : Word := BitVec.ofNat 32 (e.kind * 2 ^ 24 + e.slot * 2 ^ 20 + e.task * 2 ^ 16 + e.source)
    ((d.setPolder p fun s => { s with evq := s.evq.eraseP mine }).store c p a [w0, e.ft, e.value, e.fn], .ok 0)

/-- ERR_INFO: the error task alone reads causes (R148). -/
def svcErrInfo : Service := fun _ d p k _ _ _ =>
  match (d.polder p).causes, k with
  | x :: l, 9 => (d.setPolder p fun s => { s with causes := l }, .ok (BitVec.ofNat 32 x))
  | _, _ => (d, .error 4)

def svcFlags : Service := fun _ d p _ _ _ _ =>
  let s := d.polder p
  (d.setPolder p fun s => { s with sat := false, divz := false }, .ok (BitVec.ofNat 32 (b2n s.sat + 2 * b2n s.divz)))

def svcQmul : Service := fun _ d p _ _ _ b =>
  let (w, d) := d.arith p (rnd ((arg b 0).toInt * (arg b 1).toInt) (2 ^ 16))
  (d, .ok w)

def svcStx : Service := fun c d p _ _ _ b =>
  let i := (arg b 0).toInt + (arg b 1).toInt
  if c.inWindow p i 1 then (d.setMword c p i.toNat (arg b 2), .ok 0) else (d, outside)

/-- BUDGET: the logic budget left after this call, which is charged already. -/
def svcBudget : Service := fun _ d p _ _ _ _ => (d, .ok (BitVec.ofNat 32 (d.polder p).bLogic))

/-! Loop contexts (R202, R207–R209). -/

def Cfg.ownsLoop (c : Cfg) (p k : Nat) : Bool :=
  decide (k < 128) && c.flag (F.LPE_CFG_CONFIGURED k) && c.get (F.LPE_CFG_OWNER k) == p

/-- The conditions of R208 and the formats of R207 on a write of `code`, given the items as they would stand. -/
def Cfg.loopOk (c : Cfg) (k code : Nat) (it : Nat → Int) : Bool :=
  let h := c.loopH k
  let v := it code
  let g := c.loopCfg k
  let rateOk := fun (code : Nat) => decide (0 ≤ it code) &&
    (it code == 0 || decide (0 < coefRate (it code) h ∧ coefRate (it code) h < 2 ^ 47))
  let bank := fun (b : Nat) =>
    let kp := it b; let ki := it (b + 1); let kd := it (b + 2); let n := it (b + 3)
    decide (0 ≤ kp ∧ 0 ≤ ki ∧ 0 ≤ kd ∧ ¬ (0 < kd ∧ kp = 0) ∧ 2 ≤ n ∧ n ≤ 32) &&
      decide (coefCI ki h < 2 ^ 48 ∧ coefCB kp kd n.toNat h < 2 ^ 47 ∧ 0 < it (b + 4)) &&
      !(code == b + 4 && g.backCalc && decide (v * 10 ^ 6 < h * 65536))
  let accOk := decide (0 ≤ it 0x10) && (it 0x10 == 0 || decide (0 < coefA (it 0x10) h ∧ coefA (it 0x10) h < 2 ^ 47))
  if code = 0x01 then decide (0 ≤ v ∧ v ≤ 3) && (v != 2 || (c.primaryOf k).isSome)
  else if code = 0x02 then it 0x01 != 2
  else if code = 0x08 ∨ code = 0x09 then decide (it 0x09 < it 0x08)
  else if code = 0x0C ∨ code = 0x0D then decide (it 0x0D ≤ it 0x0C)
  else if code = 0x0A ∨ code = 0x0B ∨ code = 0x0E ∨ code = 0x0F then rateOk code
  else if code = 0x10 then accOk
  else if code = 0x12 then decide (0 ≤ v ∧ v ≤ 256)
  else if 0x20 ≤ code && code ≤ 0x24 then bank 0x20
  else if 0x28 ≤ code && code ≤ 0x2C then bank 0x28
  else true

def svcLoopWrite : Service := fun c d p _ _ _ b =>
  let k := (arg b 0).toNat
  let code := (arg b 1).toNat
  let l := d.loop k
  let base := bankBase l.bankB
  if !c.ownsLoop p k then (d, notOwned)
  else if !writableItems.contains code then (d, badArg)
  else if base ≤ code && code ≤ base + 4 then (d, .error 3)
  else if c.loopOk k code (fun x => if x = code then (arg b 2).toInt else (l.latest x).toInt) then
    (d.setLoop k fun l => { l with writes := l.writes.filter (fun w => w.1 != code) ++ [(code, arg b 2)] }, .ok 0)
  else (d, badArg)

/-- The value of an item after the last evaluation, or as written since. -/
def Loop.readItem (l : Loop) (code : Nat) : Option Word :=
  if writableItems.contains code then some (l.latest code)
  else match code with
    | 0x30 => some (l.reg 0x20)
    | 0x31 => some (BitVec.ofInt 32 (satTo 32 (rnd l.i 256)))
    | 0x32 => some l.u
    | 0x33 => some l.pv
    | 0x34 => some l.v
    | 0x35 => some (l.reg 0x2C)
    | 0x36 => some (l.reg 0x30)
    | 0x37 => some l.e
    | 0x38 => some l.status
    | 0x39 => some (l.reg 0x3C)
    | 0x3A => some (l.reg 0x40)
    | 0x3B => some (BitVec.ofNat 32 (b2n l.bankB))
    | _ => none

def svcLoopRead : Service := fun c d p _ _ _ b =>
  let k := (arg b 0).toNat
  if !c.ownsLoop p k then (d, notOwned)
  else match (d.loop k).readItem (arg b 1).toNat with
    | some w => (d, .ok w)
    | none => (d, badArg)

/-- LOOP_BANK: a request for the active bank clears a pending one. -/
def svcLoopBank : Service := fun c d p _ _ _ b =>
  let k := (arg b 0).toNat
  if !c.ownsLoop p k then (d, notOwned)
  else if 1 < (arg b 1).toNat then (d, badArg)
  else (d.setLoop k fun l => { l with swap := (arg b 1).bit 0 != l.bankB }, .ok 0)

/-! Solver (R218, R222, R240). -/

def Cfg.ownsSlot (c : Cfg) (p s : Nat) : Bool := decide (s < 8) && c.slvUsed s && c.get (F.SLV_CFG_OWNER s) == p

/-- SLV_SUBMIT: the measurements are captured, the deadline is T + offset. -/
def svcSlvSubmit : Service := fun c d p _ _ _ b =>
  let s := (arg b 0).toNat
  let ofs := (arg b 1).toNat
  if !c.ownsSlot p s then (d, notOwned)
  else if ofs < 1000 || 10 ^ 9 < ofs then (d, badArg)
  else if (d.slot s).job.busy then (d, .error 3)
  else
    let ms := (c.template s).meas
    let ws := ms.map fun m => if m.fromView then d.viewWord p m.index else d.mword c p m.index
    let fn := d.viewWord p 0x250
    let d := d.setJob s fun _ =>
      { Job.init with state := 1, at_ := d.now - d.sinceT + d.laneNs p, meas := ws, fn := fn, frame := d.latches, offset := ofs,
                      left := rangeCost ms.length }
    let d := d.put (F.SLV_JOB_CYC_CYCLES s) 0
    (d.wr (Reg.SLV_JOB_DL s) (d.slc.tFt + BitVec.ofNat 32 ofs), .ok fn)

/-- The record of slot `s` in the view of `p`, whole. -/
def Dyn.viewRec (c : Cfg) (d : Dyn) (p s : Nat) : List Word :=
  (List.range (c.recLen s)).map (recWord (sget [] (d.polder p).slvView s))

def svcSlvRead : Service := fun c d p _ _ _ b =>
  let s := (arg b 0).toNat
  let first := (arg b 1).toNat
  let n := (arg b 2).toNat
  let dst := (arg b 3).toInt
  let used := decide (s < 8) && c.slvUsed s
  let countOk := n != 0 && decide (first + n ≤ c.recLen s)
  if n ≠ 0 && !c.inWindow p dst n then (d, outside)
  else if !(used && c.inClass p (32 * (0x284 + s)) == 1) then (d, notOwned)
  else if !countOk then (d, badArg)
  else
    let r := d.viewRec c p s
    (d.store c p dst.toNat ((r.drop first).take n), .ok (recWord r 0))

def svcSlvCancel : Service := fun c d p _ _ _ b =>
  let s := (arg b 0).toNat
  if !c.ownsSlot p s then (d, notOwned)
  else if !(d.slot s).job.busy then (d, .error 4)
  else (d.cancelJob c s, .ok 0)

/-! Queues (R403, R404, R432). -/

def svcQSend : Service := fun c d p _ _ _ b =>
  let q := (arg b 0).toNat
  let n := (arg b 1).toNat
  let src := (arg b 2).toInt
  if n ≠ 0 && !c.inWindow p src n then (d, outside)
  else if !(q < 128 && c.queueUsed q && c.qOwner q == p) then (d, notOwned)
  else
    let ws := d.block c p src.toNat n
    if n = 0 || c.qWords q < n || c.qReceive q || (c.qKind q == 0 && !c.canMessage q ws) then (d, badArg)
    else match d.qSend c q ⟨0, ws⟩ with
      | (d, true) => (d, .ok 0)
      | (d, false) => (d, .error 5)

def svcQRecv : Service := fun c d p _ _ _ b =>
  let q := (arg b 0).toNat
  let n := (arg b 1).toNat
  let dst := (arg b 2).toInt
  let internal := c.qKind q == 2
  if n ≠ 0 && !c.inWindow p dst n then (d, outside)
  else if !(q < 128 && c.queueUsed q && (c.qOwner q == p || (internal && c.qPeer q == p))) then (d, notOwned)
  else if !(internal || c.qReceive q) then (d, badArg)
  else if internal && c.qOwner q == p then (d, notOwned)
  else if d.qVisible p q = 0 then (d, .error 4)
  else match (d.queue q).done with
    | [] => (d, .error 4)
    | e :: l =>
      let ws := e.words.take n
      ((d.setQueue q fun x => { x with done := l }).store c p dst.toNat ws, .ok (BitVec.ofNat 32 ws.length))

/-- Q_FILL: a receiver counts the entries it sees, the owner of a queue it feeds those that its view and its own calls
give. -/
def svcQFill : Service := fun c d p _ _ _ b =>
  let q := (arg b 0).toNat
  if !(q < 128 && c.queueUsed q) then (d, notOwned)
  else if c.qKind q == 2 && c.qPeer q == p then (d, .ok (BitVec.ofNat 32 (d.qVisible p q)))
  else if c.qOwner q != p then (d, notOwned)
  else (d, .ok (BitVec.ofNat 32 (if c.qReceive q then d.qVisible p q else sget 0 (d.polder p).fillView q)))

/-! Channels and journal (R299, R313, R336, R450). -/

def svcChanDiag : Service := fun c d p _ _ _ b =>
  let n := (arg b 1).toNat
  match (arg b 0).toNat with
  | 0 =>
    if 95 < n then (d, badArg)
    else if c.inClass p (32 * (8 + n)) ≠ 1 then (d, notOwned)
    else
      let cfg := c.rd (Reg.DIO_CFG n) &&& 0x07FFC000
      let safe := c.get (F.DIO_OCFG_SAFE n) * 256 + b2n (c.pairDo n) * 128
      (d, .ok (cfg ||| BitVec.ofNat 32 safe ||| (d.viewWord p (8 + n) &&& 0x80000000)))
  | 1 =>
    if 31 < n then (d, badArg)
    else if c.inClass p (32 * (0x220 + n)) ≠ 1 then (d, notOwned)
    else
      let cfg := c.rd (Reg.AIO_CFG n) &&& 0x07FFFFF0
      let low := b2n (c.pairAo n) * 2 + c.get (F.AIO_OCFG_SAFE n)
      (d, .ok (cfg ||| BitVec.ofNat 32 low ||| (d.viewWord p (0x220 + n) &&& 0x80000000)))
  | _ => (d, badArg)

/-- The group of input `n` recovers, as the view of `p` shows it: some of its channels are released and some are not
(R310). In a twin the inputs of one merge rule are compared, because FIRST_VALID shows the other unit's inputs beside the
outputs of a unit in lockout (log entry 106). -/
def Dyn.recoveringView (c : Cfg) (d : Dyn) (p n : Nat) : Bool :=
  let same := (members (groupOf n)).filter fun k => !c.twin || (!c.isOut k && c.merge k == c.merge n)
  let out := same.map fun k => (d.viewWord p (8 + k)).bit (F.DIO_STATUS_LOCKOUT k).lo
  out.any id && !out.all id

/-- CHAN_TEST: the test is released at the polder's next commit. A running test and a recovery are those of the view (R151;
DEDUCED, log entry 106). -/
def svcChanTest : Service := fun c d p _ _ _ b =>
  let n := (arg b 0).toNat
  if !(n < 96 && c.digOwner n == some p) then (d, notOwned)
  else if c.isOut n || !c.flag (F.DIO_CFG_WB_EN n) then (d, badArg)
  else if (d.dig n).wb || (d.viewWord p (8 + n)).bit (F.DIO_STATUS_WB_ACTIVE n).lo || d.recoveringView c p n then
    (d, .error 3)
  else (d.setDig n fun s => { s with wb := true }, .ok 0)

def svcJrnFreeze : Service := fun _ d p _ _ _ b =>
  let x := (arg b 0).toNat
  if 65535 < x then (d, badArg)
  else ({ d with jrn := { d.jrn with requests := d.jrn.requests ++ [(p, x)] } }, .ok 0)

/-! Registers (R152). -/

/-- The latched levee registers, by their words in the view (R123). -/
def latchedWord (addr : Nat) : Option Nat :=
  if addr = Reg.LVE_RAW0 then some 0x246 else if addr = Reg.LVE_RAW1 then some 0x247
  else if addr = Reg.LVE_ACT0 then some 0x242 else if addr = Reg.LVE_ACT1 then some 0x243
  else if addr = Reg.LVE_LATCHED0 then some 0x244 else if addr = Reg.LVE_LATCHED1 then some 0x245
  else if addr = Reg.LVE_FLAG then some 0x248 else if addr = Reg.LVE_TRIP0 then some 0x249
  else if addr = Reg.LVE_TRIP1 then some 0x24A else if addr = Reg.LVE_TRIP2 then some 0x24B
  else if addr = Reg.LVE_TEST_STAT then some 0x24C else none

/-- The three registers that P0 may write. -/
def p0Register (addr : Nat) : Bool := addr == Reg.LVE_P0F || addr == Reg.LVE_TEST_CTRL || addr == Reg.LVE_TEST_VAL

/-- One of the three as `p` reads it: P0 what it has written, the others what a commit has made of it (R151, R152). -/
def Dyn.p0Read (d : Dyn) (p addr : Nat) : Word :=
  match d.lve.pend.reverse.find? fun w => p == 0 && w.1 == addr with
  | some w => w.2
  | none => d.rd addr

/-- A write of one of the three waits for P0's commit. -/
def Dyn.p0Write (d : Dyn) (addr : Nat) (v : Word) : Dyn := { d with lve := { d.lve with pend := d.lve.pend ++ [(addr, v)] } }

/-- A denied access counts under R24; the service answers NOT_OWNED. -/
def svcRegRead : Service := fun c d p _ _ a b =>
  let w := arg b 0
  let addr := w.toNat
  let answer := fun (v : Word) => (d.setMword c p (a + 1) v, (.ok v : Except Nat Word))
  if addr % 4 ≠ 0 then (d, badArg)
  else if !c.granted p addr false then (d.accErr w, notOwned)
  else if p0Register addr then answer (d.p0Read p addr)
  else match latchedWord addr with
    | some i => answer (d.viewWord p i)
    | none =>
      if isLk addr then answer (c.rd addr)
      else if addr = Reg.MOD_ACC_ERR then ((d.wr addr 0).setMword c p (a + 1) (d.rd addr), .ok (d.rd addr))
      else if 0x10000 ≤ addr && addr < 0x10028 && (regRow addr).isSome then answer (d.rd addr)
      else (d, badArg)

/-- REG_WRITE: P0 alone, of LVE_P0F, LVE_TEST_CTRL and LVE_TEST_VAL; it acts at C if P0 commits. -/
def svcRegWrite : Service := fun c d p _ _ _ b =>
  let w := arg b 0
  let addr := w.toNat
  if addr % 4 ≠ 0 then (d, badArg)
  else if !c.granted p addr true then (d.accErr w, notOwned)
  else if p = 0 && p0Register addr then
    (d.p0Write addr (arg b 1 &&& ((regRow addr).map (·.mask)).getD 0), .ok 0)
  else (d, badArg)

/-! Calendar (R374, R375): the calendar state of the view stands at key 0x1000, LEAP at 0x1001. -/

def svcCalFromPtp : Service := fun c d p _ _ a b =>
  let cal := d.viewWord p 0x1000
  let loc := (arg b 7).bit 0
  let sec := (d.viewWord p 0x252).toNat + (d.viewWord p 0x253).field 0 16 * 2 ^ 32
  let u := utcOfPtp cal sec + (if loc then localOfs cal * 900 else 0)
  match calRange u with
  | .error e => (d, .error e)
  | .ok u =>
    let t := CalTime.ofSeconds u.toNat
    let w7 : Word := BitVec.ofNat 32
      (cal.field 0 8 * 2 ^ 16 + (if 0x80 ≤ cal.field 0 8 then 0xFF000000 else 0) + weekday u.toNat * 256 +
        (d.viewWord p 0x1001).field 0 1 * 4 + cal.field 16 1 * 2 + b2n loc)
    let ws := [t.year, t.month, t.day, t.hour, t.minute, t.second].map (BitVec.ofInt 32)
    (d.store c p a (ws ++ [d.viewWord p 0x254, w7]), .ok 0)

def svcCalToPtp : Service := fun c d p _ _ a b =>
  let cal := d.viewWord p 0x1000
  let n := fun i => (arg b i).toInt
  match (CalTime.mk (n 0) (n 1) (n 2) (n 3) (n 4) (n 5)).toSeconds with
  | .error e => (d, .error e)
  | .ok l =>
    match calRange (l - (if (arg b 7).bit 0 then localOfs cal * 900 else 0)) with
    | .error e => (d, .error e)
    | .ok u =>
      let s := ptpOfUtc cal u
      (d.setMword c p (a + 6) (BitVec.ofInt 32 (s / 2 ^ 32)), .ok (BitVec.ofInt 32 s))

/-! The table (R150). -/

/-- Cycles of a service whose charge depends on a word count in block word `i`; a word that cannot be read leaves the
charge open (a free value). -/
def wordCost (base i : Nat) (c : Cfg) (d : Dyn) (p : Nat) (t : TaskCtx) : Nat :=
  let a := t.wa.toInt + i
  base + ((if c.inWindow p a 1 then (d.mword c p a.toNat).toNat else Config.unreadWords) + 3) / 4

/-- Block words and service by number. -/
def serviceOf (n : Nat) : Option (Nat × Service) :=
  match n with
  | 0x01 => some (4, svcEvqPop)
  | 0x02 => some (0, svcErrInfo)
  | 0x03 => some (0, svcFlags)
  | 0x04 => some (2, svcQmul)
  | 0x05 => some (3, svcStx)
  | 0x06 => some (0, svcBudget)
  | 0x10 => some (3, svcLoopWrite)
  | 0x11 => some (2, svcLoopRead)
  | 0x12 => some (2, svcLoopBank)
  | 0x20 => some (2, svcSlvSubmit)
  | 0x21 => some (4, svcSlvRead)
  | 0x22 => some (1, svcSlvCancel)
  | 0x30 => some (3, svcQSend)
  | 0x31 => some (3, svcQRecv)
  | 0x32 => some (1, svcQFill)
  | 0x40 => some (2, svcChanDiag)
  | 0x41 => some (1, svcChanTest)
  | 0x42 => some (1, svcJrnFreeze)
  | 0x50 => some (8, svcCalFromPtp)
  | 0x51 => some (8, svcCalToPtp)
  | 0x60 => some (2, svcRegRead)
  | 0x61 => some (2, svcRegWrite)
  | _ => none

/-- Lane cycles of SYS by service number. -/
def sysCost (n : Nat) (c : Cfg) (d : Dyn) (p : Nat) (t : TaskCtx) : Nat :=
  match n with
  | 0x02 => 2 | 0x03 => 2 | 0x06 => 2
  | 0x04 => 3 | 0x05 => 3 | 0x32 => 3
  | 0x20 => 12
  | 0x21 => wordCost 8 2 c d p t
  | 0x30 => wordCost 6 1 c d p t
  | 0x31 => wordCost 6 1 c d p t
  | 0x50 => 40 | 0x51 => 40
  | n => if (serviceOf n).isSome then 4 else 1

/-- SYS n: an unlisted number is SYS_INVALID. -/
def sysEffect (n : Nat) : Effect := fun c d p t =>
  match serviceOf n with
  | some (k, f) => serve k f c d p t
  | none => .error 0x16

/-- SYS n comes to issue. -/
def sysCall (p : BitVec 4) (n : Nat) (s : State) : Out :=
  s.upd fun c d => d.issue c p.toNat (fun d t => sysCost n c d p.toNat t) (sysEffect n)

/-- A SYS with a number that is not listed; a listed number acts as its service. -/
def execSysInvalid (p : BitVec 4) (n : BitVec 16) (s : State) : Out := sysCall p n.toNat s
/-- EVQ_POP. -/
def execEvqPop (p : BitVec 4) (s : State) : Out := sysCall p 0x1 s
/-- ERR_INFO. -/
def execErrInfo (p : BitVec 4) (s : State) : Out := sysCall p 0x2 s
/-- FLAGS. -/
def execFlags (p : BitVec 4) (s : State) : Out := sysCall p 0x3 s
/-- QMUL. -/
def execQmul (p : BitVec 4) (s : State) : Out := sysCall p 0x4 s
/-- STX. -/
def execStx (p : BitVec 4) (s : State) : Out := sysCall p 0x5 s
/-- BUDGET. -/
def execBudget (p : BitVec 4) (s : State) : Out := sysCall p 0x6 s
/-- LOOP_WRITE. -/
def execLoopWrite (p : BitVec 4) (s : State) : Out := sysCall p 0x10 s
/-- LOOP_READ. -/
def execLoopRead (p : BitVec 4) (s : State) : Out := sysCall p 0x11 s
/-- LOOP_BANK. -/
def execLoopBank (p : BitVec 4) (s : State) : Out := sysCall p 0x12 s
/-- SLV_SUBMIT. -/
def execSlvSubmit (p : BitVec 4) (s : State) : Out := sysCall p 0x20 s
/-- SLV_READ. -/
def execSlvRead (p : BitVec 4) (s : State) : Out := sysCall p 0x21 s
/-- SLV_CANCEL. -/
def execSlvCancel (p : BitVec 4) (s : State) : Out := sysCall p 0x22 s
/-- Q_SEND. -/
def execQSend (p : BitVec 4) (s : State) : Out := sysCall p 0x30 s
/-- Q_RECV. -/
def execQRecv (p : BitVec 4) (s : State) : Out := sysCall p 0x31 s
/-- Q_FILL. -/
def execQFill (p : BitVec 4) (s : State) : Out := sysCall p 0x32 s
/-- CHAN_DIAG. -/
def execChanDiag (p : BitVec 4) (s : State) : Out := sysCall p 0x40 s
/-- CHAN_TEST. -/
def execChanTest (p : BitVec 4) (s : State) : Out := sysCall p 0x41 s
/-- JRN_FREEZE. -/
def execJrnFreeze (p : BitVec 4) (s : State) : Out := sysCall p 0x42 s
/-- REG_READ. -/
def execRegRead (p : BitVec 4) (s : State) : Out := sysCall p 0x60 s
/-- REG_WRITE. -/
def execRegWrite (p : BitVec 4) (s : State) : Out := sysCall p 0x61 s
/-- CAL_FROM_PTP. -/
def execCalFromPtp (p : BitVec 4) (s : State) : Out := sysCall p 0x50 s
/-- CAL_TO_PTP. -/
def execCalToPtp (p : BitVec 4) (s : State) : Out := sysCall p 0x51 s

/-! The instruction words of a segment, SYS among them. -/

/-- Effect of a word by its opcode. -/
def wordEffect (w : Word) : Effect :=
  if w.field 26 6 = 0x3C then
    if w.field 24 2 = 0 && w.field 16 8 = 0 then sysEffect (w.field 0 16) else fun _ _ _ _ => illegal
  else match effectOf w with
    | some f => f
    | none => fun _ _ _ _ => illegal

/-- Cycles of a word. -/
def wordCycles (w : Word) (c : Cfg) (d : Dyn) (p : Nat) (t : TaskCtx) : Nat :=
  if w.field 26 6 = 0x3C then (if w.field 24 2 = 0 && w.field 16 8 = 0 then sysCost (w.field 0 16) c d p t else 1)
  else costOf w t

end Sys2Proof.Machine
end

