-- ==== Sys2Proof/Machine/Life.lean ====
section
/-! DEFINITION. Program life (R155, R160–R185): commit snapshots and MRAM, restarts with the mapping rule, the commands
of LGE_CMD, variable writes, constant batches and forces. -/

namespace Sys2Proof.Machine

/-! Retentive records (R160–R163). -/

/-- The value of a retentive item. -/
def Dyn.takeItem (c : Cfg) (d : Dyn) (p : Nat) : SymLoc → RetVal
  | .bits f n => .bits ((List.range n).map fun i => d.mbit c p (f + i))
  | .words f n => .words ((List.range n).map fun i => d.mword c p (f + i))
  | .timer i => .timer (d.timer (c.tmrKey p i))
  | .counter i => .counter (d.counter (c.cntKey p i))

/-- A value carried to a location; a timer's last evaluation becomes `fn`, the first view after the restart (R165). -/
def Dyn.putItem (c : Cfg) (d : Dyn) (p : Nat) (fn : Word) : SymLoc → RetVal → Dyn
  | .bits f n, .bits l => (List.range n).foldl (fun d i => d.setMbit c p (f + i) (l.getD i false)) d
  | .words f n, .words l => (List.range n).foldl (fun d i => d.setMword c p (f + i) (l.getD i 0)) d
  | .timer i, .timer t => d.setTimer (c.tmrKey p i) { t with lastFn := fn }
  | .counter i, .counter x => d.setCounter (c.cntKey p i) x
  | _, _ => d

/-- Entries of keys `base … base + n - 1`, renumbered from 0. -/
def keysFrom {α : Type} (m : SMap α) (base n : Nat) : SMap α :=
  (m.filter fun e => base ≤ e.1 && e.1 < base + n).map fun e => (e.1 - base, e.2)

/-- Entries of the force table owned by `p`. -/
def Dyn.forcesOf (d : Dyn) (p : Nat) : List (Nat × Force) :=
  d.life.forces.filterMap fun e => match e.2 with
    | some f => if f.owner == p then some (e.1, f) else none
    | none => none

/-- The snapshot of polder `p` (R162). -/
def Dyn.takeRec (c : Cfg) (d : Dyn) (p : Nat) : PolderRec :=
  let syms := ((c.pimg p).map (·.symbols)).getD []
  { imageId := c.img.imageId, fingerprint := ((c.pimg p).map (·.fingerprint)).getD 0,
    symbols := syms.map fun s => (s, d.takeItem c p s.loc),
    loopItems := (c.loopsOf p).flatMap fun k => d.keepLoop c k,
    timers := keysFrom d.timers (c.tmrKey p 0) (c.get (F.LGE_TMR_COUNT p)),
    counters := keysFrom d.counters (c.cntKey p 0) (c.get (F.LGE_CNT_COUNT p)),
    edges := keysFrom d.edges (c.edgeKey p 0) (c.get (F.LGE_EDGE_COUNT p)),
    overlay := (d.polder p).overlay, forces := d.forcesOf p }

/-- The newest complete copy in MRAM. -/
def NonVol.newest (n : NonVol) : MramCopy := if n.mramNewB then n.mramB else n.mramA
def NonVol.mramRec (n : NonVol) (p : Nat) : Option PolderRec :=
  if n.newest.complete then (n.newest.recs.find? fun e => e.1 == p).map (·.2) else none
/-- Write the copy that is not the newest complete one. -/
def NonVol.writeMram (n : NonVol) (x : MramCopy) : NonVol := if n.mramNewB then { n with mramA := x } else { n with mramB := x }

/-- The latest snapshot of every polder; one that has not committed since start keeps its record. -/
def Dyn.snapshots (c : Cfg) (d : Dyn) : List (Nat × PolderRec) :=
  polders.filterMap fun p =>
    if c.polder p then (((d.polder p).snap).orElse fun _ => d.nv.mramRec p).map fun r => (p, r) else none

/-- A copy starts: it is complete only with its last word. -/
def Dyn.startCopy (c : Cfg) (d : Dyn) : Dyn :=
  { d with life := { d.life with copying := some (d.snapshots c), copyAgain := false },
           nv := d.nv.writeMram ⟨false, []⟩ }

/-- A snapshot of `p` is taken at its commit, and copied at once or when the running copy ends. It is the state at X, after
which loop contexts alone change. -/
def Dyn.snapshot (c : Cfg) (d : Dyn) (p : Nat) : Dyn :=
  let r := { d.takeRec c p with loopItems := (d.polder p).loopX }
  d.setPolder p fun s => { s with snap := some r }
def Dyn.copyOut (c : Cfg) (d : Dyn) : Dyn :=
  if d.life.copying.isSome then { d with life := { d.life with copyAgain := true } } else d.startCopy c

/-- The running copy is complete, and is the newest. -/
def Dyn.endCopy (d : Dyn) (recs : List (Nat × PolderRec)) : Dyn :=
  let nv := d.nv.writeMram ⟨true, recs⟩
  { d with nv := { nv with mramNewB := !nv.mramNewB }, life := { d.life with copying := none } }

/-- A copy that cannot be completed: the one under way, or one begun, stays incomplete (R163). -/
def Dyn.dropCopy (d : Dyn) : Dyn :=
  { d with nv := d.nv.writeMram ⟨false, []⟩, life := { d.life with copying := none, copyAgain := false } }

/-- MRAM_COPY_DONE. -/
def execMramCopyDone (s : State) : Out :=
  s.upd fun c d =>
    match d.life.copying with
    | none => d
    | some recs =>
      let again := d.life.copyAgain
      let d := d.endCopy recs
      if again then d.startCopy c else d

/-! Restarts (R164–R168). -/

/-- What a cold and a warm restart have in common: everything that is not kept (R165). -/
def Dyn.clearPolder (c : Cfg) (d : Dyn) (p : Nat) : Dyn :=
  let d := d.abandon c p
  let img := c.pimg p
  let d : Dyn :=
    { d with
      bitMem := sclear d.bitMem (c.bitKey p 0) (c.bitKey p (c.bits p)),
      wordMem := sclear d.wordMem (c.wordKey p 0) (c.wordKey p (c.words p)),
      timers := sclear d.timers (c.tmrKey p 0) (c.tmrKey p (c.get (F.LGE_TMR_COUNT p))),
      counters := sclear d.counters (c.cntKey p 0) (c.cntKey p (c.get (F.LGE_CNT_COUNT p))),
      edges := sclear d.edges (c.edgeKey p 0) (c.edgeKey p (c.get (F.LGE_EDGE_COUNT p))),
      outW := d.mergeOwn c p d.outW [] }
  let d := match img with
    | some (m : PolderImg) =>
      let d : Dyn := m.initBits.foldl (fun (d : Dyn) (e : Nat × Bool) => d.setMbit c p e.1 e.2) d
      let d := m.initWords.foldl (fun (d : Dyn) (e : Nat × Word) => d.setMword c p e.1 e.2) d
      m.initOut.foldl (fun (d : Dyn) (e : Nat × Word) =>
        let k := c.ownMask p e.1
        { d with outW := sput 0 d.outW e.1 ((sget 0 d.outW e.1 &&& ~~~k) ||| (e.2 &&& k)) }) d
    | none => d
  let d := (c.loopsOf p).foldl (fun d k => d.coldLoop c k) d
  let d := d.emptySlots c p
  let d := (c.queuesOf p).foldl (fun d q => d.setQueue q fun x => { x with done := [], pend := [], rel := [] }) d
  let d := (d.put (F.PLD_SPILL_CONSEC p) 0).wr (Reg.LGE_FAULT p) 0
  d.setPolder p fun s =>
    { s with evq := [], causes := [], errRun := false, varQ := [], startCnt := c.get (F.PLD_CYCLIC_PHASE p),
             committed := false, deferred := [], faulted := false }

/-- The initial value of a retentive item stands in memory after `clearPolder`; a mapped item takes the source's. -/
def Dyn.mapItems (c : Cfg) (d : Dyn) (p : Nat) (fn : Word) (syms : List Symbol) (src : List (Symbol × RetVal)) : Dyn × Nat :=
  syms.foldl (fun (x : Dyn × Nat) s =>
    match src.find? fun e => e.1.id == s.id && e.1.type == s.type with
    | some e => (x.1.putItem c p fn s.loc e.2, x.2 + 1)
    | none => x) (d, 0)

/-- Entries of a record return to their keys. -/
def putKeys {α : Type} [DecidableEq α] (dft : α) (m : SMap α) (base : Nat) (l : SMap α) : SMap α :=
  sputs dft m (l.map fun e => (base + e.1, e.2))

def Dyn.rstReport (d : Dyn) (p kind reason mtch kept init drop : Nat) : Dyn :=
  let d := d.wr (Reg.STN_RST_KIND p) (BitVec.ofNat 32 (reason * 2 ^ 16 + mtch * 16 + kind))
  let d := d.put (F.STN_RST_KEPT_COUNT p) kept
  (d.put (F.STN_RST_INIT_COUNT p) init).put (F.STN_RST_DROP_COUNT p) drop

def Dyn.clearForces (d : Dyn) (p : Nat) : Dyn :=
  { d with life := { d.life with forces := d.life.forces.filter fun e => match e.2 with
      | some f => f.owner != p
      | none => false } }

/-- A cold restart, with its reason: 0 commanded or configured, 1 NO_RECORD, 2 STRICT. -/
def Dyn.coldRestart (c : Cfg) (d : Dyn) (p reason : Nat) : Dyn :=
  let d := (d.clearPolder c p).clearForces p
  (d.setPolder p fun s => { s with overlay := [], batch := none }).rstReport p 1 reason 0 0 0 0

/-- A warm restart from a source, with its first view in frame `fn`; `start` at module start, where kept forces return from
the record. -/
def Dyn.warmRestart (c : Cfg) (d : Dyn) (p : Nat) (fn : Word) (start : Bool) (src : Option PolderRec) : Dyn :=
  match src with
  | none => d.coldRestart c p 1
  | some r =>
    let img := c.pimg p
    let same := r.fingerprint == (img.map (·.fingerprint)).getD 0
    if !same && (c.get F.STN_PL_POLICY_STRICT).testBit p then d.coldRestart c p 2
    else
      let keep := same && (c.get F.STN_PL_POLICY_KEEP_FORCES).testBit p
      let d := d.clearPolder c p
      let d := if !keep then d.clearForces p
        else if start then
          { d with life := { d.life with forces := sputs none d.life.forces (r.forces.map fun e => (e.1, some e.2)) } }
        else d
      let d := d.setPolder p fun s => { s with overlay := if r.imageId == c.img.imageId then r.overlay else [] }
      let syms := (img.map (·.symbols)).getD []
      let (d, kept) := if same then
          (r.symbols.foldl (fun (d : Dyn) e => d.putItem c p fn e.1.loc e.2) d, syms.length)
        else d.mapItems c p fn syms r.symbols
      let d : Dyn := if same then { d with edges := putKeys false d.edges (c.edgeKey p 0) r.edges } else d
      let d := (c.loopsOf p).foldl (fun d k => d.carryLoop c r.loopItems k) d
      let init := syms.length - kept
      let drop := if same then 0 else r.symbols.length - kept
      let d := d.rstReport p 2 0 (if same then 1 else 2) kept init drop
      if same then d
      else d.alarm c 0x0202 p (BitVec.ofNat 32 (kept * 2 ^ 16 + init)) (BitVec.ofNat 32 drop)

/-- The source of a warm restart: the latest commit snapshot, or the MRAM record when there is none. -/
def Dyn.source_ (d : Dyn) (p : Nat) : Option PolderRec := ((d.polder p).snap).orElse fun _ => d.nv.mramRec p

/-- The polder enters RUN after its restart. -/
def Dyn.restart (c : Cfg) (d : Dyn) (p : Nat) (warm start : Bool) : Dyn :=
  let fn := if (d.polder p).tasks.isEmpty then d.fn else d.viewWord p 0x250
  let d := if warm then d.warmRestart c p fn start (if start then d.nv.mramRec p else d.source_ p) else d.coldRestart c p 0
  d.setMode c p 2

/-! LGE_CMD (R155, R156). Codes: 1 RUN_COLD, 2 RUN_WARM, 3 STOP, 4 HOLD, 5 STEP, 6 CONTINUE, 7 BP_SET, 8 BP_CLR. -/

def Dyn.lgeStat (d : Dyn) (code status : Nat) : Dyn := d.wr Reg.LGE_CMD_STAT (BitVec.ofNat 32 (code * 16 + status))

/-- A write of LGE_CMD: it is agreed with its ARG at the next input latch; while one is PENDING a further one changes
nothing. -/
def Dyn.lgeWrite (d : Dyn) (w : Word) : Dyn :=
  let code := w.field 0 4
  if d.get F.LGE_CMD_STAT_STATUS = 1 then d
  else
    let pack := code + w.field 16 4 * 16 + w.field 20 4 * 256 + d.get F.LGE_CMD_ARG_ARG * 4096
    (d.lgeStat code 1).stage_ Reg.LGE_CMD (BitVec.ofNat 32 pack)

/-- The counted command. -/
def Dyn.lgeLatch (d : Dyn) (w : Word) : Dyn :=
  { d with life := { d.life with lgeDo := some (w.field 0 4, w.field 4 4, w.field 8 4, w.field 12 19) } }

/-- Its condition, and its effect at E. -/
def Dyn.lgeEffect (c : Cfg) (d : Dyn) (code p bp arg : Nat) : Option Dyn :=
  let m := d.mode p
  let dbg := c.flag (F.LGE_CTRL_DEBUG_EN p)
  let when_ := fun (b : Bool) (x : Dyn) => if b then some x else none
  match code with
  | 1 => when_ (m == 1 || m == 4) (d.restart c p false false)
  | 2 => when_ (m == 1 || m == 4) (d.restart c p true false)
  | 3 => when_ ((m == 2 || m == 3) && p != 0) ((d.abandon c p).setMode c p 1)
  | 4 => when_ (m == 2 && dbg && p != 0) (d.setMode c p 3)
  | 5 => when_ (m == 3 && dbg && 1 ≤ arg && arg ≤ 65535)
      ((d.setPolder p fun s => { s with steps := some arg, skipBp := true }).setMode c p 2)
  | 6 => when_ (m == 3 && dbg) ((d.setPolder p fun s => { s with steps := none, skipBp := true }).setMode c p 2)
  | 7 => when_ (dbg && p != 0)
      (((d.setFlag (F.LGE_BP_VALID bp) true).put (F.LGE_BP_POLDER bp) p).put (F.LGE_BP_ADDR bp) arg)
  | 8 => when_ (d.flag (F.LGE_BP_VALID bp)) (d.wr (Reg.LGE_BP bp) 0)
  | _ => none

/-- At E the counted command takes effect or is refused. -/
def Dyn.lgeAtE (c : Cfg) (d : Dyn) : Dyn :=
  match d.life.lgeDo with
  | none => d
  | some (code, p, bp, arg) =>
    let d : Dyn := { d with life := { d.life with lgeDo := none } }
    match d.lgeEffect c code p bp arg with
    | some d => d.lgeStat code 2
    | none => d.lgeStat code 3

/-- A requester writes LGE_CMD_ARG where the command has one, and LGE_CMD. -/
def lgeCommand (who : Requester) (code p bp : Nat) (arg : Option Nat) (s : State) : Out :=
  s.upd fun c d => d.gated c who Reg.LGE_CMD fun d =>
    let d := match arg with
      | some a => d.put F.LGE_CMD_ARG_ARG a
      | none => d
    d.lgeWrite (BitVec.ofNat 32 (code + p * 2 ^ 16 + bp * 2 ^ 20))

/-- RUN_COLD written. -/
def execRunCold (who : Requester) (p : BitVec 4) (s : State) : Out := lgeCommand who 1 p.toNat 0 none s
/-- RUN_WARM written. -/
def execRunWarm (who : Requester) (p : BitVec 4) (s : State) : Out := lgeCommand who 2 p.toNat 0 none s
/-- STOP written. -/
def execStop (who : Requester) (p : BitVec 4) (s : State) : Out := lgeCommand who 3 p.toNat 0 none s
/-- HOLD written. -/
def execHold (who : Requester) (p : BitVec 4) (s : State) : Out := lgeCommand who 4 p.toNat 0 none s
/-- STEP written, with its count. -/
def execStep (who : Requester) (p : BitVec 4) (arg : BitVec 19) (s : State) : Out :=
  lgeCommand who 5 p.toNat 0 (some arg.toNat) s
/-- CONTINUE written. -/
def execContinue (who : Requester) (p : BitVec 4) (s : State) : Out := lgeCommand who 6 p.toNat 0 none s
/-- BP_SET written, with its address. -/
def execBpSet (who : Requester) (p : BitVec 4) (bp : BitVec 4) (arg : BitVec 19) (s : State) : Out :=
  lgeCommand who 7 p.toNat bp.toNat (some arg.toNat) s
/-- BP_CLR written. -/
def execBpClr (who : Requester) (p : BitVec 4) (bp : BitVec 4) (s : State) : Out := lgeCommand who 8 p.toNat bp.toNat none s

/-! Program-life commands (R170–R182). Reasons: 1 NOT_PERMITTED, 2 BAD_ADDR, 3 NOT_OWNED, 4 BUSY, 5 FULL, 6 OVERLAP,
7 LOOP_BOUND, 8 BAD_STATE, 9 NOT_FORCED. -/

def Dyn.plStat (d : Dyn) (code status reason : Nat) : Dyn :=
  d.wr Reg.STN_PL_STAT (BitVec.ofNat 32 (reason * 256 + code * 16 + status))

/-- A write of STN_PL_CMD (R171): it is agreed at the next input latch; while one is PENDING a further one changes
nothing. -/
def Dyn.plWrite (d : Dyn) (w : Word) : Dyn :=
  let code := w.field 0 4
  if d.get F.STN_PL_STAT_STATUS = 1 then d
  else (d.plStat code 1 0).stage_ Reg.STN_PL_CMD w

/-- The location in STN_PL_ADDR: space, word width, index. -/
def Dyn.plAddr (d : Dyn) : Nat × Bool × Nat :=
  (d.get F.STN_PL_ADDR_SPACE, d.flag F.STN_PL_ADDR_WIDTH, d.get F.STN_PL_ADDR_INDEX)

/-- The effect of a command takes place in this frame. -/
def Dyn.plFn (d : Dyn) : Dyn := d.wr Reg.STN_PL_FN d.fn

/-- VAR_WRITE (R173, R174). -/
def Dyn.varWrite (c : Cfg) (d : Dyn) (p : Nat) : Except Nat Dyn :=
  let (sp, word, i) := d.plAddr
  let w := if word then i else i / 32
  let check : Except Nat Unit :=
    match sp with
    | 0 => if i < (if word then c.words p else c.bits p) then .ok () else .error 2
    | 2 =>
      let own := if w < 4096 then c.ownMask p w else 0
      let mine := if word then own != 0 else own.bit (i % 32)
      if !mine then .error 3 else if c.loopBound w then .error 7 else .ok ()
    | 3 => if word && decide (i < c.get (F.LGE_CNT_COUNT p)) then .ok () else .error 2
    | _ => .error 2
  match check with
  | .error e => .error e
  | .ok _ =>
    if 16 ≤ (d.polder p).varQ.length then .error 5
    else .ok (d.setPolder p fun s => { s with varQ := s.varQ ++ [⟨sp, word, i, d.rd Reg.STN_PL_VALUE⟩] })

/-- A variable write takes effect. -/
def Dyn.applyVar (c : Cfg) (d : Dyn) (p : Nat) (v : VarWrite) : Dyn :=
  let out := fun (w : Nat) (mask value : Word) =>
    { d with outW := sput 0 d.outW w ((sget 0 d.outW w &&& ~~~mask) ||| (value &&& mask)) }
  match v.space, v.word with
  | 0, true => d.setMword c p v.index v.value
  | 0, false => d.setMbit c p v.index (v.value.bit 0)
  | 2, true => out v.index (c.ownMask p v.index) v.value
  | 2, false =>
    out (v.index / 32) (BitVec.ofNat 32 (1 <<< (v.index % 32))) (if v.value.bit 0 then -1 else 0)
  | _, _ => d.setCounter (c.cntKey p v.index) { d.counter (c.cntKey p v.index) with cv := v.value }

/-- The clean boundary of `p` at E (R172). -/
def Dyn.cleanBoundary (c : Cfg) (d : Dyn) (p : Nat) : Dyn :=
  let ws := (d.polder p).varQ
  if (d.polder p).tasks.isEmpty && !ws.isEmpty then
    (ws.foldl (fun d v => d.applyVar c p v) (d.setPolder p fun s => { s with varQ := [] })).plFn
  else d

/-- The overlay with pairs laid over it; a value equal to the image's frees its entry (R177). -/
def Cfg.overlayWith (c : Cfg) (p : Nat) (o ps : List (Nat × Word)) : List (Nat × Word) :=
  ps.foldl (fun o e =>
    let rest := o.filter fun x => x.1 != e.1
    if e.2 = c.konstOf p e.1 then rest else rest ++ [e]) o

/-- Overlay entries in use. -/
def Dyn.overlayUse (d : Dyn) : Nat := (polders.map fun p => (d.polder p).overlay.length).sum
/-- The most overlay entries that can be in use until every accepted batch is applied or cancelled, in whatever order: what a
batch is to free is not counted before it is freed (R175). -/
def Dyn.overlayPlan (c : Cfg) (d : Dyn) : Nat :=
  (polders.map fun p =>
    let o := (d.polder p).overlay
    max o.length (c.overlayWith p o ((d.polder p).batch.getD [])).length).sum

/-- K_COMMIT (R175). -/
def Dyn.kCommit (c : Cfg) (d : Dyn) (p : Nat) : Except Nat Dyn :=
  let n := d.get F.STN_PL_ADDR_INDEX % 128
  let ps := (List.range n).map fun i => (d.get (F.STN_PL_KIDX_INDEX i), d.rd (Reg.STN_PL_KVAL i))
  if n = 0 || 64 < n || ps.any (fun e => c.get (F.LGE_CTRL_KSIZE p) ≤ e.1) then .error 2
  else if (d.polder p).batch.isSome then .error 4
  else
    let d' := d.setPolder p fun s => { s with batch := some ps }
    if 1024 < d'.overlayPlan c then .error 5 else .ok d'

/-- The batch is applied at the start of a cyclic scan (R176). -/
def Dyn.applyBatch (c : Cfg) (d : Dyn) (p : Nat) : Dyn :=
  match (d.polder p).batch with
  | none => d
  | some ps => (d.setPolder p fun s => { s with batch := none, overlay := c.overlayWith p s.overlay ps }).plFn

/-- K_CANCEL (R176). -/
def Dyn.kCancel (d : Dyn) (p : Nat) : Except Nat Dyn :=
  if (d.polder p).batch.isNone then .error 8 else .ok (d.setPolder p fun s => { s with batch := none }).plFn

/-- A location that may be forced (R178), with the owner of its resource (R179). -/
def Cfg.forceable (c : Cfg) (sp : Nat) (word : Bool) (i : Nat) : Option (Option Nat) :=
  let w := if word then i else i / 32
  let input := sp == 1
  let dig := fun n => if c.digUsed n && c.isOut n != input then some (c.digOwner n) else none
  if (sp ≠ 1 && sp ≠ 2) || 4096 ≤ w then none
  else if !word && i < 96 then dig i
  else if word && input && 0x68 ≤ w && w < 0x128 then dig ((w - 0x68) % 96)
  else if word && 0x200 ≤ w && w < 0x220 then
    if c.anaMode (w - 0x200) = (if input then 1 else 2) then some (c.anaOwner (w - 0x200)) else none
  else if (if input then 0x300 else 0x400) ≤ w then some (c.placed (!input) w)
  else none

/-- A change of the table; an input force of this latch, an output force of the commit (R180, R181). -/
def Dyn.setForces (d : Dyn) (m : SMap (Option Force)) : Dyn := ({ d with life := { d.life with forces := m } } : Dyn).plFn

/-- FORCE_SET (R179). -/
def Dyn.forceSet (c : Cfg) (d : Dyn) : Except Nat Dyn :=
  let (sp, word, i) := d.plAddr
  let v := d.rd Reg.STN_PL_VALUE
  match c.forceable sp word i with
  | none => .error 2
  | some none => .error 3
  | some (some p) =>
    let t := d.life.forces
    let new : Force := ⟨sp, word, p, i, if word then v else v &&& 1⟩
    let is := fun (e : Nat × Option Force) => e.2.any fun f => f.space == sp && f.word == word && f.index == i
    let meets := fun (e : Nat × Option Force) => e.2.any fun f =>
      f.space == sp && f.word != word && (if f.word then f.index else f.index / 32) == (if word then i else i / 32)
    if !(c.get F.STN_PL_PERMIT_FORCE_EN).testBit p then .error 1
    else match t.find? is with
      | some e => .ok (d.setForces (sput none t e.1 (some new)))
      | none =>
        if t.any meets then .error 6
        else match (List.range 256).find? fun k => (sget none t k).isNone with
          | some k => .ok (d.setForces (sput none t k (some new)))
          | none => .error 5

/-- FORCE_CLR (R182). -/
def Dyn.forceClr (d : Dyn) : Except Nat Dyn :=
  let (sp, word, i) := d.plAddr
  match d.life.forces.find? fun e => e.2.any fun f => f.space == sp && f.word == word && f.index == i with
  | some e => .ok (d.setForces (sput none d.life.forces e.1 none))
  | none => .error 9

/-- The counted command is evaluated at the input latch, after the registers were updated (R170, R171). -/
def Dyn.plLatch (c : Cfg) (d : Dyn) (w : Word) : Dyn :=
  let code := w.field 0 4
  let p := w.field 16 4
  let r : Except Nat Dyn :=
    if code = 0 || 6 < code then .error 0
    else if code ≤ 3 && !(c.polder p && (c.get F.STN_PL_PERMIT_OLC_EN).testBit p) then .error 1
    else match code with
      | 1 => d.varWrite c p
      | 2 => d.kCommit c p
      | 3 => d.kCancel p
      | 4 => d.forceSet c
      | 5 => d.forceClr
      | _ => .ok (d.clearForces p).plFn
  match r with
  | .ok d => d.plStat code 2 0
  | .error e => d.plStat code 3 e

def plCommand (who : Requester) (code p : Nat) (s : State) : Out :=
  s.upd fun c d => d.gated c who Reg.STN_PL_CMD fun d => d.plWrite (BitVec.ofNat 32 (code + p * 2 ^ 16))

/-- VAR_WRITE written. -/
def execVarWrite (who : Requester) (p : BitVec 4) (s : State) : Out := plCommand who 1 p.toNat s
/-- K_COMMIT written. -/
def execKCommit (who : Requester) (p : BitVec 4) (s : State) : Out := plCommand who 2 p.toNat s
/-- K_CANCEL written. -/
def execKCancel (who : Requester) (p : BitVec 4) (s : State) : Out := plCommand who 3 p.toNat s
/-- FORCE_SET written. -/
def execForceSet (who : Requester) (s : State) : Out := plCommand who 4 0 s
/-- FORCE_CLR written. -/
def execForceClr (who : Requester) (s : State) : Out := plCommand who 5 0 s
/-- FORCE_CLR_POLDER written. -/
def execForceClrPolder (who : Requester) (p : BitVec 4) (s : State) : Out := plCommand who 6 p.toNat s

/-- A force on an input word of the agreed vector (R180). -/
def Dyn.forceView (d : Dyn) (v : SMap Word) : SMap Word :=
  d.life.forces.foldl (fun v e => match e.2 with
    | some f =>
      if f.space ≠ 1 then v
      else if f.word then sput 0 v f.index f.value
      else sput 0 v (f.index / 32) ((sget 0 v (f.index / 32)).setBit (f.index % 32) (f.value.bit 0))
    | none => v) v

end Sys2Proof.Machine
end

