-- ==== Sys2Proof/Machine/Net.lean ====
section
/-! DEFINITION. The station network (R385–R417): ports, PRP and policing, the checks of station frames, remote stations,
other streams, release at commit, alarm servers and the module's own register access toward remote stations. -/

namespace Sys2Proof.Machine

/-! Time of frames. -/

/-- 400 ms, the discard windows of R267, R268 and R386. -/
def window400 : Nat := 400000000

/-- The station network runs from the lock on (R42: in the start-up hold the LAN ports stay down). -/
def Dyn.netUp (d : Dyn) : Bool := d.boot.stage == .locked || d.boot.stage == .running

/-- PTP is FAULTY while neither LAN port has a link (PRESUMED, log entry 117), and listens again when one has. -/
def Dyn.ptpFault (c : Cfg) (d : Dyn) : Dyn :=
  let up := fun (f : Fld) => [1, 2].contains (d.get f)
  if c.get F.TSU_CFG_ROLE = 0 then d
  else if !up F.NET_PORT_STAT_LINK_A && !up F.NET_PORT_STAT_LINK_B then d.put F.TSU_STATUS_PTP_STATE 6
  else if d.get F.TSU_STATUS_PTP_STATE = 6 then d.ptpStart c
  else d

/-! Station frames on the wire (R388, R389, R391). -/

/-- What a station frame carries besides its header: KIND, STREAM, whether it goes over TCP, and the payload. -/
structure StnBody where
  kind : Nat
  stream : Nat
  tcp : Bool
  payload : List Byte

/-- Header and payload, in the order in which they are sent. -/
def StnBody.bytes (b : StnBody) (stnId sender : Byte) (seq : BitVec 16) (fn : Word) (txc : BitVec 64) : List Byte :=
  leBytes 2 0x4D44 ++ [1, BitVec.ofNat 8 b.kind, stnId, sender] ++ leBytes 2 b.stream ++ leBytes 2 seq.toNat ++
    leBytes 2 b.payload.length ++ leBytes 4 fn.toNat ++ leBytes 8 txc.toNat ++ b.payload

/-- The tag: AES-GMAC under the station key, whose first 8 bytes are its most significant ones. The IV holds TXC as the header
does (DESIGN CHOICE, log entry 118). -/
def stnTag (key : BitVec 256) (stnId sender : Byte) (txc : BitVec 64) (bytes : List Byte) : BitVec 64 :=
  let iv : BitVec 96 := BitVec.ofNat 96 (beNat ([stnId, sender, 0, 0] ++ leBytes 8 txc.toNat))
  (gcmTag key iv bytes []).extractLsb' 64 64

/-- ALARM (R413): 40 bytes, or the empty frame. -/
def AlarmRec.bytes (r : AlarmRec) : List Byte :=
  leBytes 4 r.evn ++ leBytes 2 r.code ++ [r.cls.setWidth 8, BitVec.ofNat 8 (b2n r.agreed + 2 * b2n r.gap)] ++
    leBytes 4 r.fn.toNat ++ leBytes 4 r.ft.toNat ++ leBytes 6 r.sec.toNat ++ leBytes 2 r.source ++ leBytes 4 r.ns ++
    leBytes 4 r.value.toNat ++ leBytes 4 r.value2.toNat ++ leBytes 4 0

/-- RA_REQ (R408), from TID to data. -/
def raReqBytes (tid : Word) (op : Nat) (unitB : Bool) (count : BitVec 16) (addr : Word) (data : List Word) : List Byte :=
  leBytes 4 tid.toNat ++ [BitVec.ofNat 8 op, BitVec.ofNat 8 (b2n unitB)] ++ leBytes 2 count.toNat ++ leBytes 4 addr.toNat ++
    wordBytes data

/-- RA_RSP (R408). -/
def raRspBytes (tid : Word) (r : RaReply) (data : List Word) : List Byte :=
  leBytes 4 tid.toNat ++ [r.status, 0] ++ leBytes 2 r.count.toNat ++ wordBytes [r.denied, r.fn] ++ wordBytes data

/-- What is sent as a station frame: its body, SEQ and FN (`fn`: that of this frame). -/
def Sent.body (fn : Word) : Sent → Option (StnBody × BitVec 16 × Word)
  | .station kind stream seq fn ws => some (⟨kind, stream, false, wordBytes ws⟩, seq, fn)
  | .reply _ tid status count denied fn ws =>
    some (⟨0x11, 0, false, raRspBytes tid ⟨BitVec.ofNat 8 status, BitVec.ofNat 16 count, denied, fn⟩ ws⟩, 0, fn)
  | .request _ tid op addr => some (⟨0x10, 0, false, raReqBytes tid op false 1 addr []⟩, 0, fn)
  | .alarm _ (some r) => some (⟨0x20, 0, true, r.bytes⟩, 0, r.fn)
  | .alarm _ none => some (⟨0x20, 0, true, []⟩, 0, fn)
  | _ => none

/-- The streams that the NETWORK section gives a peer (R401). -/
def Cfg.streamPeer (c : Cfg) (id : Nat) (transmit : Bool) : Option Word :=
  (c.img.streams.find? fun x => x.id == id && x.transmit == transmit).map (·.peer)

/-- Where a message goes, and to which UDP or TCP port (R391). -/
def Cfg.destOf (c : Cfg) : Sent → Word × Nat
  | .station kind stream _ _ _ =>
    (if kind = 1 then c.rd (Reg.NET_RS_ADDR (stream - 1)) else if kind = 4 then c.rd Reg.NET_GROUP
     else (c.streamPeer stream true).getD 0, 49410)
  | .reply k _ _ _ _ _ _ => (c.rd (Reg.NET_CLIENT k), 49411)
  | .request s _ _ _ => (c.rd (Reg.NET_RS_ADDR s), 49411)
  | .alarm a _ => (c.rd (Reg.NET_ALMSRV a), 49412)
  | _ => (0, 0)

/-- The module's own SENDER (R388). -/
def Dyn.senderId (d : Dyn) : Byte := if d.unitB then 1 else 0

/-- The priority tag of a class: Garnet, Topaz, Jasper, Onyx (R385). -/
def Cfg.pcp (c : Cfg) (cls : Nat) : Option Nat := if c.flag F.NET_CFG_PRIO_TAG then some ([7, 6, 5].getD cls 0) else none

/-- A frame takes the next sequence number of the PRP trailer (R386). -/
def Dyn.txLan (d : Dyn) (w : LanFrame) (m : Sent) : Dyn :=
  ({ d with net := { d.net with prpSeq := d.net.prpSeq + 1 } } : Dyn).send (.lan { w with prp := d.net.prpSeq } m)

/-- A frame that is no station frame (PRP supervision, ARP, ICMP) has no header of one. -/
def Dyn.txPlain (c : Cfg) (d : Dyn) (cls : Nat) (m : Sent) : Dyn := d.txLan ⟨0, 0, c.pcp cls, 0, 0, 0, 0, 0⟩ m

/-- One value of the transmit counter is used up; a wrap of the count takes a new epoch (R389). -/
def Dyn.nextTxc (d : Dyn) : Dyn :=
  let n := d.net.count + 1
  let d := if n = 0 then
      { d with nv := { d.nv with txEpoch := d.nv.txEpoch + 1 }, net := { d.net with epoch := d.nv.txEpoch + 1 } }
    else d
  { d with net := { d.net with count := n } }

/-- A station frame of class `cls` leaves, with its header and tag. -/
def Dyn.tx (c : Cfg) (d : Dyn) (cls : Nat) (m : Sent) : Dyn :=
  let d := d.nextTxc
  let txc := d.net.epoch ++ d.net.count
  let stnId := d.nv.stnId.setWidth 8
  let tag := match m.body d.fn with
    | some (b, seq, fn) =>
      stnTag (d.nv.stationKey.getD 0) stnId d.senderId txc (b.bytes stnId d.senderId seq fn txc)
    | none => 0
  let dest := c.destOf m
  d.txLan ⟨dest.1, dest.2, c.pcp cls, 0, stnId, d.senderId, txc, tag⟩ m

/-- A station frame on a stream (R388, R393). -/
def Dyn.sendStn (c : Cfg) (d : Dyn) (cls kind stream : Nat) (seq : BitVec 16) (fn : Word) (ws : List Word) : Dyn :=
  d.tx c cls (.station kind stream seq fn ws)

/-! PRP (R386). -/

/-- Entries older than EntryForgetTime go; one whose other copy never came counts as received on its LAN only. Nodes
are forgotten after NodeForgetTime. -/
def Dyn.prpForget (d : Dyn) : Dyn :=
  let old := fun (e : PrpEntry) => window400 < d.now - e.at_
  let d := d.net.prp.foldl (fun (d : Dyn) e =>
    if old e && !e.paired then d.bump (if e.lanB then F.NET_PRP_B_LOW else F.NET_PRP_A_LOW) else d) d
  { d with net := { d.net with prp := d.net.prp.filter fun e => !old e,
                               nodes := d.net.nodes.filter fun e => d.now - e.2 ≤ 60000000000 } }

/-- The node table of 512 entries. -/
def Dyn.nodeSeen (d : Dyn) (mac : Nat) : Dyn :=
  let rest := d.net.nodes.filter fun e => e.1 != mac
  if rest.length < 512 then { d with net := { d.net with nodes := (mac, d.now) :: rest } } else d

/-- Duplicate discard: `false` for a second copy. A frame without a trailer passes, as from a singly attached node; a
frame with the trailer of the other LAN is counted. -/
def Dyn.prpPass (d : Dyn) (h : StnHdr) : Dyn × Bool :=
  let d := d.prpForget.nodeSeen h.mac.toNat
  match h.prp with
  | none => (d, true)
  | some (seq, lan) =>
    let d := if lan != h.lanB then d.bump (if h.lanB then F.NET_PRP_B_HIGH else F.NET_PRP_A_HIGH) else d
    let same := fun (e : PrpEntry) => e.source == h.mac.toNat && e.seq == seq
    let mark := fun (e : PrpEntry) => { e with paired := e.paired || (same e && e.lanB != h.lanB) }
    if (d.net.prp.any same) then ({ d with net := { d.net with prp := d.net.prp.map mark } }, false)
    else
      ({ d with net := { d.net with prp := ⟨h.mac.toNat, seq, h.lanB, d.now, false⟩ :: d.net.prp } }, true)

/-! Ingress policing (R416). -/

/-- The address of a configured remote station, of the peer unit, or of a stream's peer. -/
def Cfg.knownSource (c : Cfg) (d : Dyn) (h : StnHdr) : Bool :=
  (c.img.streams.any fun x => x.peer == h.src) || (c.twin && h.src == c.rd (if d.unitB then Reg.NET_ADDR_A else Reg.NET_ADDR_B)) ||
    (List.range 32).any fun s => c.flag (F.NET_RS_CFG_EN s) && h.src == c.rd (Reg.NET_RS_ADDR s)

/-- The token bucket of a port: 50 Mbit/s is 160 ns a byte, and 64 KiB the burst. `false` when the frame is dropped. -/
def Dyn.police (d : Dyn) (lanB : Bool) (size : Nat) : Dyn × Bool :=
  let n := d.net
  let used := (if lanB then n.usedB - (d.now - n.atB) else n.usedA - (d.now - n.atA)) + size * 160
  let fits := used ≤ 65536 * 160
  let used := if fits then used else used - size * 160
  let d : Dyn := { d with net := if lanB then { n with usedB := used, atB := d.now } else { n with usedA := used, atA := d.now } }
  if fits then (d, true) else (d.bump (if lanB then F.NET_POL_DROP_HIGH else F.NET_POL_DROP_LOW), false)

/-- What a port takes at all (R385): no VLAN ID but 0, no fragment, and no datagram above 1,500 bytes. -/
def takenByPort (h : StnHdr) : Bool := h.vlan.all (· == 0) && !h.fragment && decide (h.ip.toNat ≤ 1500)

/-- A frame at a port: station frames of UDP 49410 from a known address, foreign ones, and policed frames. -/
def Dyn.onPort (c : Cfg) (d : Dyn) (h : StnHdr) (station : Bool) (f : Dyn → Dyn) : Dyn :=
  let d := d.advTo h.at_
  if !d.netUp || !takenByPort h then d
  else if h.dest == .elsewhere || (station && !c.knownSource d h) then d.bump F.NET_FILT_DROP_COUNT
  else if station then f d
  else
    let (d, ok) := d.police h.lanB h.size.toNat
    if ok then f d else d

/-- MAGIC, VERSION, LEN and the length of the datagram: IP and UDP headers take 28 bytes, station header and tag 32. Over TCP
LEN alone delimits the frame. -/
def formOk (h : StnHdr) (b : StnBody) : Bool :=
  h.magic == 0x4D44 && h.version == 1 && h.len.toNat == b.payload.length && decide (b.payload.length ≤ 1400) &&
    (b.tcp || h.ip.toNat == b.payload.length + 60)

/-- The tag of a received frame verifies (R389). -/
def Dyn.tagOk (d : Dyn) (h : StnHdr) (b : StnBody) : Bool :=
  d.nv.stationKey.any fun k => h.tag == stnTag k h.stnId h.sender h.txc (b.bytes h.stnId h.sender h.seq h.fn h.txc)

/-- Duplicate discard of a frame that passed its checks. -/
def Dyn.firstCopy (d : Dyn) (h : StnHdr) (f : Dyn → Dyn) : Dyn :=
  let (d, pass) := d.prpPass h
  if pass then f d else d

/-- The checks of R390 in their order; `drop` counts what was dropped before the duplicate discard. -/
def Dyn.checked (d : Dyn) (h : StnHdr) (b : StnBody) (lenOk senderOk : Bool) (drop f : Dyn → Dyn) : Dyn :=
  if !(formOk h b && lenOk) || h.stnId != d.nv.stnId.setWidth 8 || !senderOk then drop d
  else if !d.tagOk h b then drop (d.bump F.NET_AUTH_FAIL_COUNT)
  else d.firstCopy h f

/-- R267: the SEQ accepted within the last 400 ms, and whether this one is new. -/
def pairDiscard (seen : List (BitVec 16 × Nat)) (seq : BitVec 16) (now : Nat) : List (BitVec 16 × Nat) × Bool :=
  let kept := seen.filter fun e => now - e.2 ≤ window400
  if (kept.any fun e => e.1 == seq) then (kept, false) else ((seq, now) :: kept, true)

/-- R268: later than the frame applied last, or none was applied for 400 ms. -/
def isFresh (applied : Option (BitVec 16 × Nat)) (seq : BitVec 16) (now : Nat) : Bool :=
  match applied with
  | some (old, t) => decide (0 < (seq - old).toInt) || decide (window400 ≤ now - t)
  | none => true

/-! Received frames that wait for their latch (R256, R396). -/

/-- The nominal bit time of a CAN channel in ns (R422). -/
def Cfg.bitTime (c : Cfg) (k : Nat) : Nat :=
  25 * (c.get (F.CAN_NBT_NBRP k) + 1) * (c.get (F.CAN_NBT_NTSEG1 k) + c.get (F.CAN_NBT_NTSEG2 k) + 3)

/-- Equal identifier, format and data (R428). -/
def CanFrame.same (a b : CanFrame) : Bool :=
  a.ide == b.ide && a.id == b.id && a.fdf == b.fdf && a.brs == b.brs && a.dlc == b.dlc && a.data == b.data

/-- Two receipts are the same frame (R256, R428). -/
def Cfg.sameItem (c : Cfg) (x y : RxItem) : Bool :=
  match x, y with
  | .can k _ f s, .can k' _ f' s' => k == k' && f.same f' && decide ((s - s').toInt.natAbs ≤ c.bitTime k)
  | _, _ => x == y

/-- A receipt of this frame is known: this unit's, or the peer's by FWD. -/
def Dyn.knows (c : Cfg) (d : Dyn) (peer : Bool) (it : RxItem) : Bool :=
  (d.twin.rx ++ d.twin.seen).any fun r => r.peer == peer && c.sameItem r.item it

/-- A received frame takes its forwarding number and is kept; while the units agree it is forwarded, unless it has come from
the peer already (R256). -/
def Dyn.arrive (c : Cfg) (d : Dyn) (it : RxItem) : Dyn :=
  let n := d.twin.numbered + 1
  let known := d.knows c true it
  let d : Dyn := { d with twin := { d.twin with numbered := n, rx := d.twin.rx ++ [⟨n, false, d.ft, it⟩] } }
  if d.agreeing && !known then d.sendShl 6 (.forward n it) else d

/-- A CAN_RX or STREAM_RX trigger: reported in SLOT while this unit takes part in the agreement (R259), else posted at
once. -/
def Dyn.rxReport (c : Cfg) (d : Dyn) (p kind task source : Nat) (ft value : Word) : Dyn :=
  if d.agreeing then
    let e : EvEntry := ⟨kind, 0, task, source, ft, value, 0⟩
    { d with twin := { d.twin with ownRep := d.twin.ownRep ++ [e] } }
  else d.post c p kind task source ft value

/-- Frames of a source are those of both units, or of one alone under its ONLY rule (R255, R258). -/
def Cfg.admits (c : Cfg) (fromB : Bool) (it : RxItem) : Bool :=
  let only := fun entry => if fromB then c.merge entry != 1 else c.merge entry != 2
  if !c.twin then true
  else match it with
    | .input s _ _ _ => only (128 + s)
    | .ack s _ _ => only (128 + s)
    | .can k _ _ _ => only (160 + k)
    | _ => true

/-- Its source takes this receipt (`fromB`: of unit B). -/
def Dyn.takesRx (c : Cfg) (d : Dyn) (r : Rx) : Bool := c.admits (r.peer != d.unitB) r.item

/-- A receipt whose frame no earlier latch has taken under the rule of its source. -/
def Dyn.unseen (c : Cfg) (d : Dyn) (r : Rx) : Bool :=
  !(d.twin.seen.any fun x => d.takesRx c x && c.sameItem x.item r.item)

/-- Receipts that a latch takes are kept for 400 ms. -/
def Dyn.keepSeen (d : Dyn) (l : List Rx) : Dyn :=
  { d with twin := { d.twin with
      seen := l ++ d.twin.seen.filter fun r => decide ((d.ft - r.ft).toInt ≤ (window400 : Int)) } }

def Dyn.remote (d : Dyn) (s : Nat) : Remote := sget Remote.init d.net.remotes s
def Dyn.setRemote (d : Dyn) (s : Nat) (f : Remote → Remote) : Dyn :=
  { d with net := { d.net with remotes := sput Remote.init d.net.remotes s (f (d.remote s)) } }
def Cfg.remote (c : Cfg) (s : Nat) : Bool := c.flag (F.NET_RS_CFG_EN s)

/-- Remote station s is register instance and merge entry s − 1; the frame's SENDER and source address name it. -/
def Cfg.fromRemote (c : Cfg) (s : Nat) (h : StnHdr) : Bool :=
  c.remote s && h.sender.toNat == 0x20 + s && h.src == c.rd (Reg.NET_RS_ADDR s)

/-! The frames that other stations send (R391, R393, R395): an ACK goes on its station's input stream (DESIGN CHOICE, log
entry 118). -/
def inputBody (s : Nat) (payload : List Word) : StnBody := ⟨2, 0x101 + s, false, wordBytes payload⟩
def ackBody (s : Nat) (seq : BitVec 16) (status : BitVec 8) : StnBody := ⟨3, 0x101 + s, false, leBytes 2 seq.toNat ++ [status, 0]⟩
def streamBody (id : Nat) (payload : List Word) : StnBody := ⟨5, id, false, wordBytes payload⟩

/-- The ACK of an OUTPUT frame is there: NO_ACK_LIVE clears, whatever the next cut says (R400). -/
def Dyn.gotAck (d : Dyn) (s : Nat) (seq : BitVec 16) : Dyn :=
  (d.setRemote s fun r => { r with acked := seq :: r.acked }).setFlag (F.NET_RS_STATUS_NO_ACK_LIVE s) false

/-- INPUT_FRAME of remote station `s` + 1: checked, passed by R267, and kept for the next cut. -/
def execInputFrame (s : BitVec 5) (h : StnHdr) (payload : List Word) (st : State) : Out :=
  st.upd fun c d => d.onPort c h true fun d =>
    let s := s.toNat
    let drop := fun (d : Dyn) => if c.remote s then d.bump (F.NET_RS_ERR_COUNT s) else d
    d.checked h (inputBody s payload) (payload.length * 4 == c.get (F.NET_RS_CFG_IN_LEN s)) (c.fromRemote s h) drop fun d =>
      let (seen, new) := pairDiscard (d.remote s).seen h.seq d.now
      let d := d.setRemote s fun r => { r with seen := seen }
      if new then d.arrive c (.input s h.fn h.seq payload) else drop d

/-- ACK_FRAME of remote station `s` + 1: the accepted SEQ and the status, 1 refused. -/
def execAckFrame (s : BitVec 5) (h : StnHdr) (seq : BitVec 16) (status : BitVec 8) (st : State) : Out :=
  st.upd fun c d => d.onPort c h true fun d =>
    let s := s.toNat
    d.checked h (ackBody s seq status) true (c.fromRemote s h)
      (fun d => if c.remote s then d.bump (F.NET_RS_ERR_COUNT s) else d) fun d =>
        (d.gotAck s seq).arrive c (.ack s seq status.toNat)

/-- STREAM_FRAME of receive stream `id`: every accepted frame queues a STREAM_RX entry where its map entry has EVT; its
data wait for the latch (R401). -/
def execStreamFrame (id : BitVec 16) (h : StnHdr) (payload : List Word) (st : State) : Out :=
  st.upd fun c d => d.onPort c h true fun d =>
    let id := id.toNat
    let es := c.streamEntries id
    d.checked h (streamBody id payload) true (0x200 ≤ id && c.streamPeer id false == some h.src) (fun d => d) fun d =>
      let x := sget StreamRx.init d.net.streams id
      let (seen, new) := pairDiscard x.seen h.seq d.now
      let d : Dyn := { d with net := { d.net with streams := sput StreamRx.init d.net.streams id { x with seen := seen } } }
      if new then
        let d := es.foldl (fun (d : Dyn) e =>
          if e.2.1.bit 29 && !d.knows c true (.stream id h.seq payload) then
            d.rxReport c (e.2.1.field 24 4) 5 (e.2.1.field 20 4) id d.ft (h.seq.setWidth 32)
          else d) d
        d.arrive c (.stream id h.seq payload)
      else d

/-! Remote station states (R397–R400). STATE: 1 FAILED, 2 RETURNING, 3 OK. -/

def ns400Cause (miss noAck refused : Bool) : Option Nat :=
  if miss then some 2 else if noAck then some 3 else if refused then some 4 else none

/-- The values of a remote event: FN of the latch that the cut belongs to, and the PTP time of its T. -/
def Dyn.remoteEvent (c : Cfg) (d : Dyn) (s code cause : Nat) (fn : Word) (sec : BitVec 48) (ns : Nat) : Dyn :=
  let p := c.get (F.NET_RS_CFG_OWNER s)
  let d := d.addCause c p (if code = 0x0801 then 0x40 else 0x41)
  let d := d.pushRec code (s + 1) (BitVec.ofNat 32 cause) 0 (Config.alarmClass code) fn d.ft sec ns
  if c.triggersOn code then d.freeze c 1 code fn else d

/-- Remote station `s` at a cut `t` (ns), with its share of the agreed set. An OUTPUT frame without ACK is judged once,
at the first cut ACK_DL or more after its commit. -/
def Dyn.cutOne (c : Cfg) (d : Dyn) (s t : Nat) (items : List RxItem) (fn : Word) (sec : BitVec 48) (ns : Nat) : Dyn :=
  let acks := items.filterMap fun x => match x with
    | .ack k seq status => if k = s then some (seq, status) else none
    | _ => none
  let d := d.setRemote s fun r => { r with frame := none }
  let d := items.foldl (fun (d : Dyn) x => match x with
    | .input k _ seq payload =>
      if k ≠ s then d
      else if isFresh (d.remote s).applied seq d.now then
        d.setRemote s fun r => { r with frame := some (seq, payload), applied := some (seq, d.now) }
      else d.bump (F.NET_RS_ERR_COUNT s)
    | _ => d) d
  let d := acks.foldl (fun (d : Dyn) a =>
    let d := (d.setRemote s fun r => { r with due := r.due.filter fun o => o.1 != a.1 }).put (F.NET_RS_RX_HIGH s) a.1.toNat
    d.setFlag (F.NET_RS_STATUS_NO_ACK_LIVE s) false) d
  let dl := d.get F.NET_ACK_DL_VALUE * 1000
  let overdue := (d.remote s).due.filter fun o => o.2 + dl ≤ t
  let noAck := !overdue.isEmpty
  let late := overdue.any fun o => !(d.remote s).acked.contains o.1
  let d := d.setRemote s fun r =>
    let due := r.due.filter fun o => t < o.2 + dl
    { r with due := due, acked := r.acked.filter fun a => due.any fun o => o.1 == a }
  let d := if late then d.setFlag (F.NET_RS_STATUS_NO_ACK_LIVE s) true else d
  let refused := acks.any fun a => a.2 == 1
  let frame := (d.remote s).frame
  let miss := if frame.isSome then 0 else min (d.get (F.NET_RS_STATUS_MISS s) + 1) 255
  let d := d.put (F.NET_RS_STATUS_MISS s) miss
  let d := match frame with
    | some (seq, _) => (d.put (F.NET_RS_STATUS_SEQ s) seq.toNat).put (F.NET_RS_RX_LOW s) seq.toNat
    | none => d
  let go := fun (d : Dyn) (state : Nat) => (d.put (F.NET_RS_STATUS_STATE s) state).setFlag (F.NET_RS_STATUS_INVALID s) (state != 3)
  let fail := fun (d : Dyn) (cause : Nat) => ((go d 1).put (F.NET_RS_STATUS_CAUSE s) cause).bump (F.NET_RS_LOSS_COUNT s)
  match d.get (F.NET_RS_STATUS_STATE s) with
  | 3 =>
    match ns400Cause (decide (c.get (F.NET_RS_CFG_MISS_LIMIT s) + 1 ≤ miss)) noAck refused with
    | some cause => (fail d cause).remoteEvent c s 0x0801 cause fn sec ns
    | none => d
  | 2 =>
    if frame.isNone then fail d (d.get (F.NET_RS_STATUS_CAUSE s))
    else match ns400Cause false noAck refused with
      | some cause => fail d cause
      | none => (go d 3).remoteEvent c s 0x0802 (d.get (F.NET_RS_STATUS_CAUSE s)) fn sec ns
  | _ => if frame.isSome then go d 2 else d

/-- The cut of the latch of frame `fn`, over its set. -/
def Dyn.remoteCut (c : Cfg) (d : Dyn) (t : Nat) (items : List RxItem) (fn : Word) (sec : BitVec 48) (ns : Nat) : Dyn :=
  let d := (List.range 32).foldl (fun d s => if c.remote s then d.cutOne c s t items fn sec ns else d) d
  { d with net := { d.net with cutDone := true } }

/-- REMOTE_STATION_CUT: at T − 10 µs of the next frame. In an agreeing twin the set is known with the agreement, and the
states are decided there. -/
def execRemoteStationCut (st : State) : Out :=
  st.upd fun c d =>
    if !d.slc.framing then d
    else
      let d := d.advTo (d.atT (c.period - 10000))
      if d.agreeing || d.net.cutDone then d
      else
        let isNet := fun (r : Rx) => !r.peer && match r.item with
          | .input _ _ _ _ => !later r.ft d.ft
          | .ack _ _ _ => !later r.ft d.ft
          | _ => false
        let rs := d.twin.rx.filter isNet
        let items := (rs.filter fun r => d.takesRx c r && d.unseen c r).map (·.item)
        let d := ({ d with twin := { d.twin with rx := d.twin.rx.filter fun r => !isNet r } } : Dyn).keepSeen rs
        let k := d.clk.addPtp (10000 * 2 ^ 24)
        d.remoteCut c d.now items (d.fn + 1) k.sec (k.ns24 >>> 24)

/-- The OUTPUT frames whose ACK has not arrived. -/
def Remote.unanswered (r : Remote) : List (BitVec 16 × Nat) := r.due.filter fun o => !r.acked.contains o.1

/-- ACK_DEADLINE of remote station `s` + 1: ACK_DL after the commit of its oldest OUTPUT frame without ACK. -/
def execAckDeadline (s : BitVec 5) (st : State) : Out :=
  st.upd fun c d =>
    let s := s.toNat
    match (d.remote s).unanswered with
    | [] => d
    | o :: _ => d.whenDue c (o.2 + d.get F.NET_ACK_DL_VALUE * 1000) fun d => d.setFlag (F.NET_RS_STATUS_NO_ACK_LIVE s) true

/-- The live status word (R400): NO_ACK_LIVE also as soon as an ACK is overdue. -/
def Dyn.remoteLive (d : Dyn) (s : Nat) : Word :=
  let dl := d.get F.NET_ACK_DL_VALUE * 1000
  let w := d.rd (Reg.NET_RS_STATUS s)
  if ((d.remote s).unanswered.any fun o => o.2 + dl ≤ d.now) then w.setBit 30 true else w

/-! The receive area at the latch (R396, R398, R401). -/

/-- Write a segment's words: AREA, WLEN and POFS of word 1. -/
def putSeg (m : SMap Word) (w1 : Word) (f : Nat → Nat → Word) : SMap Word :=
  (List.range (w1.field 11 9)).foldl (fun m i => sput 0 m (w1.field 20 12 + i) (f (w1.field 20 12 + i) (w1.field 2 9 + i))) m

/-- The words and the status word of remote station `s` at T. -/
def Dyn.remoteWords (c : Cfg) (d : Dyn) (s : Nat) : Dyn :=
  let r := d.remote s
  let ok := d.get (F.NET_RS_STATUS_STATE s) = 3
  let d := if ok then match r.frame with
      | some (_, payload) => d.setRemote s fun r => { r with last := payload }
      | none => d
    else d
  let last := (d.remote s).last
  let m := (c.streamEntries (0x101 + s)).foldl (fun m e =>
    if e.2.1.bit 28 then m
    else putSeg m e.2.2 fun w j =>
      if ok then last.getD j 0
      else match e.2.2.field 0 2 with
        | 0 => last.getD j 0
        | 1 => c.rd (Reg.NET_SUBST (w - 0x300))
        | _ => 0x00038000) d.agreed
  { d with agreed := sput 0 m (0x260 + s) ((d.rd (Reg.NET_RS_STATUS s)).setBit 30 false) }

/-- A frame of another stream at the latch: placed by its segments, or appended to its queue. -/
def Dyn.streamLatch (c : Cfg) (d : Dyn) (id : Nat) (seq : BitVec 16) (payload : List Word) : Dyn :=
  let x := sget StreamRx.init d.net.streams id
  if !isFresh x.applied seq d.now then d
  else
    let x := { x with applied := some (seq, d.now) }
    let d : Dyn := { d with net := { d.net with streams := sput StreamRx.init d.net.streams id x } }
    (c.streamEntries id).foldl (fun (d : Dyn) e =>
      if e.2.1.bit 28 then
        let q := e.2.2.field 2 7
        (d.qPut c q ⟨d.latches, payload.take (c.qWords q)⟩).1
      else { d with agreed := putSeg d.agreed e.2.2 fun _ j => payload.getD j 0 }) d

/-- The station network's part of an input latch, after the cut: station words, then the other streams of the set. -/
def Dyn.netLatch (c : Cfg) (d : Dyn) (items : List RxItem) : Dyn :=
  let d := (List.range 32).foldl (fun d s => if c.remote s then d.remoteWords c s else d) d
  let d := items.foldl (fun (d : Dyn) x => match x with
    | .stream id seq payload => d.streamLatch c id seq payload
    | _ => d) d
  { d with net := { d.net with cutDone := false } }.prpForget

/-! Release (R98, R394, R405). -/

/-- A word of the committed output image with the output forces on it (R181). -/
def Dyn.txWord (d : Dyn) (w : Nat) : Word :=
  d.life.outForces.foldl (fun v e => match e.2 with
    | some f =>
      if f.space ≠ 2 then v
      else if f.word then (if f.index = w then f.value else v)
      else if f.index / 32 = w then v.setBit (f.index % 32) (f.value.bit 0) else v
    | none => v) (sget 0 d.outC w)

/-- The transmit segments of a stream. -/
def Cfg.txSegs (c : Cfg) (id : Nat) : List (Nat × Word × Word) :=
  c.idmap.filter fun e => e.2.1.field 30 2 == 3 && e.2.1.field 0 16 == id

/-- Its payload of `n` words; words that no segment covers are zero. -/
def Dyn.txPayload (c : Cfg) (d : Dyn) (id n : Nat) : List Word :=
  let m := (c.txSegs id).foldl (fun (m : SMap Word) e =>
    (List.range (e.2.2.field 11 9)).foldl (fun m i => sput 0 m (e.2.2.field 2 9 + i) (d.txWord (e.2.2.field 20 12 + i))) m) []
  (List.range n).map fun i => sget 0 m i

/-- The cyclic transmit streams from 0x0200 on, with owner, and length as far as their segments reach. -/
def Cfg.txStreams (c : Cfg) : List (Nat × Nat × Nat) :=
  let es := c.idmap.filter fun e => e.2.1.field 30 2 == 3 && 0x200 ≤ e.2.1.field 0 16
  es.foldl (fun (l : List (Nat × Nat × Nat)) e =>
    let id := e.2.1.field 0 16
    let n := e.2.2.field 2 9 + e.2.2.field 11 9
    match l.find? fun x => x.1 == id with
    | some x => l.map fun y => if y.1 == id then (id, x.2.1, max x.2.2 n) else y
    | none => insertBy (·.1) (id, e.2.1.field 24 4, n) l) []

/-- Polders that own a transmit segment of the stream. -/
def Cfg.txOwners (c : Cfg) (id : Nat) : List Nat := (c.txSegs id).map fun e => e.2.1.field 24 4

/-- ACK_DL in µs (R394): 200 µs and the time of all frames released at one commit, at the lower configured speed. -/
def Cfg.ackDl (c : Cfg) : Nat :=
  let byte := if c.get F.NET_CFG_SPEED_A = 2 && c.get F.NET_CFG_SPEED_B = 2 then 8 else 80
  let outs := (List.range 32).map fun s => if c.remote s then c.get (F.NET_RS_CFG_OUT_LEN s) + 104 else 0
  let streams := c.txStreams.map fun x => x.2.2 * 4 + 104
  let queues := (List.range 128).map fun q =>
    if c.queueUsed q && c.qKind q == 1 && !c.qReceive q then c.qWords q * 4 + 104 else 0
  200 + ((outs.sum + streams.sum + queues.sum) * byte + 999) / 1000

/-- The class of a polder. -/
def Cfg.classOf (c : Cfg) (p : Nat) : Nat := c.get (F.PLD_CFG_CLASS p)

/-- The class in which a cyclic stream is released: that of the owner that names it first (R394). -/
def Cfg.streamClass (c : Cfg) (id : Nat) : Nat := c.classOf (((c.txStreams.find? fun x => x.1 == id).map (·.2.1)).getD 0)

/-- OUTPUT to remote station `s` + 1 (R394); while any unit sends, the frame is recorded on both units. -/
def Dyn.sendOutput (c : Cfg) (d : Dyn) (s : Nat) : Dyn :=
  let seq := d.fn.setWidth 16
  let d := if d.sending || d.agreeing then d.setRemote s fun r => { r with due := r.due ++ [(seq, d.now)] } else d
  if d.sending then d.sendStn c (c.classOf (c.get (F.NET_RS_CFG_OWNER s))) 1 (s + 1) seq d.fn (d.txPayload c (s + 1) (c.get (F.NET_RS_CFG_OUT_LEN s) / 4)) else d

/-- A cyclic transmit stream. -/
def Dyn.sendStream (c : Cfg) (d : Dyn) (cls id n : Nat) : Dyn :=
  if d.sending then d.sendStn c cls 5 id (d.fn.setWidth 16) d.fn (d.txPayload c id n) else d

/-- A STREAM transmit queue sends its oldest committed entry; a unit that is not sending drops the entry as the sending
unit sends it. -/
def Dyn.sendQueue (c : Cfg) (d : Dyn) (q : Nat) : Dyn :=
  match (d.queue q).done with
  | [] => d
  | e :: _ =>
    let d := d.setQueue q fun x => { x with done := x.done.drop 1 }
    if d.sending then d.sendStn c (c.get (F.HQ_CFG_CLASS q)) 5 (c.get (F.HQ_CFG_STREAM q)) (d.fn.setWidth 16) d.fn e.words else d

/-- An ALARM queue turns its committed entries into records of its class, with the FN of the commit (R405, R414). -/
def Dyn.sendAlarms (c : Cfg) (d : Dyn) (q : Nat) : Dyn :=
  let es := (d.queue q).done
  let d := d.setQueue q fun x => { x with done := [] }
  es.foldl (fun (d : Dyn) e =>
    let w := e.words.getD 0 0
    let code := 0x1000 + w.field 0 12
    let d := d.pushRec code (w.field 16 16) (e.words.getD 1 0) (e.words.getD 2 0)
      (BitVec.ofNat 2 (c.get (F.HQ_CFG_CLASS q))) d.fn d.ft d.slc.tSec d.slc.tNs
    if c.triggersOn code then d.freeze c 1 code d.fn else d) d

/-- HEARTBEAT on stream 0 (R392). -/
def Dyn.heartbeat (c : Cfg) (d : Dyn) : Dyn :=
  let flags := b2n (d.role == 7) + 2 * b2n d.lockstep
  d.sendStn c (Config.trafficClass 4) 4 0 (d.fn.setWidth 16) d.fn
    [BitVec.ofNat 32 (d.role + flags * 256 + d.modState * 65536), d.rd Reg.STN_STATE,
     c.img.imageId.extractLsb' 0 32, c.img.imageId.extractLsb' 32 32]

/-! Alarm servers (R412, R415). -/

def Dyn.conn (d : Dyn) (a : Nat) : Option AlmConn := sget none d.net.conns a
def Dyn.setConn (d : Dyn) (a : Nat) (k : Option AlmConn) : Dyn :=
  let d := d.put F.NET_ALM_STAT_COUNT
    (Word.setBit (BitVec.ofNat 32 (d.get F.NET_ALM_STAT_COUNT)) a k.isSome).toNat
  { d with net := { d.net with conns := sput none d.net.conns a k } }

/-- EVN of the oldest record held, or of the next record when none is. -/
def Dyn.oldestEvn (d : Dyn) : Nat := ((d.alarms.getLast?).map (·.evn)).getD d.nextEvn

/-- Send server `a` what the window of 256 records allows; overwritten records are reported by one with GAP. -/
def Dyn.pumpOne (c : Cfg) (d : Dyn) (a : Nat) : Dyn :=
  match d.conn a with
  | none => d
  | some k =>
    if !k.hello then d
    else
      let oldest := d.oldestEvn
      let lost := oldest - (k.sent + 1)
      let (d, k) := if lost = 0 then (d, k)
        else (d.bumpBy F.NET_ALM_LOST_COUNT lost,
              { k with sent := oldest - 1, acked := max k.acked (oldest - 1), gap := some lost })
      let new := d.alarms.reverse.filter fun r => k.sent < r.evn && r.evn ≤ k.acked + 256
      match new with
      | [] => d.setConn a (some k)
      | r :: _ =>
        let d := match k.gap with
          | some n => d.tx c r.cls.toNat (.alarm a (some { r with gap := true, value := BitVec.ofNat 32 n }))
          | none => d
        let d := new.foldl (fun (d : Dyn) r => d.tx c r.cls.toNat (.alarm a (some r))) d
        d.setConn a (some { k with sent := k.sent + new.length, gap := none, sentAt := d.now })

def Dyn.pump (c : Cfg) (d : Dyn) : Dyn := (List.range 4).foldl (fun d a => d.pumpOne c a) d

/-- A server's frame: from its address, with SENDER 0x50 + a. -/
def Cfg.fromServer (c : Cfg) (a : Nat) (h : StnHdr) : Bool :=
  c.rd (Reg.NET_ALMSRV a) != 0 && h.src == c.rd (Reg.NET_ALMSRV a)

/-- ALARM_CONNECT: server `a` opens its TCP connection. -/
def execAlarmConnect (a : BitVec 2) (h : StnHdr) (st : State) : Out :=
  st.upd fun c d => d.onPort c h false fun d => d.firstCopy h fun d =>
    if c.fromServer a.toNat h then d.setConn a.toNat (some ⟨0, 0, false, none, d.now, d.now⟩) else d

/-- ALARM_HELLO and ALARM_ACK (R412). -/
def helloBody (a : BitVec 2) (last : Word) : StnBody := ⟨0x22, 0, true, [a.setWidth 8, 0, 0, 0] ++ wordBytes [last]⟩
def alarmAckBody (evn : Word) : StnBody := ⟨0x21, 0, true, wordBytes [evn]⟩

/-- ALARM_HELLO: with the last event number the server holds, or 0xFFFF_FFFF. -/
def execAlarmHello (a : BitVec 2) (h : StnHdr) (last : Word) (st : State) : Out :=
  st.upd fun c d => d.onPort c h false fun d =>
    let body := helloBody a last
    let a := a.toNat
    d.checked h body true (c.fromServer a h && h.sender.toNat == 0x50 + a) (fun d => d) fun d =>
      if (d.conn a).isNone then d
      else
        let held := if last = -1 then 0 else last.toNat
        (d.setConn a (some ⟨held, held, true, none, d.now, d.now⟩)).pumpOne c a

/-- ALARM_ACK: the highest event number the server holds. -/
def execAlarmAck (a : BitVec 2) (h : StnHdr) (evn : Word) (st : State) : Out :=
  st.upd fun c d => d.onPort c h false fun d =>
    let a := a.toNat
    d.checked h (alarmAckBody evn) true (c.fromServer a h && h.sender.toNat == 0x50 + a) (fun d => d) fun d =>
      match d.conn a with
      | some k => (d.setConn a (some { k with acked := max k.acked (min evn.toNat k.sent), ackAt := d.now })).pumpOne c a
      | none => d

/-- ALARM_IDLE: a second without a record to server `a`. -/
def execAlarmIdle (a : BitVec 2) (st : State) : Out :=
  st.upd fun c d =>
    match d.conn a.toNat with
    | some k =>
      if k.hello then d.whenDue c (k.sentAt + 10 ^ 9) fun d =>
        (d.tx c (Config.trafficClass 0x20) (.alarm a.toNat none)).setConn a.toNat (some { k with sentAt := d.now })
      else d
    | none => d

/-- ALARM_TIMEOUT: 10 s without ALARM_ACK. -/
def execAlarmTimeout (a : BitVec 2) (st : State) : Out :=
  st.upd fun c d =>
    match d.conn a.toNat with
    | some k => d.whenDue c (k.ackAt + 10 ^ 10) fun d => d.setConn a.toNat none
    | none => d

/-! Port services. -/

/-- PRP_SUPERVISION: every 2,000 ms on both LANs. -/
def execPrpSupervision (st : State) : Out :=
  st.upd fun c d =>
    if !d.netUp then d
    else d.whenDue c (d.net.supAt + 2000000000) fun d =>
      ({ d with net := { d.net with supAt := d.now } } : Dyn).txPlain c (Config.trafficClass 0) .supervision

/-- ARP_ICMP_REQUEST: answered at most 100 times per second and port; a second of this count begins with the first request
after the one before (DESIGN CHOICE, log entry 112). -/
def execArpIcmpRequest (h : StnHdr) (st : State) : Out :=
  st.upd fun c d => d.onPort c h false fun d => d.firstCopy h fun d =>
    let (t, n) := if h.lanB then d.net.arpB else d.net.arpA
    let (t, n) := if 10 ^ 9 ≤ d.now - t then (d.now, 0) else (t, n)
    if 100 ≤ n then d
    else
      let v := (t, n + 1)
      let d : Dyn := { d with net := if h.lanB then { d.net with arpB := v } else { d.net with arpA := v } }
      d.txPlain c 3 .answer

/-- PORT_LINK_CHANGE: a half-duplex partner is refused; a fixed speed links at that speed only. -/
def execPortLinkChange (lanB : Bool) (offer : LinkOffer) (st : State) : Out :=
  st.upd fun c d =>
    if !d.netUp then d
    else
      let fixed := c.get (if lanB then F.NET_CFG_SPEED_B else F.NET_CFG_SPEED_A)
      let v := match offer with
        | .down => 0
        | .mbit100 => if fixed = 2 then 0 else 1
        | .gbit1 => if fixed = 1 then 0 else 2
        | .halfDuplex => 3
      let d := d.put (if lanB then F.NET_PORT_STAT_LINK_B else F.NET_PORT_STAT_LINK_A) v
      d.ptpFault c

/-! The module as a client (R411). -/

def Dyn.diagOf (d : Dyn) (s : Nat) : DiagClient := sget DiagClient.init d.net.diag s
def Dyn.setDiag (d : Dyn) (s : Nat) (x : DiagClient) : Dyn :=
  { d with net := { d.net with diag := sput DiagClient.init d.net.diag s x } }

/-- REMOTE_DIAG_READ of remote station `s` + 1: once per second, an OPEN while no session stands, else a READ. -/
def execRemoteDiagRead (s : BitVec 5) (st : State) : Out :=
  st.upd fun c d =>
    let s := s.toNat
    if !d.netUp || d.modState == 4 || !c.remote s then d
    else
      let x := d.diagOf s
      let num := x.num + 1
      let first := x.gen == 0
      let tid := x.gen.setWidth 32 <<< 16 ||| num.setWidth 32
      d.whenDue c (x.at_ + 10 ^ 9) fun d => 
        (d.setDiag s ⟨x.gen, num, some first, d.now⟩).tx c 3 (.request s tid (if first then 1 else 2) (Config.diagAddr s))

/-- RA_RSP of remote station `s` + 1: a reply to the request that is awaited, with the current generation; STALE_GEN ends
the session. -/
def execRaRsp (s : BitVec 5) (h : StnHdr) (tid : Word) (reply : RaReply) (data : List Word) (st : State) : Out :=
  st.upd fun c d => d.onPort c h false fun d =>
    let s := s.toNat
    let status := reply.status
    d.checked h ⟨0x11, 0, false, raRspBytes tid reply data⟩ true (c.fromRemote s h) (fun d => if c.remote s then d.bump (F.NET_RS_ERR_COUNT s) else d) fun d =>
      let x := d.diagOf s
      let gen := tid.extractLsb' 16 16
      if tid.extractLsb' 0 16 != x.num then d
      else match x.awaits with
        | some true =>
          if status = 0 then d.setDiag s { x with gen := gen, awaits := none } else d.setDiag s { x with awaits := none }
        | some false =>
          if gen != x.gen then d
          else if status = 3 then d.setDiag s { x with gen := 0, awaits := none }
          else
            let d := d.setDiag s { x with awaits := none }
            match data with
            | w :: _ => if status = 0 then d.wr (Reg.NET_RS_DIAG s) w else d
            | [] => d
        | none => d

/-- Start of the station network: a new epoch, a generation drawn at random, ACK_DL, and every remote station FAILED
with cause START (R389, R394, R397, R409). -/
def Dyn.netStart (c : Cfg) (d : Dyn) : Dyn :=
  let e := d.nv.txEpoch + 1
  let (g, d) := d.fresh
  let d : Dyn := { d with nv := { d.nv with txEpoch := e },
                          net := { Net.init with epoch := e, gen := g.setWidth 16, supAt := d.now } }
  let d := d.wr Reg.NET_ACK_DL (BitVec.ofNat 32 c.ackDl)
  (List.range 32).foldl (fun d s => if c.remote s then d.wr (Reg.NET_RS_STATUS s) 0x91000000 else d) d

end Sys2Proof.Machine
end

