-- ==== Sys2Proof/Machine/Can.lean ====
section
/-! DEFINITION. The CAN channels (R419–R444): receipt and receive buffers, candidates and attempts, cancellation, fault
confinement, bus-off and the alternate channel, identifier collisions. -/

namespace Sys2Proof.Machine

/-! CAN_STATUS.STATE: 0 ERROR_ACTIVE, 1 ERROR_PASSIVE, 2 BUS_OFF, 3 OFF. -/

def Cfg.listens (c : Cfg) (k : Nat) : Bool := c.flag (F.CAN_CFG_MODE k)
/-- The live status word: a channel without a CAN section reads OFF with INVALID (R421). -/
def Dyn.canStatus (c : Cfg) (d : Dyn) (k : Nat) : Word := if c.canUsed k then d.rd (Reg.CAN_STATUS k) else 0xE0000000

/-- Length in bytes: in a classical frame DLC 9–15 means 8 (R424). -/
def canLen (fdf : Bool) (dlc : Nat) : Nat := if fdf then dlcLen dlc else min dlc 8

/-- Data words of `n` bytes, bytes beyond the length zero. -/
def maskData (n : Nat) (ws : List Word) : List Word :=
  (List.range ((n + 3) / 4)).map fun i =>
    let left := n - 4 * i
    let w := ws.getD i 0
    if 4 ≤ left then w else BitVec.ofNat 32 (w.toNat % 2 ^ (8 * left))

/-! Error counters and states, as ISO 11898-1 defines them (R437). -/

/-- The status word after TEC and REC took new values; TEC above 255 is the entry into BUS_OFF. -/
def Dyn.canCounters (d : Dyn) (k tec rec_ : Nat) : Dyn :=
  let d := (d.put (F.CAN_STATUS_TEC k) (min tec 255)).put (F.CAN_STATUS_REC k) (min rec_ 255)
  let d := d.setFlag (F.CAN_STATUS_WARN k) (96 ≤ tec || 96 ≤ rec_)
  if d.canState k ≤ 1 then d.put (F.CAN_STATUS_STATE k) (if 128 ≤ tec || 128 ≤ rec_ then 1 else 0) else d

/-- A frame sent, and a frame received, lower the counters; after REC above 127 it is set between 119 and 127 (the
standard leaves which: a free value in that range). -/
def Dyn.canTxOk (c : Cfg) (d : Dyn) (k : Nat) : Dyn :=
  if c.listens k then d else d.canCounters k (d.get (F.CAN_STATUS_TEC k) - 1) (d.get (F.CAN_STATUS_REC k))
def Dyn.canRxOk (c : Cfg) (d : Dyn) (k : Nat) : Dyn :=
  let r := d.get (F.CAN_STATUS_REC k)
  if c.listens k then d
  else if 127 < r then
    let (w, d) := d.fresh
    d.canCounters k (d.get (F.CAN_STATUS_TEC k)) (119 + w.toNat % 9)
  else d.canCounters k (d.get (F.CAN_STATUS_TEC k)) (r - 1)

/-! Entries of the identifier map (R424). -/

/-- KIND 1 entries of channel `k`, transmit or receive. -/
def Cfg.canEntries (c : Cfg) (k : Nat) (tx : Bool) : List (Nat × Word × Word) :=
  c.idmap.filter fun e => e.2.1.field 30 2 == 1 && e.2.2.field 30 2 == k && e.2.2.bit 29 == tx

def entryId (w0 : Word) (f : CanFrame) : Bool := w0.bit 29 == f.ide && w0.field 0 29 == f.id.toNat

/-- A dropped receipt shows in the next status word (R437). -/
def Dyn.rxDropped (d : Dyn) (k : Nat) : Dyn := d.setFlag (F.CAN_STATUS_RX_DROP k) true

/-! Receive buffers (R430, R431). -/

/-- Word 1 of a buffer: LOCKED bit 28, OVW 29, NEW 30, VALID 31. -/
def Dyn.rxbLocked (d : Dyn) (k b : Nat) : Bool := (d.rd (Reg.CAN_RXB k b 1)).bit 28

/-- The buffer that takes a frame: the first along the chain that is not locked. -/
def Dyn.rxbFind (c : Cfg) (d : Dyn) (k : Nat) : Nat → Nat → Option Nat
  | 0, _ => none
  | fuel + 1, b =>
    if !d.rxbLocked k b then some b
    else if c.flag (F.CAN_RXB_CFG_POLICY k b) then d.rxbFind c k fuel (c.get (F.CAN_RXB_CFG_NEXT k b)) else none

/-- A frame of map entry `e` written to buffer `b`. -/
def Dyn.rxbWrite (d : Dyn) (k b e : Nat) (f : CanFrame) (stamp : Word) : Dyn :=
  let len := canLen f.fdf f.dlc.toNat
  let had := (d.rd (Reg.CAN_RXB k b 1)).bit 30
  let w1 := 2 ^ 31 + 2 ^ 30 + b2n had * 2 ^ 29 + b2n f.fdf * 2 ^ 27 + b2n f.brs * 2 ^ 26 + b2n f.esi * 2 ^ 25 +
    f.dlc.toNat * 2 ^ 21 + len * 2 ^ 14 + e
  let d := (d.wr (Reg.CAN_RXB k b 0) (BitVec.ofNat 32 (b2n f.ide * 2 ^ 31 + f.id.toNat))).wr (Reg.CAN_RXB k b 1)
    (BitVec.ofNat 32 w1)
  let d := (d.wr (Reg.CAN_RXB k b 2) stamp).wr (Reg.CAN_RXB k b 3) d.fn
  (List.range 16).foldl (fun d i => d.wr (Reg.CAN_RXB k b (4 + i)) (f.data.getD i 0)) d

def Dyn.rxbPut (c : Cfg) (d : Dyn) (k b e : Nat) (f : CanFrame) (stamp : Word) : Dyn :=
  match d.rxbFind c k 32 b with
  | some b => d.rxbWrite k b e f stamp
  | none => (d.bump (F.CAN_RXDROP_BUF_DROP k)).rxDropped k

/-- Reading word 0 locks the buffer, if it is not locked already; reading word 19 unlocks it and clears NEW. -/
def Dyn.rxbLock (d : Dyn) (k b : Nat) : Dyn :=
  if d.rxbLocked k b then d
  else (d.wr (Reg.CAN_RXB k b 1) ((d.rd (Reg.CAN_RXB k b 1)).setBit 28 true)).setCan k fun x =>
    { x with locks := sput none x.locks b (some d.now) }
def Dyn.rxbUnlock (d : Dyn) (k b : Nat) : Dyn :=
  let d := d.wr (Reg.CAN_RXB k b 1) (((d.rd (Reg.CAN_RXB k b 1)).setBit 28 false).setBit 30 false)
  d.setCan k fun x => { x with locks := sput none x.locks b none }

/-- A denied or allowed read of one buffer word. -/
def rxbRead (who : Requester) (k b w : Nat) (f : Dyn → Dyn) (st : State) : Out :=
  st.upd fun c d =>
    let a := Reg.CAN_RXB k b w
    if !d.portServed who then d
    else if d.mayAccess c who a false then (if c.canUsed k then f { d with readData := d.rd a } else { d with readData := 0 })
    else { d with readData := 0 }.accErr (BitVec.ofNat 32 a)

/-- RXB_LOCK: a requester reads word 0. -/
def execRxbLock (who : Requester) (k : BitVec 2) (b : BitVec 5) (st : State) : Out :=
  rxbRead who k.toNat b.toNat 0 (fun d => d.rxbLock k.toNat b.toNat) st

/-- RXB_UNLOCK: a requester reads word 19. -/
def execRxbUnlock (who : Requester) (k : BitVec 2) (b : BitVec 5) (st : State) : Out :=
  rxbRead who k.toNat b.toNat 19 (fun d => d.rxbUnlock k.toNat b.toNat) st

/-- RXB_LOCK_TIMEOUT: after RXB_LOCK_MS the lock is cleared and counted. -/
def execRxbLockTimeout (k : BitVec 2) (b : BitVec 5) (st : State) : Out :=
  st.upd fun c d =>
    let k := k.toNat
    let b := b.toNat
    match sget none (d.canOf k).locks b with
    | none => d
    | some t =>
    d.whenDue c (t + c.get (F.CAN_CFG_RXB_LOCK_MS k) * 10 ^ 6) fun d =>
      let d := d.wr (Reg.CAN_RXB k b 1) ((d.rd (Reg.CAN_RXB k b 1)).setBit 28 false)
      (d.setCan k fun x => { x with locks := sput none x.locks b none }).bump (F.CAN_RXDROP_LOCK_TO k)

/-! Candidates (R433). -/

/-- The frame that map entry `e` sends with data `ws`. -/
def Cfg.canFrame (c : Cfg) (e : Nat) (ws : List Word) : CanFrame :=
  let w0 := c.rd (0xD8000 + 8 * e)
  let w1 := c.rd (0xD8000 + 8 * e + 4)
  { ide := w0.bit 29, id := BitVec.ofNat 29 (w0.field 0 29), fdf := w1.bit 17, brs := w1.bit 16, esi := false,
    remote := false, dlc := BitVec.ofNat 4 (w1.field 0 4), data := maskData (canLen (w1.bit 17) (w1.field 0 4)) ws }

/-- The map entry of a queue's oldest released entry. -/
def QEntry.mapEntry (e : QEntry) : Nat := (e.words.getD 0 0).field 0 11

/-- The candidates of channel `k`, each with its place in the order and its frame. -/
def Dyn.candidates (c : Cfg) (d : Dyn) (k : Nat) : List (Nat × Cand × CanFrame) :=
  let rank := fun (cls n : Nat) (f : CanFrame) =>
    (cls * 2 ^ 29 + (if f.ide then f.id.toNat else f.id.toNat * 2 ^ 18)) * 2 ^ 12 + n
  let es := (d.canOf k).waiting.filterMap fun x => x.2.map fun f =>
    (rank (c.get (F.PLD_CFG_CLASS ((c.rd (0xD8000 + 8 * x.1 + 4)).field 23 4))) x.1 f, Cand.entry x.1, f)
  let qs := c.canQueues.filterMap fun q =>
    if d.qChannel c q != k then none
    else ((d.queue q).rel.head?).map fun e =>
      let f := c.canFrame e.mapEntry (e.words.drop 1)
      (rank (c.get (F.HQ_CFG_CLASS q)) q f, Cand.queue q, f)
  es ++ qs

def firstCand : List (Nat × Cand × CanFrame) → Option (Nat × Cand × CanFrame)
  | [] => none
  | x :: l => match firstCand l with
    | some y => some (if x.1 ≤ y.1 then x else y)
    | none => some x

/-- The channel may drive the bus. -/
def Dyn.canDrives (c : Cfg) (d : Dyn) (k : Nat) : Bool :=
  c.canUsed k && !c.listens k && d.canState k ≤ 1 && d.sending && !d.slc.commitOff

/-- CAN_ARBITRATION at bus idle: the first candidate starts an attempt; another candidate than the counted one resets
the count of R442. ESI is set in an FD frame while ERROR_PASSIVE. -/
def execCanArbitration (k : BitVec 2) (st : State) : Out :=
  st.upd fun c d =>
    let k := k.toNat
    let d := d.setCan k fun x => { x with cut := false }
    if !d.canDrives c k || (d.canOf k).under.isSome then d
    else match firstCand (d.candidates c k) with
      | none => d
      | some (_, cand, f) =>
        let f := { f with esi := f.fdf && d.canState k == 1 }
        d.setCan k fun x =>
          { x with under := some (cand, f), counted := some cand,
                   errors := if x.counted == some cand then x.errors else 0,
                   waiting := match cand with
                     | .entry e => sput none x.waiting e none
                     | .queue _ => x.waiting }

/-- A candidate leaves its place, sent or removed. -/
def Dyn.dropCand (d : Dyn) (x : Cand) : Dyn :=
  let d := d.uncount x
  match x with
  | .entry _ => d
  | .queue q => d.setQueue q fun x => { x with rel := x.rel.drop 1 }

/-- The candidate keeps its place; an entry that has released a newer frame meanwhile has it replaced unsent. -/
def Dyn.keepCand (d : Dyn) (k : Nat) (f : CanFrame) : Cand → Dyn
  | .entry e =>
    if (sget none (d.canOf k).waiting e).isSome then (d.uncount (.entry e)).setFlag (F.CAN_STATUS_TX_OVW k) true
    else d.setCan k fun x => { x with waiting := sput none x.waiting e (some f) }
  | .queue _ => d

/-- A CANCEL that holds an entry of queue `q` ends, with HELD 2 REMOVED or 3 SENT (R436). -/
def Dyn.heldEnds (d : Dyn) (q outcome : Nat) : Dyn :=
  (List.range 4).foldl (fun d k =>
    if (d.canOf k).held == some q then
      let d := (d.setCan k fun x => { x with held := none }).put (F.CAN_CMD_STAT_HELD k) outcome
      if d.get (F.CAN_CMD_STAT_STATUS k) = 1 then d.put (F.CAN_CMD_STAT_STATUS k) 2 else d
    else d) d

/-- Queue `q` has its entry on the bus held by a CANCEL. -/
def Dyn.isHeld (d : Dyn) (q : Nat) : Bool := (List.range 4).any fun k => (d.canOf k).held == some q

/-- The candidate is sent: counted, and out of its place. -/
def Dyn.candSent (d : Dyn) (k : Nat) (cand : Cand) (f : CanFrame) (byUs : Bool) : Dyn :=
  let e := match cand with
    | .entry e => e
    | .queue q => (((d.queue q).rel.head?).map QEntry.mapEntry).getD 0
  let d := (d.dropCand cand).bump (F.CAN_TXCNT_COUNT k)
  let d := match cand with
    | .queue q => d.heldEnds q 3
    | .entry _ => d
  if byUs then d.send (.can k e f) else d

/-- CAN_FRAME_SENT. -/
def execCanFrameSent (k : BitVec 2) (st : State) : Out :=
  st.upd fun c d =>
    let k := k.toNat
    match (d.canOf k).under with
    | none => d
    | some (cand, f) =>
      if (d.canOf k).cut then d
      else
        let d := d.setCan k fun x => { x with under := none, errors := 0 }
        (d.candSent k cand f true).canTxOk c k

/-- The attempt ends without success; a held entry is removed. -/
def Dyn.attemptEnds (d : Dyn) (k : Nat) (cand : Cand) (f : CanFrame) : Dyn :=
  let d := d.setCan k fun x => { x with under := none }
  match cand with
  | .queue q => if d.isHeld q then (d.dropCand cand).heldEnds q 2 else d
  | .entry _ => d.keepCand k f cand

/-- ARBITRATION_LOST: the candidate competes again at the next bus idle; the attempt ended in another field. -/
def execArbitrationLost (k : BitVec 2) (st : State) : Out :=
  st.upd fun _ d =>
    let k := k.toNat
    match (d.canOf k).under with
    | none => d
    | some (cand, f) => (d.attemptEnds k cand f).setCan k fun x => { x with errors := 0 }

/-! Bus-off (R439, R440). -/

/-- Entry into BUS_OFF: queues with an alternate are re-posted. -/
def Dyn.busOff (c : Cfg) (d : Dyn) (k : Nat) : Dyn :=
  let d := (d.put (F.CAN_STATUS_STATE k) 2).setFlag (F.CAN_STATUS_INVALID k) true
  let d := d.put (F.CAN_STATUS_BUSOFF_CNT k) (d.get (F.CAN_STATUS_BUSOFF_CNT k) + 1)
  let d := d.bump (F.CAN_ERRCNT1_BUSOFF k)
  let d := d.setCan k fun x => { x with counting := c.flag (F.CAN_CFG_AUTO_RECOVER k) }
  let d := c.canQueues.foldl (fun (d : Dyn) q =>
    if c.get (F.HQ_CFG_CANCH q) = k && c.flag (F.HQ_ALT_EN q) then d.setQueue q fun x => { x with alt := true } else d) d
  d.altBits c

/-- BUS_OFF_RECOVERY: 128 × 11 recessive bits counted. -/
def execBusOffRecovery (k : BitVec 2) (st : State) : Out :=
  st.upd fun _ d =>
    let k := k.toNat
    if d.canState k = 2 && (d.canOf k).counting then
      let d := d.setCan k fun x => { x with counting := false }
      let d := (d.put (F.CAN_STATUS_STATE k) 0).setFlag (F.CAN_STATUS_INVALID k) false
      d.canCounters k 0 0
    else d

/-! Errors and identifier collisions (R442, R443). -/

/-- The count of R442 after an error in the control or the data field. -/
def Dyn.collide (c : Cfg) (d : Dyn) (k : Nat) (cand : Cand) (f : CanFrame) : Dyn :=
  let n := (d.canOf k).errors + 1
  let d := d.setCan k fun x => { x with errors := n }
  if n ≠ c.get (F.CAN_CFG_COLL_LIMIT k) then d
  else
    let d := (d.setFlag (F.CAN_STATUS_ID_COLLISION k) true).bump (F.CAN_ERRCNT1_COLLISION k)
    let d := d.wr (Reg.CAN_COLL k) (BitVec.ofNat 32 (b2n f.ide * 2 ^ 31 + f.id.toNat))
    if c.flag (F.CAN_CFG_COLL_ACT k) then d
    else
      let d := match cand with
        | .entry e => d.setCan k fun x =>
            { x with waiting := if sget none x.waiting e == some f then sput none x.waiting e none else x.waiting }
        | .queue _ => d.dropCand cand
      (d.setCan k fun x => { x with errors := 0 }).bump (F.CAN_RXDROP_COLL_DROP k)

/-- Count an error; a protocol exception counts as one only with FD_EN, else it is a form error (R419). -/
def Dyn.canErrCount (c : Cfg) (d : Dyn) (k : Nat) : CanErr → Dyn
  | .bit => d.bump (F.CAN_ERRCNT0_BIT k)
  | .stuff => d.bump (F.CAN_ERRCNT0_STUFF k)
  | .form => d.bump (F.CAN_ERRCNT0_FORM k)
  | .ack => d.bump (F.CAN_ERRCNT0_ACK k)
  | .crc => d.bump (F.CAN_ERRCNT1_CRC k)
  | .exception => d.bump (if c.flag (F.CAN_CFG_FD_EN k) then F.CAN_ERRCNT1_PEX k else F.CAN_ERRCNT0_FORM k)

/-- CAN_ERROR: as transmitter TEC rises by 8, as receiver REC by 1; `exempt` is one of the exceptions of ISO 11898-1, which
leave the counter. `dominant`: dominant bits followed the error flag as the standard counts them, which adds 8 more (to REC
for a dominant bit first after the flag, to TEC for a flag that stays answered dominant). -/
def execCanError (k : BitVec 2) (err : CanErr) (ctrlOrData exempt dominant : Bool) (st : State) : Out :=
  st.upd fun c d =>
    let k := k.toNat
    if !c.canUsed k || 2 ≤ d.canState k then d
    else
      let d := d.canErrCount c k err
      let tec := d.get (F.CAN_STATUS_TEC k)
      let rec_ := d.get (F.CAN_STATUS_REC k)
      if err == .exception && c.flag (F.CAN_CFG_FD_EN k) then d
      else match (d.canOf k).under with
        | none =>
          if c.listens k then d else d.canCounters k tec (rec_ + (if exempt then 0 else 1) + if dominant then 8 else 0)
        | some (cand, f) =>
          let held := match cand with
            | .queue q => d.isHeld q
            | .entry _ => false
          let d := d.attemptEnds k cand f
          let d := if held then d
            else if ctrlOrData then d.collide c k cand f else d.setCan k fun x => { x with errors := 0 }
          let tec' := tec + (if exempt then 0 else 8) + if dominant then 8 else 0
          let d := d.canCounters k tec' rec_
          if 255 < tec' then d.busOff c k else d

/-- DOMINANT_TIMEOUT: the transceiver cuts off its transmitter, so the attempt under way cannot succeed. -/
def execDominantTimeout (k : BitVec 2) (st : State) : Out :=
  st.upd fun c d =>
    if c.canUsed k.toNat && !c.listens k.toNat then d.setCan k.toNat fun x => { x with cut := true } else d

/-! Receipt (R426, R427, R435). -/

/-- With JOINT, a waiting candidate equal to the received frame is marked sent. -/
def Dyn.jointSeen (c : Cfg) (d : Dyn) (k : Nat) (f : CanFrame) : Dyn :=
  if !(c.twin && c.flag (F.CAN_CFG_JOINT k)) then d
  else
    let busy := ((d.canOf k).under).map (·.1)
    match (d.candidates c k).find? fun x => busy != some x.2.1 && x.2.2.same f with
    | some (_, cand, g) =>
      let d := match cand with
        | .entry e => d.setCan k fun x => { x with waiting := sput none x.waiting e none }
        | .queue _ => d
      d.candSent k cand g false
    | none => d

/-- A validated frame that matches a receive entry. -/
def Dyn.canMatched (c : Cfg) (d : Dyn) (k e : Nat) (w1 : Word) (f : CanFrame) (stamp : Word) : Dyn :=
  let dest := w1.field 27 2
  let len := canLen f.fdf f.dlc.toNat
  if (dest = 0 || w1.field 0 4 ≠ 0) && len ≠ dlcLen (w1.field 0 4) then
    (d.bump (F.CAN_RXDROP_LEN_ERR k)).rxDropped k
  else
    let d := d.bump (F.CAN_RXCNT_COUNT k)
    let d := if w1.bit 18 && !d.knows c true (.can k e f stamp) then
        d.rxReport c (w1.field 23 4) 4 (w1.field 19 4) e stamp (f.data.getD 0 0)
      else d
    let d := if dest = 2 then d.rxbPut c k (w1.field 4 5) e f stamp else d
    if dest ≠ 2 || (c.twin && w1.bit 18) then d.arrive c (.can k e f stamp) else d

/-- CAN_FRAME_RECEIVED: `at_` is the instant of validation, `stamp` that of the start of frame. -/
def execCanFrameReceived (k : BitVec 2) (f : CanFrame) (stamp at_ : Word) (st : State) : Out :=
  st.upd fun c d =>
    let k := k.toNat
    let d := d.advTo at_
    let f := { f with data := maskData (canLen f.fdf f.dlc.toNat) f.data }
    if !c.canUsed k || 2 ≤ d.canState k || (f.fdf && !c.flag (F.CAN_CFG_FD_EN k)) then d
    else
      let d := d.canRxOk c k
      if f.remote then (d.bump (F.CAN_RXDROP_UNMATCHED k)).rxDropped k
      else
        let d := d.jointSeen c k f
        match (c.canEntries k false).find? fun e => entryId e.2.1 f with
        | some (e, _, w1) => d.canMatched c k e w1 f stamp
        | none =>
          if (c.canEntries k true).any fun e => entryId e.2.1 f then d
          else (d.bump (F.CAN_RXDROP_UNMATCHED k)).rxDropped k

/-! The input latch (R427, R441). -/

/-- An entry of a CAN receive queue (R429). -/
def canQueueWords (e : Nat) (f : CanFrame) (stamp : Word) (ewords : Nat) : List Word :=
  let len := canLen f.fdf f.dlc.toNat
  let cut := ewords - 2 < f.data.length
  let w0 := b2n cut * 2 ^ 31 + b2n f.fdf * 2 ^ 30 + b2n f.brs * 2 ^ 29 + b2n f.esi * 2 ^ 28 + f.dlc.toNat * 2 ^ 24 +
    len * 2 ^ 17 + e
  BitVec.ofNat 32 w0 :: stamp :: f.data.take (ewords - 2)

/-- The CAN frames of the agreed set in the order of their time-stamps; equal ones keep their order, A's before B's. -/
def insertStamp (x : Nat × CanFrame × Word) : List (Nat × CanFrame × Word) → List (Nat × CanFrame × Word)
  | [] => [x]
  | y :: l => if later x.2.2 y.2.2 then y :: insertStamp x l else x :: y :: l

/-- The CAN frames of the set at the latch: the image takes the newest of an entry, A's copy on a tie (R256); a queue takes every frame. -/
def Dyn.canLatch (c : Cfg) (d : Dyn) (items : List RxItem) : Dyn :=
  let fs := (items.filterMap fun x => match x with
    | .can _ e f s => some (e, f, s)
    | _ => none).foldr insertStamp []
  fs.zipIdx.foldl (fun (d : Dyn) xi =>
    let x := xi.1
    let w1 := c.rd (0xD8000 + 8 * x.1 + 4)
    if w1.field 27 2 = 0 then
      if (fs.take xi.2).any fun y => y.1 == x.1 && y.2.2 == x.2.2 then d else
      { d with agreed := (List.range x.2.1.data.length).foldl (fun m i =>
          sput 0 m (w1.field 4 12 + i) (x.2.1.data.getD i 0)) d.agreed }
    else
      let q := w1.field 4 7
      (d.qPut c q ⟨d.latches, canQueueWords x.1 x.2.1 x.2.2 (c.qWords q)⟩).1) d

/-- TX_OVW and RX_DROP report the interval since the previous latch. -/
def Dyn.canInterval (d : Dyn) : Dyn :=
  (List.range 4).foldl (fun d k =>
    (d.setFlag (F.CAN_STATUS_TX_OVW k) false).setFlag (F.CAN_STATUS_RX_DROP k) false) d

/-- The agreed status word of channel `k` makes error causes pending, and each unit queues its records. -/
def Dyn.canAgreed (c : Cfg) (d : Dyn) (k : Nat) : Dyn :=
  if !c.canUsed k then d
  else
    let w := sget 0 d.agreed (0x280 + k)
    let old := (d.canOf k).agreed
    let st := w.field 29 2
    let was := old.field 29 2
    let p := c.get (F.CAN_CFG_OWNER k)
    let d := d.setCan k fun x => { x with agreed := w }
    let d := if st = 2 && was ≠ 2 then (d.addCause c p 0x50).alarm c 0x0901 k 0 0 else d
    let d := if st ≤ 1 && was = 2 then (d.addCause c p 0x51).alarm c 0x0902 k 0 0 else d
    if w.bit 27 && !old.bit 27 then
      (d.addCause c p 0x52).alarm c 0x0903 k (BitVec.ofNat 32 (d.get (F.CAN_COLL_ID k))) 0
    else d

/-! Release (R405, R432, R434). -/

/-- A DEST 0 transmit entry releases its frame; one that waits unsent is replaced. -/
def Dyn.canEntryRelease (c : Cfg) (d : Dyn) (e : Nat) : Dyn :=
  let w1 := c.rd (0xD8000 + 8 * e + 4)
  let k := w1.field 30 2
  if !d.sending then d
  else
    let n := (canLen (w1.bit 17) (w1.field 0 4) + 3) / 4
    let f := c.canFrame e ((List.range n).map fun i => d.txWord (w1.field 4 12 + i))
    let d := if (sget none (d.canOf k).waiting e).isSome then
        (d.uncount (.entry e)).setFlag (F.CAN_STATUS_TX_OVW k) true
      else d
    d.setCan k fun x => { x with waiting := sput none x.waiting e (some f) }

/-- A CAN transmit queue releases at a commit, unless compare firings release it. -/
def Dyn.canQueueRelease (c : Cfg) (d : Dyn) (q : Nat) : Dyn := if c.timedQueue q then d else d.releaseQueue c q

/-- Hand-over (R443): an attempt under way completes, every other transmission is discarded. -/
def Dyn.canHandOver (c : Cfg) (d : Dyn) : Dyn :=
  let d := (List.range 4).foldl (fun d k => d.setCan k fun x => { x with waiting := [] }) d
  c.canQueues.foldl (fun (d : Dyn) q =>
    let bus := d.onBus c q
    (if bus then d else d.uncount (.queue q)).setQueue q fun x => { x with rel := if bus then x.rel.take 1 else [] }) d

/-! Commands (R436, R440, R442, R444). REASON: 1 BAD_STATE, 2 BAD_QUEUE, 3 BUSY. -/

def Dyn.canStat (d : Dyn) (k code status reason : Nat) : Dyn :=
  ((d.put (F.CAN_CMD_STAT_LAST k) code).put (F.CAN_CMD_STAT_STATUS k) status).put (F.CAN_CMD_STAT_REASON k) reason

/-- A write of CAN_CMD[k]. -/
def Dyn.canCmd (c : Cfg) (d : Dyn) (k code q : Nat) : Dyn :=
  if !c.canUsed k then d
  else if (d.canOf k).held.isSome then d.canStat k code 3 3
  else match code with
    | 1 =>
      if d.canState k ≠ 2 || (d.canOf k).counting then d.canStat k 1 3 1
      else (d.setCan k fun x => { x with counting := true }).canStat k 1 2 0
    | 2 =>
      if !(c.canQueues.contains q && c.get (F.HQ_CFG_CANCH q) == k) then d.canStat k 2 3 2
      else
        let bus := d.onBus c q
        let x := d.queue q
        let n := x.done.length + x.rel.length - b2n bus
        let d := if bus then d else d.uncount (.queue q)
        let d := d.setQueue q fun x => { x with done := [], rel := if bus then x.rel.take 1 else [] }
        let d := d.put (F.CAN_CMD_STAT_REMOVED k) (min n 255)
        let d := d.put (F.CAN_CMD_STAT_HELD k) (b2n bus)
        let d := if bus then d.setCan k fun x => { x with held := some q } else d
        d.canStat k 2 (if bus then 1 else 2) 0
    | 3 => (d.setFlag (F.CAN_STATUS_ID_COLLISION k) false).canStat k 3 2 0
    | _ => d.canStat k code 3 0

def canCommand (who : Requester) (k : BitVec 2) (code q : Nat) (st : State) : Out :=
  st.upd fun c d => d.gated c who (Reg.CAN_CMD k.toNat) fun d => d.canCmd c k.toNat code q

/-- RECOVER written. -/
def execRecover (who : Requester) (k : BitVec 2) (st : State) : Out := canCommand who k 1 0 st
/-- CANCEL written, with its queue. -/
def execCancel (who : Requester) (k : BitVec 2) (q : BitVec 7) (st : State) : Out := canCommand who k 2 q.toNat st
/-- CLR_COLL written. -/
def execClrColl (who : Requester) (k : BitVec 2) (st : State) : Out := canCommand who k 3 0 st

end Sys2Proof.Machine
end

