-- ==== Sys2Proof/Machine/Journal.lean ====
section
/-! DEFINITION. The journal (R445–R463): frame records and checkpoints in the ring, freezing and storing windows, the
journal commands, readout and ECC counts. Replay itself follows the frame. -/

namespace Sys2Proof.Machine

/-! Frame records (R446–R448). Item kinds: 1 INPUT, 2 SLOT, 3 ARRIVAL, 4 COMMAND, 5 TIME, 6 TRIGGER, 7 ECC. -/

/-- Bytes of a record: its header of 32 bytes, and 4 bytes before each payload. -/
def JRec.bytes (r : JRec) : Nat := 32 + (r.items.map fun i => 4 + 4 * i.payload.length).sum

/-- An item as written: its kind, a zero byte, the length of its payload and the payload. -/
def JItem.toBytes (x : JItem) : List Byte :=
  [BitVec.ofNat 8 x.kind, 0] ++ leBytes 2 (4 * x.payload.length) ++ x.payload.flatMap fun w => leBytes 4 w.toNat

/-- A record as written (R446), its header with `crc` in the place of the CRC. -/
def JRec.toBytes (r : JRec) (crc : Word) : List Byte :=
  leBytes 2 0x4A52 ++ leBytes 2 r.bytes ++ leBytes 4 r.fn.toNat ++ leBytes 4 r.ft.toNat ++ leBytes 4 r.outCrc.toNat ++
  leBytes 4 r.relDigest.toNat ++
  leBytes 1 (b2n r.ckpt + 2 * b2n r.unverified + 4 * b2n r.trigger + 8 * b2n r.gap) ++ leBytes 1 r.role ++
  leBytes 2 r.items.length ++ leBytes 4 0 ++ leBytes 4 crc.toNat ++ r.items.flatMap JItem.toBytes

/-- The CRC-32 over the header with its field zero, then the items; whether the record's word is it. -/
def JRec.crcOf (r : JRec) : Word := crc32 (r.toBytes 0)
def JRec.crcOk (r : JRec) : Bool := r.crc == r.crcOf

/-- Bytes of a record and of the checkpoint that follows it. -/
def JRec.room (ckpts : List Checkpoint) (r : JRec) : Nat :=
  r.bytes + if r.ckpt then (((ckpts.find? fun k => k.fn == r.fn).map Config.checkpointBytes).getD 0) else 0

/-- The records, newest first, that fit in `room` bytes, a record's checkpoint with it. -/
def fitRing (ckpts : List Checkpoint) : Nat → List JRec → List JRec
  | _, [] => []
  | room, r :: l => if r.room ckpts ≤ room then r :: fitRing ckpts (room - r.room ckpts) l else []

/-- 1 GiB. -/
def ringBytes : Nat := 2 ^ 30

/-! Windows in the ring (R451–R454): the window that collects and those whose copies run protect their records. -/

/-- What is left of records, oldest first, when `n` bytes are copied. -/
def afterCopy (ckpts : List Checkpoint) : Nat → List JRec → List JRec
  | _, [] => []
  | n, r :: l => if r.room ckpts ≤ n then afterCopy ckpts (n - r.room ckpts) l else r :: l

/-- The window protects the record of `fn`: it holds it, and has not copied it yet. -/
def Window.protects (w : Window) (fn : Word) : Bool := (afterCopy w.ckpts w.copied w.recs.reverse).any fun r => r.fn == fn

def Journal.protects (j : Journal) (fn : Word) : Bool :=
  (j.copying.any fun e => e.1.protects fn) || j.collecting.any fun x => x.2.1.isSome && x.1.protects fn

/-- The copy goes on, the first window's first, at its least rate of 64 MiB/s (log entry 113). -/
def Dyn.copyRuns (c : Cfg) (d : Dyn) : Dyn :=
  let on := fun (w : Window) => { w with copied := w.copied + c.periodUs * 2 ^ 26 / 10 ^ 6 }
  match d.jrn.copying, d.jrn.collecting with
  | (w, p) :: l, _ => { d with jrn := { d.jrn with copying := (on w, p) :: l } }
  | [], some (w, some p, last) => { d with jrn := { d.jrn with collecting := some (on w, some p, last) } }
  | _, _ => d

/-- Records of window `w` before its next checkpoint are dropped (R453, R454). -/
def Window.truncate (w : Window) : Window :=
  let next := (w.ckpts.filter fun k => later k.fn w.fn0).getLast?
  let fn := (next.map (·.fn)).getD (((w.recs.head?).map (·.fn)).getD w.fn1 + 1)
  let gone := ((w.recs.filter fun r => later fn r.fn).map (JRec.room w.ckpts)).sum
  { w with trunc := true, fn0 := fn, copied := w.copied - gone, recs := w.recs.filter fun r => !later fn r.fn,
           ckpts := w.ckpts.filter fun k => !later fn k.fn }

/-- Every window that protects the record of `fn` loses its oldest records, and a JRN_TRUNC record is queued for it. -/
def Dyn.truncateWindows (c : Cfg) (d : Dyn) (fn : Word) : Dyn :=
  let fix := fun (w : Window) => if w.protects fn then w.truncate else w
  let hit := ((d.jrn.copying.filter fun e => e.1.protects fn).map (·.2)) ++
    match d.jrn.collecting with
    | some (w, some p, _) => if w.protects fn then [p] else []
    | _ => []
  let d : Dyn := { d with jrn := { d.jrn with copying := d.jrn.copying.map fun e => (fix e.1, e.2),
                                              collecting := d.jrn.collecting.map fun x => (fix x.1, x.2) } }
  hit.foldl (fun (d : Dyn) p => d.alarm c 0x0A04 p 0 0) d

/-- The window that collects takes a record or a checkpoint of its frames (R449, R451). -/
def Dyn.collect (d : Dyn) (fn : Word) (f : Window → Window) : Dyn :=
  { d with jrn := { d.jrn with collecting := d.jrn.collecting.map fun (w, pl, last) =>
      (if !later w.fn0 fn && !later fn last then f w else w, pl, last) } }

def Dyn.collectRec (d : Dyn) (r : JRec) : Dyn := d.collect r.fn fun w => { w with recs := r :: w.recs }
def Dyn.collectCkpt (d : Dyn) (k : Checkpoint) : Dyn :=
  if d.jrn.unfinished.contains k.fn then d
  else d.collect k.fn fun w => if w.replayable then { w with ckpts := k :: w.ckpts } else w

/-- A record is lost and counted; the next one carries GAP (R448). -/
def Dyn.recordLost (d : Dyn) : Dyn :=
  ({ d with jrn := { d.jrn with gapNext := true } } : Dyn).bump F.JRN_STATUS_GAPS

/-- Add a complete record; the oldest records give way. One that would overwrite a record a window protects is lost, and the
window truncated (R453). -/
def Dyn.pushRecord (c : Cfg) (d : Dyn) (r : JRec) : Dyn :=
  let kept := fitRing d.jrn.ckpts ringBytes (r :: d.jrn.ring)
  match ((d.jrn.ring.drop (kept.length - 1)).filter fun x => d.jrn.protects x.fn).getLast? with
  | some x => (d.recordLost).truncateWindows c x.fn
  | none =>
    let ckpts := match kept.getLast? with
      | some x => if kept.length ≤ d.jrn.ring.length then d.jrn.ckpts.filter fun k => !later x.fn k.fn else d.jrn.ckpts
      | none => d.jrn.ckpts
    ({ d with jrn := { d.jrn with ring := kept, ckpts := ckpts, gapNext := false } } : Dyn).collectRec r

/-- Keep of a collected window what fits in 1.75 GiB, starting at a checkpoint. -/
def Window.bytes (w : Window) : Nat := (w.recs.map JRec.bytes).sum + (w.ckpts.map Config.checkpointBytes).sum
def Window.fitFlash : Nat → Window → Window
  | 0, w => w
  | n + 1, w => if w.bytes ≤ 7 * 2 ^ 28 then w else Window.fitFlash n w.truncate

/-- The window stops collecting: its last FN (R451), and what of it flash takes. A window without a place in flash is
released in the ring. -/
def Dyn.endCollection (d : Dyn) : Dyn :=
  match d.jrn.collecting with
  | none => d
  | some (w, pl, _) =>
    let w := { w with fn1 := ((w.recs.head?).map (·.fn)).getD w.tfn }
    let w := Window.fitFlash w.ckpts.length w
    let d := d.setFlag F.JRN_STATUS_COLLECTING false
    { d with jrn := { d.jrn with collecting := none, unfinished := [],
                                 copying := d.jrn.copying ++ (match pl with
                                   | some p => [(w, p)]
                                   | none => []) } }

/-- A worn-out flash takes no more windows (R462). -/
def Dyn.stopCopies (d : Dyn) : Dyn :=
  { d with jrn := { d.jrn with copying := [], collecting := d.jrn.collecting.map fun x => (x.1, none, x.2.2) } }

/-- The record of the frame in progress. -/
def Dyn.recordNow (d : Dyn) : JRec :=
  let j := d.jrn
  let r : JRec := { fn := d.fn, ft := d.slc.tFt, outCrc := j.outCrc, relDigest := j.relDigest, ckpt := j.ckpt,
                    unverified := j.unverified, trigger := j.trigger, gap := j.gapNext, crc := 0, role := d.role,
                    items := j.items.reverse }
  { r with crc := r.crcOf }

/-- The record of the frame in progress is complete, or lost (R445, R448). -/
def Dyn.finishRecord (c : Cfg) (d : Dyn) : Dyn :=
  let j := d.jrn
  if !j.isOpen then d
  else
    let r := d.recordNow
    let d : Dyn := { d with jrn := { j with items := [], isOpen := false, lose := false, ckpt := false,
                                            unverified := false, trigger := false, outCrc := 0, relDigest := 0 } }
    let d := d.copyRuns c
    if j.lose then d else d.pushRecord c r

/-- A window whose last frame is over stops collecting (R451). -/
def Dyn.collected (d : Dyn) : Dyn :=
  match d.jrn.collecting with
  | some (_, _, last) => if later last d.fn || (last == d.fn && d.jrn.isOpen) then d else d.endCollection
  | none => d

/-- The frame is over: its record, where it has one not yet complete, and a window that collects no further. -/
def Dyn.closeRecord (c : Cfg) (d : Dyn) : Dyn := (d.finishRecord c).collected

/-- WINDOW_COLLECTION_END: the window's last frame is over, its commit and release done. -/
def execWindowCollectionEnd (st : State) : Out :=
  st.upd fun c d =>
    let ends := d.jrn.collecting.any (fun x => x.2.2 == d.fn) && [0, 5].contains (d.get F.SLC_STATUS_PHASE)
    (if ends then d.finishRecord c else d).collected

/-- The record of the frame in progress is lost, once. -/
def Dyn.loseOpen (d : Dyn) : Dyn :=
  if d.jrn.isOpen && !d.jrn.lose then ({ d with jrn := { d.jrn with lose := true } } : Dyn).recordLost else d

/-- JOURNAL_TRUNCATION: the record in progress would overwrite the oldest one that a window protects. -/
def execJournalTruncation (st : State) : Out :=
  st.upd fun c d =>
    match (d.jrn.ring.filter fun x => d.jrn.protects x.fn).getLast? with
    | some x => (d.loseOpen).truncateWindows c x.fn
    | none => d

/-- UNCORRECTABLE_RING_ERROR: the record in progress is lost; between two frames the newest one (log entry 113). -/
def execUncorrectableRingError (st : State) : Out :=
  st.upd fun _ d =>
    if d.jrn.isOpen then d.loseOpen
    else match d.jrn.ring with
      | [] => d
      | r :: l =>
        (({ d with jrn := { d.jrn with ring := l } } : Dyn).collect r.fn fun w =>
          { w with recs := w.recs.filter fun x => x.fn != r.fn }).recordLost

/-! Checkpoints (R449, R270). -/

/-- Registers that belong to the state of the polders and engines, the sluice counters among them (log entry 55): not what
only this unit's requesters write and see. -/
def ckptAddr (a : Nat) : Bool :=
  ((0x30000 ≤ a && a < 0x40000) || (0x50000 ≤ a && a < 0x80000) || (0x4000 ≤ a && a < 0x5000) ||
    a == Reg.SLC_SPILL_MAP || a == Reg.SLC_FAULT_MAP || a == Reg.LVE_P0F) &&
  !(a == Reg.LGE_CMD_ARG || a == Reg.LGE_CMD_STAT || a == Reg.STN_PL_STAT) &&
  !(0x51000 ≤ a && a < 0x51400 && 0x18 ≤ a % 0x40 && a % 0x40 ≤ 0x20)

/-- A job as a checkpoint holds it: the end of its step as ns since T, and no time of submission, whose array tick has
passed. -/
def Dyn.jobShift (f : Nat → Nat) (m : SMap SlvSlot) : SMap SlvSlot :=
  m.foldl (fun m e =>
    sput SlvSlot.init m e.1 { e.2 with job := { e.2.job with at_ := 0, stepEnd := e.2.job.stepEnd.map f } }) []

/-- The state at the commit of the frame; triggers detected and not yet agreed are no part of it. -/
def Dyn.takeCheckpoint (c : Cfg) (d : Dyn) : Checkpoint :=
  { fn := d.fn, imageId := c.img.imageId, stn := [], regs := d.regs.filter fun e => ckptAddr e.1, latches := d.latches,
    lgeDo := d.life.lgeDo,
    pol := d.pol.foldl (fun m e =>
      sput Polder.init m e.1 { e.2 with trig := e.2.trig.filter fun x => 16 ≤ x.kind }) [],
    bitMem := d.bitMem, wordMem := d.wordMem, timers := d.timers,
    counters := d.counters, edges := d.edges, outW := d.outW, outC := d.outC, agreed := d.agreed,
    forces := d.life.forces, outForces := d.life.outForces, queues := d.queues, loops := d.loops,
    p0c := d.lve.p0c, p0Pend := d.lve.pend, solver := Dyn.jobShift (· - d.extend d.slc.tFt) d.slv, sha := 0 }

/-- The station registers that no state of the polders gives: units in lockstep read them alike (R25, R246, R495). -/
def stnShared : List Nat :=
  [Reg.STN_STATE, Reg.STN_TWIN_ARG, Reg.STN_TWIN_STAT, Reg.STN_DIV, Reg.STN_DIV_FN, Reg.STN_GAP, Reg.STN_PL_STAT, Reg.LGE_CMD_STAT]

/-- What a join transfers: the checkpoint and the shared station registers. -/
def Dyn.joinCkpt (c : Cfg) (d : Dyn) : Checkpoint := { d.takeCheckpoint c with stn := stnShared.map fun a => (a, d.rd a) }

/-- A shared station register is taken; of STN_STATE, whose other fields follow roles and lanes, DIV. -/
def Dyn.takeStn (d : Dyn) (e : Nat × Word) : Dyn :=
  if e.1 = Reg.STN_STATE then d.setFlag F.STN_STATE_DIV (e.2.bit F.STN_STATE_DIV.lo) else d.wr e.1 e.2

/-- A checkpoint is loaded (steps of jobs end at ns since T of its frame until `finishArray`); levee terms, channel counters
and CAN error counters stay this unit's own. -/
def Dyn.loadCheckpoint (d : Dyn) (k : Checkpoint) : Dyn :=
  let d : Dyn :=
    { d with regs := sputs 0 (d.regs.filter fun e => !ckptAddr e.1) k.regs, latches := k.latches, pol := k.pol,
             bitMem := k.bitMem, wordMem := k.wordMem, timers := k.timers, counters := k.counters, edges := k.edges,
             outW := k.outW, outC := k.outC, agreed := k.agreed, queues := k.queues, loops := k.loops, slv := k.solver,
             lve := { d.lve with p0c := k.p0c, pend := k.p0Pend },
             life := { d.life with forces := k.forces, outForces := k.outForces, lgeDo := k.lgeDo } }
  (k.stn.foldl Dyn.takeStn d).wr Reg.SLC_FN k.fn

/-- Q frames between checkpoints: 10 s at most, and 1,000 frames at most. -/
def Cfg.ckptEvery (c : Cfg) : Nat := max 1 (min 1000 (c.framesOf (10 * 10 ^ 6)))

/-- A checkpoint as the ring holds it: it ends with the SHA-256 of its content. -/
def Checkpoint.seal (k : Checkpoint) : Checkpoint :=
  { k with sha := BitVec.ofNat 256 (sha256 (Config.checkpointContent { k with sha := 0 })) }

/-- Capture a checkpoint of this frame. -/
def Dyn.capture (c : Cfg) (d : Dyn) : Dyn :=
  { d with jrn := { d.jrn with writing := d.jrn.writing ++ [(d.takeCheckpoint c).seal], ckpt := true, ckptDue := false } }

/-- At FN 0, at multiples of Q, at the first frame of a lockstep or join, and in the first frame after a gap, whose record
carries GAP (log entry 113). -/
def Dyn.captureDue (c : Cfg) (d : Dyn) : Dyn :=
  if d.fn.toNat % c.ckptEvery = 0 || d.jrn.ckptDue || (d.jrn.gapNext && !d.jrn.lose) then d.capture c else d

/-- CHECKPOINT_WRITTEN: the checkpoint captured first is complete in the ring. -/
def execCheckpointWritten (st : State) : Out :=
  st.upd fun _ d =>
    match d.jrn.writing with
    | k :: l =>
      (({ d with jrn := { d.jrn with writing := l, ckpts := k :: d.jrn.ckpts } } : Dyn).collectCkpt k).wr Reg.JRN_CKPT_FN k.fn
    | [] => d

/-! Stored windows (R453, R454). -/

/-- FLASH_COPY_DONE: the window is stored, and a JRN_COPIED record is queued; a POWER window leaves the power-fail area. -/
def execFlashCopyDone (st : State) : Out :=
  st.upd fun c d =>
    match d.jrn.copying with
    | [] => d
    | (w, p) :: l =>
      let d : Dyn := if w.cause = 8 then { d with nv := { d.nv with pfArea := none } } else d
      (({ d with jrn := { d.jrn with copying := l } } : Dyn).setWindow p (some { w with copied := 0 })).alarm c 0x0A02 p
        (BitVec.ofNat 32 w.cause) w.tfn

/-- USB_WINDOW_LOAD: a window file enters flash as an imported window. -/
def execUsbWindowLoad (w : Window) (st : State) : Out :=
  st.upd fun c d =>
    match if d.windowsServed then d.windowPlace c else none with
    | some p =>
      ({ d with jrn := { d.jrn with ages := d.jrn.ages + 1 } } : Dyn).setWindow p
        (some { w with valid := true, imported := true, prot := false, armed := false, age := d.jrn.ages, copied := 0 })
    | none => d

/-- USB_WINDOW_READOUT: a stored window leaves as one file, unchanged. -/
def execUsbWindowReadout (i : BitVec 4) (st : State) : Out :=
  st.upd fun _ d => match d.window i.toNat with
    | some w => if d.windowsServed then d.send (.file w) else d
    | none => d

/-! Commands (R463). REASON: 1 BAD_STATE, 2 NO_WINDOW, 3 PROTECTED, 4 BAD_ARG. -/

def Dyn.jrnStat (d : Dyn) (code status reason : Nat) : Dyn :=
  d.wr Reg.JRN_CMD_STAT (BitVec.ofNat 32 (reason * 256 + code * 16 + status))

/-- Codes 2–6 on the selected window. -/
def Dyn.windowCmd (d : Dyn) (code i : Nat) (w : Window) : Except Nat Dyn :=
  match code with
  | 2 => .ok (d.setWindow i (some { w with prot := true }))
  | 3 => .ok (d.setWindow i (some { w with prot := false }))
  | 4 => if w.prot then .error 3 else .ok (d.setWindow i none)
  | 5 =>
    let arg := d.rd Reg.JRN_ARG
    if arg = 0 || w.ckpts.any fun k => k.fn == arg then
      let d := (List.range 16).foldl (fun (d : Dyn) j => match d.window j with
        | some x => if x.armed then d.setWindow j (some { x with armed := false }) else d
        | none => d) d
      .ok (d.setWindow i (some { w with armed := true, armArg := arg }))
    else .error 4
  | _ => .ok (d.setWindow i (some { w with armed := false }))

/-- JRN_REPLAY.STATE after a pause: DIVERGED stays. -/
def Dyn.replayRuns (d : Dyn) : Dyn := d.put F.JRN_REPLAY_STATE (if d.rd Reg.JRN_DIFF_CNT = 0 then 1 else 4)

/-- A write of JRN_CMD; it is executed at once, so that PENDING does not show. -/
def Dyn.jrnCmd (c : Cfg) (d : Dyn) (code : Nat) : Dyn :=
  let replay := d.modState == 4
  if code = 0 || 9 < code then d.jrnStat code 3 4
  else if replay != decide (7 ≤ code) then d.jrnStat code 3 1
  else if code = 1 then (d.freeze c 2 0 d.fn).jrnStat 1 2 0
  else if code ≤ 6 then
    let i := d.get F.JRN_WIN_SEL_WIN
    match d.window i with
    | none => d.jrnStat code 3 2
    | some w => match d.windowCmd code i w with
      | .ok d => d.jrnStat code 2 0
      | .error e => d.jrnStat code 3 e
  else if code = 7 then ({ d with jrn := { d.jrn with pauseAt := some (d.rd Reg.JRN_ARG) } } : Dyn).jrnStat 7 2 0
  else if d.get F.JRN_REPLAY_STATE ≠ 2 then d.jrnStat code 3 1
  else if code = 8 then ({ d with jrn := { d.jrn with stepOne := true } } : Dyn).jrnStat 8 2 0
  else (d.replayRuns).jrnStat 9 2 0

def journalCommand (who : Requester) (code : Nat) (arg : Option Word) (st : State) : Out :=
  st.upd fun c d => d.gated c who Reg.JRN_CMD fun d =>
    let d := match arg with
      | some a => d.wr Reg.JRN_ARG a
      | none => d
    d.jrnCmd c code

/-- FREEZE written. -/
def execFreeze (who : Requester) (st : State) : Out := journalCommand who 1 none st
/-- PROTECT written. -/
def execProtect (who : Requester) (st : State) : Out := journalCommand who 2 none st
/-- UNPROTECT written. -/
def execUnprotect (who : Requester) (st : State) : Out := journalCommand who 3 none st
/-- ERASE written. -/
def execErase (who : Requester) (st : State) : Out := journalCommand who 4 none st
/-- ARM_REPLAY written, with the checkpoint in JRN_ARG. -/
def execArmReplay (who : Requester) (arg : Word) (st : State) : Out := journalCommand who 5 (some arg) st
/-- DISARM written. -/
def execDisarm (who : Requester) (st : State) : Out := journalCommand who 6 none st
/-- PAUSE_AT written, with the frame in JRN_ARG. -/
def execPauseAt (who : Requester) (arg : Word) (st : State) : Out := journalCommand who 7 (some arg) st
/-- RESUME written. -/
def execResume (who : Requester) (st : State) : Out := journalCommand who 9 none st

/-! Live registers (R463). -/

def Window.info (w : Window) : Word :=
  BitVec.ofNat 32 (b2n w.valid * 2 ^ 31 + b2n w.prot * 2 ^ 30 + b2n w.replayable * 2 ^ 29 + b2n w.trunc * 2 ^ 28 +
    b2n w.short * 2 ^ 27 + b2n w.unitB * 2 ^ 26 + b2n w.imported * 2 ^ 25 + b2n w.armed * 2 ^ 24 + w.trigs * 2 ^ 16 +
    w.cause)

/-- What a JRN register reads as where it is not stored. -/
def Dyn.jrnReg (c : Cfg) (d : Dyn) (a : Nat) : Word :=
  let j := d.jrn
  let sel := d.window (d.get F.JRN_WIN_SEL_WIN)
  let old := (j.ring.getLast?).map (·.fn)
  let new := (j.ring.head?).map (·.fn)
  if a = Reg.JRN_STATUS then
    Word.setBit (d.rd a) 5 (!j.copying.isEmpty || j.collecting.any fun x => x.2.1.isSome)
  else if a = Reg.JRN_OLD_FN then ((j.ckpts.getLast?).map (·.fn)).getD 0
  else if a = Reg.JRN_NEW_FN then new.getD 0
  else if a = Reg.JRN_CKPT_FN then ((j.ckpts.head?).map (·.fn)).getD 0
  else if a = Reg.JRN_SPAN then
    match old, new with
    | some x, some y => BitVec.ofNat 32 (((y - x).toNat + 1) * c.periodUs / 1000)
    | _, _ => 0
  else if a = Reg.JRN_WIN_INFO then (sel.map Window.info).getD 0
  else if a = Reg.JRN_WIN_FN0 then (sel.map (·.fn0)).getD 0
  else if a = Reg.JRN_WIN_TFN then (sel.map (·.tfn)).getD 0
  else if a = Reg.JRN_WIN_FN1 then (sel.map (·.fn1)).getD 0
  else if a = Reg.JRN_WIN_SIZE then (sel.map fun w => BitVec.ofNat 32 ((64 + w.bytes + 16 + 1023) / 1024)).getD 0
  else if Reg.JRN_RD 0 ≤ a && a < Reg.JRN_RD 256 then
    match sel with
    | some w =>
      let i := (d.rd Reg.JRN_RD_OFS).toNat * 256 + (a - Reg.JRN_RD 0) / 4
      if 4 * i < 64 + w.bytes + 16 then Config.windowWord w i else 0
    | none => 0
  else d.rd a

/-! ECC (R461). -/

/-- ECC_CORRECTED in program memory (0), word memory (1), array and queue memory (2) or the ring (3). -/
def execEccCorrected (mem : BitVec 2) (addr syndrome : Word) (st : State) : Out :=
  st.upd fun _ d =>
    let f := match mem.toNat with
      | 0 => F.JRN_ECC_PROG
      | 1 => F.JRN_ECC_WORD
      | 2 => F.JRN_ECC_ARRAY
      | _ => F.JRN_ECC_RING
    (d.bump f).item 7 [mem.setWidth 32, addr, syndrome]

end Sys2Proof.Machine
end

