-- ==== Sys2Proof/Machine/Agree.lean ====
section
/-! DEFINITION. The agreed input vector: a unit's contribution (R253), the merge rules (R255, R258), the agreed set of
received frames and register writes (R256, R257, R495), the twin commands (R269, R274), and what an agreed vector brings
about before execution opens. -/

namespace Sys2Proof.Machine

/-! The local contribution (R253, R288). -/

/-- Words of the contribution: 0x000–0x24C and the CAN status words. -/
def inContrib (w : Nat) : Bool := w < 0x24D || (0x280 ≤ w && w < 0x284)

/-- The words a digital channel contributes; counter, frequency and time-stamps of an output read zero. -/
def Dyn.digWords (c : Cfg) (d : Dyn) (n : Nat) : List (Nat × Word) :=
  let meas := if c.isOut n then []
    else [(0x68 + n, d.rd (Reg.DIO_COUNT n)), (0xC8 + n, d.rd (Reg.DIO_FREQ n)),
          (0x128 + n, d.rd (Reg.DIO_TS_RISE n)), (0x188 + n, d.rd (Reg.DIO_TS_FALL n))]
  (8 + n, d.rd (Reg.DIO_STATUS n)) :: meas

/-- This unit's contribution as its cells and its levee matrix stand. -/
def Dyn.contribution (c : Cfg) (d : Dyn) : SMap Word :=
  let anas := analogues.filter fun m => c.anaMode m != 0
  let states := digitals.foldl (fun m n =>
    sput 0 m (n / 32) ((sget 0 m (n / 32)).setBit (n % 32) (d.digState n))) ([] : SMap Word)
  let cmps := anas.foldl (fun m k =>
    let w := 0x240 + k / 16
    sput 0 m w (Word.setBit ((sget 0 m w).setBit (2 * (k % 16)) (d.ana k).src0) (2 * (k % 16) + 1) (d.ana k).src1)) states
  let levee := [(0x242, Reg.LVE_ACT0), (0x243, Reg.LVE_ACT1), (0x244, Reg.LVE_LATCHED0), (0x245, Reg.LVE_LATCHED1),
    (0x246, Reg.LVE_RAW0), (0x247, Reg.LVE_RAW1), (0x248, Reg.LVE_FLAG), (0x249, Reg.LVE_TRIP0),
    (0x24A, Reg.LVE_TRIP1), (0x24B, Reg.LVE_TRIP2), (0x24C, Reg.LVE_TEST_STAT)].map fun e => (e.1, d.rd e.2)
  let can := (List.range 4).map fun k => (0x280 + k, d.canStatus c k)
  sputs 0 cmps (digitals.flatMap (d.digWords c) ++ anas.flatMap (fun m =>
    [(0x200 + m, d.anaWord c m), (0x220 + m, d.rd (Reg.AIO_STATUS m))]) ++ levee ++ can)

/-- The cells of this unit are latched at T as every frame latches them: its contribution, and what ends with the latch
(R253, R288, R320). -/
def Dyn.latchOwn (c : Cfg) (d : Dyn) : Dyn :=
  let d := digitals.foldl (fun (d : Dyn) n => d.latchFreq c n) d
  let d := analogues.foldl (fun (d : Dyn) m => d.latchAna c m) d
  let d := d.testStatus c
  let own := d.contribution c
  let d : Dyn := { d with twin := { d.twin with ownC := own } }
  analogues.foldl (fun (d : Dyn) m => d.setFlag (F.AIO_STATUS_OVERRUN m) false) (digitals.foldl Dyn.endLatch d)

/-! Merge rules (R255). Entries: 0–95 digital, 96–127 analogue, 160–163 CAN channels, 164 the levee words. -/

/-- Words of an entry that follow one side. -/
def entryWords (e : Nat) : List Nat :=
  if e < 96 then [8 + e, 0x68 + e, 0xC8 + e, 0x128 + e, 0x188 + e]
  else if e < 128 then [0x200 + (e - 96), 0x220 + (e - 96)]
  else if e < 164 then [0x280 + (e - 160)]
  else [0x24C]

/-- Its bits, as words and masks. -/
def entryBits (e : Nat) : List (Nat × Word) :=
  if e < 96 then [(e / 32, BitVec.ofNat 32 (2 ^ (e % 32)))]
  else if e < 128 then [(0x240 + (e - 96) / 16, BitVec.ofNat 32 (3 * 4 ^ ((e - 96) % 16)))]
  else if e < 164 then []
  else (List.range 10).map fun i => (0x242 + i, -1)

/-- Its status word, where it has one. -/
def entryStatus (e : Nat) : Option Nat :=
  if e < 96 then some (8 + e) else if e < 128 then some (0x220 + (e - 96)) else if e < 164 then some (0x280 + (e - 160))
  else none

/-- The entries with words in the contribution. -/
def contribEntries : List Nat := List.range 128 ++ [160, 161, 162, 163, 164]

/-- A side is valid when INVALID of its status is clear (R312, R335); the levee words always are. -/
def validSide (m : SMap Word) (e : Nat) : Bool :=
  match entryStatus e with
  | some w => !(sget 0 m w).bit 31
  | none => true

/-- B's side prevails: under B_ONLY, and where A's side alone is invalid unless the rule is A_ONLY. -/
def sideB (rule : Nat) (va vb : Bool) : Bool := rule == 2 || (rule != 1 && !va && vb)

/-- The merged bits under `mask`: AND (3) and OR (4) leave out an invalid side. -/
def mergeBits (rule : Nat) (va vb : Bool) (a b mask : Word) : Word :=
  if (rule = 3 || rule = 4) && va && vb then (if rule = 3 then a &&& b else a ||| b) &&& mask
  else (if sideB rule va vb then b else a) &&& mask

/-- One entry of the agreed vector. -/
def Cfg.mergeEntry (c : Cfg) (a b : SMap Word) (m : SMap Word) (e : Nat) : SMap Word :=
  let rule := c.merge e
  let va := validSide a e
  let vb := validSide b e
  let side := if sideB rule va vb then b else a
  let m := (entryWords e).foldl (fun m w => sput 0 m w (sget 0 side w)) m
  (entryBits e).foldl (fun m x =>
    sput 0 m x.1 ((sget 0 m x.1 &&& ~~~x.2) ||| mergeBits rule va vb (sget 0 a x.1) (sget 0 b x.1) x.2)) m

/-- Both contributions merged. -/
def Cfg.mergeAll (c : Cfg) (a b : SMap Word) : SMap Word := contribEntries.foldl (c.mergeEntry a b) []

/-- The rule that names the other unit alone. -/
def Dyn.peerOnly (d : Dyn) : Nat := if d.unitB then 1 else 2

/-- The vector of a unit without the other's side (R258). An entry under the other unit's ONLY rule is invalid: its words
hold what was agreed last, an analogue input with SUBST FIXED its fixed substitute. -/
def Dyn.degraded (c : Cfg) (d : Dyn) (own : SMap Word) : SMap Word :=
  contribEntries.foldl (fun m e =>
    if c.merge e ≠ d.peerOnly then m
    else
      let m := (entryWords e).foldl (fun m w => sput 0 m w (sget 0 d.agreed w)) m
      let m := (entryBits e).foldl (fun m x =>
        sput 0 m x.1 ((sget 0 m x.1 &&& ~~~x.2) ||| (sget 0 d.agreed x.1 &&& x.2))) m
      let m := match entryStatus e with
        | some w => sput 0 m w ((sget 0 m w).setBit 31 true)
        | none => m
      if 96 ≤ e && e < 128 && c.anaMode (e - 96) == 1 && c.get (F.AIO_CFG_SUBST (e - 96)) == 1 then
        sput 0 m (0x200 + (e - 96)) (c.rd (Reg.AIO_SUBST (e - 96)))
      else m) own

/-! The agreed set (R256, R257). -/

/-- Receipts in the order of their FT before `lim`; equal ones keep their order. -/
def byReceipt (lim : Word) (l : List Rx) : List Rx :=
  l.foldr (fun r acc => insertBy (fun x : Rx => (BitVec.ofInt 32 (x.ft - lim).toInt + 0x80000000#32).toNat) r acc) []

def Rx.isWrite (r : Rx) : Bool :=
  match r.item with
  | .write _ _ _ => true
  | _ => false

/-- The compare unit whose target or ARM register lies at `a`. -/
def unitAt (reg : Nat → Nat) (a : Nat) : Option Nat := (List.range 32).find? fun u => reg u == a

/-- A write of a compare unit's target or ARM. -/
def Rx.isCompare (r : Rx) : Bool :=
  match r.item with
  | .write _ a _ => (unitAt Reg.TSU_CMP_TGT a).isSome || (unitAt Reg.TSU_CMP_ARM a).isSome
  | _ => false

/-- Own items that this latch may count: frames, writes of compare units (R349) and, in a twin, other writes received up to
T − 10 µs; a simplex station counts other writes up to T. -/
def Dyn.counts (c : Cfg) (d : Dyn) (r : Rx) : Bool :=
  let lim := if r.isWrite && !r.isCompare && !c.twin then d.slc.tFt else d.slc.tFt - 10000
  !later r.ft lim

/-- This unit's forwarding cut: the highest number given before T − 10 µs (R256). -/
def Dyn.ownCut (c : Cfg) (d : Dyn) : Nat :=
  d.twin.rx.foldl (fun n r => if !r.peer && d.counts c r then max n r.num else n) 0

/-- What this latch takes: B's items, A's items; `both` with those of the peer up to its cut. A frame that an earlier latch
has taken does not enter again with its other copy; what is beyond the cuts waits. -/
def Dyn.takeSet (c : Cfg) (d : Dyn) (both : Bool) : List Rx × List Rx × Dyn :=
  let lim := d.slc.tFt
  let mine := d.twin.rx.filter fun r => !r.peer && d.counts c r
  let theirs := if both then d.twin.rx.filter fun r => r.peer && r.num ≤ d.twin.peerCut else []
  let rest := d.twin.rx.filter fun r => if r.peer then both && !(r.num ≤ d.twin.peerCut) else !d.counts c r
  let enters := fun (r : Rx) => r.isWrite || d.unseen c r
  let (a, b) := if d.unitB then (theirs, mine) else (mine, theirs)
  (byReceipt lim (b.filter enters), byReceipt lim (a.filter enters),
    ({ d with twin := { d.twin with rx := rest } } : Dyn).keepSeen (mine ++ theirs))

/-- A CAN frame of DEST 2: it goes to a receive buffer on receipt and enters no vector (R427). -/
def Cfg.buffered (c : Cfg) : RxItem → Bool
  | .can _ e _ _ => (c.rd (0xD8000 + 8 * e + 4)).field 27 2 == 2
  | _ => false

/-- The frames of the set through the merge rule of each source, A's copy of one that both have received: A's, then B's. -/
def Cfg.agreedFrames (c : Cfg) (b a : List Rx) : List Rx :=
  let enters := fun (r : Rx) => !r.isWrite && !c.buffered r.item
  let fa := a.filter fun r => enters r && c.admits false r.item
  fa ++ b.filter fun r => enters r && c.admits true r.item && !(fa.any fun x => c.sameItem x.item r.item)

/-- Requester, address and value of the register writes among them. -/
def writesOf (l : List Rx) : List (Nat × Nat × Word) :=
  l.filterMap fun r => match r.item with
    | .write who a v => some (who, a, v)
    | _ => none

/-! Twin commands (R269, R274, R495). Codes: 1 JOIN, 2 HANDOVER, 3 WITHDRAW, 4 CLEAR_DIV. -/

def Dyn.twinStat (d : Dyn) (code status : Nat) : Dyn := d.wr Reg.STN_TWIN_STAT (BitVec.ofNat 32 (code * 16 + status))

/-- A write of STN_TWIN_CMD: it is agreed at the next input latch; a command while one is PENDING changes nothing. -/
def Dyn.twinWrite (d : Dyn) (w : Word) : Dyn :=
  let code := w.field 0 4
  if d.get F.STN_TWIN_STAT_STATUS = 1 then d
  else (d.twinStat code 1).stage_ Reg.STN_TWIN_CMD w

/-- Readiness of the peer (R269): 1 for a full join, 2 for a mapped one. A SHADOW is ready, for a full join when it runs
this unit's image. -/
def Dyn.readiness (d : Dyn) : Nat := if d.peerRole = 3 then (if d.twin.peerSame then 1 else 2) else d.twin.peerReady

/-- The interface fingerprint of this unit. -/
def Cfg.ifp (c : Cfg) : BitVec 64 := (c.rd Reg.SHL_IFP_HI) ++ (c.rd Reg.SHL_IFP_LO)

/-- A join is accepted: the active unit tells the peer, and the lock of its time base begins (R270). -/
def Dyn.startJoin (c : Cfg) (d : Dyn) (mapped : Bool) : Dyn :=
  let d := d.wr Reg.SHL_XFER (BitVec.ofNat 32 (b2n mapped * 256 + 1))
  let d : Dyn := { d with twin := { d.twin with joinAt := d.clk.cycles, lockFn := none, matched := 0, recs := [],
                                                primed := false, parts := [], fullCrc := none, mirror := [] } }
  (d.sendWords 9 [1, BitVec.ofNat 32 (b2n mapped)]).stnState c

/-- The counted JOIN: refused while a join is in progress and while the units agree; a mapped join also when the
interface fingerprints differ (R273). -/
def Dyn.joinCmd (c : Cfg) (d : Dyn) : Option Dyn :=
  if d.role ≠ 2 || d.joining || d.agreeing || !d.linkUp || d.readiness = 0 then none
  else if d.readiness = 2 && c.ifp ≠ d.twin.peerIfp then some (d.wr Reg.SHL_XFER 0x30106)
  else some (d.startJoin c (d.readiness == 2))

/-- The counted STN_TWIN_CMD (`mapped` counts the frame under way), with the argument as it then stands. HANDOVER to a
mapped partner names the unit that is sending. -/
def Dyn.twinLatch (c : Cfg) (d : Dyn) (w : Word) : Dyn :=
  let code := w.field 0 4
  let unit := d.flag F.STN_TWIN_ARG_UNIT
  let rst := d.flag F.STN_TWIN_ARG_RESTART
  let both := d.lockstep && d.role == 2 && d.peerRole == 2
  let atC := fun (hand : Bool) => ({ d with twin := { d.twin with atCommit := some (hand, unit, rst) } }.twinStat code 2)
  match code with
  | 1 =>
    if !d.lockstep && d.role ≠ 2 then d.twinStat 1 3
    else match d.joinCmd c with
      | some d' => d'.twinStat 1 (if d'.get F.SHL_XFER_STATE = 6 then 3 else 2)
      | none => d.twinStat 1 3
  | 2 => if both || (64 < d.twin.mapped && (unit == d.unitB) == (d.role == 2)) then (atC true).sendWords 9 [5] else d.twinStat 2 3
  | 3 => if both then atC false else d.twinStat 3 3
  | 4 => (d.setFlag F.STN_STATE_DIV false).twinStat 4 2
  | _ => d.twinStat code 3

/-- A requester writes STN_TWIN_ARG where the command has one, and STN_TWIN_CMD. -/
def twinCommand (who : Requester) (code : Nat) (arg : Option Word) (s : State) : Out :=
  s.upd fun c d => d.gated c who Reg.STN_TWIN_CMD fun d =>
    let d := match arg with
      | some a => d.stage_ Reg.STN_TWIN_ARG a
      | none => d
    d.twinWrite (BitVec.ofNat 32 code)

/-- STN_TWIN_ARG for a unit and RESTART. -/
def twinArg (unitB restart : Bool) : Word := BitVec.ofNat 32 (b2n restart * 256 + b2n unitB)

/-- HANDOVER written, naming the unit that stops sending. -/
def execHandover (who : Requester) (unitB restart : Bool) (s : State) : Out :=
  twinCommand who 2 (some (twinArg unitB restart)) s
/-- WITHDRAW written, naming the unit that gives up. -/
def execWithdraw (who : Requester) (unitB restart : Bool) (s : State) : Out :=
  twinCommand who 3 (some (twinArg unitB restart)) s
/-- CLEAR_DIV written. -/
def execClearDiv (who : Requester) (s : State) : Out := twinCommand who 4 none s

/-! Register writes at the latch (R171, R257, R349, R495). -/

def isCommand (a : Nat) : Bool := a == Reg.LGE_CMD || a == Reg.STN_PL_CMD || a == Reg.STN_TWIN_CMD

/-- A counted write of a register that is no command. -/
def Dyn.plainWrite (c : Cfg) (d : Dyn) (a : Nat) (v : Word) : Dyn :=
  match unitAt Reg.TSU_CMP_TGT a with
  | some u => d.targetWrite c u v
  | none => if (unitAt Reg.TSU_CMP_ARM a).isSome then d else d.wr a v

/-- A counted ARM. -/
def Dyn.arms (c : Cfg) (d : Dyn) (a : Nat) (v : Word) : Dyn :=
  match unitAt Reg.TSU_CMP_ARM a with
  | some u => d.armWrite c u v
  | none => d

/-- A counted command. -/
def Dyn.commandWrite (c : Cfg) (d : Dyn) (a : Nat) (v : Word) : Dyn :=
  if a = Reg.LGE_CMD then (d.lgeStat (v.field 0 4) 1).lgeLatch v
  else if a = Reg.STN_PL_CMD then d.plLatch c v
  else d.twinLatch c v

/-- Outcome of a write in its COMMAND item: the status its register then reports, DONE for the others. -/
def Dyn.outcomeOf (d : Dyn) (a : Nat) : Word :=
  if a = Reg.LGE_CMD then d.rd Reg.LGE_CMD_STAT
  else if a = Reg.STN_PL_CMD then d.rd Reg.STN_PL_STAT
  else if a = Reg.STN_TWIN_CMD then d.rd Reg.STN_TWIN_STAT
  else 2

/-- Units that agree: a firing in the cycle of T by an ARM of the agreed set enters slot 0, as what is detected up to T
does (R84, R349). -/
def Dyn.firedAtT (d : Dyn) : Dyn :=
  let here := fun (e : EvEntry) => e.kind == 6 && e.ft == d.slc.tFt
  if !d.agreeing then d
  else polders.foldl (fun (d : Dyn) p =>
    ((d.polder p).trig.filter here).foldl (fun (d : Dyn) e =>
      let d := d.setPolder p fun s => { s with trig := s.trig.erase e }
      let d := d.item 2 [0, BitVec.ofNat 32 (e.kind * 2 ^ 24 + e.task * 2 ^ 16 + e.source), e.ft, e.value, d.fn]
      d.enqueue p { e with fn := d.fn }) d) d

/-- All of B's writes, then all of A's, so that A's values prevail; targets before ARM; then at most one command of each
command register, A's where both units hold one. Each write is journaled (R447). -/
def Dyn.applyWrites (c : Cfg) (d : Dyn) (b a : List (Nat × Nat × Word)) : Dyn :=
  let all := b ++ a
  let regs := all.filter fun w => !isCommand w.2.1
  let d := regs.foldl (fun (d : Dyn) w => d.plainWrite c w.2.1 w.2.2) d
  let d := (regs.foldl (fun (d : Dyn) w => d.arms c w.2.1 w.2.2) d).firedAtT
  let d := regs.foldl (fun (d : Dyn) w => d.item 4 [BitVec.ofNat 32 w.1, BitVec.ofNat 32 w.2.1, w.2.2, 2]) d
  [Reg.STN_TWIN_CMD, Reg.STN_PL_CMD, Reg.LGE_CMD].foldl (fun (d : Dyn) r =>
    match (a ++ b).find? fun w => w.2.1 == r with
    | some w =>
      let d := d.commandWrite c r w.2.2
      d.item 4 [BitVec.ofNat 32 w.1, BitVec.ofNat 32 r, w.2.2, d.outcomeOf r]
    | none => d) d

/-- Writes of compare units at a unit that agrees with no other: they take effect at T before its latch (R349). Units that
agree apply them with the agreed set, a firing then standing in the cycle of T. -/
def Dyn.compareWrites (c : Cfg) (d : Dyn) : Dyn :=
  if d.agreeing then d
  else
    let now := fun (r : Rx) => !r.peer && r.isCompare && d.counts c r
    let l := byReceipt d.slc.tFt (d.twin.rx.filter now)
    if l.isEmpty then d
    else ({ d with twin := { d.twin with rx := d.twin.rx.filter fun r => !now r } } : Dyn).applyWrites c [] (writesOf l)

/-! The views (R89, R133, R180). -/

/-- Every configured polder without an unfinished task takes its view of the agreed vector, forced, with FN and FT of T, and
with it the fill of its transmit queues. -/
def Dyn.refreshViews (c : Cfg) (d : Dyn) : Dyn :=
  let v := d.forceView (sput 0 (sput 0 d.agreed 0x250 d.fn) 0x251 d.slc.tFt)
  let pubs := (List.range 8).foldl (fun (m : SMap (List Word)) s =>
    if c.slvUsed s then sput [] m s (d.slot s).pub else m) []
  polders.foldl (fun (d : Dyn) p =>
    if c.polder p && (d.polder p).tasks.isEmpty then
      let fill := (c.queuesOf p).foldl (fun m q =>
        if c.qReceive q then m else sput 0 m q (d.queue q).done.length) ([] : SMap Nat)
      d.setPolder p fun s => { s with view := v, viewSeq := d.latches, fillView := fill, slvView := pubs }
    else d) d

/-! Journal items of the vector (R447). -/

/-- The words of the vector that changed, in order, with their new values. -/
def changedWords (old new : SMap Word) : SMap Word :=
  let ks := (old.map (·.1) ++ new.map (·.1)).filter fun k => k < 0x1000 && sget 0 old k != sget 0 new k
  (ks.foldl (fun (l : List Nat) k => if l.contains k then l else k :: l) []).foldr
    (fun k acc => insertBy (fun e : Nat × Word => e.1) (k, sget 0 new k) acc) []

/-- Bitmap of 128 words, then the values. -/
def inputPayload (ch : SMap Word) : List Word :=
  let bits := ch.foldl (fun (m : SMap Word) e => sput 0 m (e.1 / 32) ((sget 0 m (e.1 / 32)).setBit (e.1 % 32) true)) []
  (List.range 128).map (fun i => sget 0 bits i) ++ ch.map (·.2)

/-- The queues a received item is appended to, with the entry's words (R401, R427). -/
def Cfg.queueEntries (c : Cfg) (it : RxItem) : List (Nat × List Word) :=
  match it with
  | .stream id _ payload => (c.streamEntries id).filterMap fun e =>
      if e.2.1.bit 28 then some (e.2.2.field 2 7, payload.take (c.qWords (e.2.2.field 2 7))) else none
  | .can _ e f s =>
    let w1 := c.rd (0xD8000 + 8 * e + 4)
    if w1.field 27 2 = 1 then [(w1.field 4 7, canQueueWords e f s (c.qWords (w1.field 4 7)))] else []
  | _ => []

/-- ARRIVAL items of one item of the set: source, identifier or stream, SEQ, FT, number; and for each queue it enters,
the queue and the entry. -/
def Dyn.arrivalItem (c : Cfg) (d : Dyn) (r : Rx) : Dyn :=
  let hd : Option (Nat × Nat × Word) := match r.item with
    | .input s _ q _ => some (1, s + 1, q.setWidth 32)
    | .ack s q _ => some (2, s + 1, q.setWidth 32)
    | .stream id q _ => some (3, id, q.setWidth 32)
    | .can _ e _ st => some (4, e, st)
    | .write _ _ _ => none
  match hd with
  | none => d
  | some (src, id, q) =>
    let base := [BitVec.ofNat 32 src, BitVec.ofNat 32 id, q, r.ft, BitVec.ofNat 32 r.num]
    match c.queueEntries r.item with
    | [] => d.item 3 base
    | l => l.foldl (fun (d : Dyn) e => d.item 3 (base ++ BitVec.ofNat 32 e.1 :: e.2)) d

/-! The agreed vector takes effect. -/

/-- The time words 0x252–0x254 and the calendar state at T (R354, R375): those of the time master of this frame; 0x255 the station state
at T (log entry 110). -/
def Dyn.timeWords (d : Dyn) : Dyn :=
  let own := (d.slc.tSec, d.slc.tNs, d.slc.tStatus, d.slc.tCal)
  let (sec, ns, st, cal) := match d.tsu.master with
    | some (sec, ns, st, fn) =>
      if d.follower && d.agreeing && fn == d.fn then (sec, ns, st, d.rd Reg.RTC_CALSTATE) else own
    | none => own
  let m := [(0x252, sec.extractLsb' 0 32), (0x253, st ++ sec.extractLsb' 32 16), (0x254, BitVec.ofNat 32 ns),
    (0x255, d.twin.stnT), (0x1000, cal), (0x1001, BitVec.ofNat 32 (b2n (d.rtc.leap == some sec)))]
  { d with agreed := sputs 0 d.agreed m }

/-- The vector of this frame is agreed: `v` is the contribution part. The receive area, the words of solver and time, the
error causes of R399, register writes and commands follow, and the views are taken (R76, R171, R396, R399). -/
def Dyn.takeVector (c : Cfg) (d : Dyn) (both : Bool) (v : SMap Word) : Dyn :=
  let old := d.agreed
  let (b, a, d) := d.takeSet c both
  let set := c.agreedFrames b a
  let fs := byReceipt d.slc.tFt set
  let items := fs.map (·.item)
  let d : Dyn := { d with agreed := sputs 0 (d.agreed.filter fun e => !inContrib e.1) v }
  let d : Dyn := { d with agreed := (List.range 8).foldl (fun m s => sput 0 m (0x284 + s) (d.slvStatus s)) d.agreed }
  let d := d.timeWords
  let d := if d.net.cutDone then d
    else d.remoteCut c (d.extend d.slc.tFt - 10000) items d.fn d.slc.tSec d.slc.tNs
  let d := (d.netLatch c items).canLatch c (set.map (·.item))
  let d := (List.range 4).foldl (fun d k => d.canAgreed c k) d
  let d := fs.foldl (fun (d : Dyn) r => d.arrivalItem c r) d
  let ch := changedWords old d.agreed
  let d := if ch.isEmpty then d else d.item 1 (inputPayload ch)
  let d := if sget 0 old 0x1000 != sget 0 d.agreed 0x1000 || sget 0 old 0x1001 != sget 0 d.agreed 0x1001 then
      d.item 5 [sget 0 d.agreed 0x1000, sget 0 d.agreed 0x1001] else d
  let d := d.applyWrites c (writesOf b) (writesOf a)
  d.refreshViews c

/-- The vector of a unit that agrees with no other in this frame (R77, R258). -/
def Dyn.ownVector (c : Cfg) (d : Dyn) : Dyn :=
  d.takeVector c false (if c.twin then d.degraded c d.twin.ownC else d.twin.ownC)

/-! The agreement (R254). -/

/-- The peer's INPUT of this frame is held complete against a primed mirror, its digest matches, and a follower holds the
TIME message of this frame (R254, R360). -/
def Dyn.agreementHeld (c : Cfg) (d : Dyn) : Bool :=
  d.twin.primed && d.twin.inputFn == some d.fn && d.twin.digestOk && (d.timeMaster c || d.twin.timeFn == some d.fn)

/-- STN_STATE as agreed at the latch: a lane is UP that is UP for both units (R246; DESIGN CHOICE, log entry 110). -/
def Dyn.agreeLanes (d : Dyn) : Dyn :=
  { d with twin := { d.twin with stnT := d.twin.stnT.setField 12 2 (d.twin.stnT.field 12 2 &&& d.twin.peerLanes.toNat) } }

/-- The agreement of the frame is decided: both contributions are merged, or it is missed, which is a link failure. -/
def Dyn.decideAgreement (c : Cfg) (d : Dyn) : Dyn :=
  if !d.twin.agreeDue then d
  else
    let held := d.agreementHeld c
    let d : Dyn := { d with twin := { d.twin with agreeDue := false } }
    if held && d.agreeing then
      let (a, b) := if d.unitB then (d.twin.mirror, d.twin.ownC) else (d.twin.ownC, d.twin.mirror)
      d.agreeLanes.takeVector c true (c.mergeAll a b)
    else
      let d := if d.agreeing then (d.bump F.SHL_AGREE_MISS_COUNT).linkFail c else d
      d.ownVector c

/-- AGREEMENT_DEADLINE: T + 7 µs. -/
def execAgreementDeadline (s : State) : Out :=
  s.upd fun c d => if d.twin.agreeDue then (d.advTo (d.atT 7000)).decideAgreement c else d

/-! INPUT messages (R253). -/

def flatWords (m : SMap Word) : List Word := m.flatMap fun e => [BitVec.ofNat 32 e.1, e.2]

/-- The entries that a contribution word belongs to. -/
def entriesOf (w : Nat) : List Nat :=
  if w < 3 then (List.range 32).map (32 * w + ·)
  else if w < 0x1E8 then [(w - 8) % 96]
  else if w < 0x240 then [96 + w % 32]
  else if w < 0x242 then (List.range 16).map (96 + 16 * (w - 0x240) + ·)
  else if w < 0x24D then [164]
  else [160 + (w - 0x280)]

/-- Words of entries under the other unit's ONLY rule are left out. -/
def Dyn.leftOut (c : Cfg) (d : Dyn) (w : Nat) : Bool := (entriesOf w).all fun e => c.merge e == d.peerOnly

/-- The order of R253 in which changes are sent. -/
def inputRank (w : Nat) : Nat :=
  if w < 0x68 then 0
  else if w < 0xC8 then 4
  else if w < 0x128 then 5
  else if w < 0x1E8 then 6
  else if w < 0x242 then 1
  else if w < 0x24D then 2
  else 3

/-- The changed words that the next INPUT is to carry. -/
def Dyn.unsent (c : Cfg) (d : Dyn) : List Nat :=
  let ks := ((d.twin.sentC.map (·.1) ++ d.twin.ownC.map (·.1)).filter fun k =>
    sget 0 d.twin.sentC k != sget 0 d.twin.ownC k && !d.leftOut c k)
  (ks.foldl (fun (l : List Nat) k => if l.contains k then l else k :: l) []).foldr
    (insertBy fun w => inputRank w * 0x1000 + w) []

/-- INPUT of the frame, with the lanes as they are UP at T: at most 308 values beside bitmap and digest; `carry`: changes of an earlier frame are left. -/
def Dyn.sendInput (c : Cfg) (d : Dyn) (carry : Bool) : Dyn :=
  let ks := (d.unsent c).take 308
  let sent := sputs 0 d.twin.sentC (ks.map fun k => (k, sget 0 d.twin.ownC k))
  let d : Dyn := { d with twin := { d.twin with sentC := sent } }
  let d := if carry then d.bump F.SHL_INPUT_CARRY_COUNT else d
  d.sendWords 3 ([BitVec.ofNat 32 (b2n carry + d.twin.stnT.field 12 2 * 256), BitVec.ofNat 32 (d.ownCut c), Config.digest (flatWords d.twin.sentC)] ++
    ks.flatMap fun k => [BitVec.ofNat 32 k, sget 0 d.twin.ownC k])

/-- The whole contribution in FULL parts of at most 327 words, each with its number and the number of parts; the last
ends with the CRC (R253). -/
def Dyn.sendFull (d : Dyn) : Dyn :=
  let ws := flatWords d.twin.ownC
  let n := max 1 ((ws.length + 325) / 326)
  let d : Dyn := { d with twin := { d.twin with sentC := d.twin.ownC } }
  (List.range n).foldl (fun (d : Dyn) i =>
    let part := (ws.drop (326 * i)).take 326
    d.sendWords 3 (BitVec.ofNat 32 (i + n * 256) :: part ++ (if i + 1 = n then [Config.digest ws] else []))) d

/-- INPUT_MESSAGE: the deltas enter the mirror, and the digest is compared with its CRC. The parts of a priming exchange fill
it until T of the first frame of the lockstep; held whole, it is compared with the CRC of the last part. -/
def execInputMessage (msg : InputMsg) (s : State) : Out :=
  s.upd fun c d => d.received c 3 msg.hdr fun d =>
    if !c.twin then d
    else
      let ws := msg.words.filter fun e => inContrib e.1
      let mirror := sputs 0 d.twin.mirror ws
      let ok := match msg.crc with
        | some x => x == Config.digest (flatWords mirror)
        | none => true
      match msg.part with
      | some (i, n) =>
        if d.agreeing then d
        else
          let parts := if d.twin.parts.contains i then d.twin.parts else i :: d.twin.parts
          let crc := msg.crc.orElse fun _ => d.twin.fullCrc
          let whole := parts.length == n && (List.range n).all parts.contains
          { d with twin := { d.twin with mirror := mirror, parts := parts, fullCrc := crc,
                                         primed := whole && crc == some (Config.digest (flatWords mirror)) } }
      | none =>
        let d := d.put F.SHL_AGREE_PEAK_NS (max (d.get F.SHL_AGREE_PEAK_NS) (min 65535 (d.ft - d.slc.tFt).toNat))
        { d with twin := { d.twin with mirror := mirror, inputFn := some msg.hdr.fn, digestOk := ok && msg.crc.isSome,
                                       peerCut := max d.twin.peerCut msg.cut, peerLanes := msg.lanes } }

end Sys2Proof.Machine
end

