-- ==== Sys2Proof/Machine/ImageFile.lean ====
section
/-! DEFINITION. The bytes of a station image and of a directory copy (R30, R36–R39): header, section table, signature
block, the checks on them, and the decryption of sections. Flash that holds nothing reads as ones. -/

namespace Sys2Proof

/-! The directory copies (R30). -/

/-- The copy that the words spell, valid when its CRC-32 over bytes 0x00–0x2B matches. -/
def Directory.ofWords (w : List Word) : Option Directory :=
  let word := fun j => w.getD j 0xFFFFFFFF
  let wide := fun j => word (j + 1) ++ word j
  if crc32 (wordBytes ((List.range 11).map word)) == word 11 then
    some { seq := word 1, active := (word 2).field 0 8 != 0, pendState := (word 2).field 8 8,
           pendCause := (word 2).field 16 8, idActive := wide 3, idPend := wide 5 }
  else none

/-- The words of a copy, its MAGIC and CRC with them. -/
def Directory.words (x : Directory) : List Word :=
  let low := fun (v : BitVec 64) => v.setWidth 32
  let state : Word := BitVec.ofNat 32 (b2n x.active + 256 * (x.pendState % 256) + 65536 * (x.pendCause % 256))
  let body : List Word := [0x52494444, x.seq, state, low x.idActive, low (x.idActive >>> 32), low x.idPend,
    low (x.idPend >>> 32), 0, 0, 0, 0]
  body ++ [crc32 (wordBytes body)]

/-! The image (R36–R39). -/

/-- `n` bytes from offset `off` on. -/
def Image.slice (x : Image) (off n : Nat) : List Byte :=
  let l := (x.bytes.drop off).take n
  l ++ List.replicate (n - l.length) 0xFF

def Image.num (x : Image) (off n : Nat) : Nat := leNat (x.slice off n)

/-! Fields of the header. -/
def Image.magic (x : Image) : Nat := x.num 0x00 4
def Image.format (x : Image) : Nat := x.num 0x04 2
def Image.flags (x : Image) : Nat := x.num 0x06 2
def Image.encrypted (x : Image) : Bool := x.flags.testBit 0
def Image.twin (x : Image) : Bool := x.flags.testBit 1
def Image.startStopped (x : Image) : Bool := x.flags.testBit 2
def Image.length (x : Image) : Nat := x.num 0x08 4
def Image.stnId (x : Image) : Nat := x.num 0x0C 1
def Image.minFwMajor (x : Image) : Nat := x.num 0x0D 1
def Image.minFwMinor (x : Image) : Nat := x.num 0x0E 1
def Image.imageId (x : Image) : BitVec 64 := BitVec.ofNat 64 (x.num 0x10 8)
/-- Seconds since 2000-01-01. -/
def Image.buildTime (x : Image) : Nat := x.num 0x18 8
def Image.signerId (x : Image) : List Byte := x.slice 0x20 8
/-- The initialisation vector, its first byte most significant. -/
def Image.nonce (x : Image) : BitVec 96 := BitVec.ofNat 96 (beNat (x.slice 0x28 12))
def Image.sections (x : Image) : Nat := x.num 0x34 2
def Image.table (x : Image) : Nat := x.num 0x38 4
def Image.hcrc (x : Image) : Nat := x.num 0x3C 4

/-- An entry of the section table (R37). -/
structure ImgSection where
  type : Nat
  inst : Nat
  flags : Nat
  offset : Nat
  length : Nat
  rest : Nat
  deriving DecidableEq, Repr

def ImgSection.encrypted (e : ImgSection) : Bool := e.flags.testBit 0

def Image.entries (x : Image) : List ImgSection :=
  (List.range x.sections).map fun j =>
    let at_ := x.table + 16 * j
    ⟨x.num at_ 1, x.num (at_ + 1) 1, x.num (at_ + 2) 2, x.num (at_ + 4) 4, x.num (at_ + 8) 4, x.num (at_ + 12) 4⟩

/-- Ranges (first, count) that do not overlap; empty ones meet nothing. -/
def disjoint (l : List (Nat × Nat)) : Bool :=
  match l with
  | [] => true
  | a :: l => l.all (fun b => a.2 == 0 || b.2 == 0 || decide (a.1 + a.2 ≤ b.1) || decide (b.1 + b.2 ≤ a.1)) && disjoint l

def allDifferent (l : List Nat) : Bool := decide l.Nodup

/-- The header as it must read (R36, first row of R47). -/
def Image.headerOk (x : Image) : Bool :=
  x.hcrc == (crc32 (x.slice 0 0x3C)).toNat && x.magic == 0x494D4844 && x.format == 3 && decide (x.flags < 8) &&
    x.num 0x0F 1 == 0 && x.num 0x36 2 == 0

/-- LENGTH within the slot; header, section table, sections and signature block in that order; sections aligned and not
overlapping (R29, R37, first row of R47). -/
def Image.tableOk (x : Image) : Bool :=
  let finish := x.length - 80
  let start := x.table + 16 * x.sections
  decide (144 ≤ x.length) && decide (x.length ≤ 16252928) && decide (1 ≤ x.sections) && decide (x.sections ≤ 64) &&
    decide (64 ≤ x.table) && decide (start ≤ finish) &&
    (x.entries.all fun e => decide (e.flags ≤ 1) && e.rest == 0 && e.offset % 16 == 0 && decide (start ≤ e.offset) &&
      decide (e.offset + e.length ≤ finish)) &&
    disjoint (x.entries.map fun e => (e.offset, e.length))

/-- SIGNER_ID names the installed verification key, and the signature over SHA-256 of bytes 0 to LENGTH − 65 verifies with
it (R36, R38). -/
def Image.signedBy (x : Image) (key : BitVec 512) : Bool :=
  let block := x.slice (x.length - 64) 64
  x.signerId == (beBytes 32 (sha256 (beBytes 64 key.toNat))).take 8 &&
    ecdsaOk key (sha256 (x.slice 0 (x.length - 64))) (beNat (block.take 32)) (beNat (block.drop 32))

/-- The encrypted sections, in section table order: the ciphertext of R39. -/
def Image.ciphertext (x : Image) : List Byte :=
  (x.entries.filter ImgSection.encrypted).flatMap fun e => x.slice e.offset e.length

/-- The GCM tag verifies: header and section table are the additional authenticated data (R39). -/
def Image.tagOk (x : Image) (key : BitVec 256) : Bool :=
  let tag := BitVec.ofNat 128 (beNat (x.slice (x.length - 80) 16))
  tag == gcmTag key x.nonce (x.slice 0 64 ++ x.slice x.table (16 * x.sections)) x.ciphertext

/-- Type, instance and plaintext of every section. -/
def Image.plain (x : Image) (key : BitVec 256) : List (Nat × Nat × List Byte) :=
  let text := if x.encrypted then gcmPlain key x.nonce x.ciphertext else []
  (x.entries.foldl (fun (st : List (Nat × Nat × List Byte) × List Byte) e =>
    if x.encrypted && e.encrypted then (st.1 ++ [(e.type, e.inst, st.2.take e.length)], st.2.drop e.length)
    else (st.1 ++ [(e.type, e.inst, x.slice e.offset e.length)], st.2)) ([], text)).1

/-- Every "one" section is there once, and POLDER, SOLVER and CAN sections have instances in range, each once (R37). -/
def Image.sectionsOk (x : Image) : Bool :=
  let all := x.entries.map fun e => (e.type, e.inst)
  let count := fun t => (all.filter fun e => e.1 == t).length
  ([0x01, 0x02, 0x04, 0x05, 0x06, 0x07, 0x08, 0x0B, 0x0C, 0x0D, 0x0E].all fun t => count t == 1) &&
    (all.all fun e => decide (1 ≤ e.1) && decide (e.1 ≤ 0x0E) && (e.1 != 0x03 || decide (e.2 ≤ 15)) &&
      (e.1 != 0x09 || decide (e.2 ≤ 7)) && (e.1 != 0x0A || decide (e.2 ≤ 3))) &&
    allDifferent ((all.filter fun e => e.1 == 0x03 || e.1 == 0x09 || e.1 == 0x0A).map fun e => 256 * e.1 + e.2)

/-- A POLDER section for each configured polder, a SOLVER section for each used slot, a CAN section for each used channel
(R37), by what the sections configure. -/
def Image.sectionsMatch (x : Image) (polder slot channel : Nat → Bool) : Bool :=
  let has := fun (t i : Nat) => x.entries.any fun e => e.type == t && e.inst == i
  ((List.range 16).all fun p => has 0x03 p == polder p) && ((List.range 8).all fun s => has 0x09 s == slot s) &&
    ((List.range 4).all fun k => has 0x0A k == channel k)

/-! Slots. -/

/-- The bytes of programmed pages, as far as LENGTH says and the pages go. -/
def pageBytes (pages : List (Nat × Word)) : List Byte :=
  let word := fun j => ((pages.find? fun e => e.1 == j).map (·.2)).getD 0xFFFFFFFF
  let last := pages.foldl (fun n e => max n (e.1 + 1)) 0
  (wordBytes ((List.range (min last (((word 2).toNat + 3) / 4))).map word)).take (word 2).toNat

/-- The image in a slot: the one found in it, or what its programmed pages spell under the image key. -/
def Slot.found (sl : Slot) (key : BitVec 256) : Image :=
  match sl.image with
  | some x => x
  | none =>
    let x : Image := ⟨true, pageBytes sl.pages, false, [], [], Machine.ImageData.empty⟩
    if x.headerOk && x.tableOk then
      match Config.imageContent (x.plain key) with
      | some (lk, absent, data) => ⟨true, x.bytes, true, lk, absent, data⟩
      | none => x
    else x

/-- The SFDP tables declare what the module needs (R27). -/
def Key.sfdpOk (k : Key) : Bool :=
  match k.sfdp with
  | some t => t.addr4 && t.quadIo && t.page == 256
  | none => false

end Sys2Proof
end

