-- ==== Sys2Proof/Machine/ImageFields.lean ====
section
/-! DEFINITION. The fields of the sections: the values written where the image gives none, and the ranges, value sets and
steps of R494. A field that only some settings use is checked under those settings alone (log entry 94). -/

namespace Sys2Proof.Machine

/-- The LK registers that an image writes: rows of access type LK alone, their writable bits alone. -/
def lkMap (l : List (Nat × Word)) : SMap Word :=
  l.foldl (fun m e => match regRow e.1 with
    | some r => if r.acc == .lk && e.1 != Reg.BOOT_LOCK then sput 0 m e.1 (e.2 &&& r.mask) else m
    | none => m) []

/-- Written as 3 × P rounded up to 100 µs, and at least 1 ms, where the image gives no watchdog timeout (R306). -/
def Cfg.wdDefault (c : Cfg) : Nat := max 10 ((3 * c.periodUs + 99) / 100)

/-- What the boot code writes into the fields for which the image gives no value (R75, R92, R252, R255, R306, and the field
tables). -/
def Cfg.defaults (c : Cfg) : List (Fld × Nat) :=
  [(F.SLC_OFFSET_UNITS, 9 * (c.get F.SLC_PERIOD_UNITS) / 5), (F.SHL_CFG_PAIR_WAIT, 10), (⟨Reg.SHL_MRG 20, 16, 4⟩, 4),
   (F.TSU_CFG_STEP_THRESH, 2), (F.TSU_PTP_CFG_CLOCK_CLASS, 248), (F.NET_CFG_MAX_LAT, 10), (F.JRN_CFG_PRE_S, 120),
   (F.JRN_CFG_POST_S, 10), (F.MOD_PWR_CFG_TEMP_WARN, 95)] ++
  ((polders.filter c.polder).map fun p => (F.PLD_CFG_SPILL_LIMIT p, 3)) ++
  (((List.range 4).filter fun k => c.flag (F.CAN_CFG_EN k)).flatMap fun k =>
    [(F.CAN_CFG_COLL_LIMIT k, 4), (F.CAN_CFG_RXB_LOCK_MS k, 1000)]) ++
  ((digitals.filter c.isOut).map fun n => (F.DIO_OCFG_WD_TIMEOUT n, c.wdDefault)) ++
  ((analogues.filter fun m => c.anaMode m == 2).map fun m => (F.AIO_OCFG_WD_TIMEOUT m, c.wdDefault))

/-- The configuration an image describes, before it is locked. A field has no value where its register is not listed, or the
image names the field as absent. -/
def imageCfg (x : Image) : Cfg :=
  let c : Cfg := ⟨false, lkMap x.lk, { x.data with imageId := x.imageId, startStopped := x.startStopped }⟩
  let given := fun (f : Fld) => x.lk.any (fun e => e.1 == f.addr) && !x.absent.contains f
  let lk := (c.defaults.filter fun e => !given e.1).foldl (fun m e =>
    sput 0 m e.1.addr ((sget 0 m e.1.addr).setField e.1.lo e.1.width e.2)) c.lk
  { c with lk := lk }

def within (lo hi n : Nat) : Bool := decide (lo ≤ n) && decide (n ≤ hi)

/-- A two's complement field of 8 bits between two limits. -/
def log2Ok (n : Nat) (lo hi : Int) : Bool :=
  let v : Int := if n < 128 then n else (n : Int) - 256
  decide (lo ≤ v) && decide (v ≤ hi)

/-- STATION and SLUICE: frame period and output offset (R73, R75), polders (R86, R92, R128, R145), power-fail settings. -/
def Cfg.fieldsSluice (c : Cfg) : Bool :=
  within 250 100000 c.periodUs && within 120000 (c.period - 25000) c.offset &&
  ((polders.filter c.polder).all fun p =>
    let k := c.get (F.PLD_CYCLIC_PERIOD p)
    within 1 1000 k && decide (c.get (F.PLD_CYCLIC_PHASE p) < k) &&
    within 1 (if c.get (F.PLD_CFG_CLASS p) = 0 then 3 else 255) (c.get (F.PLD_CFG_SPILL_LIMIT p)) &&
    decide (c.get (F.PLD_BITWIN_SIZE p) ≤ 512) && decide (c.get (F.PLD_WORDWIN_SIZE p) ≤ 1024) &&
    decide (c.get (F.LGE_CTRL_KSIZE p) ≤ 4096) && decide (c.get (F.LGE_CTRL_EVT_TASKS p) ≤ 8) &&
    decide (c.get (F.LGE_SEG_BASE_VALUE p) < 524288) && decide (c.get (F.LGE_SEG_LEN_VALUE p) ≤ 524288)) &&
  !c.flag (F.LGE_CTRL_DEBUG_EN 0) && within 60 110 (c.get F.MOD_PWR_CFG_TEMP_WARN)

/-- LEVEE: sources of R106 and the test limit. -/
def Cfg.fieldsLevee (c : Cfg) : Bool :=
  ((List.range 64).all fun t =>
    ([Reg.LVE_LIT01 t, Reg.LVE_LIT23 t, Reg.LVE_LIT45 t, Reg.LVE_LIT67 t].all fun a =>
      decide ((c.rd a).field 0 8 ≤ 175) && decide ((c.rd a).field 16 8 ≤ 175)) &&
    decide (c.get (F.LVE_TCFG_RST_SRC t) ≤ 175)) &&
  decide (c.get F.LVE_TEST_LIMIT_SECONDS ≤ 600)

/-- Every item that R186 asks for: the writable ones, ACTIVE_BANK and INIT_OUT. -/
def itemsGiven (m : LoopImg) : Bool :=
  (writableItems ++ [0x3B, 0xFF]).all fun code => m.items.any fun e => e.1 == code

/-- LOOP (R186, R212). -/
def Cfg.fieldsLoop (c : Cfg) : Bool :=
  ((List.range 128).filter fun k => c.flag (F.LPE_CFG_CONFIGURED k)).all fun k =>
    let n := c.get (F.LPE_SCHED_PERIOD k)
    let i := c.get (F.LPE_PV_SRC_INDEX k)
    within 1 1000 n && decide (c.get (F.LPE_SCHED_PHASE k) < n) &&
    (match c.get (F.LPE_PV_SRC_KIND k) with
      | 0 => true
      | 1 => decide (i ≤ 4095)
      | 2 => decide (i ≤ 31)
      | _ => false) &&
    (match c.loopImg k with
      | some m => itemsGiven m && m.retentive.all retentiveItems.contains
      | none => false)

/-- DIGITAL (R286, R296, R302, R306, R312). -/
def Cfg.fieldsDigital (c : Cfg) : Bool :=
  digitals.all fun n =>
    c.get (F.DIO_CFG_FILTER n) != 15 && c.get (F.DIO_OCFG_SAFE n) != 3 &&
    (!c.isOut n || ((c.flag (F.DIO_OCFG_RETRY n) || within 1 255 (c.get (F.DIO_OCFG_RETRY_INT n))) &&
      within 10 10000 (c.get (F.DIO_OCFG_WD_TIMEOUT n)))) &&
    (c.get (F.DIO_CHATCFG_CHAT_N n) == 0 || (decide (2 ≤ c.get (F.DIO_CHATCFG_CHAT_N n)) &&
      decide (1 ≤ c.get (F.DIO_CHATCFG_CHAT_WIN n)) && decide (1 ≤ c.get (F.DIO_CHATCFG_CHAT_COOL n)))) &&
    (!c.flag (F.DIO_STOP_FIXED n) || within 1 60000 (c.get (F.DIO_STOP_STOP_MS n)))

/-- ANALOGUE (R306, R315, R320, R323, R335). -/
def Cfg.fieldsAnalogue (c : Cfg) : Bool :=
  analogues.all fun m =>
    c.anaMode m != 3 && decide (c.get (F.AIO_CFG_AVG m) ≤ 4) && c.get (F.AIO_CFG_SUBST m) != 3 &&
    (c.anaMode m != 2 || within 10 10000 (c.get (F.AIO_OCFG_WD_TIMEOUT m)))

/-- TIME: PTP settings (R355, R357, R364), compare units (R348) and capture units (R352). -/
def Cfg.fieldsTime (c : Cfg) : Bool :=
  decide (c.get F.TSU_CFG_STEP_THRESH ≤ 6) && c.get F.TSU_CFG_PROFILE != 3 &&
  !(c.get F.TSU_CFG_PROFILE == 2 && c.flag F.TSU_CFG_UDP) &&
  (c.get F.TSU_CFG_ROLE == 0 || (within 2 10 (c.get F.TSU_PTP_INTV_TIMEOUT) &&
    log2Ok (c.get F.TSU_PTP_INTV_LOG_DELAY) (-4) 5 && log2Ok (c.get F.TSU_PTP_INTV_LOG_ANNOUNCE) (-3) 3 &&
    log2Ok (c.get F.TSU_PTP_INTV_LOG_SYNC) (-4) 1)) &&
  (!c.flag F.TSU_PPS_CFG_EN || within 1 500000 (c.get F.TSU_PPS_CFG_WIDTH)) &&
  decide (c.get F.TSU_PPS_OFS_NS ≤ 999999999) &&
  ((List.range 32).all fun u =>
    let per := c.get (F.TSU_CMP_PER_NS u)
    let ofs := c.get (F.TSU_CMP_OFS_NS u)
    (match c.get (F.TSU_CMP_CFG_MODE u) with
      | 1 => within 10000 2000000000 per && decide (ofs < per)
      | 2 => decide (10000 ≤ per) && 10 ^ 9 % per == 0 && decide (ofs < per)
      | _ => true)) &&
  ((List.range 16).all fun u => c.get (F.TSU_CAP_CFG_EDGE u) != 3 && decide (c.get (F.TSU_CAP_CFG_SRC u) ≤ 8))

/-- A stream or CAN entry of the identifier map (R393, R406, R424). -/
def entryOk (w0 w1 : Word) : Bool :=
  let id := w0.field 0 16
  match w0.field 30 2 with
  | 1 =>
    let tx := w1.bit 29
    let dest := w1.field 27 2
    let at_ := w1.field 4 12
    dest != 3 && !(dest == 2 && tx) &&
    (dest != 0 || (decide ((if tx then 0x400 else 0x300) ≤ at_) &&
      decide (at_ + (dlcLen (w1.field 0 4) + 3) / 4 ≤ 0x1000))) &&
    (dest != 1 || decide (at_ < 128)) && (dest != 2 || decide (at_ < 32))
  | k =>
    let area := w1.field 20 12
    let len := w1.field 11 9
    let remote := if k = 2 then within 0x101 0x120 id else within 1 0x20 id
    w0.field 16 4 == 0 && (remote || decide (0x200 ≤ id)) && w1.field 0 2 != 3 &&
    !(k == 3 && (w0.bit 28 || w0.bit 29)) &&
    (if w0.bit 28 then area == 0 && len == 0 && decide (w1.field 2 9 < 128)
     else decide ((if k = 2 then 0x300 else 0x400) ≤ area) && decide (area + len ≤ 0x1000) && within 1 350 len &&
      decide (w1.field 2 9 ≤ 349))

/-- NETWORK and QUEUES (R385, R393, R402, R406, R417, R418), and the pairing settings of STATION (R252, R255). -/
def Cfg.fieldsNet (c : Cfg) : Bool :=
  within 1 60 (c.get F.SHL_CFG_PAIR_WAIT) &&
  ((List.range 165).all fun e => decide ((c.rd (Reg.SHL_MRG (e / 8))).field (4 * (e % 8)) 4 ≤ 4)) &&
  c.get F.NET_CFG_SPEED_A != 3 && c.get F.NET_CFG_SPEED_B != 3 && within 1 500 (c.get F.NET_CFG_MAX_LAT) &&
  (((List.range 32).filter fun s => c.flag (F.NET_RS_CFG_EN s)).all fun s =>
    ([c.get (F.NET_RS_CFG_IN_LEN s), c.get (F.NET_RS_CFG_OUT_LEN s)].all fun n => within 4 1400 n && n % 4 == 0)) &&
  (((List.range 128).filter c.queueUsed).all fun q =>
    decide (c.get (F.HQ_SIZE_DEPTH q) ≤ 8192) && !(decide (2 ≤ c.qKind q) && c.flag (F.HQ_CFG_DIR q))) &&
  c.idmap.all fun e => entryOk e.2.1 e.2.2

/-- Clock periods of a bit: prescaler × (1 + both segments), each field holding its number minus 1. -/
def bitPeriods (brp seg1 seg2 : Nat) : Nat := (brp + 1) * (3 + seg1 + seg2)

/-- CAN (R422, R423, R443). -/
def Cfg.fieldsCan (c : Cfg) : Bool :=
  ((List.range 4).filter fun k => c.flag (F.CAN_CFG_EN k)).all fun k =>
    let bit := bitPeriods (c.get (F.CAN_NBT_NBRP k)) (c.get (F.CAN_NBT_NTSEG1 k)) (c.get (F.CAN_NBT_NTSEG2 k))
    let data := bitPeriods (c.get (F.CAN_DBT_DBRP k)) (c.get (F.CAN_DBT_DTSEG1 k)) (c.get (F.CAN_DBT_DTSEG2 k))
    within 1 15 (c.get (F.CAN_CFG_COLL_LIMIT k)) && decide (1 ≤ c.get (F.CAN_CFG_RXB_LOCK_MS k)) &&
    within 40 4000 bit && decide (1 ≤ c.get (F.CAN_NBT_NTSEG1 k)) &&
    decide (c.get (F.CAN_NBT_NSJW k) ≤ c.get (F.CAN_NBT_NTSEG2 k)) &&
    (!c.flag (F.CAN_CFG_FD_EN k) || (decide (8 ≤ data) && decide (data ≤ bit) &&
      decide (c.get (F.CAN_DBT_DSJW k) ≤ c.get (F.CAN_DBT_DTSEG2 k)) &&
      (decide (40 ≤ data) || c.flag (F.CAN_DBT_TDC_EN k)))) &&
    (!c.flag (F.CAN_CFG_TRIPLE k) || decide (160 ≤ bit))

/-- JOURNAL (R451). -/
def Cfg.fieldsJournal (c : Cfg) : Bool :=
  within 1 120 (c.get F.JRN_CFG_PRE_S) && decide (c.get F.JRN_CFG_POST_S ≤ 10)

/-! Solver templates (R214–R217, R224, R225). -/

/-- Descriptor words have zeros where R224 shows them, and at most 4 terms. -/
def descWordsOk (w : List Word) : Bool :=
  let at_ := fun j => w.getD j 0
  w.length == 8 && !(at_ 0).bit 27 && decide ((at_ 0).field 24 3 ≤ 4) && (at_ 0).field 7 9 == 0 &&
    ([at_ 2, at_ 3].all fun x => x.field 25 7 == 0 && x.field 9 7 == 0)

/-- Rows and columns of a target (R225); none where the class has no such target. -/
def targetDims (cls n rows target : Nat) : Option (Nat × Nat) :=
  match cls, target with
  | 0, 0 => some (n, n)
  | 0, 1 => some (n, 1)
  | 1, 0 => some (n, n)
  | 1, 1 => some (n, 1)
  | 2, 0 => some (rows, n)
  | 2, 1 => some (rows, 1)
  | 2, 7 => some (rows, 1)
  | 2, 8 => some (n, 1)
  | 2, 9 => some (1, 1)
  | 3, 0 => some (n, n)
  | 3, 1 => some (n, 1)
  | 3, 2 => some (rows, n)
  | 3, 3 => some (rows, 1)
  | 3, 4 => some (rows, 1)
  | 3, 5 => some (n, 1)
  | 3, 6 => some (n, 1)
  | 3, 7 => some (rows, 1)
  | _, _ => none

/-- A descriptor within its target's dimensions, below the diagonal of a symmetric one, naming listed measurements; weights
belong to ELASTIC rows. -/
def descOk (t : Template) (cls n rows : Nat) (x : Desc) : Bool :=
  (match targetDims cls n rows x.target with
    | some (r, k) => decide (x.row < r) && decide (x.col < k)
    | none => false) &&
  !(x.target == 0 && (cls == 0 || cls == 3) && decide (x.row < x.col)) &&
  !(cls == 3 && x.target == 7 && (t.rows.getD x.row (0, false, false)).1 != 2) &&
  x.terms.all fun e => decide (e.1 < t.meas.length)

/-- SOLVER: the limits of R214 and the rules of the tables. -/
def Cfg.fieldsSolver (c : Cfg) : Bool :=
  ((List.range 8).filter c.slvUsed).all fun s =>
    let cls := c.slvClass s
    let n := c.slvN s
    let rows := c.get (F.SLV_DIM_ROWS s)
    let w := c.rd (Reg.SLV_FMT s)
    let fmts := [w.field 24 8, w.field 16 8, w.field 8 8, w.field 0 8, (c.rd (Reg.SLV_FMT2 s)).field 8 8,
      (c.rd (Reg.SLV_FMT2 s)).field 0 8]
    within 1 128 n && decide (c.get (F.SLV_DIM_MEAS s) ≤ 512) &&
    (match cls with
      | 2 => within 1 192 rows
      | 3 => decide (rows ≤ 192)
      | _ => rows == 0) &&
    (if cls = 3 then within 1 64 (c.get (F.SLV_ITER_CAP s)) else c.get (F.SLV_ITER_CAP s) == 0) &&
    decide (c.get (F.SLV_ITER_DESC s) ≤ 32768) && (fmts.all fun f => decide (f ≤ 31)) &&
    (match c.img.solver.find? fun t => t.slot == s with
      | none => false
      | some t =>
        let ds := t.desc.map descOf
        t.meas.length == c.get (F.SLV_DIM_MEAS s) && t.desc.length == c.get (F.SLV_ITER_DESC s) &&
        (t.meas.all fun m => decide (m.mf ≤ 31) && decide (m.lo.toInt ≤ m.hi.toInt) &&
          decide (m.index < if m.fromView then 4096 else c.words (c.get (F.SLV_CFG_OWNER s)))) &&
        (cls != 3 || (t.vars.length == n && t.rows.length == rows && t.rows.all fun r =>
          decide (r.1 ≤ 2) && (r.1 != 0 || r.2.1 || r.2.2))) &&
        t.desc.all descWordsOk && ds.all (descOk t cls n rows) &&
        allDifferent (ds.map fun x => 65536 * x.target + 256 * x.row + x.col))

/-- Every field of every section is within the range, value set and step that the manual gives it (R494). -/
def Cfg.fieldsOk (c : Cfg) : Bool :=
  c.fieldsSluice && c.fieldsLevee && c.fieldsLoop && c.fieldsDigital && c.fieldsAnalogue && c.fieldsTime && c.fieldsNet &&
    c.fieldsCan && c.fieldsJournal && c.fieldsSolver

end Sys2Proof.Machine
end

