-- ==== Sys2Proof/Machine/Power.lean ====
section
/-! DEFINITION. Logic supply, rails, clocks and temperature (R464–R477, R492, R493), and the power-fail sequence. -/

namespace Sys2Proof.Machine

/-- A power fail before FN 0, or in REPLAY (R469). -/
def Dyn.early (d : Dyn) : Bool := d.boot.stage != .running

/-- The count and the record of the sequence in the secure store, with which of its copies were completed (R467, R493). -/
def Dyn.pfStore (c : Cfg) (d : Dyn) (us : Nat) (mram jrn : Bool) : Dyn :=
  let n := min (d.nv.pfCount + 1) 0xFFFF
  let w := BitVec.ofNat 32 (b2n mram * 2 ^ 31 + b2n jrn * 2 ^ 30 + b2n c.twin * 2 ^ 29 + b2n d.early * 2 ^ 28 + us % 2 ^ 16)
  let d : Dyn := { d with nv := { d.nv with pfCount := n, pfLast := w, pfTick := some d.rtc.tick } }
  (d.wr Reg.MOD_PF_COUNT (BitVec.ofNat 32 n)).wr Reg.MOD_PF_LAST w

/-- The POWER window: the newest records that fit in 1 MiB, and no checkpoint (R455). -/
def Dyn.powerWindow (c : Cfg) (d : Dyn) : Window :=
  let recs := fitRing [] (2 ^ 20) d.jrn.ring
  let fn0 := ((recs.getLast?).map (·.fn)).getD d.fn
  d.windowOf c 8 fn0 d.fn (((recs.head?).map (·.fn)).getD d.fn) (later fn0 (c.wantFrom d.fn)) recs []

/-- A POWER window found in the power-fail area is copied to the place that a new window takes (log entry 113); the
area keeps it until the copy is done. -/
def Dyn.storePower (c : Cfg) (d : Dyn) : Dyn :=
  match d.nv.pfArea, d.windowPlace c with
  | some w, some p =>
    let d := d.setWindow p none
    { d with jrn := { d.jrn with copying := d.jrn.copying ++ [({ w with age := d.jrn.ages, copied := w.bytes }, p)],
                                 ages := d.jrn.ages + 1 } }
  | _, _ => d

/-- POWER_FAIL: the sequence runs to its end, `us` µs after detection, and the module holds itself in reset (R467–R469).
Whether its copies can be completed is a free value: an MRAM copy that cannot leaves the previous one in force (R163), a
power-fail area that cannot keeps what it holds (log entry 109). In REPLAY it writes nothing. -/
def execPowerFail (us : BitVec 16) (st : State) : Out :=
  st.upd fun c d =>
    let hold := fun (d : Dyn) => { d with boot := { d.boot with held := true, supplyOff := true } }
    if d.modState = 4 then hold d
    else
      let d := if d.early then (if c.twin then d.sendWords 7 [0x28] else d)
        else
          let d := d.freeze c 8 0 d.fn
          if c.twin then d.giveUp c 0x28
          else if c.flag F.MOD_PWR_CFG_PF_OUT then d.canDrop else d.canDrop.allSafe c false
      let (w, d) := d.fresh
      let mram := w.bit 0 && !d.early
      let jrn := w.bit 1 && !d.early
      let d := if mram then d.endCopy (d.snapshots c) else if d.early then d else d.dropCopy
      let d := if jrn then { d with nv := { d.nv with pfArea := some (d.powerWindow c) } } else d
      hold (d.pfStore c us.toNat mram jrn)

/-- SUPPLY_INPUT_LOSS of PS A or PS B, with its voltage in 10 mV (R465, R492). -/
def execSupplyInputLoss (psB : Bool) (v : BitVec 16) (st : State) : Out :=
  st.upd fun c d =>
    let d := d.put (if psB then F.MOD_VIN_PSB else F.MOD_VIN_PSA) v.toNat
    let ok := if psB then F.MOD_PWR_STATUS_PSB_OK else F.MOD_PWR_STATUS_PSA_OK
    if !d.flag ok then d
    else
      let d := (d.setFlag ok false).bump (if psB then F.MOD_PWR_EVCNT_PSB_LOSS else F.MOD_PWR_EVCNT_PSA_LOSS)
      if c.flag (if psB then F.MOD_PWR_CFG_PSB_REQ else F.MOD_PWR_CFG_PSA_REQ) then
        d.alarm c (if psB then 0x0B02 else 0x0B01) 0 (v.setWidth 32) 0
      else d

/-- SUPPLY_INPUT_RETURN. -/
def execSupplyInputReturn (psB : Bool) (v : BitVec 16) (st : State) : Out :=
  st.upd fun c d =>
    let d := d.put (if psB then F.MOD_VIN_PSB else F.MOD_VIN_PSA) v.toNat
    let ok := if psB then F.MOD_PWR_STATUS_PSB_OK else F.MOD_PWR_STATUS_PSA_OK
    if d.flag ok then d
    else
      let d := d.setFlag ok true
      if c.flag (if psB then F.MOD_PWR_CFG_PSB_REQ else F.MOD_PWR_CFG_PSA_REQ) then
        d.alarm c (if psB then 0x0B04 else 0x0B03) 0 (v.setWidth 32) 0
      else d

/-- HOLDUP_READY, with the bank voltage in 10 mV. -/
def execHoldupReady (v : BitVec 16) (st : State) : Out :=
  st.upd fun _ d => (d.put F.MOD_HOLDUP_VALUE v.toNat).setFlag F.MOD_PWR_STATUS_HOLDUP_READY true

/-- The voltage of a rail: 0 CORE, 1 MEM, 2 IO, 3 AON. -/
def railFld : Nat → Fld
  | 0 => F.MOD_RAIL0_CORE
  | 1 => F.MOD_RAIL0_MEM
  | 2 => F.MOD_RAIL1_IO
  | _ => F.MOD_RAIL1_AON

def Dyn.railWarn (d : Dyn) (r : Nat) (b : Bool) : Dyn :=
  d.put F.MOD_PWR_STATUS_RAIL_WARN (Word.setBit (BitVec.ofNat 32 (d.get F.MOD_PWR_STATUS_RAIL_WARN)) r b).toNat

/-- RAIL_WARN, with the voltage in mV (R475). -/
def execRailWarn (r : BitVec 2) (mv : BitVec 16) (st : State) : Out :=
  st.upd fun c d =>
    let r := r.toNat
    let d := d.put (railFld r) mv.toNat
    if (d.get F.MOD_PWR_STATUS_RAIL_WARN).testBit r then d
    else ((d.railWarn r true).bump F.MOD_PWR_EVCNT_RAIL_WARN).alarm c 0x0B05 r (mv.setWidth 32) 0

/-- RAIL_WARN_CLEAR. -/
def execRailWarnClear (r : BitVec 2) (mv : BitVec 16) (st : State) : Out :=
  st.upd fun _ d => (d.put (railFld r.toNat) mv.toNat).railWarn r.toNat false

/-- RAIL_FAULT: a hardware fault (R475). -/
def execRailFault (r : BitVec 2) (mv : BitVec 16) (st : State) : Out :=
  st.upd fun c d => (d.put (railFld r.toNat) mv.toNat).hardwareFault c 0x26

/-- CLOCK_FAILURE of the 32.768 kHz crystal (0), the TCXO (1), the fabric PLL (2) or the CAN PLL (3): a hardware fault
(R476). PLL_LOCK always reads 1 (R493). -/
def execClockFailure (k : BitVec 2) (st : State) : Out :=
  st.upd fun c d =>
    let d := match k.toNat with
      | 0 => d.setFlag F.MOD_CLK_K32_OK false
      | 1 => d.setFlag F.MOD_CLK_TCXO_OK false
      | 2 => d
      | _ => d.setFlag F.MOD_CLK_CAN_LOCK false
    d.hardwareFault c 0x25

/-- The board temperature in 0.1 °C, and its peak, which a read sets to 0 (log entry 113). -/
def Dyn.setTemp (d : Dyn) (t : BitVec 16) : Dyn :=
  let peak := BitVec.ofNat 16 (d.get F.MOD_TEMP_PEAK_TEMP)
  let d := d.put F.MOD_TEMP_TEMP t.toNat
  if peak.toInt < t.toInt then d.put F.MOD_TEMP_PEAK_TEMP t.toNat else d

/-- OVERTEMP: the temperature exceeds TEMP_WARN (R477). -/
def execOvertemp (t : BitVec 16) (st : State) : Out :=
  st.upd fun c d =>
    let d := d.setTemp t
    if decide (((c.get F.MOD_PWR_CFG_TEMP_WARN * 10 : Nat) : Int) < t.toInt) && !d.flag F.MOD_PWR_STATUS_OVERTEMP then
      ((d.setFlag F.MOD_PWR_STATUS_OVERTEMP true).bump F.MOD_PWR_EVCNT_OVERTEMP).alarm c 0x0B06 0 (t.signExtend 32) 0
    else d

/-- OVERTEMP_CLEAR: 5 °C below TEMP_WARN. -/
def execOvertempClear (t : BitVec 16) (st : State) : Out :=
  st.upd fun c d =>
    let d := d.setTemp t
    if t.toInt ≤ (c.get F.MOD_PWR_CFG_TEMP_WARN : Int) * 10 - 50 then d.setFlag F.MOD_PWR_STATUS_OVERTEMP false else d

/-- POWER_RESTORED at the first FN 0 after a power fail (R470). -/
def Dyn.powerRestored (c : Cfg) (d : Dyn) : Dyn :=
  match d.nv.pfTick with
  | none => d
  | some t =>
    let v := if d.flag F.RTC_STATUS_VALID then BitVec.ofNat 32 ((d.boot.tick - t).toNat / 32768) else 0xFFFFFFFF
    ({ d with nv := { d.nv with pfTick := none } } : Dyn).alarm c 0x0B07 0 v d.nv.pfLast

end Sys2Proof.Machine
end

