-- ==== Sys2Proof/Machine/ImageRules.lean ====
section
/-! DEFINITION. The rules that relate fields and sections to one another (R47): placement and budgets (R80, R81), ownership,
windows and allocations, event tasks, rights, and the rules of the later chapters that name IMAGE_RESOURCE. -/

namespace Sys2Proof.Machine

/-- The configured polders in order of class and number. -/
def Cfg.byRank (c : Cfg) : List Nat := (polders.filter c.polder).foldr (insertBy c.rank) []

def Cfg.budget (c : Cfg) (f : Nat → Fld) : Nat := ((polders.filter c.polder).map fun p => c.get (f p)).sum

/-- Placement on the four lanes (R81): the home lane of each polder, or none. -/
def Cfg.place (c : Cfg) : Option (List (Nat × Nat)) :=
  (c.byRank.foldl (fun (x : Option (List Nat × List (Nat × Nat))) p =>
    match x with
    | none => none
    | some (free, l) =>
      let b := c.get (F.PLD_BUD_LOGIC_AMOUNT p)
      match (List.range 4).find? fun i => decide (b ≤ free.getD i 0) with
      | some i => some (free.set i (free.getD i 0 - b), l ++ [(p, i)])
      | none => none) (some (List.replicate 4 c.winK, []))).map (·.2)

/-- SLC_HOME. -/
def Cfg.home (c : Cfg) : Word :=
  (c.place.getD []).foldl (fun w e => w.setField (2 * e.1) 2 e.2) 0

/-- The budgets fit (R80). -/
def Cfg.budgetOk (c : Cfg) : Bool :=
  decide (c.budget F.PLD_BUD_LOGIC_AMOUNT ≤ 4 * c.winK) && decide (c.budget F.PLD_BUD_LOOP_AMOUNT ≤ c.loopCap) &&
    decide (c.budget F.PLD_BUD_SLV_AMOUNT ≤ c.slvCap) &&
    (polders.filter c.polder).all (fun p => decide (c.get (F.PLD_BUD_LOGIC_AMOUNT p) ≤ c.winK)) && c.place.isSome

/-- Ranges of all configured polders: disjoint, and each within `total`. -/
def Cfg.rangesOk (c : Cfg) (base count : Nat → Fld) (total : Nat) : Bool :=
  let l := (polders.filter c.polder).map fun p => (c.get (base p), c.get (count p))
  disjoint l && l.all fun e => e.2 == 0 || decide (e.1 + e.2 ≤ total)

/-- The polders that resources name as owner, or as PEER of an INTERNAL queue (R16). -/
def Cfg.named (c : Cfg) : List Nat :=
  let when_ := fun (b : Bool) (f : Fld) => if b then [c.get f] else []
  (digitals.flatMap fun n => when_ (c.flag (F.DIO_CFG_OWNED n)) (F.DIO_CFG_OWNER n)) ++
  (analogues.flatMap fun m => when_ (c.flag (F.AIO_CFG_OWNED m)) (F.AIO_CFG_OWNER m)) ++
  ((List.range 128).flatMap fun k => when_ (c.flag (F.LPE_CFG_CONFIGURED k)) (F.LPE_CFG_OWNER k)) ++
  ((List.range 8).flatMap fun s => when_ (c.slvUsed s) (F.SLV_CFG_OWNER s)) ++
  ((List.range 32).flatMap fun u => when_ (c.get (F.TSU_CMP_CFG_MODE u) != 0) (F.TSU_CMP_CFG_OWNER u)) ++
  ((List.range 32).flatMap fun s => when_ (c.flag (F.NET_RS_CFG_EN s)) (F.NET_RS_CFG_OWNER s)) ++
  ((List.range 4).flatMap fun k => when_ (c.flag (F.CAN_CFG_EN k)) (F.CAN_CFG_OWNER k)) ++
  (c.idmap.map fun e => if e.2.1.field 30 2 = 1 then e.2.2.field 23 4 else e.2.1.field 24 4) ++
  ((List.range 128).flatMap fun q => if c.queueUsed q then
    c.qOwner q :: (if c.qKind q = 2 then [c.qPeer q] else []) else [])

/-- Every field that names an event task, whether its trigger is enabled or not (R145). -/
def Cfg.taskFields (c : Cfg) : List Nat :=
  (digitals.flatMap fun n => [c.get (F.DIO_EVT_CHAT_TASK n), c.get (F.DIO_EVT_FALL_TASK n), c.get (F.DIO_EVT_RISE_TASK n)]) ++
  (analogues.flatMap fun m => [c.get (F.AIO_CMP0_EVT_TASK m), c.get (F.AIO_CMP1_EVT_TASK m)]) ++
  ((List.range 128).map fun k => c.get (F.LPE_CFG_EVT_TASK k)) ++ ((List.range 8).map fun s => c.get (F.SLV_CFG_EVT_TASK s)) ++
  ((List.range 32).map fun u => c.get (F.TSU_CMP_CFG_EVT_TASK u)) ++ [c.get F.TSU_CFG_WRAP_TASK] ++
  (c.idmap.map fun e => if e.2.1.field 30 2 = 1 then e.2.2.field 19 4 else e.2.1.field 20 4)

/-- The polder and event task that each enabled trigger source names (R145). -/
def Cfg.eventTasks (c : Cfg) : List (Nat × Nat) :=
  let when_ := fun (b : Bool) (p : Nat) (f : Fld) => if b then [(p, c.get f)] else []
  (digitals.flatMap fun n => match c.digOwner n with
    | some p => when_ (c.flag (F.DIO_CFG_EVT_RISE n)) p (F.DIO_EVT_RISE_TASK n) ++
        when_ (c.flag (F.DIO_CFG_EVT_FALL n)) p (F.DIO_EVT_FALL_TASK n) ++
        when_ (c.get (F.DIO_CHATCFG_CHAT_N n) != 0) p (F.DIO_EVT_CHAT_TASK n)
    | none => []) ++
  (analogues.flatMap fun m => match c.anaOwner m with
    | some p => when_ (c.flag (F.AIO_CMP0_EVT_EN m)) p (F.AIO_CMP0_EVT_TASK m) ++
        when_ (c.flag (F.AIO_CMP1_EVT_EN m)) p (F.AIO_CMP1_EVT_TASK m)
    | none => []) ++
  ((List.range 128).flatMap fun k =>
    when_ (c.flag (F.LPE_CFG_CONFIGURED k)) (c.get (F.LPE_CFG_OWNER k)) (F.LPE_CFG_EVT_TASK k)) ++
  ((List.range 8).flatMap fun s => when_ (c.slvUsed s) (c.get (F.SLV_CFG_OWNER s)) (F.SLV_CFG_EVT_TASK s)) ++
  ((List.range 32).flatMap fun u =>
    when_ (c.flag (F.TSU_CMP_CFG_EVT u)) (c.get (F.TSU_CMP_CFG_OWNER u)) (F.TSU_CMP_CFG_EVT_TASK u)) ++
  when_ (c.flag F.TSU_CFG_WRAP_EVT) (c.get F.TSU_CFG_WRAP_POLDER) F.TSU_CFG_WRAP_TASK ++
  (c.idmap.flatMap fun e =>
    if e.2.1.field 30 2 = 1 && e.2.2.bit 18 then [(e.2.2.field 23 4, e.2.2.field 19 4)]
    else if e.2.1.field 30 2 = 2 && e.2.1.bit 29 then [(e.2.1.field 24 4, e.2.1.field 20 4)] else [])

/-- DEEP_DOZE_EN only where its lasting conditions can hold (R472). -/
def Cfg.dozeOk (c : Cfg) : Bool :=
  !c.flag F.SLC_CTRL_DEEP_DOZE_EN || (!c.twin && c.get F.TSU_CFG_ROLE == 0 && decide (20000 ≤ c.periodUs))

/-! Rights (R47, R53). -/

/-- The registers of every owned resource: owner, first and last byte address. -/
def Cfg.ownedRegs (c : Cfg) : List (Nat × Nat × Nat) :=
  let one := fun (o : Option Nat) (base size : Nat) => match o with
    | some p => [(p, base, base + size - 1)]
    | none => []
  (digitals.flatMap fun n => one (c.digOwner n) (0x80000 + 0x40 * n) 0x40) ++
  (analogues.flatMap fun m => one (c.anaOwner m) (0x90000 + 0x80 * m) 0x80) ++
  ((List.range 128).flatMap fun k =>
    one (optIf (c.flag (F.LPE_CFG_CONFIGURED k)) (c.get (F.LPE_CFG_OWNER k))) (0x60000 + 0x100 * k) 0x100) ++
  ((List.range 8).flatMap fun s => one (optIf (c.slvUsed s) (c.get (F.SLV_CFG_OWNER s))) (0x70000 + 0x800 * s) 0x800) ++
  ((List.range 32).flatMap fun u =>
    one (optIf (c.get (F.TSU_CMP_CFG_MODE u) != 0) (c.get (F.TSU_CMP_CFG_OWNER u))) (0xA1000 + 0x20 * u) 0x20) ++
  ((List.range 32).flatMap fun s =>
    one (optIf (c.flag (F.NET_RS_CFG_EN s)) (c.get (F.NET_RS_CFG_OWNER s))) (0xC1000 + 0x80 * s) 0x80) ++
  ((List.range 4).flatMap fun k =>
    one (optIf (c.flag (F.CAN_CFG_EN k)) (c.get (F.CAN_CFG_OWNER k))) (0xD0000 + 0x2000 * k) 0x2000) ++
  (c.idmap.map fun e =>
    ((if e.2.1.field 30 2 = 1 then e.2.2.field 23 4 else e.2.1.field 24 4), 0xD8000 + 8 * e.1, 0xD8007 + 8 * e.1)) ++
  ((List.range 128).flatMap fun q => one (optIf (c.queueUsed q) (c.qOwner q)) (0xE0000 + 0x20 * q) 0x20)

/-- No polder may write a register of a resource that another polder owns, and no table has more than 32 entries. -/
def Cfg.rightsOk (c : Cfg) : Bool :=
  let regs := c.ownedRegs
  c.img.rights.all fun t => decide (t.2.length ≤ 32) &&
    (decide (16 ≤ t.1) || t.2.all fun e => !e.write ||
      regs.all fun r => r.1 == t.1 || decide (e.last < r.2.1 / 32) || decide (r.2.2 / 32 < e.first))

/-! Levee matrix (R107, R110, R113). -/

/-- No literal names an output channel, a latching term has a reset literal, and terms are mapped to outputs alone. -/
def Cfg.leveeOk (c : Cfg) : Bool :=
  let srcOk := fun (n : Nat) => decide (96 ≤ n) || !c.isOut n
  (List.range 64).all fun t =>
    ([Reg.LVE_LIT01 t, Reg.LVE_LIT23 t, Reg.LVE_LIT45 t, Reg.LVE_LIT67 t].all fun a =>
      (!(c.rd a).bit 15 || srcOk ((c.rd a).field 0 8)) && (!(c.rd a).bit 31 || srcOk ((c.rd a).field 16 8))) &&
    (!c.flag (F.LVE_TCFG_RST_VALID t) || srcOk (c.get (F.LVE_TCFG_RST_SRC t))) &&
    (!c.flag (F.LVE_TCFG_LATCH t) || c.flag (F.LVE_TCFG_RST_VALID t)) &&
    digitals.all fun n => c.isOut n ||
      !(c.rd (if n < 32 then Reg.LVE_MAP0 t else if n < 64 then Reg.LVE_MAP1 t else Reg.LVE_MAP2 t)).bit (n % 32)

/-! Channels (R276, R291, R297, R351) and merge rules (R255). -/

def Cfg.channelsOk (c : Cfg) : Bool :=
  (digitals.all fun n =>
    let pair := (c.rd (if n < 32 then Reg.SHL_PAIR_DO0 else if n < 64 then Reg.SHL_PAIR_DO1 else Reg.SHL_PAIR_DO2)).bit (n % 32)
    (c.get (F.DIO_CFG_CNT_MODE n) != 3 || (n % 2 == 0 && !c.isOut (n + 1) && c.digOwner (n + 1) == c.digOwner n &&
      c.get (F.DIO_CFG_CNT_MODE (n + 1)) == 0)) &&
    (!c.flag (F.DIO_CFG_WB_EN n) || (!c.isOut n && c.get (F.DIO_CFG_CNT_MODE n) == 0 && !c.flag (F.DIO_CFG_FREQ_EN n))) &&
    (!pair || (c.isOut n && c.get (F.DIO_OCFG_SAFE n) == 0))) &&
  (analogues.all fun m =>
    let u := c.get (F.AIO_CFG_CMP_UNIT m)
    !((c.rd Reg.SHL_PAIR_AO).bit m && c.anaMode m == 1) &&
    !(c.anaMode m != 0 && c.flag (F.AIO_CFG_TRIG m) && within 1 2 (c.get (F.TSU_CMP_CFG_MODE u)) &&
      decide (c.get (F.TSU_CMP_PER_NS u) < 100000))) &&
  (List.range 68).all fun e => !within 3 4 ((c.rd (Reg.SHL_MRG ((96 + e) / 8))).field (4 * ((96 + e) % 8)) 4)

/-! Loop contexts (R187, R200). -/

/-- The owning polder may read the PV source. -/
def Cfg.pvOk (c : Cfg) (k : Nat) : Bool :=
  let p := c.get (F.LPE_CFG_OWNER k)
  let i := c.get (F.LPE_PV_SRC_INDEX k)
  match c.get (F.LPE_PV_SRC_KIND k) with
  | 0 => decide (i < c.words p)
  | 1 => (c.inMask p i).isSome
  | _ => (c.inMask p (0x200 + i)).isSome

def Cfg.cascadeOk (c : Cfg) (k : Nat) : Bool :=
  match c.primaryOf k with
  | none => true
  | some j =>
    c.flag (F.LPE_CFG_CONFIGURED j) && c.get (F.LPE_CFG_OWNER j) == c.get (F.LPE_CFG_OWNER k) &&
      c.get (F.LPE_SCHED_PERIOD j) == c.get (F.LPE_SCHED_PERIOD k) &&
      c.get (F.LPE_SCHED_PHASE j) == c.get (F.LPE_SCHED_PHASE k) && decide (j < k) && (c.primaryOf j).isNone &&
      (c.secondaryOf k).isNone && c.secondaryOf j == some k &&
      ((List.range 128).filter fun m => c.flag (F.LPE_CFG_CONFIGURED m) && c.primaryOf m == some j).length == 1

/-- The initial items obey R208; SP_T stands as given, whatever the initial mode. -/
def Cfg.itemsOk (c : Cfg) (k : Nat) (m : LoopImg) : Bool :=
  decide ((imgItem m 0x3B).toNat ≤ 1) &&
    writableItems.all fun code => code == 0x02 || c.loopOk k code fun x => (imgItem m x).toInt

def Cfg.loopsOk (c : Cfg) : Bool :=
  let used := (List.range 128).filter fun k => c.flag (F.LPE_CFG_CONFIGURED k)
  let bound := used.filter fun k => c.flag (F.LPE_AO_BOUND k)
  (bound.all fun k =>
    let m := c.get (F.LPE_AO_CHAN k)
    c.anaMode m == 2 && c.anaOwner m == some (c.get (F.LPE_CFG_OWNER k))) &&
  allDifferent (bound.map fun k => c.get (F.LPE_AO_CHAN k)) &&
  used.all fun k => c.pvOk k && c.cascadeOk k && (match c.loopImg k with
    | some m => c.itemsOk k m
    | none => false)

/-! Solver parameters (R228) and retentive capacity (R161). -/

def Cfg.solverOk (c : Cfg) : Bool :=
  ((List.range 8).filter c.slvUsed).all fun s =>
    let v := fun a => (c.rd a).toInt
    decide (0 < v (Reg.SLV_EPS_PIV s)) && decide (v (Reg.SLV_EPS_PIV s) ≤ v (Reg.SLV_DELTA_REG s)) &&
    (c.slvClass s != 3 || (decide (0 < v (Reg.SLV_DELTA_EQ s)) && decide (0 < v (Reg.SLV_SIGMA_MAX s))))

/-- Bytes of a retentive variable: bits eight to a byte, words of four; timers and counters have stores of their own. -/
def symBytes (l : SymLoc) : Nat :=
  match l with
  | .bits _ n => (n + 7) / 8
  | .words _ n => 4 * n
  | _ => 0

def Cfg.retentiveOk (c : Cfg) : Bool :=
  let syms := c.img.polders.flatMap fun p => p.symbols
  decide ((syms.map fun x => symBytes x.loc).sum ≤ 131072) && decide (syms.length ≤ 4096)

/-! Queues and the identifier map (R402, R407, R425, R439). -/

/-- Image words that an entry places: transmit area, first, count. -/
def placedBy (w0 w1 : Word) : Option (Bool × Nat × Nat) := (segOf w0 w1).map fun e => (e.1, e.2.1, e.2.2.1)

/-- Payload words of a stream, where its length is fixed: those of a remote station, else 350. -/
def Cfg.streamWords (c : Cfg) (id : Nat) : Nat :=
  if within 1 0x20 id then c.get (F.NET_RS_CFG_OUT_LEN (id - 1)) / 4
  else if within 0x101 0x120 id then c.get (F.NET_RS_CFG_IN_LEN (id - 0x101)) / 4
  else 350

/-- The polder that owns the remote station of a stream. -/
def Cfg.streamOwner (c : Cfg) (id : Nat) : Option Nat :=
  let own := fun s => optIf (c.flag (F.NET_RS_CFG_EN s)) (c.get (F.NET_RS_CFG_OWNER s))
  if within 1 0x20 id then own (id - 1) else if within 0x101 0x120 id then own (id - 0x101) else none

/-- Words that a queue needs for a frame of an entry: R429 on receipt, where DLC 0 accepts any length of the channel's
format, and R432. -/
def Cfg.entryWords (c : Cfg) (w1 : Word) : Nat :=
  let dlc := w1.field 0 4
  let tx := w1.bit 29
  let len := if !tx && dlc == 0 then (if c.flag (F.CAN_CFG_FD_EN (w1.field 30 2)) then 64 else 8) else dlcLen dlc
  (if tx then 1 else 2) + (len + 3) / 4

def Cfg.mapOk (c : Cfg) : Bool :=
  let all := c.idmap
  let segs := all.filter fun e => e.2.1.field 30 2 != 1
  let plain := segs.filter fun e => !e.2.1.bit 28
  let cans := all.filter fun e => e.2.1.field 30 2 == 1
  let key := fun (e : Nat × Word × Word) => (e.2.1.field 30 2, e.2.1.field 0 16)
  (plain.all fun e =>
    decide (e.2.2.field 2 9 + e.2.2.field 11 9 ≤ c.streamWords (e.2.1.field 0 16)) &&
    plain.all fun f => e.1 == f.1 || key e != key f ||
      disjoint [(e.2.2.field 2 9, e.2.2.field 11 9), (f.2.2.field 2 9, f.2.2.field 11 9)]) &&
  ([true, false].all fun tx => disjoint (all.filterMap fun e => match placedBy e.2.1 e.2.2 with
      | some (t, first, n) => if t == tx then some (first, n) else none
      | none => none)) &&
  (segs.all fun e =>
    let o := e.2.1.field 24 4
    let q := e.2.2.field 2 9
    ((c.streamOwner (e.2.1.field 0 16)).isNone || c.streamOwner (e.2.1.field 0 16) == some o) &&
    (!e.2.1.bit 28 || (c.queueUsed q && c.qOwner q == o)) &&
    (!e.2.1.bit 28 || plain.all fun f => key e != key f)) &&
  allDifferent (cans.map fun e => 2 ^ 30 * e.2.2.field 30 2 + e.2.1.field 0 30) &&
  cans.all fun e =>
    let w0 := e.2.1
    let w1 := e.2.2
    let q := w1.field 4 7
    let k := w1.field 30 2
    let tx := w1.bit 29
    let fd := w1.bit 17
    (w0.bit 29 || decide (w0.field 0 29 ≤ 0x7FF)) &&
    (!(fd || w1.bit 16) || c.flag (F.CAN_CFG_FD_EN k)) && (!w1.bit 16 || fd) && (decide (w1.field 0 4 ≤ 8) || fd) &&
    (w1.field 27 2 != 1 || (c.queueUsed q && c.qKind q == 0 && c.flag (F.HQ_CFG_DIR q) == !tx &&
      c.get (F.HQ_CFG_CANCH q) == k && c.qOwner q == w1.field 23 4 && decide (c.entryWords w1 ≤ c.qWords q)))

/-- Regions of queue RAM, and alternates on another channel that is in use. -/
def Cfg.queuesOk (c : Cfg) : Bool :=
  let used := (List.range 128).filter c.queueUsed
  let l := used.map fun q => (c.get (F.HQ_BASE_BASE q), c.qDepth q * (c.qWords q + 1))
  disjoint l && (l.all fun e => decide (e.1 + e.2 ≤ 16384)) &&
    used.all fun q => !c.flag (F.HQ_ALT_EN q) ||
      (c.get (F.HQ_ALT_CH q) != c.get (F.HQ_CFG_CANCH q) && c.flag (F.CAN_CFG_EN (c.get (F.HQ_ALT_CH q))))

/-- The checks of R47 that answer IMAGE_RESOURCE; a published word has one polder (R15, R134). -/
def Cfg.resourceOk (c : Cfg) : Bool :=
  (polders.all fun p => p == 0 || !c.polder p || c.get (F.PLD_CFG_CLASS p) != 0) &&
    c.rangesOk F.PLD_BITWIN_BASE F.PLD_BITWIN_SIZE 512 && c.rangesOk F.PLD_WORDWIN_BASE F.PLD_WORDWIN_SIZE 1024 &&
    c.named.all c.polder &&
    (c.img.published.all fun e => c.img.published.all fun f => e.1 != f.1 || e.2 == f.2) &&
    c.taskFields.all (fun n => decide (n ≤ 7) || n == 15) &&
    (c.eventTasks.all fun e => e.2 == 15 || decide (e.2 < c.get (F.LGE_CTRL_EVT_TASKS e.1))) &&
    c.rangesOk F.LGE_SEG_BASE_VALUE F.LGE_SEG_LEN_VALUE 524288 && c.rangesOk F.LGE_TMR_BASE F.LGE_TMR_COUNT 1024 &&
    c.rangesOk F.LGE_CNT_BASE F.LGE_CNT_COUNT 1024 && c.rangesOk F.LGE_EDGE_BASE F.LGE_EDGE_COUNT 16384 &&
    c.rightsOk && c.dozeOk && c.leveeOk && c.channelsOk && c.loopsOk && c.solverOk && c.retentiveOk && c.mapOk && c.queuesOk

end Sys2Proof.Machine
end

