-- ==== Sys2Proof/Machine/ImageCheck.lean ====
section
/-! DEFINITION. The checks of a station image in the order of R47, with their causes (R48). -/

namespace Sys2Proof.Machine

/-- The first check of R47 that the image fails on a module. -/
def imageCause (nv : NonVol) (fw : Bank) (x : Image) : Option Nat :=
  let c := imageCfg x
  if !(x.headerOk && x.tableOk) then some 0x14
  else if !(nv.verificationKey.any x.signedBy) then some 0x15
  else if x.encrypted && !(nv.imageKey.any x.tagOk) then some 0x16
  else if x.stnId ≠ nv.stnId.toNat then some 0x17
  else if fw.major ≠ x.minFwMajor || fw.minor < x.minFwMinor then some 0x18
  else if !(x.sectionsOk && x.sectionsMatch c.polder c.slvUsed c.canUsed && x.spelled && c.fieldsOk) then some 0x14
  else if !c.budgetOk then some 0x19
  else if !c.resourceOk then some 0x1A
  else none

end Sys2Proof.Machine
end

