-- ==== Sys2Proof/Machine/Twin.lean ====
section
/-! DEFINITION. Twin operation (R244–R281): pairing, the priming exchange, slot agreement, signatures and verdicts, hardware
faults, giving up, lanes, heartbeats and joins. The model is one unit; what the other does arrives as messages. -/

namespace Sys2Proof.Machine

/-! Pairing (R14, R251, R252). -/

/-- The units have found each other: no further PAIR is sent. -/
def Dyn.paired (d : Dyn) : Bool :=
  if d.boot.stage == .running then d.twin.peerReady != 0 || d.agreeing
  else decide (2 ≤ d.twin.outcome && d.twin.outcome ≤ 4)

/-- PAIR is sent (R251). -/
def Dyn.sendPair (c : Cfg) (d : Dyn) : Dyn :=
  let d : Dyn := { d with twin := { d.twin with pairAt := d.clk.cycles } }
  d.sendWords 1 [BitVec.ofNat 32 (d.get F.MOD_FW_REV_MAJOR), d.rd Reg.SEC_SK_KCV, d.rd Reg.SEC_IK_KCV,
    c.img.imageId.extractLsb' 0 32, c.img.imageId.extractLsb' 32 32, c.rd Reg.SHL_IFP_LO, c.rd Reg.SHL_IFP_HI,
    BitVec.ofNat 32 d.role]

/-- A unit of a twin that start-up has brought to pairing, or that runs alone. -/
def Cfg.pairs (c : Cfg) (d : Dyn) : Bool := c.twin && (d.boot.stage == .locked || d.boot.stage == .running) && d.role != 7

/-- PAIR_RESEND: every 10 ms until paired. -/
def execPairResend (s : State) : Out :=
  s.upd fun c d =>
    if c.pairs d && !d.paired then d.whenCycle c (d.twin.pairAt + 5000000) (Dyn.sendPair c) else d

/-- The first check that fails between the units (R58, R69, R252). -/
def Dyn.pairCause (c : Cfg) (d : Dyn) (r : PairRec) : Option Nat :=
  if r.skKcv ≠ d.rd Reg.SEC_SK_KCV || r.ikKcv ≠ d.rd Reg.SEC_IK_KCV then some 0x30
  else if r.fwMajor ≠ d.get F.MOD_FW_REV_MAJOR then some 0x31
  else if r.ifp ≠ c.ifp then some 0x32
  else none

def Dyn.setOutcome (d : Dyn) (n : Nat) : Dyn := { d with twin := { d.twin with outcome := n } }

/-- Both start FN 0 together: B locks its time base to A's, and the mirrors wait for the priming exchange. -/
def Dyn.startTogether (c : Cfg) (d : Dyn) : Dyn :=
  let d := if d.unitB then d.followTime c 2 else d.put F.TSU_STATUS_TWIN 1
  { d with twin := { d.twin with outcome := 2, mirror := [], primed := false, parts := [], fullCrc := none } }

/-- With both units ACTIVE outside lockstep, B becomes SHADOW at its next frame (R266); in the frame of a link failure
R265 has yet to take effect. -/
def Dyn.splitCheck (d : Dyn) : Dyn :=
  if d.role == 2 && d.peerRole == 2 && !d.agreeing && d.twin.lostFn != some d.fn then
    let d := d.setFlag F.SHL_STATUS_SPLIT true
    if d.unitB then { d with twin := { d.twin with nextRole := some 3 } } else d
  else d

/-- PAIR: the record is checked, and pairing ends as the table of R252 states. At an active unit it says which join the peer
is ready for: one in STARTUP or a SHADOW that passes the checks (R269); the first joins only if it has passed them. Where
both are ACTIVE outside lockstep, R266 applies. -/
def execPair (r : PairRec) (s : State) : Out :=
  s.upd fun c d => d.received c 1 r.hdr fun d =>
    if !c.pairs d then d
    else
      let d := (d.put F.SHL_PEER_FW_MAJOR r.fwMajor).setFlag F.SHL_PEER_UNIT r.hdr.unitB
      let d := (if d.agreeing then d else d.setPeer c r.role.toNat)
      let same := r.imageId == c.img.imageId
      let d : Dyn := { d with twin := { d.twin with peerIfp := r.ifp, peerSame := same } }
      let cause := d.pairCause c r
      let stays := fun (k : Nat) => (d.setOutcome 5).enter 0 k
      if d.boot.stage == .running then
        let d := if d.agreeing then d else d.splitCheck
        let ready := r.role == 1 || (cause.isNone && r.role == 3)
        if ready && d.role == 2 && !d.agreeing && r.hdr.stnId == d.nv.stnId && r.hdr.unitB != d.unitB then
          { d with twin := { d.twin with peerReady := if same then 1 else 2 } }
        else d
      else if d.twin.outcome ≠ 0 then d
      else if r.hdr.stnId ≠ d.nv.stnId || r.hdr.unitB == d.unitB then stays 1
      else if r.role = 2 then
        match cause with
        | some k => stays k
        | none => d.setOutcome (if same then 3 else 4)
      else match cause with
        | some k => if d.unitB then stays k else d.setOutcome 1
        | none =>
          if same then d.startTogether c
          else if d.unitB then d.setOutcome 4
          else { d with twin := { d.twin with outcome := 1, peerReady := 2 } }

/-- PAIR_WAIT_EXPIRY: with no peer seen on the link A starts alone; B only if it received no heartbeat of A. -/
def execPairWaitExpiry (s : State) : Out :=
  s.upd fun c d =>
    if c.pairs d && d.boot.stage == .locked && d.twin.outcome == 0 then
      let d := d.ticks (d.twin.pairFrom + c.get F.SHL_CFG_PAIR_WAIT * 500000000 - d.clk.cycles)
      if d.unitB && d.twin.hbSeen then d else d.setOutcome 1
    else d

/-- The number of the frame under way, also at a joining unit, which follows the master's TIME messages. -/
def Dyn.frameNow (d : Dyn) : Word := if d.role = 4 then d.twin.timeFn.getD d.fn else d.fn

/-- PRIMING_FRAME: the exchange of the whole contributions, P before FN 0 at a paired start, else in frame L − 1. A unit that
executes no frames latches its contribution for it. -/
def execPrimingFrame (s : State) : Out :=
  s.upd fun c d =>
    let start := d.boot.stage == .locked && d.twin.outcome == 2
    let join := d.twin.lockFn.any fun l => d.frameNow + 1 == l
    if !c.twin || !(start || join) then d
    else
      let d := if start || d.role == 4 then ({ d with slc := { d.slc with tFt := d.ft } } : Dyn).latchOwn c else d
      d.sendFull

/-! Slot agreement (R84, R105, R146, R259). -/

/-- Triggers that the units exchange. -/
def EvEntry.external (e : EvEntry) : Bool := e.kind ≤ 7

/-- The merge entry of its channel. -/
def Cfg.evMerge (c : Cfg) (e : EvEntry) : Option Nat :=
  match e.kind with
  | 1 => some e.source
  | 2 => some e.source
  | 7 => some e.source
  | 3 => some (96 + e.source / 2)
  | 4 => some (160 + (c.rd (0xD8000 + 8 * e.source + 4)).field 30 2)
  | _ => none

/-- Take the external triggers `l` out of the polders' lists. -/
def Dyn.eraseTrigs (d : Dyn) (l : List EvEntry) : Dyn :=
  polders.foldl (fun (d : Dyn) p =>
    if (d.polder p).trig.isEmpty then d
    else d.setPolder p fun s => { s with trig := l.foldl (fun t e => t.erase e) s.trig }) d

/-- At the boundary of slot `i`: what has been detected is collected, in slot 0 also the module's own triggers (R92, R206,
R241). While the units agree, at most 10 external triggers are sent in SLOT and the rest wait for the next slot; without
the other unit, triggers under its ONLY rule are dropped (R258). -/
def Dyn.collectSlot (c : Cfg) (d : Dyn) (i : Nat) : Dyn :=
  let d := d.wrapEvents c
  let here := fun (e : EvEntry) => e.external || i == 0
  let mine := fun (e : EvEntry) => !c.twin || (match c.evMerge e with
    | some m => c.merge m != d.peerOnly
    | none => true)
  if d.agreeing then
    let ext := (polders.flatMap fun p => (d.polder p).trig.filter EvEntry.external) ++ d.twin.ownRep
    let now := (sortEv ext).take 10
    let d := d.eraseTrigs now
    let d := if i = 0 then polders.foldl (fun (d : Dyn) p => d.setPolder p fun s =>
        { s with coll := s.coll ++ s.trig.filter fun e => !e.external, trig := s.trig.filter EvEntry.external }) d
      else d
    let d : Dyn := { d with twin := { d.twin with
      ownSlot := d.twin.ownSlot ++ now.filter fun e => e.kind != 4 && e.kind != 5,
      ownWait := d.twin.ownWait ++ now.filter fun e => e.kind == 4 || e.kind == 5,
      ownRep := now.foldl (fun t e => t.erase e) d.twin.ownRep } }
    d.sendShl 4 (.slot i now)
  else
    polders.foldl (fun (d : Dyn) p => d.setPolder p fun s =>
      { s with coll := s.coll ++ s.trig.filter fun e => here e && mine e, trig := s.trig.filter fun e => !here e }) d

/-- EVENT_SLOT_BOUNDARY: b_i; the boundary of slot 0 is T. -/
def execEventSlotBoundary (i : BitVec 4) (s : State) : Out :=
  s.upd fun c d =>
    if d.slc.framing && d.get F.SLC_STATUS_PHASE == 2 && i != 0 then
      (d.advTo (d.slotAt c i.toNat)).collectSlot c i.toNat
    else d

/-- The CAN frame that a report tells of, as received by the reporting unit if it is held so, else as received by the other. -/
def Dyn.reported (d : Dyn) (peer : Bool) (e : EvEntry) : Option RxItem :=
  let of := fun (l : List Rx) => (l.find? fun r => match r.item with
    | .can _ n f s => n == e.source && s == e.ft && f.data.getD 0 0 == e.value
    | _ => false).map (·.item)
  let l := d.twin.rx ++ d.twin.seen
  (of (l.filter (·.peer == peer))).orElse fun _ => of l

/-- Two reports of one received frame, this unit's and the peer's (R256, R259); of CAN frames those of R428, which are compared
whole where both are held. -/
def Dyn.sameReport (c : Cfg) (d : Dyn) (x y : EvEntry) : Bool :=
  x.kind == y.kind && x.source == y.source && x.task == y.task && x.value == y.value &&
    (x.kind != 4 ||
      (decide ((x.ft - y.ft).toInt.natAbs ≤ c.bitTime ((c.rd (0xD8000 + 8 * x.source + 4)).field 30 2)) &&
        match d.reported false x, d.reported true y with
        | some a, some b => c.sameItem a b
        | _, _ => true))

/-- The earlier of two instants (R7). -/
def earlier (a b : Word) : Word := if later a b then b else a

/-- Pair the reports of both units: what both have reported enters with the FT of the earlier receipt. -/
def Dyn.pairReports (c : Cfg) (d : Dyn) : List EvEntry → List EvEntry → List EvEntry × List EvEntry × List EvEntry
  | [], peer => ([], [], peer)
  | e :: l, peer =>
    match peer.find? (d.sameReport c e) with
    | some y =>
      let (both, own, rest) := d.pairReports c l (peer.erase y)
      ({ e with ft := earlier e.ft y.ft } :: both, own, rest)
    | none =>
      let (both, own, rest) := d.pairReports c l peer
      (both, e :: own, rest)

/-- The side whose triggers a channel's entry takes: validity as latched at T; COMPARE is A's. -/
def Dyn.slotSideB (c : Cfg) (d : Dyn) (e : EvEntry) : Bool :=
  match c.evMerge e with
  | some m =>
    let (a, b) := if d.unitB then (d.twin.mirror, d.twin.ownC) else (d.twin.ownC, d.twin.mirror)
    sideB (c.merge m) (validSide a m) (validSide b m)
  | none => false

/-- The agreed entries of slot `i` with the peer's entries. -/
def Dyn.agreeSlot (c : Cfg) (d : Dyn) (peer : List EvEntry) : Dyn × List EvEntry :=
  let rx := fun (e : EvEntry) => e.kind == 4 || e.kind == 5
  let own := d.twin.ownSlot.filter fun e => d.slotSideB c e == d.unitB
  let theirs := peer.filter fun e => !rx e && d.slotSideB c e != d.unitB
  let (both, wait, rest) := d.pairReports c d.twin.ownWait (d.twin.peerRep ++ peer.filter rx)
  ({ d with twin := { d.twin with ownSlot := [], ownWait := wait, peerRep := rest } }, own ++ theirs ++ both)

/-- Hand collected entries to the polders: the external ones of `l`, and what each polder collected of its own, ordered,
with slot and FN; the slot index and the agreed entries are journaled (R85, R447). -/
def Dyn.deliver (c : Cfg) (d : Dyn) (i : Nat) (l : List EvEntry) : Dyn :=
  let stamp := fun (e : EvEntry) => { e with slot := i, fn := d.fn }
  let all := fun (p : Nat) => (sortEv ((l.filter fun e => c.evOwner e == some p && c.polder p) ++ (d.polder p).coll)).map stamp
  let ext := polders.flatMap fun p => (all p).filter EvEntry.external
  let d := d.item 2 (BitVec.ofNat 32 i :: ext.flatMap fun e =>
    [BitVec.ofNat 32 (e.kind * 2 ^ 24 + e.slot * 2 ^ 20 + e.task * 2 ^ 16 + e.source), e.ft, e.value, e.fn])
  polders.foldl (fun (d : Dyn) p =>
    let es := all p
    let d := if (d.polder p).coll.isEmpty then d else d.setPolder p fun s => { s with coll := [] }
    es.foldl (fun (d : Dyn) e => d.enqueue p e) d) d

/-- A missed slot agreement is a link failure; this unit's own entries go on. -/
def Dyn.slotMissed (c : Cfg) (d : Dyn) : Dyn :=
  (d.handOn c).linkFail c

/-- The collected entries of slot `i` enter the event queues, agreed while the units agree. -/
def Dyn.dispatchSlot (c : Cfg) (d : Dyn) (i : Nat) : Dyn :=
  if d.agreeing then
    match d.twin.peerSlots.find? fun e => e.1 == i with
    | some (_, es) =>
      let d : Dyn := { d with twin := { d.twin with peerSlots := d.twin.peerSlots.filter fun e => e.1 != i } }
      let (d, l) := d.agreeSlot c es
      d.deliver c i l
    | none => (d.slotMissed c).deliver c i []
  else d.deliver c i []

/-- SLOT_MESSAGE: the peer's triggers of slot `i`. -/
def execSlotMessage (h : ShlHdr) (i : BitVec 4) (entries : List EvEntry) (s : State) : Out :=
  s.upd fun c d => d.received c 4 h fun d =>
    if h.fn ≠ d.fn then d
    else { d with twin := { d.twin with peerSlots := d.twin.peerSlots ++ [(i.toNat, entries)] } }

/-- SLOT_AGREEMENT_DEADLINE: 2 µs after the boundary of slot `i`. -/
def execSlotAgreementDeadline (i : BitVec 4) (s : State) : Out :=
  s.upd fun c d =>
    let open_ := if i = 0 then d.get F.SLC_STATUS_PHASE = 1
      else d.get F.SLC_STATUS_PHASE = 2 && d.get F.SLC_STATUS_SLOT < i.toNat
    if d.slc.framing && open_ then
      let d := d.advTo (if i = 0 then d.atT 2000 else d.slotAt c i.toNat + 2000)
      if d.agreeing && !(d.twin.peerSlots.any fun e => e.1 == i.toNat) then d.slotMissed c else d
    else d

/-! Signatures and verdicts (R261, R262). -/

/-- Compare the signatures of this frame once both are held. -/
def Dyn.compareSig (c : Cfg) (d : Dyn) : Dyn :=
  match d.twin.ownSig, d.twin.peerSig with
  | some own, some (fn, peer) =>
    if fn ≠ d.fn || !d.lockstep then d
    else
      let d : Dyn := { d with twin := { d.twin with ownSig := none } }
      let verify := d.get F.SHL_XFER_STATE = 4
      if own.outCrc == peer.outCrc && own.relDigest == peer.relDigest then
        if verify then { d with twin := { d.twin with matched := d.twin.matched + 1 } } else d
      else
        let d := d.bump F.SHL_SIG_MISMATCH_COUNT
        if verify then d.joinFail c 2
        else if d.twin.mismatch.isSome then d
        else
          let v := d.fn + BitVec.ofNat 32 ((160000 + c.berm - 1) / max 1 c.berm)
          let d : Dyn := { d with twin := { d.twin with mismatch := some (d.fn, v), burstOk := true,
                                                        suppress := d.unitB } }
          (d.freeze c 4 0 d.fn).alarm c 0x0402 0 own.outCrc peer.outCrc
  | _, _ => d

/-- SIG_MESSAGE. -/
def execSigMessage (h : ShlHdr) (sig : Sig) (s : State) : Out :=
  s.upd fun c d => d.received c 5 h fun d =>
    ({ d with twin := { d.twin with peerSig := some (h.fn, sig) } } : Dyn).compareSig c

/-- The peer's SIG of this frame is held. -/
def Dyn.sigHeld (d : Dyn) : Bool := match d.twin.peerSig with
  | some (fn, _) => fn == d.fn
  | none => false

/-- Without the peer's SIG the frame is committed UNVERIFIED, and the link fails at the next frame. -/
def Dyn.sigMissing (d : Dyn) : Dyn :=
  if d.lockstep && !d.sigHeld then
    { d with twin := { d.twin with failNext := true }, jrn := { d.jrn with unverified := true } }
  else d

/-- SIG_DEADLINE: C − 0.5 µs. -/
def execSigDeadline (s : State) : Out :=
  s.upd fun c d =>
    if d.slc.framing && d.get F.SLC_STATUS_PHASE == 4 then (d.advTo (d.atT (c.offset - 500))).sigMissing else d

/-- The verdicts at C of frame V: a unit whose burst failed gives up; B goes on alone where only A's failed; where none
failed B gives up with DIVERGENCE, which both record. Without lockstep no verdicts are exchanged, and a unit acts on its own
alone (log entry 65). -/
def Dyn.verdict (c : Cfg) (d : Dyn) : Dyn :=
  match d.twin.mismatch with
  | some (n, v) =>
    if later v d.fn then d
    else
      let d : Dyn := { d with twin := { d.twin with mismatch := none, suppress := false } }
      let peerBad := match d.twin.peerSig with
        | some (fn, sg) => fn == d.fn && sg.verdict == some false
        | none => false
      if !d.twin.burstOk then d.giveUp c 0x34
      else if peerBad || !d.lockstep then d
      else
        let d := ((d.setFlag F.STN_STATE_DIV true).bump F.STN_DIV_COUNT).wr Reg.STN_DIV_FN n
        let d := d.freeze c 5 0 d.fn
        if d.unitB then d.giveUp c 0x33 else d
  | none => d

/-- VERDICT: at C of the verdict frame. -/
def execVerdict (s : State) : Out :=
  s.upd fun c d =>
    if d.slc.framing && d.get F.SLC_STATUS_PHASE == 4 && d.twin.mismatch.isSome then
      (d.advTo (d.atT c.offset)).verdict c
    else d

/-! Hardware faults and giving up (R157, R211, R242, R263, R264). -/

/-- HARDWARE_FAULT: the engine's fault bit is set, and the unit gives up or the module enters FAULT. -/
def execHardwareFault (check : HwCheck) (s : State) : Out :=
  s.upd fun c d =>
    let bit := fun (f : Fld) (i : Nat) => d.put f (d.get f ||| 2 ^ i)
    match check with
    | .lane l => (bit F.LGE_STATUS_LANE_FAULT l.toNat).hardwareFault c 0x20
    | .pipeline i => (bit F.LPE_GSTATUS_PIPE_FAULT (b2n i)).hardwareFault c 0x21
    | .array => (d.setFlag F.SLV_GSTATUS_ARRAY_FAULT true).hardwareFault c 0x22
    | .ecc mem l =>
      let (d, k) := match mem.toNat with
        | 2 => (bit F.LPE_GSTATUS_PIPE_FAULT (l.toNat % 2), 0x21)
        | 3 => (d.setFlag F.SLV_GSTATUS_ARRAY_FAULT true, 0x22)
        | _ => (bit F.LGE_STATUS_LANE_FAULT l.toNat, 0x20)
      d.hardwareFault c (if c.twin then 0x24 else k)
    | .clock => d.hardwareFault c 0x25
    | .rail => d.hardwareFault c 0x26
    | .sequencer => d.hardwareFault c 0x27

/-- GIVEUP_MESSAGE: this unit goes on alone; its stages take over the pair outputs, and a joining unit fails with its active
unit. A follower becomes time master, and a mapped unit takes over, at its next frame. -/
def execGiveupMessage (h : ShlHdr) (cause : BitVec 8) (s : State) : Out :=
  s.upd fun c d => d.received c 7 h fun d =>
    if !c.twin || d.role == 7 then d
    else
      let d := d.put F.SHL_GIVEUP_PEER cause.toNat
      let d := d.freeze c 7 cause.toNat d.fn
      let wasMapped := d.role == 5 && (d.twin.mapped != 0 || d.twin.decides)
      let d := if d.joining then d.joinFail c 5 else d
      let d : Dyn := { d with twin := { d.twin with mapped := 0, mismatch := none, suppress := false, peerReady := 0,
                                                    decides := false } }
      let d := ((d.setLockstep c false).handOn c).setPeer c 7
      if d.role == 7 then d
      else if wasMapped then { d with twin := { d.twin with nextRole := some 2 } }
      else if d.role == 2 then d.pairsTo c d.twin.pairOn true
      else d

/-! Lanes (R249, R250). -/

/-- LANE_SIGNAL_LOSS: no signal for 10 µs. -/
def execLaneSignalLoss (lane1 : Bool) (s : State) : Out := s.upd fun c d => d.laneDown c lane1

/-- LANE_CRC_ERRORS: `n` further CRC errors on a lane in this frame. -/
def execLaneCrcErrors (lane1 : Bool) (n : BitVec 8) (s : State) : Out :=
  s.upd fun c d => if c.twin then d.laneErrors c lane1 n.toNat else d

/-- LANE_UP: 100 ms without error, at a frame boundary, with the latency the link measures. That the peer is ACTIVE the unit
learns from its PAIR or its heartbeats (R266). -/
def execLaneUp (lane1 : Bool) (latency : BitVec 16) (s : State) : Out :=
  s.upd fun c d =>
    if !c.twin || d.flag (laneFld lane1) then d
    else
      let d := (d.setFlag (laneFld lane1) true).put (latFld lane1) latency.toNat
      let d := d.stnState c
      if d.boot.stage == .running then d.alarm c 0x0401 (b2n lane1) 1 0 else d

/-- Message kind of a bulk message. -/
def Sent.bulkKind : Sent → Nat
  | .forward _ _ => 6
  | _ => 8

/-- CTRL_ACK: the peer holds a bulk message (`xfer`: XFER, else FWD). -/
def execCtrlAck (h : ShlHdr) (xfer : Bool) (seq : Word) (s : State) : Out :=
  s.upd fun c d => d.received c 9 h fun d =>
    { d with twin := { d.twin with unacked := d.twin.unacked.filter fun e =>
        !(e.seq == seq && e.msg.bulkKind == (if xfer then 8 else 6)) } }

/-- BULK_RETRY: a message without acknowledgement for 5 µs, the one sent first, is sent again with RETRY. -/
def execBulkRetry (s : State) : Out :=
  s.upd fun c d => match d.twin.unacked with
    | [] => d
    | b :: l => d.whenCycle c (b.sentAt + 2500) fun d =>
        ({ d with twin := { d.twin with unacked := l ++ [{ b with sentAt := d.clk.cycles }] } } : Dyn).send (.retry b.seq b.msg)

/-- FWD: an item the peer received, by its forwarding number. A frame with an event is reported here as well, unless this
unit has received it itself (R259). -/
def execFwd (h : ShlHdr) (num : BitVec 32) (item : RxItem) (s : State) : Out :=
  s.upd fun c d => d.receivedBulk c 6 h fun d =>
    let n := num.toNat
    if !c.twin || ((d.twin.rx ++ d.twin.seen).any fun r => r.peer && r.num == n) then d
    else
      let own := d.knows c false item
      let d : Dyn := { d with twin := { d.twin with rx := d.twin.rx ++ [⟨n, true, d.ft, item⟩] } }
      match item with
      | .stream id seq _ => (c.streamEntries id).foldl (fun (d : Dyn) e =>
          if e.2.1.bit 29 && !own then d.rxReport c (e.2.1.field 24 4) 5 (e.2.1.field 20 4) id d.ft (seq.setWidth 32) else d) d
      | .can _ e f stamp =>
        let w1 := c.rd (0xD8000 + 8 * e + 4)
        if w1.bit 18 && !own then d.rxReport c (w1.field 23 4) 4 (w1.field 19 4) e stamp (f.data.getD 0 0) else d
      | .ack k seq _ => d.gotAck k seq
      | _ => d

/-! Heartbeats (R252, R265, R266, R392). -/

/-- The payload of R392. -/
def heartbeatBody (m : Heartbeat) : StnBody :=
  ⟨4, 0, false, [m.role.setWidth 8, BitVec.ofNat 8 (b2n m.giveUp + 2 * b2n m.lockstep), m.modState, 0] ++
    wordBytes [m.stnState] ++ leBytes 8 m.imageId.toNat⟩

/-- SENDER and address of the other unit. -/
def Dyn.fromPeer (c : Cfg) (d : Dyn) (h : StnHdr) : Bool :=
  c.twin && h.sender == (if d.unitB then 0 else 1) && h.src == c.rd (if d.unitB then Reg.NET_ADDR_A else Reg.NET_ADDR_B)

/-- R267 and R268 on a stream of this unit's own (`id` 0: the heartbeat). -/
def Dyn.streamNew (d : Dyn) (id : Nat) (seq : BitVec 16) (f : Dyn → Dyn) : Dyn :=
  let x := sget StreamRx.init d.net.streams id
  let (seen, new) := pairDiscard x.seen seq d.now
  let fresh := new && isFresh x.applied seq d.now
  let x := { x with seen := seen, applied := if fresh then some (seq, d.now) else x.applied }
  let d : Dyn := { d with net := { d.net with streams := sput StreamRx.init d.net.streams id x } }
  if fresh then f d else d

/-- HEARTBEAT_RECEIPT on a LAN: a station frame of the other unit (R390). -/
def execHeartbeatReceipt (msg : Heartbeat) (s : State) : Out :=
  s.upd fun c d => d.onPort c msg.hdr true fun d =>
    d.checked msg.hdr (heartbeatBody msg) true (d.fromPeer c msg.hdr) (fun d => d) fun d => d.streamNew 0 msg.hdr.seq fun d =>
      let d : Dyn := { d with twin := { d.twin with hbNow := d.twin.hbNow || (msg.role == 2 && !msg.giveUp), hbSeen := true } }
      if d.agreeing || d.joining then d
      else (d.setPeer c (if msg.giveUp then 7 else msg.role.toNat)).splitCheck

/-- HEARTBEAT_LOSS: a SHADOW without an ACTIVE heartbeat for 3 frames in a row becomes ACTIVE. -/
def execHeartbeatLoss (s : State) : Out :=
  s.upd fun c d =>
    if c.twin && d.role == 3 && decide (3 ≤ d.twin.hbGap) then
      (({ d with twin := { d.twin with nextRole := none, decides := false, suppress := false } } : Dyn).setPeer c 0 |>.setRole c 2).takeTime c
    else d

/-! What takes effect at a frame boundary, and at a commit. -/

/-- Master and follower follow the roles (R359): the unit that is to drive time does; its partner, master before, follows; one
that no longer agrees is in no lock. -/
def Dyn.lockRole (c : Cfg) (d : Dyn) : Dyn :=
  if d.timeMaster c then d.takeTime c
  else if d.agreeing && d.get F.TSU_STATUS_TWIN = 1 then d.followTime c 3
  else if d.role = 6 && !d.agreeing && !d.joining then d.leaveLock c
  else d

/-- At T, before the latch: heartbeats of the previous frame are counted, a frame in which neither this unit, a SHADOW or
GIVEN_UP, nor the other was sending counts as a gap (R280), a missing SIG fails the link, and a role that was to change changes. -/
def Dyn.twinBoundary (c : Cfg) (d : Dyn) : Dyn :=
  if !c.twin then d
  else
    let hb := d.twin.hbNow
    let d := d.setFlag F.SHL_STATUS_PEER_HB hb
    let d : Dyn := { d with twin := { d.twin with hbNow := false, hbGap := if hb then 0 else d.twin.hbGap + 1,
                                                  peerSlots := [], ownSlot := [], crcFrame := [] } }
    let d := if (d.role = 3 || d.role = 7) && !hb then d.gap else d
    let d := if d.twin.failNext then ({ d with twin := { d.twin with failNext := false } } : Dyn).linkFail c else d
    let d := if d.twin.decides then
        let d : Dyn := { d with twin := { d.twin with decides := false, nextRole := some (if hb then 3 else 2), suppress := hb && d.twin.suppress } }
        if hb then d else d.setPeer c 0
      else d
    let d := match d.twin.nextRole with
      | some r =>
        ({ d with twin := { d.twin with nextRole := none } } : Dyn).setRole c r
      | none => d
    d.lockRole c

/-- AUTO_REJOIN: a full join starts by itself when the peer is ready (R269). -/
def Dyn.autoJoin (c : Cfg) (d : Dyn) : Dyn :=
  if c.twin && c.flag F.SHL_CFG_AUTO_REJOIN && d.readiness == 1 then (d.joinCmd c).getD d else d

/-- At C: the verdict of frame V, then an accepted HANDOVER or WITHDRAW. The unit that hands over goes on agreeing without
sending: MAPPED toward a mapped partner, else as VERIFY. -/
def Dyn.twinCommit (c : Cfg) (d : Dyn) : Dyn :=
  let d := d.verdict c
  match d.twin.atCommit with
  | none => d
  | some (hand, unitB, rst) =>
    let d : Dyn := { d with twin := { d.twin with atCommit := none } }
    let reset := fun (d : Dyn) => if rst then { d with boot := { d.boot with held := true } } else d
    if unitB == d.unitB then
      if hand then
        let r := if d.peerRole = 5 then 5 else 6
        reset ((((d.canHandOver c).setRole c r).setPeer c 2).allSafe c false)
      else reset (d.giveUp c 0x36)
    else if hand then
      let r := if d.role = 5 then 5 else 6
      (d.setPeer c r).setRole c 2
    else d

/-! Joins (R269–R273). SHL_XFER.STATE: 1 LOCKING, 2 CHECKPOINT, 3 CATCHUP, 4 VERIFY, 5 DONE, 6 FAILED. -/

/-- The unit that is to join becomes JOINING: its outputs stand at their safe values, and it locks its time base. -/
def Dyn.becomeJoining (c : Cfg) (d : Dyn) (mapped : Bool) : Dyn :=
  let d := ((d.wr Reg.SHL_XFER (BitVec.ofNat 32 (b2n mapped * 256 + 1))).followTime c 2).put F.SLC_STATUS_PHASE 0
  let d : Dyn := { d with twin := { d.twin with joinAt := d.clk.cycles, lockFn := none, matched := 0, recs := [],
                                                mapSrc := [], primed := false, parts := [], mirror := [],
                                                current := false, nextRole := none, decides := false, fullCrc := none } }
  ((d.setRole c 4).pairsTo c false false).allSafe c false

/-- JOIN: written to STN_TWIN_CMD, or received from the active unit by a unit that is ready. -/
def execJoin (from_ : JoinFrom) (s : State) : Out :=
  match from_ with
  | .write who => twinCommand who 1 none s
  | .peer h mapped => s.upd fun c d => d.received c 9 h fun d =>
      let ready := d.role == 3 || (d.boot.stage == .locked && (d.twin.outcome == 3 || d.twin.outcome == 4))
      if c.twin && ready && !d.joining then d.becomeJoining c mapped else d

/-- TIME_LOCK_ACQUIRED: the follower reports the lock; at the active unit of a join its report lets the checkpoint be
captured at the commit of this frame. -/
def execTimeLockAcquired (s : State) : Out :=
  s.upd fun c d =>
    if d.get F.TSU_STATUS_TWIN = 2 && decide (16 ≤ d.tsu.lockGood) then
      let d := d.put F.TSU_STATUS_TWIN 3
      if d.get F.SHL_XFER_STATE = 1 then d.put F.SHL_XFER_STATE 2 else d
    else if d.timeMaster c && d.get F.SHL_XFER_STATE = 1 then d.put F.SHL_XFER_STATE 2
    else d

/-- Step 6: the joining unit is current. -/
def Dyn.sendReady (d : Dyn) : Dyn := d.sendWords 9 [2]

/-- XFER: the checkpoint is loaded, records are kept for execution; of a mapped join the retentive records are kept. -/
def execXfer (h : ShlHdr) (body : XferBody) (s : State) : Out :=
  s.upd fun c d => d.receivedBulk c 8 h fun d =>
    if !c.twin || d.role ≠ 4 then d
    else match body with
      | .checkpoint k =>
        let first := d.get F.SHL_XFER_STATE ≤ 2
        let d := d.put F.SHL_XFER_STATE 3
        if d.flag F.SHL_XFER_KIND then
          let src := polders.filterMap fun p => ((sget Polder.init k.pol p).snap).map fun r => (p, r)
          let d : Dyn := { d with twin := { d.twin with mapSrc := src } }
          if first then d.sendReady else d
        else ({ d.loadCheckpoint k with twin := { d.twin with recs := [] } } : Dyn).stnState c
      | .record r => { d with twin := { d.twin with recs := d.twin.recs ++ [(h.fn, r)] } }

/-- READY at the active unit: L is the first frame whose T lies at least 2 frames later. -/
def execReady (h : ShlHdr) (s : State) : Out :=
  s.upd fun c d => d.received c 9 h fun d =>
    if d.role == 2 && d.get F.SHL_XFER_STATE = 3 && d.twin.lockFn.isNone then
      let l := if d.ft == d.slc.tFt then d.fn + 2 else d.fn + 3
      let d : Dyn := { d with twin := { d.twin with lockFn := some l } }
      (d.wr Reg.SHL_XFER_FN l).sendWords 9 [3, l]
    else d

/-- LOCKSTEP(L) at the joining unit. -/
def execLockstep (h : ShlHdr) (l : Word) (s : State) : Out :=
  s.upd fun c d => d.received c 9 h fun d =>
    if d.role = 4 then ({ d with twin := { d.twin with lockFn := some l } } : Dyn).wr Reg.SHL_XFER_FN l else d

/-- VERIFY_COMPLETE: after 64 frames with matching signatures both units are ACTIVE. -/
def execVerifyComplete (s : State) : Out :=
  s.upd fun c d =>
    if d.get F.SHL_XFER_STATE = 4 && decide (64 ≤ d.twin.matched) then
      let d := (d.put F.SHL_XFER_STATE 5).wr Reg.STN_LOCK_FN d.fn
      let d : Dyn := { d with twin := { d.twin with lockFn := none, peerReady := 0 } }
      if d.role = 6 then d.setRole c 2 else d.setPeer c 2
    else d

/-- JOIN_TIMEOUT: L is not reached within 10 s of its acceptance. -/
def execJoinTimeout (s : State) : Out :=
  s.upd fun c d =>
    if 1 ≤ d.get F.SHL_XFER_STATE && d.get F.SHL_XFER_STATE ≤ 3 then
      d.whenCycle c (d.twin.joinAt + 5000000000) fun d => d.joinFail c 1
    else d

end Sys2Proof.Machine
end

