-- ==== Sys2Proof/Machine/Boot.lean ====
section
/-! DEFINITION. Start-up, the lock, the key and the update service, secrets, the debug port and the firmware banks
(R27–R72, R74). -/

namespace Sys2Proof

/-! The key and its directory (R29–R35). -/

/-- Copy 1 is the copy in use (R30). -/
def Key.second (k : Key) : Bool :=
  match Directory.ofWords k.dir0, Directory.ofWords k.dir1 with
  | some a, some b => later b.seq a.seq
  | none, some _ => true
  | _, _ => false
def Key.dir (k : Key) : Option Directory := Directory.ofWords (if k.second then k.dir1 else k.dir0)

/-- Write the directory: the copy not in use, with SEQ incremented (R31); with no valid copy both afresh, with SEQ 1,
slot 0 active and EMPTY, slot 1 pending (R42). -/
def Key.writeDir (k : Key) (f : Directory → Directory) : Key :=
  match k.dir with
  | some x =>
    let y := { f x with seq := x.seq + 1 }
    if k.second then { k with dir0 := y.words } else { k with dir1 := y.words }
  | none =>
    let y := { f ⟨1, false, 0, 0, 0, 0⟩ with seq := 1 }
    { k with dir0 := y.words, dir1 := y.words }

def Key.slot (k : Key) (i : Bool) : Slot := if i then k.slot1 else k.slot0
def Key.setSlot (k : Key) (i : Bool) (x : Slot) : Key := if i then { k with slot1 := x } else { k with slot0 := x }
/-- The pending slot. -/
def Key.pending (k : Key) : Bool := !((k.dir.map (·.active)).getD false)

end Sys2Proof

namespace Sys2Proof.Machine

/-! Firmware banks (R65–R68). -/

def NonVol.bank (n : NonVol) (i : Bool) : Bank := if i then n.bank1 else n.bank0
def NonVol.setBank (n : NonVol) (i : Bool) (b : Bank) : NonVol := if i then { n with bank1 := b } else { n with bank0 := b }

/-- At reset: a bank found WRITING is EMPTY, a tried trial bank REJECTED. -/
def Bank.settle (b : Bank) : Bank :=
  if b.state = 1 then { b with state := 0 } else if b.state = 3 && b.tried then { b with state := 5 } else b

def Bank.version (b : Bank) : Nat := (b.major * 256 + b.minor) * 65536 + b.build
def Bank.candidate (b : Bank) (svn : Nat) : Bool := b.signatureOk && decide (svn ≤ b.svn)

/-- The bank ROM boots, with the banks as it leaves them (R65). -/
def NonVol.romBank (n : NonVol) : Option Bool × NonVol :=
  let n := { n with bank0 := n.bank0.settle, bank1 := n.bank1.settle }
  let trial := fun (i : Bool) => (n.bank i).state == 3 && (n.bank i).candidate n.fwSvn
  let done := fun (i : Bool) => (n.bank i).state == 4 && (n.bank i).candidate n.fwSvn
  match [false, true].find? trial with
  | some i => (some i, n.setBank i { n.bank i with tried := true })
  | none =>
    if done false && done true then (some (decide (n.bank0.version < n.bank1.version)), n)
    else ([false, true].find? done, n)

/-- BOOT_STATUS.BANK. -/
def Dyn.bankNow (d : Dyn) : Bool := d.flag F.BOOT_STATUS_BANK

/-- The registers that show both banks. -/
def Dyn.bankShown (d : Dyn) : Dyn :=
  let shown := fun (b : Bank) (v : Nat) => if b.state = 0 then 0 else v
  let d := d.put F.BOOT_STATUS_IDLE_STATE (d.nv.bank !d.bankNow).state
  let d := (d.put F.BOOT_FW_B1_MAJOR (shown d.nv.bank1 d.nv.bank1.major)).put F.BOOT_FW_B1_MINOR
    (shown d.nv.bank1 d.nv.bank1.minor)
  (d.put F.BOOT_FW_B0_MAJOR (shown d.nv.bank0 d.nv.bank0.major)).put F.BOOT_FW_B0_MINOR
    (shown d.nv.bank0 d.nv.bank0.minor)

/-- The registers that show the running bank, and both. -/
def Dyn.bankRegs (d : Dyn) : Dyn :=
  let run := d.nv.bank d.bankNow
  let d := d.setFlag F.BOOT_STATUS_BANK_TRIAL (run.state == 3)
  ((d.put F.MOD_FW_REV_MAJOR run.major).put F.MOD_FW_REV_MINOR run.minor).bankShown

/-! Secrets (R54–R64). -/

/-- SK, IK and VK held and OPENED clear (R72). -/
def NonVol.provisioned (n : NonVol) : Bool :=
  n.stationKey.isSome && n.imageKey.isSome && n.verificationKey.isSome && !n.opened

/-- A check value as its register holds it: the first four bytes, the first one lowest (R8, log entry 95). -/
def firstWord (l : List Byte) : Word := BitVec.ofNat 32 (leNat (l.take 4))
/-- Key check value: AES-256 of a zero block under the key. -/
def keyCheck (k : BitVec 256) : Word := firstWord (beBytes 16 (aes256 k 0))
/-- Fingerprint: SHA-256 over the verification key, X then Y, big-endian. -/
def keyPrint (k : BitVec 512) : Word := firstWord (beBytes 32 (sha256 (beBytes 64 k.toNat)))

/-- The public part of the device identity key (R54), X then Y. -/
def NonVol.devPublic (n : NonVol) : BitVec 512 := p256Public n.devKey

/-- The SEC registers that show the secure store. -/
def Dyn.secRegs (d : Dyn) : Dyn :=
  let n := d.nv
  let d := d.setFlag F.SEC_STATUS_JUMPER n.jumper
  let d := d.setFlag F.SEC_STATUS_ERASE_PEND n.erasePend
  let d := d.setFlag F.SEC_STATUS_OPENED n.opened
  let d := d.setFlag F.SEC_STATUS_VK n.verificationKey.isSome
  let d := d.setFlag F.SEC_STATUS_IK n.imageKey.isSome
  let d := d.setFlag F.SEC_STATUS_SK n.stationKey.isSome
  let d := d.setFlag F.SEC_STATUS_PROVISIONED n.provisioned
  let d := d.wr Reg.SEC_SK_KCV ((n.stationKey.map keyCheck).getD 0)
  let d := d.wr Reg.SEC_IK_KCV ((n.imageKey.map keyCheck).getD 0)
  let d := d.wr Reg.SEC_VK_FPR ((n.verificationKey.map keyPrint).getD 0)
  let d := d.put F.SEC_FW_SVN_SVN n.fwSvn
  (d.put F.SEC_PROV_COUNT_COUNT n.provCount).put F.SEC_OPEN_COUNT_COUNT n.openCount

/-- A new SEC_NONCE (R64). -/
def Dyn.newNonce (d : Dyn) : Dyn := (List.range 4).foldl (fun d i => d.wrFresh (Reg.SEC_NONCE i)) d
def Dyn.nonce (d : Dyn) : BitVec 128 :=
  d.rd (Reg.SEC_NONCE 3) ++ d.rd (Reg.SEC_NONCE 2) ++ d.rd (Reg.SEC_NONCE 1) ++ d.rd (Reg.SEC_NONCE 0)

/-- Steps 2 to 6 of R60. -/
def NonVol.erased (n : NonVol) : NonVol :=
  { n with stationKey := none, imageKey := none, opened := true, openCount := min (n.openCount + 1) 0xFFFF,
           erasePend := false }

def Dyn.setKey (d : Dyn) (k : Key) : Dyn := { d with nv := { d.nv with key := some k } }

/-- BOOT_PEND as the directory has it. -/
def Dyn.pendRegs (d : Dyn) (k : Key) : Dyn :=
  (d.put F.BOOT_PEND_STATE ((k.dir.map (·.pendState)).getD 0)).put F.BOOT_PEND_CAUSE ((k.dir.map (·.pendCause)).getD 0)

/-! Start-up (R40–R51). -/

/-- A stay in STARTUP, or in SERVICE, with its cause. -/
def Dyn.stay (d : Dyn) (stage : BootStage) (st cause : Nat) : Dyn :=
  ({ d with boot := { d.boot with stage := stage } } : Dyn).enter st cause

/-- The start-up hold (R42): every LK register at its reset value, locked. -/
def startHold (d : Dyn) (cause : Nat) : Cfg × Dyn :=
  ({ Cfg.init with locked := true }, ((d.stay .hold 0 cause).setFlag F.BOOT_STATUS_LOCKED true).setFlag F.LVE_STATUS_LIVE true)

/-- An image as the checks find it: KEY_FAULT when a read fails, else the first check it fails. -/
def Dyn.tryImage (d : Dyn) (x : Image) : Option Nat :=
  if !x.readable then some 0x11 else imageCause d.nv (d.nv.bank d.bankNow) x

/-- The image in a slot. -/
def Dyn.imageIn (d : Dyn) (sl : Slot) : Image := sl.found (d.nv.imageKey.getD 0)

/-- Step 9: the protection set-up is written from the accepted image of slot `i` and not yet locked. -/
def acceptImage (d : Dyn) (x : Image) (i pending : Bool) (rejected : Option Nat) : Cfg × Dyn :=
  let d := { d with boot := { d.boot with stage := .setup, fromPending := pending, rejected := rejected } }
  (imageCfg x, d.setFlag F.BOOT_STATUS_ACTIVE_SLOT i)

/-- Steps 4 to 8, with the key `k`. -/
def Dyn.readKey (d : Dyn) (k : Key) : Cfg × Dyn :=
  if !k.sfdpOk then startHold d 0x11
  else
    let d := (d.wr Reg.BOOT_KEY_SN_LO (k.serial.setWidth 32)).wr Reg.BOOT_KEY_SN_HI ((k.serial >>> 32).setWidth 32)
    match k.dir with
    | none => startHold d 0x12
    | some dir =>
      let dir := if dir.pendState = 1 then { dir with pendState := 0 } else dir
      let d := (d.put F.BOOT_PEND_STATE dir.pendState).put F.BOOT_PEND_CAUSE dir.pendCause
      let active := fun (d : Dyn) (rejected : Option Nat) =>
        let d := { d with boot := { d.boot with rejected := rejected } }
        let x := d.imageIn (k.slot dir.active)
        if dir.idActive = 0 then startHold d 0x13
        else match d.tryImage x with
          | none => acceptImage d x dir.active false rejected
          | some cause => startHold d cause
      let x := d.imageIn (k.slot !dir.active)
      if dir.pendState ≠ 4 then active d none
      else match d.tryImage x with
        | none => acceptImage d x (!dir.active) true none
        | some 0x11 => startHold d 0x11
        | some cause => active d (some cause)

/-- The window armed for replay, if any. -/
def NonVol.armed (n : NonVol) : Option (Nat × Window) :=
  n.windows.findSome? fun e => match e.2 with
    | some w => if w.armed then some (e.1, w) else none
    | none => none

/-- The boot code clears the arming of a window, which this start replays (R457). -/
def Dyn.takeArmed (d : Dyn) : Dyn :=
  match d.nv.armed with
  | some (i, w) =>
    { d.setWindow i (some { w with armed := false }) with boot := { d.boot with replay := some i } }
  | none => d

/-- The window that this start replays, with its place. -/
def Dyn.toReplay (d : Dyn) : Option (Nat × Window) := d.boot.replay.bind fun i => (d.window i).map fun w => (i, w)

/-- Steps 1 to 8 of R40. -/
def Dyn.startUp (d : Dyn) : Cfg × Dyn :=
  let (run, nv) := d.nv.romBank
  let d : Dyn := { d with nv := nv }
  match run with
  | none => (Cfg.init, (d.stay .rom 0 0x1D).bankShown.secRegs)
  | some i =>
    let d := (d.setFlag F.BOOT_STATUS_BANK i).bankRegs
    let d : Dyn := if d.nv.erasePend then { d with nv := d.nv.erased } else d
    let d := d.secRegs.takeArmed
    if !d.nv.provisioned then (Cfg.init, d.stay .service 5 0x1B)
    else match d.nv.key with
      | none => startHold d 0x10
      | some k => d.readKey k

/-- Registers of the always-on domain, which a reset does not touch (R367). -/
def rtcRegs (m : SMap Word) : SMap Word := m.filter fun e => 0xB0000 ≤ e.1 && e.1 < 0xC0000

/-- What a reset leaves: the stores, the always-on domain, identity and slot coding in their registers; and, but after a loss
of the supply, windows of the journal whose copies run, a collecting one ended there (R451, R455). -/
def Dyn.afterReset (d : Dyn) (unitB : Bool) (stnId : BitVec 5) (jumper : Bool) : Dyn :=
  let nv := { d.nv with unit := unitB, stnId := stnId, jumper := jumper }
  let x := Dyn.init nv
  let copies := if d.boot.supplyOff then [] else d.endCollection.jrn.copying
  let x : Dyn := { x with regs := sputs 0 x.regs (rtcRegs d.regs), rtc := d.rtc, free := d.free,
                          jrn := { x.jrn with ages := d.jrn.ages, copying := copies } }
  let x : Dyn := { x.rtcStart with boot := { Boot.init with tick := d.rtc.tick } }
  let x := (x.setFlag F.MOD_UNIT_UNIT unitB).put F.MOD_UNIT_STN_ID stnId.toNat
  let x := (x.wr Reg.MOD_SERIAL_LO (nv.serial.setWidth 32)).wr Reg.MOD_SERIAL_HI ((nv.serial >>> 32).setWidth 32)
  let x := x.wr Reg.MOD_HW_REV nv.hwRev
  let x := (x.put F.MOD_PF_COUNT_COUNT nv.pfCount).wr Reg.MOD_PF_LAST nv.pfLast
  let pub := nv.devPublic
  let x := (List.range 16).foldl (fun (x : Dyn) i => x.wr (Reg.SEC_DEVPUB i) (pub.extractLsb' (480 - 32 * i) 32)) x
  let stored := (nv.windows.filter fun e => e.2.isSome).length
  let x := (x.setFlag F.JRN_STATUS_ANY (stored != 0)).put F.JRN_STATUS_USED (stored - 1)
  ((x.put F.MOD_CLK_K32_OK 1).put F.MOD_CLK_TCXO_OK 1).put F.MOD_CLK_CAN_LOCK 1 |>.put F.MOD_CLK_PLL_LOCK 1
    |>.setFlag F.BOOT_STATUS_KEY_PRESENT nv.key.isSome |>.newNonce

/-- POWER_ON_RESET: power-on reset is released, with the slot coding and the jumper as sensed. Steps 1 to 8 of R40. -/
def execPowerOnReset (unitB : Bool) (stnId : BitVec 5) (jumper : Bool) (s : State) : Out :=
  let (c, d) := (s.dyn.afterReset unitB stnId jumper).startUp
  .next { s with cfg := c, dyn := d }

/-! The lock and what follows it (R49–R51, steps 9 to 12). -/

/-- Step 10: statuses of the field cells, and the calibration store (R332). -/
def Dyn.fieldCells (c : Cfg) (d : Dyn) : Dyn :=
  let d := analogues.foldl (fun (d : Dyn) m =>
    let (g, o, info) := d.nv.calOf m
    let d := ((d.wr (Reg.AIO_CAL_G m) g).wr (Reg.AIO_CAL_O m) o).wr (Reg.AIO_CAL_INFO m) info
    let d := d.setAna m fun s => { s with gain := g, offs := o }
    if c.anaMode m = 0 then d else d.fixAio c m) d
  digitals.foldl (fun d n => d.fixDio c n) d

/-- Step 11: the start-up wire-break tests. -/
def Dyn.startTests (c : Cfg) (d : Dyn) : Dyn :=
  digitals.foldl (fun d n => if c.digUsed n && !c.isOut n && c.flag (F.DIO_CFG_WB_EN n) then d.startWb c n else d) d

/-- What the sluice, the engines and the cells derive from the image (R78, R81, R292). A configured polder reads STOP from the
lock to its restart at FN 0 (DESIGN CHOICE, log entry 102). -/
def Dyn.derive (c : Cfg) (d : Dyn) : Dyn :=
  let d := (d.put F.SLC_K_CYCLES c.winK).put F.SLC_S_CYCLES c.slotS
  let d := (d.put F.SLC_BERM_CYCLES c.berm).put F.SLC_LOOP_CAP_SLOTS c.loopCap
  let d := (d.put F.SLC_SLV_CAP_CYCLES c.slvCap).wr Reg.SLC_HOME c.home
  let d := polders.foldl (fun (d : Dyn) p =>
    if c.polder p then (d.put (F.PLD_STATE_HOME p) (c.home.field (2 * p) 2)).put (F.PLD_STATE_STATE p) 1 else d) d
  let used := ((polders.filter c.polder).map fun p => c.get (F.LGE_SEG_LEN_VALUE p)).sum
  let d := d.put F.LGE_STATUS_PROG_USED used
  let loops := ((List.range 128).filter fun k => c.flag (F.LPE_CFG_CONFIGURED k)).length
  let slots := ((List.range 8).filter c.slvUsed).foldl (fun n s => n + 2 ^ s) 0
  let d := (d.put F.LPE_GSTATUS_CONFIGURED loops).put F.SLV_GSTATUS_CONFIGURED slots
  let ram := ((List.range 128).map fun q => if c.queueUsed q then c.qDepth q * (c.qWords q + 1) else 0).sum
  let d := d.put F.HQ_GSTATUS_USED ram
  let d := (List.range 6).foldl (fun (d : Dyn) g => d.setFlag (F.DIO_GSTATUS_ACTIVE g) (c.groupUsed g)) d
  let d := (List.range 4).foldl (fun (d : Dyn) g => d.setFlag (F.AIO_GSTATUS_ACTIVE g) (c.agUsed g)) d
  digitals.foldl (fun (d : Dyn) n =>
    if c.digUsed n && !c.isOut n && c.flag (F.DIO_CFG_FREQ_EN n) then d.setFlag (F.DIO_STATUS_STOPPED n) true else d) d

/-- The checks before a replay, and their reasons (R457). -/
def replayReason (c : Cfg) (d : Dyn) (w : Window) : Option Nat :=
  if !w.tagOk then some 1
  else if !w.replayable then some 2
  else if w.imageId ≠ c.img.imageId then some 3
  else if w.fwRev.field 16 16 ≠ (d.rd Reg.MOD_FW_REV).field 16 16 then some 4
  else if w.hwMajor ≠ d.get F.MOD_HW_REV_MAJOR then some 5
  else none

/-- REPLAY is entered (R457, R458): after the checks the checkpoint is loaded, and the records after it wait. -/
def Dyn.startReplay (c : Cfg) (d : Dyn) (i : Nat) (w : Window) : Dyn :=
  let d := ({ d with boot := { d.boot with stage := .running } } : Dyn).enter 4 0
  match replayReason c d w with
  | some r => (d.put F.JRN_REPLAY_STATE 6).put F.JRN_REPLAY_REASON r
  | none =>
    let cks := w.ckpts.reverse
    let cks := if w.armArg = 0 then cks else cks.dropWhile fun k => k.fn != w.armArg
    match cks with
    | [] => d.put F.JRN_REPLAY_STATE 5
    | k :: rest =>
      let d := d.loadCheckpoint k
      let recs := w.recs.reverse.filter fun r => later r.fn k.fn
      let d : Dyn := { d with jrn := { d.jrn with replayWin := some i, playing := recs, playCk := rest } }
      (d.put F.JRN_REPLAY_STATE 1).wr Reg.JRN_RP_FN k.fn

/-- The protection set-up of REPLAY maps no levee term. -/
def replayMap (m : SMap Word) : SMap Word :=
  (List.range 64).foldl (fun m t =>
    sput 0 (sput 0 (sput 0 (sput 0 m (Reg.LVE_MAP0 t) 0) (Reg.LVE_MAP1 t) 0) (Reg.LVE_MAP2 t) 0) (Reg.LVE_FMAP t) 0) m

/-- The lock (R50), with the levee matrix live, then steps 10 to 12 and the start of the runtime. -/
def Dyn.lockUp (c : Cfg) (d : Dyn) : Dyn :=
  let d := { d with boot := { d.boot with stage := .locked } }
  let d := (d.setFlag F.BOOT_STATUS_LOCKED true).setFlag F.LVE_STATUS_LIVE true
  let d := (d.setP0Flags c (d.p0Flags c)).fieldCells c
  let d := (d.startTests c).derive c
  let d := d.put F.MOD_FW_REV_BUILD (d.nv.bank d.bankNow).build
  let d := (d.wr Reg.BOOT_IMG_ID_LO (c.img.imageId.setWidth 32)).wr Reg.BOOT_IMG_ID_HI
    ((c.img.imageId >>> 32).setWidth 32)
  (d.rtcDefaults c).storePower c

/-- The runtime starts PTP, whose servo is EXTERNAL where the image says so (R357), the network and, in a twin, the
pairing; a simplex module is ACTIVE. -/
def Dyn.runtime (c : Cfg) (d : Dyn) : Dyn :=
  let d := d.ptpStart c
  let d := if c.flag F.TSU_CFG_SERVO then d.setServo c 4 else d
  let d := d.netStart c
  if c.twin then
    (({ d with twin := { d.twin with pairFrom := d.clk.cycles, hbSeen := false } } : Dyn).stnState c).sendPair c
  else d.setRole c 2

/-- BOOT_LOCK: only the lock word locks, and only the boot code's, once the set-up is written. -/
def execBootLock (word : Word) (s : State) : Out :=
  if s.dyn.boot.held || s.cfg.locked || s.dyn.boot.stage ≠ .setup || word ≠ 0x4C4F434B then .next s
  else
    match s.dyn.toReplay with
    | some (i, w) =>
      let c : Cfg := { s.cfg with locked := true, lk := replayMap s.cfg.lk }
      .next { s with cfg := c, dyn := ((s.dyn.lockUp c).netStart c).startReplay c i w }
    | none =>
      let c : Cfg := { s.cfg with locked := true }
      .next { s with cfg := c, dyn := (s.dyn.lockUp c).runtime c }

/-- BOOT_WATCHDOG_EXPIRY: boot code that has not locked is halted 2,000 ms after its start; the protection is locked with
every LK register at its reset value. A unit in SERVICE from step 3 of R40 never writes the lock word: whether the watchdog
halts it there is open, and it does not (log entry 96). -/
def execBootWatchdogExpiry (s : State) : Out :=
  if s.dyn.boot.held || s.cfg.locked || s.dyn.boot.stage ≠ .setup then .next s
  else
    let d := s.dyn.ticks (1000000000 - s.dyn.clk.cycles)
    .next { s with cfg := { Cfg.init with locked := true },
                   dyn := ((d.stay .halted 0 0x11).setFlag F.BOOT_STATUS_LOCKED true).setFlag F.LVE_STATUS_LIVE true }

/-! FN 0 (R40 step 13, R74). -/

/-- The directory is written after hand-over (R32, R40 step 8). PEND_CAUSE keeps the cause of the last rejection when the
slots exchange roles, at a passed VERIFY_PENDING and at an ERASE_PENDING (log entry 97). -/
def Dyn.directoryAfterStart (c : Cfg) (d : Dyn) : Dyn :=
  let was := d.boot
  let d : Dyn := { d with boot := { was with fromPending := false, rejected := none } }
  match d.nv.key.filter Key.sfdpOk with
  | none => d
  | some k =>
    match k.dir with
    | none => d
    | some dir =>
      if was.fromPending then
        let k := k.writeDir fun x =>
          { x with active := !x.active, idActive := x.idPend, idPend := x.idActive,
                   pendState := (if dir.idActive = 0 then 0 else 3) }
        (d.setKey k).pendRegs k
      else match was.rejected with
        | some cause =>
          let k := k.writeDir fun x => { x with pendState := 5, pendCause := cause }
          ((d.setKey k).pendRegs k).alarm c 0x0102 (b2n !dir.active) (BitVec.ofNat 32 cause) 0
        | none => d

/-- The due counters of the loop contexts are loaded with their phases (R188). -/
def Dyn.loadPhases (c : Cfg) (d : Dyn) : Dyn :=
  (List.range 128).foldl (fun (d : Dyn) k =>
    if c.flag (F.LPE_CFG_CONFIGURED k) then d.setLoop k fun l => { l with due := c.get (F.LPE_SCHED_PHASE k) }
    else d) d

/-- The polders' restarts at start (R161, R164); START_STOPPED leaves them in STOP. -/
def Dyn.startPolders (c : Cfg) (d : Dyn) : Dyn :=
  polders.foldl (fun (d : Dyn) p =>
    if c.polder p then
      let d := d.restart c p ((c.get F.STN_PL_START_WARM).testBit p) true
      if c.img.startStopped then d.setMode c p 1 else d
    else d) d

/-- May frame FN 0 start? (R252, R466) -/
def Cfg.mayStart (c : Cfg) (d : Dyn) : Bool :=
  d.boot.stage == .locked && d.flag F.MOD_PWR_STATUS_HOLDUP_READY &&
    (!c.twin || d.twin.outcome == 1 ||
      (d.twin.outcome == 2 && (!d.unitB || d.get F.TSU_STATUS_TWIN == 3)))

/-- FRAME_ZERO_START: in a paired start P after the T of the priming frame (R253). -/
def execFrameZeroStart (s : State) : Out :=
  s.upd fun c d =>
    if !c.mayStart d then d
    else
      let together := c.twin && d.twin.outcome == 2
      let d := if together then d.advTo (d.atT c.period) else d
      let d := (d.startPolders c).loadPhases c
      let d := if d.follower then d else d.seed
      let d : Dyn := { d with boot := { d.boot with stage := .running },
                              slc := { d.slc with framing := true, first := true, tFt := d.ft } }
      let d := (d.wr Reg.SLC_FN 0).enter (if c.img.startStopped then 2 else 1) 0
      let d := d.setRole c 2
      let d := if together then
          let d := ((d.setPeer c 2).setLockstep c true).setFlag F.SHL_STATUS_SPLIT false
          (d.wr Reg.STN_LOCK_FN 0).renumber
        else d
      let d := (d.takeTime c).startCompare c 0
      let d := d.wr Reg.BOOT_START_US (BitVec.ofNat 32 (d.clk.cycles / 500))
      (d.directoryAfterStart c).powerRestored c

end Sys2Proof.Machine
end

