-- ==== Sys2Proof/Machine/Update.lean ====
section
/-! DEFINITION. The key during operation, the update service, provisioning, the service debug port, and the commit of a
trial bank (R32–R35, R42, R55–R68, R71). -/

namespace Sys2Proof.Machine

/-! Update commands. Codes: 1 UPD_WRITE, 2 UPD_DONE, 3 VERIFY_PENDING, 4 REQUEST_ACTIVATE, 5 CANCEL_ACTIVATE,
6 ERASE_PENDING. Statuses: 1 BUSY, 2 DONE, 3 REFUSED, 4 KEY_LOST, 5 VERIFY_FAILED. -/

def Dyn.bootStat (d : Dyn) (st : Nat) : Dyn := d.put F.BOOT_CMD_STAT_STATUS st
def Dyn.bootBusy (d : Dyn) : Bool := d.get F.BOOT_CMD_STAT_STATUS == 1

/-- BOOT_CMD is served by the boot code after the lock and by the runtime, and for the idle bank by the ROM that found no
bank (R65: its recovery over the USB-C port, log entry 98). -/
def Dyn.bootServed (d : Dyn) : Bool :=
  d.boot.stage == .hold || d.boot.stage == .service || d.boot.stage == .locked || d.boot.stage == .running ||
    d.boot.stage == .rom

/-- The key that a command can use: it is there, its SFDP tables pass R27, and the module is not in a start-up hold for want
of a key or for a faulty one (R42), nor in ROM, which reads no key. -/
def Dyn.keyUsable (d : Dyn) : Option Key :=
  let cause := d.get F.MOD_STATE_CAUSE
  if d.boot.stage == .rom || (d.boot.stage == .hold && (cause == 0x10 || cause == 0x11)) then none
  else match d.nv.key with
    | some k => if k.sfdpOk then some k else none
    | none => none

/-- The state of the pending slot of a key as its directory has it; a slot in WRITING that this run has not brought there
counts as EMPTY (R33). -/
def Dyn.slotState (d : Dyn) (k : Key) : Nat :=
  let st := (k.dir.map (·.pendState)).getD 0
  if st = 1 && d.boot.wrote != some k.serial then 0 else st

/-- The state of the target: of the pending slot (R32), or of the idle bank (R68). -/
def Dyn.targetState (d : Dyn) (bank : Bool) : Nat :=
  if bank then (d.nv.bank !d.bankNow).state
  else match d.keyUsable with
    | some k => d.slotState k
    | none => 0

/-- Pages of the target. -/
def targetPages (bank : Bool) : Nat := if bank then Config.bankPages else 63488

/-- The transition is listed (R32, R68). -/
def Dyn.bootAllowed (d : Dyn) (code : Nat) (bank : Bool) : Bool :=
  let st := d.targetState bank
  match code with
  | 1 => decide (d.get F.BOOT_UPD_OFFSET_PAGE < targetPages bank)
  | 2 => st == 1
  | 3 => st == 2
  | 4 => !bank && st == 3
  | 5 => !bank && st == 4
  | 6 => true
  | _ => false

/-- A command is accepted and runs, or ends at once as REFUSED or KEY_LOST; while BUSY it changes nothing (R71). -/
def Dyn.bootWrite (d : Dyn) (code : Nat) (bank : Bool) : Dyn :=
  if !d.bootServed || d.bootBusy then d
  else if !bank && d.keyUsable.isNone && 1 ≤ code && code ≤ 6 then
    (d.put F.BOOT_CMD_STAT_LAST code).bootStat 4
  else if !d.bootAllowed code bank then d.bootStat 3
  else
    let d : Dyn := { d with boot := { d.boot with target := bank } }
    (d.put F.BOOT_CMD_STAT_LAST code).bootStat 1

def bootCommand (who : Requester) (code : Nat) (bank : Bool) (s : State) : Out :=
  s.upd fun c d => d.gated c who Reg.BOOT_CMD fun d => d.bootWrite code bank

/-- UPD_WRITE written. -/
def execUpdWrite (who : Requester) (target : Bool) (s : State) : Out := bootCommand who 1 target s
/-- UPD_DONE written. -/
def execUpdDone (who : Requester) (target : Bool) (s : State) : Out := bootCommand who 2 target s
/-- VERIFY_PENDING written. -/
def execVerifyPending (who : Requester) (target : Bool) (s : State) : Out := bootCommand who 3 target s
/-- REQUEST_ACTIVATE written. -/
def execRequestActivate (who : Requester) (target : Bool) (s : State) : Out := bootCommand who 4 target s
/-- CANCEL_ACTIVATE written. -/
def execCancelActivate (who : Requester) (target : Bool) (s : State) : Out := bootCommand who 5 target s
/-- ERASE_PENDING written. -/
def execErasePending (who : Requester) (target : Bool) (s : State) : Out := bootCommand who 6 target s

/-- The update page as (word index in the target, word). BOOT_UPD_BUF and BOOT_UPD_OFFSET are taken when the command
completes, not at its write: what is written to them while it is BUSY counts (log entry 99). -/
def Dyn.updPage (d : Dyn) : List (Nat × Word) :=
  (List.range 64).map fun i => (d.get F.BOOT_UPD_OFFSET_PAGE * 64 + i, d.rd (Reg.BOOT_UPD_BUF i))

/-- Erased flash reads as ones. -/
def program (m ps : List (Nat × Word)) : List (Nat × Word) := sputs 0xFFFFFFFF m ps

/-- The offset advances by 256 (R70). -/
def Dyn.updAdvance (d : Dyn) : Dyn := d.put F.BOOT_UPD_OFFSET_PAGE (d.get F.BOOT_UPD_OFFSET_PAGE + 1)

/-- The effect of a command on the pending slot of the key (R32), and its final status. -/
def Dyn.slotEffect (d : Dyn) (code : Nat) (k : Key) : Dyn × Nat :=
  let i := k.pending
  let sl := k.slot i
  let done := fun (d : Dyn) (k : Key) => ((d.setKey k).pendRegs k, 2)
  match code with
  | 1 =>
    let first := d.slotState k ≠ 1
    let k := if first then k.writeDir fun x => { x with pendState := 1 } else k
    let sl : Slot := ⟨none, program (if first then [] else sl.pages) d.updPage⟩
    let d : Dyn := { d with boot := { d.boot with wrote := some k.serial } }
    (done (d.updAdvance) (k.setSlot i sl))
  | 2 => done d (k.writeDir fun x => { x with pendState := 2 })
  | 3 =>
    let x := d.imageIn sl
    let k := k.setSlot i { sl with image := some x }
    match d.tryImage x with
    | none => done d (k.writeDir fun y => { y with pendState := 3, idPend := x.imageId })
    | some cause => ((done d (k.writeDir fun y => { y with pendState := 5, pendCause := cause })).1, 5)
  | 4 => done d (k.writeDir fun x => { x with pendState := 4 })
  | 5 => done d (k.writeDir fun x => { x with pendState := 3 })
  | _ => done d ((k.setSlot i ⟨none, []⟩).writeDir fun x => { x with pendState := 0, idPend := 0 })

/-- A bank with these pages programmed: what it holds is the package that they spell, as far as they go. -/
def bankWith (b : Bank) (state : Nat) (pages : SMap Word) : Bank :=
  let (sig, svn, major, minor, build) := Config.packageOfPages pages
  { b with state := state, tried := false, pages := pages, signatureOk := sig, svn := svn % 256, major := major % 256,
           minor := minor % 256, build := build % 65536 }

/-- The effect of a command on the idle bank (R68), and its final status. -/
def Dyn.bankEffect (d : Dyn) (code : Nat) : Dyn × Nat :=
  let i := !d.bankNow
  let b := d.nv.bank i
  let set := fun (d : Dyn) (b : Bank) => ({ d with nv := d.nv.setBank i b } : Dyn).bankShown
  match code with
  | 1 => (set d.updAdvance (bankWith b 1 (program (if b.state = 1 then b.pages else []) d.updPage)), 2)
  | 2 => (set d { b with state := 2 }, 2)
  | 3 => if b.candidate d.nv.fwSvn then (set d { b with state := 3 }, 2) else (set d { b with state := 5 }, 5)
  | _ => (set d Bank.empty, 2)

/-- BOOT_COMMAND_COMPLETE. Here, not at the command's write, an accepted UPD_WRITE moves its slot or bank to WRITING, so that
a reset while BUSY leaves ACTIVATE or COMMITTED (DESIGN CHOICE, log entry 99). -/
def execBootCommandComplete (s : State) : Out :=
  s.upd fun _ d =>
    if !d.bootBusy then d
    else
      let code := d.get F.BOOT_CMD_STAT_LAST
      if d.boot.target then
        let (d, st) := d.bankEffect code
        d.bootStat st
      else match d.keyUsable with
        | some k =>
          let (d, st) := d.slotEffect code k
          d.bootStat st
        | none => d.bootStat 4

/-! The key's presence (R34, R35). -/

/-- KEY_REMOVED: a command that was using the key ends with KEY_LOST, and a slot being written goes to WRITING. -/
def execKeyRemoved (s : State) : Out :=
  let serial := s.dyn.nv.key.map (·.serial)
  let s := { s with dyn := { s.dyn with nv := { s.dyn.nv with key := none } } }
  s.upd fun c d =>
    if !d.flag F.BOOT_STATUS_KEY_PRESENT then d
    else
      let d := d.setFlag F.BOOT_STATUS_KEY_PRESENT false
      let d := if d.bootBusy && !d.boot.target then
          (if d.get F.BOOT_CMD_STAT_LAST = 1 then
            ({ d with boot := { d.boot with wrote := serial } } : Dyn).put F.BOOT_PEND_STATE 1 else d).bootStat 4
        else d
      if d.boot.stage == .running then d.alarm c 0x0101 0 0 0 else d

/-- KEY_INSERTED: the key `k`; it is not read for configuration until the next start. -/
def execKeyInserted (k : Key) (s : State) : Out :=
  let s := { s with dyn := s.dyn.setKey k }
  s.upd fun _ d => d.setFlag F.BOOT_STATUS_KEY_PRESENT true

/-! Provisioning and the service debug port. -/

/-- The package's signer is the one R56 asks for. -/
def NonVol.packageOk (n : NonVol) (x : ProvPackage) : Bool :=
  x.encryptedTo == n.devPublic && x.signedBy == n.verificationKey.getD x.verificationKey

/-- PROVISIONING_PACKAGE: in SERVICE alone; the module restarts after its installation (R57). -/
def execProvisioningPackage (pkg : ProvPackage) (s : State) : Out :=
  s.upd fun _ d =>
    if d.modState = 5 && d.nv.packageOk pkg then
      let nv := { d.nv with stationKey := some pkg.stationKey, imageKey := some pkg.imageKey,
                            verificationKey := some pkg.verificationKey,
                            provCount := min (d.nv.provCount + 1) 0xFFFF, opened := false }
      let d := ({ d with nv := nv } : Dyn).secRegs
      { d with boot := { d.boot with held := true } }
    else d

/-- The first reason against an authorisation, in code order of SEC_AUTH_STAT (R59, R64). -/
def Dyn.authCause (d : Dyn) (a : ServiceAuth) : Option Nat :=
  if !a.signatureOk then some 2
  else if a.serial ≠ d.nv.serial then some 3
  else if a.nonce ≠ d.nonce then some 4
  else if !d.nv.jumper then some 5
  else if d.modState = 1 then some 6
  else none

/-- The key erase of R60: the erased areas are read back before OPENED is set. -/
def Dyn.openPort (d : Dyn) (a : ServiceAuth) : Dyn :=
  let vk := if a.clearVk then none else d.nv.verificationKey
  if !a.eraseOk then
    let d : Dyn := { d with nv := { d.nv with stationKey := none, imageKey := none, verificationKey := vk,
                                              erasePend := true } }
    d.secRegs.put F.SEC_AUTH_STAT_RESULT 7
  else
    let d : Dyn := { d with nv := { d.nv with verificationKey := vk }.erased }
    let d := (d.secRegs.put F.SEC_AUTH_STAT_RESULT 1).setFlag F.SEC_STATUS_DEBUG_LIVE true
    { d.stay .service 5 0x1C with slc := { d.slc with framing := false } }

/-- Step 3 of R60: the RAM that holds decrypted image content: program, constants, tables, templates and coefficients, and
the memories that an image initialises. The LK registers are no RAM: only a reset changes them after the lock (R10, R50),
and the field side keeps the safe values it was given (log entry 100). -/
def Dyn.eraseImage (d : Dyn) : Dyn :=
  { d with pol := [], bitMem := [], wordMem := [], timers := [], counters := [], edges := [], agreed := [], outW := [],
           outC := [], loops := [], slv := [], queues := [], jrn := { Journal.init with ages := d.jrn.ages },
           twin := { Twin.init with acting := d.twin.acting }, life := { d.life with copying := none, copyAgain := false } }

/-- The port of X15 takes authorisations: not before the boot code runs, nor in the start-up hold, whose port serves reads
and BOOT_CMD alone (R42), nor when the boot code is halted. -/
def Dyn.authServed (d : Dyn) : Bool :=
  !d.boot.held && d.boot.stage != .halted && d.boot.stage != .hold && d.boot.stage != .rom

/-- SERVICE_AUTHORISATION. The decrypted content of the image is erased with the keys. -/
def execServiceAuthorisation (auth : ServiceAuth) (s : State) : Out :=
  if !s.dyn.authServed then .next s
  else match s.dyn.authCause auth with
    | some r => .next { s with dyn := (s.dyn.newNonce).put F.SEC_AUTH_STAT_RESULT r }
    | none =>
      .next { s with cfg := { s.cfg with img := ImageData.empty }, dyn := (s.dyn.newNonce.eraseImage).openPort auth }

/-- JUMPER_REMOVED: the port closes; the module stays in SERVICE (R62). -/
def execJumperRemoved (s : State) : Out :=
  s.always fun _ d =>
    ({ d with nv := { d.nv with jumper := false } } : Dyn).setFlag F.SEC_STATUS_JUMPER false
      |>.setFlag F.SEC_STATUS_DEBUG_LIVE false

/-- TRIAL_BANK_COMMIT: after 600 s in RUN, counted from the last entry into RUN, the running trial bank is committed and
SEC_FW_SVN raised (R66). -/
def execTrialBankCommit (s : State) : Out :=
  s.upd fun _ d =>
    match d.boot.runAt with
    | some since =>
      if d.flag F.BOOT_STATUS_BANK_TRIAL && d.modState == 1 then
        let d := d.ticks (since + 300000000000 - d.clk.cycles)
        let b := d.nv.bank d.bankNow
        let nv := { d.nv.setBank d.bankNow { b with state := 4 } with fwSvn := max d.nv.fwSvn b.svn }
        ({ d with nv := nv } : Dyn).bankRegs.secRegs
      else d
    | none => d

end Sys2Proof.Machine
end

