-- ==== Sys2Proof/Machine/Bus.lean ====
section
/-! DEFINITION. Register accesses (R8–R10, R24, R25, R52): what each register reads as, what a read and a write do by the
register's access type, and the requests of the register access service (R408–R410). -/

namespace Sys2Proof.Machine

/-! What a register reads as where no stored word holds it. -/

/-- The window of a polder, loop context, solver slot or CAN channel that the image does not configure, and the Shucel block of a simplex station,
which read zero but for one word (R16, R104, R158, R212, R243, R281, R444). -/
def Dyn.blank (c : Cfg) (d : Dyn) (a : Nat) : Option Word :=
  if 0x30000 ≤ a && a < 0x40000 then
    if c.polder ((a - 0x30000) / 0x1000) then none else some 0
  else if 0x51000 ≤ a && a < 0x51400 then
    if c.polder ((a - 0x51000) / 0x40) then none else some 0
  else if 0x60000 ≤ a && a < 0x68000 then
    if c.flag (F.LPE_CFG_CONFIGURED ((a - 0x60000) / 0x100)) then none else some 0
  else if 0x70000 ≤ a && a < 0x74000 then
    if c.flag (F.SLV_CFG_CONFIGURED ((a - 0x70000) / 0x800)) then none else some 0
  else if 0xD0000 ≤ a && a < 0xD8000 then
    let k := (a - 0xD0000) / 0x2000
    if c.canUsed k then none else some (if a = Reg.CAN_STATUS k then d.canStatus c k else 0)
  else if 0xE0000 ≤ a && a < 0xE1000 then
    if c.queueUsed ((a - 0xE0000) / 0x20) then none else some 0
  else if 0xF0000 ≤ a && a < 0x100000 && !c.twin then
    some (if a = Reg.SHL_STATUS then d.rd a &&& 7 else 0)
  else none

/-- LGE_PC, LGE_ACC and LGE_WA: the halted task in HOLD, else as published (R158). -/
def Dyn.lgeCtx (d : Dyn) (a : Nat) : Word :=
  let p := (a - 0x51000) / 0x40
  let s := d.polder p
  if d.mode p ≠ 3 then d.rd a
  else match s.current with
    | some (k, t) =>
      match (a - 0x51000) % 0x40 with
      | 0x18 => BitVec.ofNat 32 (k * 2 ^ 28 + t.pc)
      | 0x1C => BitVec.ofNat 32 (b2n t.la * 2 ^ 31 + t.calls.length * 2 ^ 16 + t.stack.length)
      | _ => t.wa
    | none => d.rd a

/-- The force table entry shown by STN_FORCE_DESC and STN_FORCE_VAL (R185). -/
def Dyn.forceShown (d : Dyn) : Option Force := sget none d.life.forces (d.get F.STN_FORCE_SEL_ENTRY)

def Force.desc (f : Force) : Word :=
  BitVec.ofNat 32 (2 ^ 31 + f.space * 2 ^ 29 + b2n f.word * 2 ^ 28 + f.owner * 2 ^ 24 + f.index)

/-- A word with one bit a polder, a slot or a step sets. -/
def bitMap (n : Nat) (f : Nat → Bool) : Word :=
  BitVec.ofNat 32 ((List.range n).map fun i => if f i then 2 ^ i else 0).sum

/-- BOOT_RIGHTS_LO and BOOT_RIGHTS_HI (R70). -/
def Dyn.rightsShown (c : Cfg) (d : Dyn) (hi : Bool) : Word :=
  let r := d.get F.BOOT_RIGHTS_SEL_REQ
  match (if r < 32 then c.rights r else [])[d.get F.BOOT_RIGHTS_SEL_ENTRY]? with
  | some e =>
    if hi then BitVec.ofNat 32 (e.last % 65536)
    else BitVec.ofNat 32 (b2n e.write * 2 ^ 31 + b2n e.read * 2 ^ 30 + 2 ^ 29 + e.first % 65536)
  | none => 0

/-- SLV_GSTATUS with the step under way (R243). -/
def Dyn.slvStep (d : Dyn) : Word :=
  let w := d.rd Reg.SLV_GSTATUS
  match (List.range 8).find? fun s => (d.slot s).job.stepEnd.isSome with
  | some s => (w.setField 11 1 1).setField 8 3 s
  | none => w

/-- The registers of the time base and of the clock that are live (R343, R366, R371, R379, R384). -/
def Dyn.liveTime (c : Cfg) (d : Dyn) (a : Nat) : Option Word :=
  if a = Reg.TSU_FT then some d.ft
  else if a = Reg.TSU_NS then some (BitVec.ofNat 32 d.ptpNs)
  else if a = Reg.RTC_STATUS then some (((d.rd a).setBit 4 d.ptpSync).setBit 3 d.rtcBeyond)
  else if a = Reg.RTC_TICK_LO then some (d.rtc.tick.extractLsb' 0 32)
  else if a = Reg.RTC_EPOCH_LO then some (d.rtc.epoch.extractLsb' 0 32)
  else if a = Reg.RTC_SWO_TICK_LO then some (d.rtc.swoTick.extractLsb' 0 32)
  else if 0xA1000 ≤ a && a < 0xA1400 && (a - 0xA1000) % 0x20 = 0xC then
    let u := (a - 0xA1000) / 0x20
    if c.get (F.TSU_CMP_CFG_MODE u) = 2 then some (BitVec.ofNat 32 (d.aligned u % 10 ^ 9)) else none
  else if 0xA2000 ≤ a && a < 0xA2200 && (a - 0xA2000) % 0x20 = 4 then
    some (sget CapRec.init d.tsu.cap ((a - 0xA2000) / 0x20)).ft
  else none

/-- The value of the register at `a`. -/
def Dyn.regValue (c : Cfg) (d : Dyn) (a : Nat) : Word :=
  match d.blank c a with
  | some w => w
  | none =>
  match d.liveTime c a with
  | some w => w
  | none =>
    if a = Reg.BOOT_LOCK then (if c.locked then 0x4C4F434B else 0)
    else if isLk a then c.rd a
    else if a = Reg.MOD_CLK then d.rd a ||| 1
    else if a = Reg.MOD_PWR_STATUS then (d.rd a).setField 24 8 (d.slc.doze.roll d.clk.cycles).last
    else if a = Reg.BOOT_RIGHTS_LO then d.rightsShown c false
    else if a = Reg.BOOT_RIGHTS_HI then d.rightsShown c true
    else if a = Reg.STN_PL_BATCH then bitMap 16 fun p => (d.polder p).batch.isSome
    else if a = Reg.STN_PL_OVERLAY then BitVec.ofNat 32 d.overlayUse
    else if a = Reg.STN_FORCE_DESC then (d.forceShown.map Force.desc).getD 0
    else if a = Reg.STN_FORCE_VAL then (d.forceShown.map (·.value)).getD 0
    else if a = Reg.STN_FORCE_COUNT then BitVec.ofNat 32 (d.life.forces.filter fun e => e.2.isSome).length
    else if 0x30000 ≤ a && a < 0x40000 && a % 0x1000 = 0x1C then
      (d.rd a).setBit 8 (!(d.polder ((a - 0x30000) / 0x1000)).left.isEmpty)
    else if 0x30000 ≤ a && a < 0x40000 && a % 0x1000 = 0x44 then
      BitVec.ofNat 32 (d.polder ((a - 0x30000) / 0x1000)).evq.length
    else if 0x51000 ≤ a && a < 0x51400 && 0x18 ≤ a % 0x40 && a % 0x40 ≤ 0x20 then d.lgeCtx a
    else if 0x60000 ≤ a && a < 0x68000 then (d.loop ((a - 0x60000) / 0x100)).live d a
    else if a = Reg.SLV_GSTATUS then d.slvStep
    else if a = Reg.SLV_BUSY then bitMap 8 fun s => (d.slot s).job.busy
    else if 0x70000 ≤ a && a < 0x74000 then d.slvReg c ((a - 0x70000) / 0x800) ((a - 0x70000) % 0x800)
    else if isMeas a then d.measWord c a
    else if a = Reg.LVE_TEST_STAT then (d.rd a).setField 0 10 (d.testRemain c)
    else if 0xC1000 ≤ a && a < 0xC2000 && (a - 0xC1000) % 0x80 = 8 then d.remoteLive ((a - 0xC1000) / 0x80)
    else if 0xE0000 ≤ a && a < 0xE1000 && a % 0x20 = 0xC then
      let q := d.queue ((a - 0xE0000) / 0x20)
      BitVec.ofNat 32 (q.pend.length * 2 ^ 16 + q.committed)
    else if 0x100000 ≤ a && a < 0x110000 then d.jrnReg c a
    else d.rd a

/-! Reads. -/

/-- Upper word of a 48-bit value. -/
def upper (v : BitVec 48) : Word := (v.extractLsb' 32 16).setWidth 32

/-- Reading an LT register latches its companions at the same instant (R10). -/
def Dyn.latchFor (d : Dyn) (a : Nat) : Dyn :=
  if a = Reg.SLC_FN then d.wr Reg.SLC_T_FT d.slc.tFt
  else if a = Reg.TSU_NS then
    ((d.wr Reg.TSU_SEC_LO (d.clk.sec.extractLsb' 0 32)).wr Reg.TSU_SEC_HI (upper d.clk.sec)).wr Reg.TSU_FT_SNAP d.ft
  else if a = Reg.TSU_GM_LO then d.wr Reg.TSU_GM_HI d.tsu.gmHi
  else if a = Reg.RTC_TICK_LO then d.wr Reg.RTC_TICK_HI (upper d.rtc.tick)
  else if a = Reg.RTC_EPOCH_LO then d.wr Reg.RTC_EPOCH_HI (upper d.rtc.epoch)
  else if a = Reg.RTC_SWO_TICK_LO then d.wr Reg.RTC_SWO_TICK_HI (upper d.rtc.swoTick)
  else if 0xA2000 ≤ a && a < 0xA2200 then
    let u := (a - 0xA2000) / 0x20
    let r := sget CapRec.init d.tsu.cap u
    ((d.wr (Reg.TSU_CAP_NS u) (BitVec.ofNat 32 r.ns)).wr (Reg.TSU_CAP_SEC_LO u) (r.sec.extractLsb' 0 32)).wr
      (Reg.TSU_CAP_SEC_HI u) (upper r.sec)
  else if 0x60000 ≤ a && a < 0x68000 then
    let k := (a - 0x60000) / 0x100
    d.wr (Reg.LPE_I_HI k) (BitVec.ofInt 32 ((d.loop k).i / 2 ^ 32) &&& 0xFFFF)
  else d

/-- Reading words 0 and 19 of a CAN receive buffer locks and unlocks it (R430). -/
def Dyn.rxbSeen (c : Cfg) (d : Dyn) (a : Nat) : Dyn :=
  let k := (a - 0xD0000) / 0x2000
  let o := (a - 0xD0000) % 0x2000
  if 0xD0000 ≤ a && a < 0xD8000 && c.canUsed k && 0x400 ≤ o && o < 0xE00 then
    let b := (o - 0x400) / 0x50
    match (o - 0x400) % 0x50 with
    | 0 => d.rxbLock k b
    | 0x4C => d.rxbUnlock k b
    | _ => d
  else d

/-- The access reaches a register: aligned, occupied, and granted (R8, R24). -/
def Dyn.reaches (c : Cfg) (d : Dyn) (who : Requester) (addr : Word) (write : Bool) : Bool :=
  addr.toNat % 4 == 0 && (regRow addr.toNat).isSome && d.mayAccess c who addr.toNat write

/-- What a cleared-on-read register holds after the read: zero, and in HQ_PEAK the fill that stands. -/
def Dyn.afterRead (d : Dyn) (a : Nat) : Word :=
  if 0xE0000 ≤ a && a < 0xE1000 && a % 0x20 = 0x18 then BitVec.ofNat 32 (d.queue ((a - 0xE0000) / 0x20)).total else 0

/-- A read (R10): the value, and what the reading does. -/
def Dyn.busRead (c : Cfg) (d : Dyn) (who : Requester) (addr : Word) : Word × Dyn :=
  let a := addr.toNat
  if !d.reaches c who addr false then (0, d.accErr addr)
  else match regRow a with
    | none => (0, d)
    | some r =>
      match r.acc with
      | .wo => (0, d)
      | .rc => (d.regValue c a, d.wr a (d.afterRead a))
      | .lt => (d.regValue c a, d.latchFor a)
      | _ => (d.regValue c a, d.rxbSeen c a)

/-- A requester reads: the value is what it gets. -/
def Dyn.reads (c : Cfg) (d : Dyn) (who : Requester) (addr : Word) : Dyn :=
  if !d.portServed who then d
  else
    let (v, d) := d.busRead c who addr
    { d with readData := v }

/-! Writes. -/

/-- KIND and NUM of the writer in BOOT_PV_SRC (R70). -/
def pvSrc : Requester → Word
  | .polder p => BitVec.ofNat 32 p.toNat
  | .client k => BitVec.ofNat 32 (256 + k.toNat)
  | _ => 512

/-- A write to an LK register after the lock (R52). -/
def Dyn.violation (d : Dyn) (who : Requester) (addr : Word) : Dyn :=
  ((d.bump F.BOOT_PV_COUNT_COUNT).wr Reg.BOOT_PV_ADDR addr).wr Reg.BOOT_PV_SRC (pvSrc who)

/-- A written command register. -/
def Dyn.command (c : Cfg) (d : Dyn) (who : Requester) (a : Nat) (v : Word) : Dyn :=
  if a = Reg.LGE_CMD then d.lgeWrite v
  else if a = Reg.STN_PL_CMD then d.plWrite v
  else if a = Reg.STN_TWIN_CMD then d.twinWrite v
  else if a = Reg.TSU_CMD then d.tsuCmd c (who == .firmware) v
  else if a = Reg.RTC_CMD then d.rtcWrite v
  else if a = Reg.AIO_CAL_CMD then d.calWrite c v
  else if a = Reg.BOOT_CMD then d.bootWrite (v.field 0 4) (v.bit 8)
  else if a = Reg.JRN_CMD then d.jrnCmd c (v.field 0 4)
  else if 0xD0000 ≤ a && a < 0xD8000 then d.canCmd c ((a - 0xD0000) / 0x2000) (v.field 0 4) (v.field 8 7)
  else if 0xA1000 ≤ a && a < 0xA1400 then d.stage_ a v
  else d.wr a v

/-- A written RW register. STN registers wait for their latch (R25, R171, R257). The three levee registers are P0's
alone, and take effect at its commit (R127, R152). -/
def Dyn.setReg (d : Dyn) (who : Requester) (a : Nat) (v : Word) : Dyn :=
  if a < 0x10000 then d.stage_ a v
  else if a = Reg.RTC_TRIM then d.trimWrite v
  else if p0Register a then
    if who == .polder 0 then d.p0Write a v else d
  else d.wr a v

/-- A write (R9, R10, R24, R52). Reserved bits are ignored. LK registers are no part of it before the lock. -/
def Dyn.busWrite (c : Cfg) (d : Dyn) (who : Requester) (addr v : Word) : Dyn :=
  let a := addr.toNat
  let lk := addr.toNat % 4 == 0 && isLk a && d.portServed who
  let d := if lk && c.locked then d.violation who addr else d
  if !d.portServed who then d
  else if !d.reaches c who addr true then d.accErr addr
  else
    let d : Dyn := { d with twin := { d.twin with acting := Requester.code who } }
    match regRow a with
    | some r =>
      let v := v &&& r.mask
      match r.acc with
      | .rw => d.setReg who a v
      | .wo => d.command c who a v
      | .w1c => d.wr a (d.rd a &&& ~~~v)
      | .oneShot => if c.get (F.TSU_CMP_CFG_MODE ((a - 0xA1000) / 0x20)) = 3 then d.stage_ a v else d
      | _ => d
    | none => d

/-! The commands of the bus. -/

/-- REGISTER_WRITE. The boot code writes LK registers while it writes the protection set-up; the write of the lock word
locks (R10, R49, R50). -/
def execRegisterWrite (who : Requester) (addr val : Word) (s : State) : Out :=
  let a := addr.toNat
  if who == .boot && !s.cfg.locked && s.dyn.boot.stage == .setup && !s.dyn.boot.held && addr.toNat % 4 == 0 && isLk a then
    if a = Reg.BOOT_LOCK then execBootLock val s
    else
      let mask := ((regRow a).map (·.mask)).getD 0
      .next { s with cfg := { s.cfg with lk := sput 0 s.cfg.lk a (val &&& mask) } }
  else s.upd fun c d => d.busWrite c who addr val

/-- READ_CLEAR: a read of an RC register. -/
def execReadClear (who : Requester) (addr : Word) (s : State) : Out := s.upd fun c d => d.reads c who addr

/-- LATCHING_READ: a read of an LT register. -/
def execLatchingRead (who : Requester) (addr : Word) (s : State) : Out := s.upd fun c d => d.reads c who addr

/-- WRITE_ONE_CLEAR: a write of a W1C register. -/
def execWriteOneClear (who : Requester) (addr val : Word) (s : State) : Out := s.upd fun c d => d.busWrite c who addr val

/-- UNOCCUPIED_ACCESS: an access that is `narrow`, or to an address where no register answers the requester, is counted
and reads zero; any other acts as the plain read or write it is (R24). -/
def execUnoccupiedAccess (who : Requester) (addr : Word) (write narrow : Bool) (val : Word) (s : State) : Out :=
  s.upd fun c d =>
    if !d.portServed who then d
    else if narrow then
      if write then d.accErr addr else { d.accErr addr with readData := 0 }
    else if write then d.busWrite c who addr val
    else d.reads c who addr

/-! The register access service (R408–R410). STATUS: 0 OK, 1 DENIED, 2 BAD_REQUEST, 3 STALE_GEN, 4 WRONG_UNIT. -/

/-- The words of a request in ascending address order: data read, number denied, and the first index denied. -/
def Dyn.raWords (c : Cfg) (d : Dyn) (r : RaReq) : Dyn × List Word × Nat × Nat :=
  let who := Requester.client (BitVec.ofNat 4 r.client)
  (List.range r.count).foldl (fun (x : Dyn × List Word × Nat × Nat) i =>
    let (d, ws, n, first) := x
    let a := BitVec.ofNat 32 (r.addr + 4 * i)
    let ok := d.reaches c who a (r.op == 3)
    let n' := if ok then n else n + 1
    let first := if ok || n != 0 then first else i
    if r.op = 3 then (d.busWrite c who a (r.data.getD i 0), ws, n', first)
    else
      let (w, d) := d.busRead c who a
      (d, ws ++ [w], n', first)) (d, [], 0, 0)

def Dyn.session (d : Dyn) (k : Nat) : Session := sget Session.init d.net.sessions k
def Dyn.setSession (d : Dyn) (k : Nat) (x : Session) : Dyn :=
  { d with net := { d.net with sessions := sput Session.init d.net.sessions k x } }

/-- The reply, kept among the client's last 64. -/
def Dyn.raAnswer (c : Cfg) (d : Dyn) (r : RaReq) (tid : Word) (status : Nat) (denied : Word) (ws : List Word) : Dyn :=
  let m : Sent := .reply r.client tid status r.count denied d.fn ws
  let x := d.session r.client
  (d.setSession r.client { x with kept := ((tid, m) :: x.kept).take 64 }).tx c 3 m

/-- Execute one request. -/
def Dyn.raServe (c : Cfg) (d : Dyn) (r : RaReq) : Dyn :=
  let x := d.session r.client
  let gen := r.tid.extractLsb' 16 16
  match x.kept.find? fun e => e.1 == r.tid with
  | some e => d.tx c 3 e.2
  | none =>
    if r.op = 1 then
      if gen ≠ 0 then d.raAnswer c r r.tid 2 0 []
      else
        let g := if d.net.gen + 1 = 0 then 1 else d.net.gen + 1
        let d : Dyn := { d with net := { d.net with gen := g } }
        (d.setSession r.client { x with gen := g }).raAnswer c r (g ++ r.tid.extractLsb' 0 16) 0 0 []
    else if gen = 0 || gen ≠ x.gen then d.raAnswer c r r.tid 3 0 []
    else if r.op = 4 then (d.setSession r.client { x with gen := 0 }).raAnswer c r r.tid 0 0 []
    else
      let lim := if r.op = 2 then 256 else 64
      let sized := 1 ≤ r.count && r.count ≤ lim && (r.op == 2 || r.data.length == r.count)
      if !(r.addr % 4 == 0 && sized) then d.raAnswer c r r.tid 2 0 []
      else if r.unitB != d.unitB && 0x10000 ≤ r.addr then d.raAnswer c r r.tid 4 0 []
      else
        let (d, ws, n, first) := d.raWords c r
        let denied := if n = 0 then 0 else BitVec.ofNat 32 (first * 2 ^ 16 + n)
        d.raAnswer c r r.tid (if n = r.count then 1 else 0) denied ws

/-- At most 16 requests of a berm, in order of receipt. -/
def Dyn.raBerm (c : Cfg) (d : Dyn) : Dyn :=
  let now := d.net.waiting.take 16
  let d : Dyn := { d with net := { d.net with waiting := d.net.waiting.drop 16 } }
  (now.foldl (fun (d : Dyn) r => d.raServe c r) d).put F.NET_RA_STAT_COUNT (d.net.waiting.length)

/-! The register access service: receipt (R408, R410). Requests are executed in the berm. -/

/-- A waiting request, or BUSY beyond 64. While no frames run (start-up, JOINING, REPLAY) there is no berm to wait for, and it is
executed at once (DESIGN CHOICE, log entry 118). -/
def raRequest (k : BitVec 4) (h : StnHdr) (tid : Word) (op : Nat) (x : RaArgs) (st : State) : Out :=
  st.upd fun c d => d.onPort c h false fun d =>
    let k := k.toNat
    let body : StnBody := ⟨0x10, 0, false, raReqBytes tid op x.unitB x.count x.addr x.data⟩
    let ok := c.rd (Reg.NET_CLIENT k) != 0 && h.src == c.rd (Reg.NET_CLIENT k) && h.sender.toNat == 0x40 + k
    d.checked h body true ok (fun d => d) fun d =>
      if 64 ≤ d.net.waiting.length then
        (d.bump F.NET_RA_STAT_BUSY).tx c 3 (.reply k tid 5 x.count.toNat 0 d.fn [])
      else
        let r : RaReq := ⟨k, tid, op, x.unitB, x.addr.toNat, x.count.toNat, x.data⟩
        let d := ({ d with net := { d.net with waiting := d.net.waiting ++ [r] } } : Dyn).put F.NET_RA_STAT_COUNT
          (d.net.waiting.length + 1)
        if d.slc.framing then d else d.raBerm c

/-- RA_OPEN received. -/
def execRaOpen (k : BitVec 4) (h : StnHdr) (tid : Word) (x : RaArgs) (st : State) : Out := raRequest k h tid 1 x st
/-- RA_READ received. -/
def execRaRead (k : BitVec 4) (h : StnHdr) (tid : Word) (x : RaArgs) (st : State) : Out := raRequest k h tid 2 x st
/-- RA_WRITE received. -/
def execRaWrite (k : BitVec 4) (h : StnHdr) (tid : Word) (x : RaArgs) (st : State) : Out := raRequest k h tid 3 x st
/-- RA_CLOSE received. -/
def execRaClose (k : BitVec 4) (h : StnHdr) (tid : Word) (x : RaArgs) (st : State) : Out := raRequest k h tid 4 x st

end Sys2Proof.Machine
end

