-- ==== Sys2Proof/Machine/Latch.lean ====
section
/-! DEFINITION. The start of a frame (R74–R77): pre-wake and the input latch at T, with what begins at T in a twin. -/

namespace Sys2Proof.Machine

/-! Pre-wake (R76, R342). -/

/-- A measured value enters its register (DESIGN CHOICE, log entry 8: measurements come with the pre-wake); over a failed
coupler link none does (R314, R337). -/
def Dyn.measure (c : Cfg) (d : Dyn) : Measure → Dyn
  | .vin psB v => d.put (if psB then F.MOD_VIN_PSB else F.MOD_VIN_PSA) v.toNat
  | .rail r mv => d.put (railFld r.toNat) mv.toNat
  | .holdup v => d.put F.MOD_HOLDUP_VALUE v.toNat
  | .temp t => d.setTemp t
  | .power mw => d.put F.MOD_POWER_VALUE mw.toNat
  | .cap mv => d.put F.RTC_BACKUP_CAP_MV mv.toNat
  | .tcxo dev => d.put F.MOD_CLK_TCXO_DEV dev.toNat
  | .dio n pin cur =>
    if n.toNat < 96 then d.setMeas (Reg.DIO_MEAS n.toNat) (pin ++ cur) else d
  | .dioGroup g v cur =>
    if g.toNat < 6 then d.setMeas (Reg.DIO_GMEAS g.toNat) (v ++ cur) else d
  | .aio m h t =>
    d.setMeas (Reg.AIO_MEAS m.toNat) ((if c.anaMode m.toNat = 2 then h else 0) ++ t)
  | .aioGroup g v cur => d.setMeas (Reg.AIO_GMEAS g.toNat) (v ++ cur)
  | .flash bad wear out =>
    let d := (d.put F.JRN_FLASH_BAD_BLOCKS bad.toNat).put F.JRN_FLASH_WEAR wear.toNat
    if out then (d.setFlag F.JRN_STATUS_WORN true).stopCopies else d

/-- PRE_WAKE: 2 µs before the next T, 62 µs from DEEP DOZE, which ends; the record of the frame is complete (R445). -/
def execPreWake (meas : List Measure) (s : State) : Out :=
  s.upd fun c d =>
    let early := if d.flag F.TSU_STATUS_DEEP then 62000 else 2000
    let d := if d.slc.framing && !d.slc.first then d.advTo (d.atT (c.period - early)) else d
    meas.foldl (Dyn.measure c) (((d.finishRecord c).dozeTo false).setFlag F.TSU_STATUS_DEEP false)

/-! Joins that begin at T (R270 step 7, R273). -/

/-- SHL_XFER_KIND[p] to SHL_XFER_DROP[p] of a full join: KIND WARM, MATCH 1, every retentive item kept (R168, R281). -/
def Dyn.fullOutcome (c : Cfg) (d : Dyn) : Dyn :=
  polders.foldl (fun (d : Dyn) p =>
    if c.polder p then
      let kept := ((c.pimg p).map (·.symbols.length)).getD 0
      (((d.wr (Reg.SHL_XFER_KIND p) 0x12).wr (Reg.SHL_XFER_KEPT p) (BitVec.ofNat 32 kept)).wr (Reg.SHL_XFER_INIT p) 0).wr
        (Reg.SHL_XFER_DROP p) 0
    else d) d

/-- A mapped join at the joining unit: every polder warm-starts from the state received (R273). -/
def Dyn.mappedStart (c : Cfg) (d : Dyn) : Dyn :=
  polders.foldl (fun (d : Dyn) p =>
    if c.polder p then
      let src := (d.twin.mapSrc.find? fun e => e.1 == p).map (·.2)
      let d := (d.warmRestart c p (d.fn + 1) false src).setMode c p (if c.img.startStopped then 1 else 2)
      (((d.wr (Reg.SHL_XFER_KIND p) (d.rd (Reg.STN_RST_KIND p))).wr (Reg.SHL_XFER_KEPT p) (d.rd (Reg.STN_RST_KEPT p))).wr
        (Reg.SHL_XFER_INIT p) (d.rd (Reg.STN_RST_INIT p))).wr (Reg.SHL_XFER_DROP p) (d.rd (Reg.STN_RST_DROP p))
    else d) d

/-- The joining unit starts its frames, at T of frame L: what FN 0 does after the hand-over, and its compare units at the
targets of its partner's (R348, R362). -/
def Dyn.joinRuns (c : Cfg) (d : Dyn) : Dyn :=
  let d := (d.directoryAfterStart c).powerRestored c
  ({ d with boot := { d.boot with stage := .running },
            slc := { d.slc with framing := true, first := false } } : Dyn).startCompare c ((d.fn + 1).toNat * c.period)
    |>.enter (if c.img.startStopped then 2 else 1) 0

/-- What a joining unit takes from the agreed vector of its last checkpoint or record: the states of remote stations and CAN
channels as last agreed, and the values last received. -/
def Dyn.adopt (c : Cfg) (d : Dyn) : Dyn :=
  let d := (List.range 32).foldl (fun (d : Dyn) s =>
    if c.remote s then
      let last := (c.streamEntries (0x101 + s)).foldl (fun (m : SMap Word) e =>
        if e.2.1.bit 28 then m
        else (List.range (e.2.2.field 11 9)).foldl (fun m i =>
          sput 0 m (e.2.2.field 2 9 + i) (sget 0 d.agreed (e.2.2.field 20 12 + i))) m) []
      let n := last.foldl (fun k e => max k (e.1 + 1)) 0
      (d.wr (Reg.NET_RS_STATUS s) (sget 0 d.agreed (0x260 + s))).setRemote s fun r =>
        { r with last := (List.range n).map fun i => sget 0 last i }
    else d) d
  (List.range 4).foldl (fun (d : Dyn) k => d.setCan k fun x => { x with agreed := sget 0 d.agreed (0x280 + k) }) d

/-- T of the lockstep frame L: both units agree from here on; the first frame takes a checkpoint (R449). -/
def Dyn.beginTogether (c : Cfg) (d : Dyn) : Dyn :=
  let mapped := d.flag F.SHL_XFER_KIND
  let joiner := d.role == 4
  let d : Dyn := { d with twin := { d.twin with lockFn := none, matched := 0, recs := [] },
                          jrn := { d.jrn with ckptDue := true } }
  let d := d.renumber
  if mapped then
    let d : Dyn := { d with twin := { d.twin with mapped := 1 } }
    let d := d.put F.SHL_XFER_STATE 5
    if joiner then (((d.joinRuns c).mappedStart c).setRole c 5).setPeer c 2 else d.setPeer c 5
  else
    let d := (d.put F.SHL_XFER_STATE 4).setFlag F.SHL_STATUS_SPLIT false
    if joiner then
      let d := (d.finishArray c (d.extend d.slc.tFt - c.period)).adopt c
      let d := d.joinRuns c
      let d := d.setP0Flags c (d.p0Flags c)
      (((d.fullOutcome c).setRole c 6).setPeer c 2).setLockstep c true
    else (d.setPeer c 6).setLockstep c true

/-- Frame `fn` is the lockstep frame, and a joining unit of a full join is current. -/
def Dyn.joinsAt (d : Dyn) (fn : Word) : Bool :=
  d.twin.lockFn == some fn && d.joining &&
    (d.role != 4 || d.flag F.SHL_XFER_KIND || (d.fn + 1 == fn && d.twin.recs.isEmpty))

/-! The latch. -/

/-- T of the next frame: P after the previous one; at FN 0 the instant at which start-up ended; at a joining unit the
instant it has reached, its time base being locked to the master's. -/
def Dyn.nextT (c : Cfg) (d : Dyn) : Dyn :=
  if d.slc.first then d
  else if d.slc.framing && d.role != 4 then
    let t := d.atT c.period
    let d := d.advTo t
    { d with slc := { d.slc with tFt := t } }
  else { d with slc := { d.slc with tFt := d.ft } }

/-- FN increments, but for FN 0; time steps that are due take effect, and the PTP time at T is kept
with time status and calendar state (R74, R347, R354, R375); tasks unfinished from the frame before show as SPILLING (R104). -/
def Dyn.openFrame (c : Cfg) (d : Dyn) : Dyn :=
  let d := if d.slc.first then { d with slc := { d.slc with first := false } } else d.wr Reg.SLC_FN (d.fn + 1)
  let d := d.applyDue c
  let d := polders.foldl (fun (d : Dyn) p => d.setPolder p fun s => { s with left := s.tasks.map (·.1) }) d
  { d with slc := { d.slc with tSec := d.clk.sec, tNs := d.ptpNs, tStatus := d.timeStatus.setWidth 16,
                               tCal := d.rd Reg.RTC_CALSTATE },
           tsu := { d.tsu with stepped := false }, latches := d.latches + 1 }

/-- This unit's cells and its solver at T (R253, R292). -/
def Dyn.latchCells (c : Cfg) (d : Dyn) : Dyn :=
  (d.latchOwn c).canInterval.publishSolver c

/-- Solver cycles of the frame before are reported, and solver budgets renewed (R79). -/
def Dyn.renewSolver (c : Cfg) (d : Dyn) : Dyn :=
  let used := (polders.map fun p => (d.polder p).uSlv).sum
  let d := d.put F.SLV_ARRAY_USE_CYCLES used
  polders.foldl (fun (d : Dyn) p =>
    if c.polder p then
      (d.put (F.PLD_USE_SLV_AMOUNT p) (d.polder p).uSlv).setPolder p fun s =>
        { s with bSlv := c.get (F.PLD_BUD_SLV_AMOUNT p), uSlv := 0 }
    else d) d

/-- The agreement of the frame begins: INPUT is sent, or the own vector stands at once (R77, R253). -/
def Dyn.beginAgreement (c : Cfg) (d : Dyn) (carry : Bool) : Dyn :=
  if d.agreeing then
    ({ d with twin := { d.twin with agreeDue := true } } : Dyn).sendInput c carry
  else d.ownVector c

/-- The input latch of a unit that executes frames. -/
def Dyn.latchFrame (c : Cfg) (d : Dyn) : Dyn :=
  let d := (d.openFrame c).compareWrites c
  let carry := d.agreeing && !(d.unsent c).isEmpty
  let d := ((d.latchCells c).renewSolver c).captureSrc c 6 0
  let d := (d.autoJoin c).collectSlot c 0
  let d : Dyn := { d with twin := { d.twin with stnT := d.rd Reg.STN_STATE } }
  let d := d.sendTime c
  let d := (d.beginAgreement c carry).heartbeat c
  let d : Dyn := { d.pump c with jrn := { d.jrn with isOpen := true } }
  (d.put F.SLC_STATUS_PHASE 1).put F.SLC_STATUS_SLOT 0

/-- INPUT_LATCH at T. A unit in FAULT counts its frames and sends its heartbeat (R392), one too that gave up before its first
frame (R264); a joining unit sends its heartbeat until frame L. -/
def execInputLatch (s : State) : Out :=
  s.upd fun c d =>
    if !d.slc.framing && d.role != 4 && d.role != 7 then d
    else
      let d := ({ d with sent := [] } : Dyn).closeRecord c
      let d := (d.nextT c).twinBoundary c
      let d : Dyn := { d with twin := { d.twin with mapped := if d.twin.mapped = 0 then 0 else d.twin.mapped + 1 } }
      let fn := if d.role = 4 then d.frameNow + 1 else d.fn + 1
      let d := if d.joinsAt fn then (d.wr Reg.SLC_FN (fn - 1)).beginTogether c else d
      if d.role = 4 then (d.heartbeat c).pump c
      else if !d.running then ((((d.openFrame c).captureSrc c 6 0).heartbeat c).pump c).put F.SLC_STATUS_PHASE 1
      else d.latchFrame c

end Sys2Proof.Machine
end

