-- ==== Sys2Proof/Machine/Frame.lean ====
section
/-! DEFINITION. The frame from E to its doze (R76–R100): execution opens, slots are dispatched, the polder window and
execution close, signatures are exchanged, outputs commit and frames are released. -/

namespace Sys2Proof.Machine

/-- PHASE of SLC_STATUS. -/
def Dyn.phase (d : Dyn) : Nat := d.get F.SLC_STATUS_PHASE

/-- A step of the frame that follows phase `n`: it does nothing at another time; a module in FAULT counts the phase and
executes nothing. -/
def Dyn.inPhase (d : Dyn) (n next : Nat) (f : Dyn → Dyn) : Dyn :=
  if !d.slc.framing || d.phase != n then d
  else (if d.running then f d else d).put F.SLC_STATUS_PHASE next

/-- Every configured polder in turn. -/
def Dyn.eachPolder (c : Cfg) (d : Dyn) (f : Dyn → Nat → Dyn) : Dyn :=
  polders.foldl (fun (d : Dyn) p => if c.polder p then f d p else d) d

/-! Execution opens (R79, R82, R84–R86, R147). -/

/-- The start of the polder's frame: tasks that an earlier frame began and left unfinished come first, pre-emption ends, logic and
loop budgets renew (R79, R89). -/
def Dyn.renewPolder (c : Cfg) (d : Dyn) (p : Nat) : Dyn :=
  d.setPolder p fun s =>
    { s with carried := (s.tasks.map (·.1)).filter s.begun.contains, spilled := false, preempt := 0, faulted := false, unfinishedX := false,
             bLogic := c.get (F.PLD_BUD_LOGIC_AMOUNT p), bLoop := c.get (F.PLD_BUD_LOOP_AMOUNT p), uLogic := 0, uLoop := 0 }

/-- The start counter is tested before it is changed (R86); a start that falls due while a scan is unfinished, or in
HOLD, is dropped (R86, R154). -/
def Dyn.cyclicStart (c : Cfg) (d : Dyn) (p : Nat) : Dyn :=
  let s := d.polder p
  if d.mode p ≠ 2 && d.mode p ≠ 3 then d
  else if s.startCnt ≠ 0 then d.setPolder p fun s => { s with startCnt := s.startCnt - 1 }
  else
    let d := d.setPolder p fun s => { s with startCnt := c.get (F.PLD_CYCLIC_PERIOD p) - 1 }
    if d.mode p = 3 || s.tasks.any fun t => t.1 == 0 then d.bump (F.PLD_MISSED_COUNT p)
    else (d.applyBatch c p).startTask c p 0

/-- The error task is dispatched at E when causes are pending (R92, R147, R149), with the oldest; that of an entry into
FAULT comes first (DESIGN CHOICE, log entry 101). -/
def Dyn.errorStart (c : Cfg) (d : Dyn) (p : Nat) : Dyn :=
  let s := d.polder p
  match s.causes with
  | [] => d
  | k :: _ =>
    if (d.mode p = 2 || (d.mode p = 4 && s.errRun)) && !(s.tasks.any fun t => t.1 == 9) then
      (d.put (F.PLD_ERR_CAUSE p) k).startTask c p 9
    else d

/-- Event tasks with collected entries that are not popped become dispatchable (R147). -/
def Dyn.eventStarts (c : Cfg) (d : Dyn) (p : Nat) : Dyn :=
  if d.mode p ≠ 2 then d
  else (List.range 8).foldl (fun (d : Dyn) k =>
    let s := d.polder p
    if (s.evq.any fun e => e.task == k) && !(s.tasks.any fun t => t.1 == k + 1) then d.startTask c p (k + 1) else d) d

/-- What E brings before the dispatch of slot 0. -/
def Dyn.openPolders (c : Cfg) (d : Dyn) : Dyn :=
  let d := (d.lgeAtE c).eachPolder c fun d p => ((d.cleanBoundary c p).renewPolder c p).cyclicStart c p
  let d := (d.eachPolder c fun d p => d.errorStart c p).loopsDue c
  { d with slc := { d.slc with laneUse := [0, 0, 0, 0], pipes := (0, 0), evals := 0 } }

/-- EXECUTION_OPEN: E, the dispatch point of slot 0. -/
def execExecutionOpen (s : State) : Out :=
  s.upd fun c d => d.inPhase 1 2 fun d =>
    let d := ((d.advTo (d.atT 8000)).decideAgreement c).openPolders c
    (d.dispatchSlot c 0).eachPolder c fun d p => d.eventStarts c p

/-- EVENT_SLOT_DISPATCH: the dispatch point of slot `i` from 1 on. SLC_STATUS.SLOT changes here (DESIGN CHOICE, log entry
102). -/
def execEventSlotDispatch (i : BitVec 4) (s : State) : Out :=
  s.upd fun c d =>
    let i := i.toNat
    if d.get F.SLC_STATUS_SLOT < i then
      d.inPhase 2 2 fun d =>
        let d := (d.advTo (d.slotAt c i + 2000)).dispatchSlot c i
        let d := d.put F.SLC_STATUS_SLOT i
        d.eachPolder c fun d p => (d.setPolder p fun s => { s with carried := [] }).eventStarts c p
    else d

/-! The polder window closes (R88, R93, R97, R158). -/

/-- LGE_PC.TASK, PC, LA, WA, and the depths of both stacks at X. -/
def Polder.ctxNow (s : Polder) : Nat × Nat × Bool × Word × Nat × Nat :=
  match s.current with
  | some (k, t) => (k, t.pc, t.la, t.wa, t.calls.length, t.stack.length)
  | none => (15, 0, false, 0, 0, 0)

/-- X for polder `p`: a STEP that has run out holds it, a task beyond its segment faults, and an unfinished task is
pre-empted and spills. -/
def Dyn.closePolder (c : Cfg) (d : Dyn) (p : Nat) : Dyn :=
  let d := d.stepsDone c p
  let d := match d.able p with
    | some (k, t) =>
      let len := c.get (F.LGE_SEG_LEN_VALUE p)
      if len ≤ t.pc then d.programFault c p k 0x15 len else d
    | none => d
  let s := d.polder p
  let d := if !s.tasks.isEmpty && s.preempt = 0 && (d.mode p = 2 || d.mode p = 4) then d.spill c p 2 else d
  let d := if (d.polder p).preempt = 0 then d.put (F.PLD_SPILL_CONSEC p) 0 else d
  let kept := (c.loopsOf p).flatMap fun k => d.keepLoop c k
  d.setPolder p fun s => { s with unfinishedX := !s.tasks.isEmpty, atX := s.ctxNow, loopX := kept }

/-- POLDER_WINDOW_CLOSE: X, and what the berm carries, the requests of R410 also in FAULT; `burst` is the outcome of the berm's self-test burst (R262). -/
def execPolderWindowClose (burst : Bool) (s : State) : Out :=
  s.upd fun c d =>
    if !d.slc.framing || d.phase != 2 then d
    else
      let d := d.advTo (d.atT (8000 + 2 * c.winK))
      let d := if d.running then
          let d := (d.evalBy c (8000 + 2 * c.winK)).eachPolder c fun d p => d.closePolder c p
          { d with twin := { d.twin with burstOk := d.twin.burstOk && burst } }
        else d
      (d.raBerm c).put F.SLC_STATUS_PHASE 3

/-! Signature (R98, R261). -/

/-- The polder commits at C (R91, R92, R154): in RUN without an unfinished task at X; in FAULT when FAULT_SAFE is clear;
never in the frame of a program fault. -/
def Dyn.commits (c : Cfg) (d : Dyn) (p : Nat) : Bool :=
  c.polder p && !(d.polder p).unfinishedX && !(d.polder p).faulted &&
    (d.mode p == 2 || (d.mode p == 4 && !c.flag (F.PLD_CFG_FAULT_SAFE p)))

/-- What is released at a commit. -/
inductive Release where
  | output (s : Nat)
  | stream (id n : Nat)
  | entry (e : Nat)
  | queue (q : Nat)
  deriving DecidableEq, Repr

/-- The releases in class order, Garnet first (R98); within a class the cyclic frames and DEST 0 entries, then the queues
in number order. -/
def Cfg.releases (c : Cfg) : List Release :=
  let entries := c.idmap.filter fun e => e.2.1.field 30 2 == 1 && e.2.2.bit 29 && e.2.2.field 27 2 == 0
  (List.range 4).flatMap fun k =>
    (((List.range 32).filter fun s => c.remote s && c.classOf (c.get (F.NET_RS_CFG_OWNER s)) == k).map Release.output) ++
    ((c.txStreams.filter fun x => c.classOf x.2.1 == k).map fun x => Release.stream x.1 x.2.2) ++
    ((entries.filter fun e => c.classOf (e.2.2.field 23 4) == k).map fun e => Release.entry e.1) ++
    (((List.range 128).filter fun q => c.queueUsed q && !c.qReceive q && c.get (F.HQ_CFG_CLASS q) == k).map Release.queue)

/-- The owner of a DEST 0 transmit entry. -/
def Cfg.entryOwner (c : Cfg) (e : Nat) : Nat := (c.rd (0xD8000 + 8 * e + 4)).field 23 4

/-- The words of a station or CAN frame as it would be released, over a committed image. -/
def Dyn.releaseWords (c : Cfg) (d : Dyn) (ps : List Nat) : Release → List Word
  | .output s => BitVec.ofNat 32 (s + 1) :: d.txPayload c (s + 1) (c.get (F.NET_RS_CFG_OUT_LEN s) / 4)
  | .stream id n => if (c.txOwners id).any ps.contains then BitVec.ofNat 32 id :: d.txPayload c id n else []
  | .entry e =>
    if ps.contains (c.entryOwner e) then
      let w1 := c.rd (0xD8000 + 8 * e + 4)
      BitVec.ofNat 32 e :: (List.range ((canLen (w1.bit 17) (w1.field 0 4) + 3) / 4)).map fun i =>
        d.txWord (w1.field 4 12 + i)
    else []
  | .queue q =>
    match c.qKind q with
    | 0 => if c.timedQueue q then [] else (d.queue q).done.flatMap (·.words)
    | 1 => ((d.queue q).done.head?.map (·.words)).getD []
    | _ => []

/-- The image and the queues as the commit of the polders `ps` will leave them. -/
def Dyn.asCommitted (c : Cfg) (d : Dyn) (ps : List Nat) : Dyn :=
  let d := ps.foldl (fun (d : Dyn) p => (d.commitOut c p).qCommit c p) d
  { d with life := { d.life with outForces := d.life.forces } }

/-- EXECUTION_CLOSE: C − 4 µs. Every issued context has been evaluated, and the output signature and the release digest
are computed. -/
def execExecutionClose (s : State) : Out :=
  s.upd fun c d => d.inPhase 3 4 fun d =>
    let d := (d.advTo (d.atT (c.offset - 4000))).evalAll c
    let ps := polders.filter (d.commits c)
    let x := d.asCommitted c ps
    let crc := Config.digest (flatWords x.outC)
    let rel := Config.digest (c.releases.flatMap (x.releaseWords c ps))
    { d with jrn := { d.jrn with outCrc := crc, relDigest := rel } }

/-- SIGNATURE_EXCHANGE: C − 2 µs. SIG is sent in lockstep, with the verdict in frame V; the active unit of a full join
sends the frame's record (R270 step 4). -/
def execSignatureExchange (s : State) : Out :=
  s.upd fun c d => d.inPhase 4 4 fun d =>
    let d := d.advTo (d.atT (c.offset - 2000))
    let verdict := match d.twin.mismatch with
      | some (_, v) => if v = d.fn then some d.twin.burstOk else none
      | none => none
    let sig : Sig := ⟨d.jrn.outCrc, d.jrn.relDigest, verdict⟩
    let d := if d.lockstep then
        let d : Dyn := { d with twin := { d.twin with ownSig := some sig } }
        let v := match verdict with
          | some b => [1 + b2n b]
          | none => []
        (d.sendWords 5 ([sig.outCrc, sig.relDigest] ++ v.map (BitVec.ofNat 32))).compareSig c
      else d
    if d.role = 2 && !d.agreeing && d.get F.SHL_XFER_STATE = 3 && !d.flag F.SHL_XFER_KIND then
      d.sendShl 8 (.record d.recordNow)
    else d

/-! Commit and release (R91, R92, R98, R162, R262). -/

/-- CONSEC has reached SPILL_LIMIT in a frame in which the polder spilled (R92). An error task that spills so in FAULT makes
the polder enter FAULT again, without another run (DESIGN CHOICE, log entry 101). -/
def Dyn.spillLimit (c : Cfg) (d : Dyn) (p : Nat) : Dyn :=
  if (d.polder p).preempt ≠ 0 && c.get (F.PLD_CFG_SPILL_LIMIT p) ≤ d.get (F.PLD_SPILL_CONSEC p) then
    d.enterFault c p 1 (d.mode p == 2)
  else d

/-- The polder's entries, queues and journal requests are committed. -/
def Dyn.commitPolder (c : Cfg) (d : Dyn) (p : Nat) : Dyn :=
  let d := ((d.commitOut c p).qCommit c p).setPolder p fun s => { s with committed := true }
  (d.jrn.requests.filter fun r => r.1 == p).foldl (fun (d : Dyn) r => d.freeze c 3 r.2 d.fn) d

/-- The outputs of the polder stand at their safe values: in STOP, in FAULT with FAULT_SAFE, in HOLD with SAFE_ON_HOLD; from
then on until it commits in another mode (R92, R153, R154). -/
def Dyn.safeMode (c : Cfg) (d : Dyn) (p : Nat) (did : Bool) : Dyn :=
  let safe := d.mode p == 1 || (d.mode p == 4 && c.flag (F.PLD_CFG_FAULT_SAFE p)) ||
    (d.mode p == 3 && c.flag (F.LGE_CTRL_SAFE_ON_HOLD p))
  d.setPolder p fun s => { s with safeOut := safe || (s.safeOut && !did) }

/-- Role in which single outputs carry committed values: ACTIVE or SHADOW (R244). -/
def Dyn.drives (d : Dyn) : Bool := d.role == 2 || d.role == 3

/-- Output `n` of an owner is refreshed, or taken to its safe value. -/
def Dyn.commitDio (c : Cfg) (d : Dyn) (n : Nat) : Dyn :=
  if !c.isOut n then d
  else match c.digOwner n with
    | some p =>
      if (d.polder p).safeOut then (d.toSafe c n).unlatch c n
      else d.refresh c n ((d.polder p).committed && (d.drives || c.pairDo n))
    | none => if c.digUsed n then (d.toSafe c n).unlatch c n else d

def Dyn.commitAio (c : Cfg) (d : Dyn) (m : Nat) : Dyn :=
  if c.anaMode m ≠ 2 then d
  else match c.anaOwner m with
    | some p => if (d.polder p).safeOut then d.anaSafe c m else d.anaRefresh c m ((d.polder p).committed && (d.drives || c.pairAo m))
    | none => d.anaSafe c m

/-- Suppressed outputs keep what they received last while their watchdogs are refreshed (R262); the P0 flags are sources of
the unit's own matrix and go on. -/
def Dyn.holdField (c : Cfg) (d : Dyn) : Dyn :=
  let d : Dyn := { d with twin := { d.twin with fieldHeld := true } }
  let d := digitals.foldl (fun (d : Dyn) n => if c.isOut n then d.refresh c n false else d) d
  analogues.foldl (fun (d : Dyn) m => if c.anaMode m = 2 then d.anaRefresh c m false else d) d

/-- Output forces act, and P0's flags and test requests (R108, R125, R181). -/
def Dyn.commitFlags (c : Cfg) (d : Dyn) (ps : List Nat) : Dyn :=
  let d : Dyn := { d with life := { d.life with outForces := d.life.forces } }
  let d := if ps.contains 0 then d.leveeCommit c else d
  d.setP0Flags c (d.p0Flags c)

/-- What acts on the field at C: forces and flags, wire-break tests of the committing polders `ps`, and every output. -/
def Dyn.switchField (c : Cfg) (d : Dyn) (ps : List Nat) : Dyn :=
  let d := ({ d with twin := { d.twin with fieldHeld := false } } : Dyn).commitFlags c ps
  let d := d.pairsTo c d.sending d.drivesPair
  let d := digitals.foldl (fun (d : Dyn) n =>
    if (d.dig n).wb && (c.digOwner n).any ps.contains then
      (d.setDig n fun s => { s with wb := false }).startWb c n
    else d) d
  let d := digitals.foldl (fun (d : Dyn) n => d.commitDio c n) d
  analogues.foldl (fun (d : Dyn) m => d.commitAio c m) d

/-- One release. -/
def Dyn.release1 (c : Cfg) (d : Dyn) (ps : List Nat) : Release → Dyn
  | .output s => d.sendOutput c s
  | .stream id n => if (c.txOwners id).any ps.contains then d.sendStream c (c.streamClass id) id n else d
  | .entry e => if ps.contains (c.entryOwner e) then d.canEntryRelease c e else d
  | .queue q =>
    match c.qKind q with
    | 0 => d.canQueueRelease c q
    | 1 => d.sendQueue c q
    | 3 => d.sendAlarms c q
    | _ => d

/-- Release in class order; a unit that suppresses releases as one that does not send. -/
def Dyn.releaseAll (c : Cfg) (d : Dyn) (ps : List Nat) : Dyn :=
  let r := d.role
  let d := if d.twin.suppress then d.put F.SHL_STATUS_ROLE 6 else d
  let d := c.releases.foldl (fun (d : Dyn) x => d.release1 c ps x) d
  d.put F.SHL_STATUS_ROLE r

/-- LGE_PC, LGE_ACC and LGE_WA of the completed frame (R158). -/
def Dyn.showCtx (d : Dyn) (p : Nat) : Dyn :=
  let (k, pc, la, wa, calls, stack) := (d.polder p).atX
  if k = 15 then d.noTask p
  else
    ((d.wr (Reg.LGE_PC p) (BitVec.ofNat 32 (k * 2 ^ 28 + pc))).wr (Reg.LGE_ACC p)
      (BitVec.ofNat 32 (b2n la * 2 ^ 31 + calls * 2 ^ 16 + stack))).wr (Reg.LGE_WA p) wa

/-- The registers that report the last completed frame; a frame counts as completed from its commit (DESIGN CHOICE, log
entry 18). -/
def Dyn.report (c : Cfg) (d : Dyn) : Dyn :=
  let spilled := bitMap 16 fun p => (d.polder p).spilled
  let d := d.wr Reg.SLC_SPILL_MAP spilled
  let d := (List.range 4).foldl (fun (d : Dyn) l => d.put (F.SLC_LANE_USE_CYCLES l) (d.slc.laneUse.getD l 0)) d
  let d := d.eachPolder c fun d p =>
    let s := d.polder p
    let d := (d.put (F.PLD_USE_LOGIC_AMOUNT p) s.uLogic).put (F.PLD_USE_LOOP_AMOUNT p) s.uLoop
    (d.put (F.PLD_PEAK_LOGIC_AMOUNT p) (max (d.get (F.PLD_PEAK_LOGIC_AMOUNT p)) s.uLogic)).showCtx p
  d.put F.LPE_EVALS_COUNT d.slc.evals

/-- The checkpoint of a join; that of a mapped join holds the retentive state of every polder, of one that has committed no
snapshot yet as it stands (R273). -/
def Dyn.joinState (c : Cfg) (d : Dyn) : Checkpoint :=
  let d := if d.flag F.SHL_XFER_KIND then d.eachPolder c fun d p =>
      if (d.polder p).snap.isSome then d else d.setPolder p fun s => { s with snap := some (d.takeRec c p) }
    else d
  d.joinCkpt c

/-- It is sent at the first commit after the lock, and in a mapped join again at every commit (R270, R273). -/
def Dyn.joinCheckpoint (c : Cfg) (d : Dyn) : Dyn :=
  if d.role ≠ 2 || d.agreeing then d
  else if d.get F.SHL_XFER_STATE = 2 then (d.sendShl 8 (.checkpoint (d.joinState c))).put F.SHL_XFER_STATE 3
  else if d.get F.SHL_XFER_STATE = 3 && d.flag F.SHL_XFER_KIND then d.sendShl 8 (.checkpoint (d.joinState c))
  else d

/-- The jobs of a polder that has entered STOP or FAULT are cancelled (R222). -/
def Dyn.dropJobs (c : Cfg) (d : Dyn) (p : Nat) : Dyn :=
  if (d.polder p).jobsEnd then
    (c.slotsOf p).foldl (fun (d : Dyn) s => d.cancelJob c s) (d.setPolder p fun s => { s with jobsEnd := false })
  else d

/-- The commit of the program state: spill limits, output entries, queues, requests; the polders that committed. -/
def Dyn.commitPolders (c : Cfg) (d : Dyn) : Dyn × List Nat :=
  let d := d.eachPolder c fun d p => d.spillLimit c p
  let ps := polders.filter (d.commits c)
  let d := ps.foldl (fun (d : Dyn) p => d.commitPolder c p) d
  let d : Dyn := { d with jrn := { d.jrn with requests := [] } }
  (d.eachPolder c fun d p => (d.safeMode c p (ps.contains p)).dropJobs c p, ps)

/-- From its first commit on the module drives its outputs (R44). -/
def Dyn.openOutputs (d : Dyn) : Dyn := { d with slc := { d.slc with opened := true } }

/-- COMMIT at C, and the release that follows. -/
def execCommit (s : State) : Out :=
  s.upd fun c d =>
    let d := if d.slc.framing && d.phase = 4 then
        let d := (d.advTo (d.atT c.offset)).sigMissing.twinCommit c
        if !c.twin && d.modState == 3 then d.gap else d
      else d
    d.inPhase 4 5 fun d =>
      if d.slc.commitOff then d
      else
        let (d, ps) := (Dyn.openOutputs d).commitPolders c
        let d := if d.twin.suppress then (d.holdField c).commitFlags c ps else d.switchField c ps
        let d := d.releaseAll c ps
        let live := ps.filter fun p => d.mode p == 2
        let d := live.foldl (fun (d : Dyn) p => d.snapshot c p) d
        let d := if live.isEmpty then d else d.copyOut c
        let d := ((d.captureDue c).joinCheckpoint c).report c
        (if c.twin && d.role ≠ 2 && d.role ≠ 3 && d.peerRole ≠ 2 then d.gap else d).pump c

/-! Doze (R99, R471, R472). -/

/-- The conditions of DEEP DOZE. Onyx work: register access, journal copying, updates and RTC commands. -/
def Dyn.mayDeep (c : Cfg) (d : Dyn) : Bool :=
  c.flag F.SLC_CTRL_DEEP_DOZE_EN && !c.twin && c.get F.TSU_CFG_ROLE == 0 && decide (20000 ≤ c.periodUs) &&
    !((List.range 8).any fun s => (d.slot s).job.busy) && d.net.waiting.isEmpty &&
    d.jrn.copying.isEmpty && d.get F.BOOT_CMD_STAT_STATUS != 1 && d.get F.RTC_CMD_STAT_STATUS != 1

/-- DOZE: after the release, until the next pre-wake. -/
def execDoze (s : State) : Out :=
  s.upd fun c d =>
    if d.slc.framing && d.phase = 5 then
      let deep := d.running && d.mayDeep c
      (((d.dozeTo true).put F.SLC_STATUS_PHASE 0).setFlag F.SLC_STATUS_DEEP deep).setFlag F.TSU_STATUS_DEEP deep
    else d

end Sys2Proof.Machine
end

