-- ==== Sys2Proof/Machine/Replay.lean ====
section
/-! DEFINITION. Execution of a frame from its record (R270 step 5, R458–R460): the four lanes, the loop pipelines and the
solver array advance in time on a copy of the program state, fed from the record alone. -/

namespace Sys2Proof.Machine

/-- A frame in execution: T in ns, when each lane is free and which contexts are evaluated when, in ns since T. -/
structure Run where
  d : Dyn
  base : Nat
  lanes : List Nat
  loops : List (Nat × Nat)
  deriving DecidableEq, Repr

/-- The clock stands `t` ns after T. -/
def Run.clock (r : Run) (t : Nat) : Run := { r with d := { r.d with clk := { r.d.clk with ft := (r.base + t) * 2 ^ 24 } } }

/-- Loop evaluations and array steps up to `t` have taken place. -/
def Run.to (c : Cfg) (r : Run) (t : Nat) : Run :=
  let due := r.loops.filter fun (e : Nat × Nat) => e.2 ≤ t
  let r := { r with d := due.foldl (fun (d : Dyn) (e : Nat × Nat) => d.evalIssued c e.1) r.d,
                    loops := r.loops.filter fun (e : Nat × Nat) => t < e.2 }
  Run.clock { r with d := r.d.arrayTo c (r.base + t) c.arrayFuel } t

/-- The results of contexts newly issued are written 20 lane cycles after their issue (R190). -/
def Run.takeLoops (c : Cfg) (r : Run) : Run :=
  let new := (List.range 128).filter fun k =>
    (r.d.loop k).issued.isSome && (c.primaryOf k).isNone && !(r.loops.any fun e => e.1 == k)
  new.foldl (fun (r : Run) k =>
    let done := (c.unitOf k).filterMap fun j => (r.d.loop j).issued.map fun e => (j, e.1 + 40)
    { r with loops := r.loops ++ done }) r

/-- The instruction word at `pc` of polder `p`; an address that the image does not list holds zero. -/
def Cfg.wordAt (c : Cfg) (p pc : Nat) : Word :=
  (((c.pimg p).bind fun i => i.program.find? fun e => e.1 == pc).map (·.2)).getD 0

/-- The lane that issues next before `lim`, its polder, task and instant. -/
def Run.next (c : Cfg) (r : Run) (lim : Nat) : Option (Nat × Nat × TaskCtx × Nat) :=
  (List.range 4).foldl (fun (best : Option (Nat × Nat × TaskCtx × Nat)) l =>
    let t := r.lanes.getD l 0
    if lim ≤ t || best.any fun b => b.2.2.2 ≤ t then best
    else
      match polders.findSome? fun p =>
          if r.d.home p = l then (r.d.ready c p).map fun k => (p, k.2) else none with
      | some (p, k) => some (l, p, k, t)
      | none => best) none

/-- The lanes run until `lim` ns after T (R82, R87). -/
def Run.lanesTo (c : Cfg) (lim : Nat) : Nat → Run → Run
  | 0, r => r
  | n + 1, r =>
    match r.next c lim with
    | none => r
    | some (l, p, k, t) =>
      let r := r.to c t
      let w := c.wordAt p k.pc
      let used := (r.d.polder p).uLogic
      let d := r.d.issue c p (fun d k => wordCycles w c d p k) (wordEffect w)
      let d := d.stepsDone c p
      let r := { r with d := d, lanes := r.lanes.set l (t + 2 * ((d.polder p).uLogic - used)) }
      (r.takeLoops c).lanesTo c lim n

/-- Instructions and pre-emptions of one slot, at most. -/
def Cfg.laneFuel (c : Cfg) : Nat := 4 * c.winK + 256

/-! The record's items. -/

/-- The entries of SLOT items of slot `i`. -/
def JRec.slot (r : JRec) (i : Nat) : List EvEntry :=
  (r.items.filter fun x => x.kind == 2 && x.payload.head? == some (BitVec.ofNat 32 i)).flatMap fun x =>
    (List.range ((x.payload.length - 1) / 4)).map fun k =>
      let w := fun (j : Nat) => x.payload.getD (1 + 4 * k + j) 0
      ⟨(w 0).field 24 8, (w 0).field 20 4, (w 0).field 16 4, (w 0).field 0 16, w 1, w 2, w 3⟩

/-- The changed words of an INPUT item: bitmap, then values. -/
def inputWords (ws : List Word) : List (Nat × Word) :=
  ((List.range 4096).filter fun k => (ws.getD (k / 32) 0).bit (k % 32)).zip (ws.drop 128)

/-- The agreed vector of the record (R447): its words, the time items, and arrivals for queues. -/
def Dyn.replayVector (c : Cfg) (d : Dyn) (r : JRec) : Dyn :=
  r.items.foldl (fun (d : Dyn) x =>
    match x.kind with
    | 1 => { d with agreed := sputs 0 d.agreed (inputWords x.payload) }
    | 3 =>
      if 5 < x.payload.length then
        (d.qPut c ((x.payload.getD 5 0).toNat) ⟨d.latches, x.payload.drop 6⟩).1
      else d
    | 5 => { d with agreed := sputs 0 d.agreed [(0x1000, x.payload.getD 0 0), (0x1001, x.payload.getD 1 0)] }
    | _ => d) d

/-- The error causes that a change of remote station and CAN status words makes pending (R399). -/
def Dyn.replayCauses (c : Cfg) (d : Dyn) (old : SMap Word) : Dyn :=
  let st := fun (m : SMap Word) (s : Nat) =>
    (((sget 0 m (0x260 + s)).field (F.NET_RS_STATUS_STATE s).lo (F.NET_RS_STATUS_STATE s).width))
  let d := (List.range 32).foldl (fun (d : Dyn) s =>
    if c.remote s && st old s != st d.agreed s then
      let p := c.get (F.NET_RS_CFG_OWNER s)
      if st d.agreed s = 3 then d.addCause c p 0x41 else if st old s = 3 then d.addCause c p 0x40 else d
    else d) d
  (List.range 4).foldl (fun (d : Dyn) k =>
    (d.setCan k fun x => { x with agreed := sget 0 old (0x280 + k) }).canAgreed c k) d

/-- Requester, address and value of the COMMAND items. -/
def JRec.writes (r : JRec) : List (Nat × Nat × Word) :=
  (r.items.filter fun x => x.kind == 4).map fun x =>
    ((x.payload.getD 0 0).toNat, (x.payload.getD 1 0).toNat, x.payload.getD 2 0)

/-! One frame. -/

/-- From the commit of the frame before to E: its last array steps, the input latch and what E brings. -/
def Run.start (c : Cfg) (d : Dyn) (r : JRec) : Run :=
  let base := r.ft.toNat + 2 ^ 32
  let d := d.finishArray c (base - c.period)
  let d : Dyn := { (d.wr Reg.SLC_FN r.fn).enter 1 0 with
    slc := { d.slc with tFt := r.ft, framing := true, commitOff := false }, latches := d.latches + 1 }
  let d := ((d.put F.SHL_STATUS_ROLE 6).setFlag F.SHL_STATUS_LOCKSTEP false).put F.SLC_STATUS_PHASE 1
  let d : Dyn := { d with twin := { d.twin with mapped := 0, fieldHeld := false } }
  let d := ((d.publishSolver c).renewSolver c).collectSlot c 0
  let old := d.agreed
  let d := ((d.replayVector c r).replayCauses c old).applyWrites c [] r.writes
  let d := polders.foldl (fun (d : Dyn) p => d.setPolder p fun s => { s with trig := s.trig.filter fun e => !e.external }) d
  let d := (d.refreshViews c).put F.SLC_STATUS_PHASE 2
  let x := Run.clock { d := d, base := base, lanes := [8000, 8000, 8000, 8000], loops := [] } 8000
  { x with d := x.d.openPolders c }

/-- The dispatch point of slot `i` and the lanes up to `lim`. -/
def Run.slotTo (c : Cfg) (r : JRec) (x : Run) (i lim : Nat) : Run :=
  let t := if i = 0 then 8000 else 8000 + 2 * i * c.slotS + 2000
  let x := x.to c t
  let d := x.d.deliver c i (r.slot i)
  let d := if i = 0 then d else d.eachPolder c fun d p => d.setPolder p fun s => { s with carried := [] }
  let x := { x with d := d.eachPolder c fun d p => d.eventStarts c p, lanes := x.lanes.map (max t) }
  x.lanesTo c lim c.laneFuel

/-- The frame of record `r` on the program state of `d`: the state after its commit, its signature and its digest. -/
def Dyn.runFrame (c : Cfg) (d : Dyn) (r : JRec) : Dyn × Word × Word :=
  let xAt := 8000 + 2 * c.winK
  let x := (List.range 16).foldl (fun x i =>
    x.slotTo c r i (if i = 15 then xAt else 8000 + 2 * (i + 1) * c.slotS + 2000)) (Run.start c d r)
  let x := x.to c xAt
  let d := x.d.eachPolder c fun d p => d.closePolder c p
  let x := Run.to c { x with d := d.put F.SLC_STATUS_PHASE 4 } (c.offset - 4000)
  let d := x.d.evalAll c
  let ps := polders.filter (d.commits c)
  let y := d.asCommitted c ps
  let crc := Config.digest (flatWords y.outC)
  let rel := Config.digest (c.releases.flatMap (y.releaseWords c ps))
  let x := Run.to c { x with d := d, loops := [] } c.offset
  let (d, ps) := x.d.commitPolders c
  let d := (d.commitFlags c ps).releaseAll c ps
  let live := ps.filter fun p => d.mode p == 2
  ((live.foldl (fun (d : Dyn) p => d.snapshot c p) d).report c, crc, rel)

/-! Catch-up of a joining unit (R270 step 5). -/

/-- CATCH_UP_FRAME: the next record is executed and its signatures compared; a difference fails the join. A unit that
executes a frame in the frame in which its record arrived is current, and sends READY (step 6). -/
def execCatchUpFrame (s : State) : Out :=
  s.upd fun c d =>
    if d.role ≠ 4 || d.get F.SHL_XFER_STATE ≠ 3 || d.flag F.SHL_XFER_KIND then d
    else
      match d.twin.recs.find? fun x => x.2.fn == d.fn + 1 with
      | none => d
      | some (arrived, r) =>
        let (x, crc, rel) := d.runFrame c r
        let d := d.loadCheckpoint (x.joinCkpt c)
        let d : Dyn := { d with twin := { d.twin with recs := d.twin.recs.filter fun x => later x.2.fn r.fn } }
        if crc ≠ r.outCrc || rel ≠ r.relDigest then d.joinFail c 2
        else if arrived = d.frameNow && !d.twin.current then
          ({ d with twin := { d.twin with current := true } } : Dyn).sendReady
        else d

/-! Replay (R458–R460). JRN_REPLAY.STATE: 1 RUNNING, 2 PAUSED, 3 MATCHED, 4 DIVERGED, 5 BROKEN, 6 REFUSED. -/

/-- What the frame reported: agreed alarm records and freeze triggers arise in REPLAY too (R450). -/
def Dyn.keepsJournal (d x : Dyn) : Dyn :=
  let d := (d.wr Reg.NET_ALM_EVN (x.rd Reg.NET_ALM_EVN)).wr Reg.JRN_STATUS (x.rd Reg.JRN_STATUS)
  { d with alarms := x.alarms, nv := { d.nv with windows := x.nv.windows }, jrn := { x.jrn with items := [], trigger := false } }

/-- A frame executed in REPLAY enters the ring as one executed in operation does, with its own signature (log entry 113). -/
def Dyn.recordReplayed (c : Cfg) (d : Dyn) (r : JRec) (k : Checkpoint) : Dyn :=
  let d := if r.ckpt then ({ d with jrn := { d.jrn with ckpts := k.seal :: d.jrn.ckpts } } : Dyn).collectCkpt k.seal else d
  (d.copyRuns c).pushRecord c { r with crc := r.crcOf }

/-- One frame of the window in replay, compared with its record; the window's end ends the replay. -/
def Dyn.replayOne (c : Cfg) (d : Dyn) : Dyn :=
  match d.jrn.playing with
  | [] => d.put F.JRN_REPLAY_STATE (if d.rd Reg.JRN_DIFF_CNT = 0 then 3 else 4)
  | r :: rest =>
    if !r.crcOk || r.gap then
      ({ d with jrn := { d.jrn with playing := [] } } : Dyn).put F.JRN_REPLAY_STATE 5
    else
      let (x, crc, rel) := d.runFrame c r
      let k := x.takeCheckpoint c
      let same := crc == r.outCrc && rel == r.relDigest &&
        (!r.ckpt || match d.jrn.playCk.find? fun y => y.fn == r.fn with
          | some y => y.sha == k.seal.sha
          | none => true)
      let d := (d.keepsJournal x).recordReplayed c { r with outCrc := crc, relDigest := rel } k
      let d := (d.loadCheckpoint k).wr Reg.JRN_RP_FN r.fn
      let d := ({ d with slc := { d.slc with tFt := r.ft }, jrn := { d.jrn with playing := rest } } : Dyn).collected
      let d := if same then d
        else
          let d := if d.rd Reg.JRN_DIFF_CNT = 0 then d.wr Reg.JRN_DIFF_FN r.fn else d
          (d.wr Reg.JRN_DIFF_CNT (d.rd Reg.JRN_DIFF_CNT + 1)).put F.JRN_REPLAY_STATE 4
      if rest.isEmpty && d.rd Reg.JRN_DIFF_CNT = 0 then d.put F.JRN_REPLAY_STATE 3 else d

/-- REPLAY_FRAME: the next record, unless the replay is paused before it. -/
def execReplayFrame (s : State) : Out :=
  s.upd fun c d =>
    let st := d.get F.JRN_REPLAY_STATE
    if d.modState ≠ 4 || (st ≠ 1 && st ≠ 4) then d
    else if d.jrn.pauseAt.any fun n => (d.jrn.playing.head?).any fun r => r.fn == n then
      ({ d with jrn := { d.jrn with pauseAt := none } } : Dyn).put F.JRN_REPLAY_STATE 2
    else (d.replayOne c).pump c

/-- STEP_FRAME written: one frame runs, and the replay stays paused unless its window ends. -/
def execStepFrame (who : Requester) (s : State) : Out :=
  s.upd fun c d => d.gated c who Reg.JRN_CMD fun d =>
    let d := d.jrnCmd c 8
    if !d.jrn.stepOne then d
    else
      let d := (({ d with jrn := { d.jrn with stepOne := false } } : Dyn).replayOne c).pump c
      if d.jrn.playing.isEmpty then d else d.put F.JRN_REPLAY_STATE 2

end Sys2Proof.Machine
end

