-- ==== Sys2Proof/Machine/Dispatch.lean ====
section
/-! DEFINITION. The dispatch of the commands, one arm per constructor of Instr. -/

namespace Sys2Proof.Machine

/-- The effect of one command. -/
def exec (i : Instr) (s : State) : Host.Outcome State Fault Refusal :=
  match i with
  | .powerOnReset unitB stnId jumper => Sys2Proof.Machine.execPowerOnReset unitB stnId jumper s
  | .bootLock word => Sys2Proof.Machine.execBootLock word s
  | .keyInserted k => Sys2Proof.Machine.execKeyInserted k s
  | .updWrite who target => Sys2Proof.Machine.execUpdWrite who target s
  | .updDone who target => Sys2Proof.Machine.execUpdDone who target s
  | .verifyPending who target => Sys2Proof.Machine.execVerifyPending who target s
  | .requestActivate who target => Sys2Proof.Machine.execRequestActivate who target s
  | .cancelActivate who target => Sys2Proof.Machine.execCancelActivate who target s
  | .erasePending who target => Sys2Proof.Machine.execErasePending who target s
  | .provisioningPackage pkg => Sys2Proof.Machine.execProvisioningPackage pkg s
  | .serviceAuthorisation auth => Sys2Proof.Machine.execServiceAuthorisation auth s
  | .preWake meas => Sys2Proof.Machine.execPreWake meas s
  | .eventSlotBoundary n => Sys2Proof.Machine.execEventSlotBoundary n s
  | .eventSlotDispatch n => Sys2Proof.Machine.execEventSlotDispatch n s
  | .budgetExhaustion p cost => Sys2Proof.Machine.execBudgetExhaustion p cost s
  | .polderWindowClose burst => Sys2Proof.Machine.execPolderWindowClose burst s
  | .ld p sp a => Sys2Proof.Machine.execLd p sp a s
  | .ldn p sp a => Sys2Proof.Machine.execLdn p sp a s
  | .and p sp a => Sys2Proof.Machine.execAnd p sp a s
  | .andn p sp a => Sys2Proof.Machine.execAndn p sp a s
  | .or p sp a => Sys2Proof.Machine.execOr p sp a s
  | .orn p sp a => Sys2Proof.Machine.execOrn p sp a s
  | .xor p sp a => Sys2Proof.Machine.execXor p sp a s
  | .not p sp a => Sys2Proof.Machine.execNot p sp a s
  | .push p sp a => Sys2Proof.Machine.execPush p sp a s
  | .popa p sp a => Sys2Proof.Machine.execPopa p sp a s
  | .popo p sp a => Sys2Proof.Machine.execPopo p sp a s
  | .st p sp a => Sys2Proof.Machine.execSt p sp a s
  | .stn p sp a => Sys2Proof.Machine.execStn p sp a s
  | .set p sp a => Sys2Proof.Machine.execSet p sp a s
  | .rst p sp a => Sys2Proof.Machine.execRst p sp a s
  | .edr p sp a => Sys2Proof.Machine.execEdr p sp a s
  | .edf p sp a => Sys2Proof.Machine.execEdf p sp a s
  | .tmr p sp a => Sys2Proof.Machine.execTmr p sp a s
  | .cnt p sp a => Sys2Proof.Machine.execCnt p sp a s
  | .ldw p sp a => Sys2Proof.Machine.execLdw p sp a s
  | .stw p sp a => Sys2Proof.Machine.execStw p sp a s
  | .ldk p sp a => Sys2Proof.Machine.execLdk p sp a s
  | .add p sp a => Sys2Proof.Machine.execAdd p sp a s
  | .sub p sp a => Sys2Proof.Machine.execSub p sp a s
  | .mul p sp a => Sys2Proof.Machine.execMul p sp a s
  | .div p sp a => Sys2Proof.Machine.execDiv p sp a s
  | .andw p sp a => Sys2Proof.Machine.execAndw p sp a s
  | .orw p sp a => Sys2Proof.Machine.execOrw p sp a s
  | .shl p sp a => Sys2Proof.Machine.execShl p sp a s
  | .shr p sp a => Sys2Proof.Machine.execShr p sp a s
  | .cmpeq p sp a => Sys2Proof.Machine.execCmpeq p sp a s
  | .cmpne p sp a => Sys2Proof.Machine.execCmpne p sp a s
  | .cmplt p sp a => Sys2Proof.Machine.execCmplt p sp a s
  | .cmple p sp a => Sys2Proof.Machine.execCmple p sp a s
  | .cmpgt p sp a => Sys2Proof.Machine.execCmpgt p sp a s
  | .cmpge p sp a => Sys2Proof.Machine.execCmpge p sp a s
  | .min p sp a => Sys2Proof.Machine.execMin p sp a s
  | .max p sp a => Sys2Proof.Machine.execMax p sp a s
  | .lim p sp a => Sys2Proof.Machine.execLim p sp a s
  | .jmp p sp a => Sys2Proof.Machine.execJmp p sp a s
  | .jc p sp a => Sys2Proof.Machine.execJc p sp a s
  | .jnc p sp a => Sys2Proof.Machine.execJnc p sp a s
  | .call p sp a => Sys2Proof.Machine.execCall p sp a s
  | .ret p sp a => Sys2Proof.Machine.execRet p sp a s
  | .endTask p sp a => Sys2Proof.Machine.execEndTask p sp a s
  | .illegalOpcode p word => Sys2Proof.Machine.execIllegalOpcode p word s
  | .runPastEnd p => Sys2Proof.Machine.execRunPastEnd p s
  | .sysInvalid p n => Sys2Proof.Machine.execSysInvalid p n s
  | .evqPop p => Sys2Proof.Machine.execEvqPop p s
  | .errInfo p => Sys2Proof.Machine.execErrInfo p s
  | .flags p => Sys2Proof.Machine.execFlags p s
  | .qmul p => Sys2Proof.Machine.execQmul p s
  | .stx p => Sys2Proof.Machine.execStx p s
  | .budget p => Sys2Proof.Machine.execBudget p s
  | .loopWrite p => Sys2Proof.Machine.execLoopWrite p s
  | .loopRead p => Sys2Proof.Machine.execLoopRead p s
  | .loopBank p => Sys2Proof.Machine.execLoopBank p s
  | .slvSubmit p => Sys2Proof.Machine.execSlvSubmit p s
  | .slvRead p => Sys2Proof.Machine.execSlvRead p s
  | .slvCancel p => Sys2Proof.Machine.execSlvCancel p s
  | .qSend p => Sys2Proof.Machine.execQSend p s
  | .qRecv p => Sys2Proof.Machine.execQRecv p s
  | .qFill p => Sys2Proof.Machine.execQFill p s
  | .chanDiag p => Sys2Proof.Machine.execChanDiag p s
  | .chanTest p => Sys2Proof.Machine.execChanTest p s
  | .jrnFreeze p => Sys2Proof.Machine.execJrnFreeze p s
  | .regRead p => Sys2Proof.Machine.execRegRead p s
  | .regWrite p => Sys2Proof.Machine.execRegWrite p s
  | .calFromPtp p => Sys2Proof.Machine.execCalFromPtp p s
  | .calToPtp p => Sys2Proof.Machine.execCalToPtp p s
  | .breakpointHit p => Sys2Proof.Machine.execBreakpointHit p s
  | .stepComplete p => Sys2Proof.Machine.execStepComplete p s
  | .runCold who p => Sys2Proof.Machine.execRunCold who p s
  | .runWarm who p => Sys2Proof.Machine.execRunWarm who p s
  | .stop who p => Sys2Proof.Machine.execStop who p s
  | .hold who p => Sys2Proof.Machine.execHold who p s
  | .step who p arg => Sys2Proof.Machine.execStep who p arg s
  | .continue_ who p => Sys2Proof.Machine.execContinue who p s
  | .bpSet who p bp arg => Sys2Proof.Machine.execBpSet who p bp arg s
  | .bpClr who p bp => Sys2Proof.Machine.execBpClr who p bp s
  | .varWrite who p => Sys2Proof.Machine.execVarWrite who p s
  | .kCommit who p => Sys2Proof.Machine.execKCommit who p s
  | .kCancel who p => Sys2Proof.Machine.execKCancel who p s
  | .forceSet who => Sys2Proof.Machine.execForceSet who s
  | .forceClr who => Sys2Proof.Machine.execForceClr who s
  | .forceClrPolder who p => Sys2Proof.Machine.execForceClrPolder who p s
  | .loopEvaluation k => Sys2Proof.Machine.execLoopEvaluation k s
  | .sourceChange src level => Sys2Proof.Machine.execSourceChange src level s
  | .termHoldElapsed t => Sys2Proof.Machine.execTermHoldElapsed t s
  | .planeMismatch gates flags => Sys2Proof.Machine.execPlaneMismatch gates flags s
  | .arrayBerm ok => Sys2Proof.Machine.execArrayBerm ok s
  | .pair r => Sys2Proof.Machine.execPair r s
  | .inputMessage msg => Sys2Proof.Machine.execInputMessage msg s
  | .slotMessage h n entries => Sys2Proof.Machine.execSlotMessage h n entries s
  | .slotAgreementDeadline n => Sys2Proof.Machine.execSlotAgreementDeadline n s
  | .sigMessage h sig => Sys2Proof.Machine.execSigMessage h sig s
  | .hardwareFault check => Sys2Proof.Machine.execHardwareFault check s
  | .giveupMessage h cause => Sys2Proof.Machine.execGiveupMessage h cause s
  | .laneSignalLoss lane1 => Sys2Proof.Machine.execLaneSignalLoss lane1 s
  | .laneCrcErrors lane1 n => Sys2Proof.Machine.execLaneCrcErrors lane1 n s
  | .laneUp lane1 latency => Sys2Proof.Machine.execLaneUp lane1 latency s
  | .ctrlAck h xfer seq => Sys2Proof.Machine.execCtrlAck h xfer seq s
  | .fwd h num item => Sys2Proof.Machine.execFwd h num item s
  | .xfer h body => Sys2Proof.Machine.execXfer h body s
  | .heartbeatReceipt msg => Sys2Proof.Machine.execHeartbeatReceipt msg s
  | .join from_ => Sys2Proof.Machine.execJoin from_ s
  | .handover who unitB restart => Sys2Proof.Machine.execHandover who unitB restart s
  | .withdraw who unitB restart => Sys2Proof.Machine.execWithdraw who unitB restart s
  | .clearDiv who => Sys2Proof.Machine.execClearDiv who s
  | .ready h => Sys2Proof.Machine.execReady h s
  | .lockstep h l => Sys2Proof.Machine.execLockstep h l s
  | .rawEdge n level at_ => Sys2Proof.Machine.execRawEdge n level at_ s
  | .filterConfirm n at_ => Sys2Proof.Machine.execFilterConfirm n at_ s
  | .chatterCoolDownEnd n => Sys2Proof.Machine.execChatterCoolDownEnd n s
  | .stuck n => Sys2Proof.Machine.execStuck n s
  | .wireBreakTestEnd n current level => Sys2Proof.Machine.execWireBreakTestEnd n current level s
  | .overload n => Sys2Proof.Machine.execOverload n s
  | .thermal n => Sys2Proof.Machine.execThermal n s
  | .retry n => Sys2Proof.Machine.execRetry n s
  | .extDrive n => Sys2Proof.Machine.execExtDrive n s
  | .reverse n => Sys2Proof.Machine.execReverse n s
  | .openOn n => Sys2Proof.Machine.execOpenOn n s
  | .openOff n => Sys2Proof.Machine.execOpenOff n s
  | .drvFail n => Sys2Proof.Machine.execDrvFail n s
  | .diagnosticClear n cond => Sys2Proof.Machine.execDiagnosticClear n cond s
  | .fieldWatchdogExpiry ch => Sys2Proof.Machine.execFieldWatchdogExpiry ch s
  | .couplerLinkFieldFail ch => Sys2Proof.Machine.execCouplerLinkFieldFail ch s
  | .couplerLinkLogicFail ch => Sys2Proof.Machine.execCouplerLinkLogicFail ch s
  | .couplerLinkReturn ch states => Sys2Proof.Machine.execCouplerLinkReturn ch states s
  | .uvWarn g => Sys2Proof.Machine.execUvWarn g s
  | .uvWarnClear g => Sys2Proof.Machine.execUvWarnClear g s
  | .lockout g => Sys2Proof.Machine.execLockout g s
  | .recoveryStart g => Sys2Proof.Machine.execRecoveryStart g s
  | .channelRelease g => Sys2Proof.Machine.execChannelRelease g s
  | .conversionStart m => Sys2Proof.Machine.execConversionStart m s
  | .conversionResult m raw => Sys2Proof.Machine.execConversionResult m raw s
  | .failDelayExpiry m => Sys2Proof.Machine.execFailDelayExpiry m s
  | .comparatorCrossing m j current => Sys2Proof.Machine.execComparatorCrossing m j current s
  | .comparatorConfirm m j at_ => Sys2Proof.Machine.execComparatorConfirm m j at_ s
  | .compliance m => Sys2Proof.Machine.execCompliance m s
  | .open_ m => Sys2Proof.Machine.execOpen m s
  | .analogueFlagClear m flag => Sys2Proof.Machine.execAnalogueFlagClear m flag s
  | .stageFail m => Sys2Proof.Machine.execStageFail m s
  | .short m => Sys2Proof.Machine.execShort m s
  | .agLow g => Sys2Proof.Machine.execAgLow g s
  | .agLockout g => Sys2Proof.Machine.execAgLockout g s
  | .agRestoration g => Sys2Proof.Machine.execAgRestoration g s
  | .agLinkFail g => Sys2Proof.Machine.execAgLinkFail g s
  | .begin_ who chan arg => Sys2Proof.Machine.execBegin who chan arg s
  | .drive who arg => Sys2Proof.Machine.execDrive who arg s
  | .point who arg => Sys2Proof.Machine.execPoint who arg s
  | .pointRecorded mean spread => Sys2Proof.Machine.execPointRecorded mean spread s
  | .compute who => Sys2Proof.Machine.execCompute who s
  | .calCommit who => Sys2Proof.Machine.execCalCommit who s
  | .abort who => Sys2Proof.Machine.execAbort who s
  | .factory who chan => Sys2Proof.Machine.execFactory who chan s
  | .setIncr who => Sys2Proof.Machine.execSetIncr who s
  | .setTime who => Sys2Proof.Machine.execSetTime who s
  | .adjTime who => Sys2Proof.Machine.execAdjTime who s
  | .compareFire u => Sys2Proof.Machine.execCompareFire u s
  | .tsuCmpTgt who u val => Sys2Proof.Machine.execTsuCmpTgt who u val s
  | .tsuCmpArm who u => Sys2Proof.Machine.execTsuCmpArm who u s
  | .capture u at_ => Sys2Proof.Machine.execCapture u at_ s
  | .timeMessage msg => Sys2Proof.Machine.execTimeMessage msg s
  | .ptpMessage msg => Sys2Proof.Machine.execPtpMessage msg s
  | .announceReceiptTimeout lanB => Sys2Proof.Machine.execAnnounceReceiptTimeout lanB s
  | .addHour who => Sys2Proof.Machine.execAddHour who s
  | .subHour who => Sys2Proof.Machine.execSubHour who s
  | .setCal who => Sys2Proof.Machine.execSetCal who s
  | .setTaiUtc who arg => Sys2Proof.Machine.execSetTaiUtc who arg s
  | .clrSwo who => Sys2Proof.Machine.execClrSwo who s
  | .leapSecond utc => Sys2Proof.Machine.execLeapSecond utc s
  | .rtcTrimWrite who val => Sys2Proof.Machine.execRtcTrimWrite who val s
  | .inputFrame stn h payload => Sys2Proof.Machine.execInputFrame stn h payload s
  | .ackFrame stn h seq status => Sys2Proof.Machine.execAckFrame stn h seq status s
  | .streamFrame id h payload => Sys2Proof.Machine.execStreamFrame id h payload s
  | .ackDeadline stn => Sys2Proof.Machine.execAckDeadline stn s
  | .raOpen k h tid x => Sys2Proof.Machine.execRaOpen k h tid x s
  | .raRead k h tid x => Sys2Proof.Machine.execRaRead k h tid x s
  | .raWrite k h tid x => Sys2Proof.Machine.execRaWrite k h tid x s
  | .raClose k h tid x => Sys2Proof.Machine.execRaClose k h tid x s
  | .alarmConnect a h => Sys2Proof.Machine.execAlarmConnect a h s
  | .alarmHello a h last => Sys2Proof.Machine.execAlarmHello a h last s
  | .alarmAck a h evn => Sys2Proof.Machine.execAlarmAck a h evn s
  | .alarmIdle a => Sys2Proof.Machine.execAlarmIdle a s
  | .alarmTimeout a => Sys2Proof.Machine.execAlarmTimeout a s
  | .arpIcmpRequest h => Sys2Proof.Machine.execArpIcmpRequest h s
  | .remoteDiagRead stn => Sys2Proof.Machine.execRemoteDiagRead stn s
  | .portLinkChange lanB offer => Sys2Proof.Machine.execPortLinkChange lanB offer s
  | .canFrameReceived k f stamp at_ => Sys2Proof.Machine.execCanFrameReceived k f stamp at_ s
  | .canArbitration k => Sys2Proof.Machine.execCanArbitration k s
  | .canFrameSent k => Sys2Proof.Machine.execCanFrameSent k s
  | .arbitrationLost k => Sys2Proof.Machine.execArbitrationLost k s
  | .canError k err ctrlOrData exempt dominant => Sys2Proof.Machine.execCanError k err ctrlOrData exempt dominant s
  | .busOffRecovery k => Sys2Proof.Machine.execBusOffRecovery k s
  | .recover who k => Sys2Proof.Machine.execRecover who k s
  | .cancel who k q => Sys2Proof.Machine.execCancel who k q s
  | .clrColl who k => Sys2Proof.Machine.execClrColl who k s
  | .rxbLock who k b => Sys2Proof.Machine.execRxbLock who k b s
  | .rxbUnlock who k b => Sys2Proof.Machine.execRxbUnlock who k b s
  | .rxbLockTimeout k b => Sys2Proof.Machine.execRxbLockTimeout k b s
  | .dominantTimeout k => Sys2Proof.Machine.execDominantTimeout k s
  | .freeze who => Sys2Proof.Machine.execFreeze who s
  | .protect who => Sys2Proof.Machine.execProtect who s
  | .unprotect who => Sys2Proof.Machine.execUnprotect who s
  | .erase who => Sys2Proof.Machine.execErase who s
  | .armReplay who arg => Sys2Proof.Machine.execArmReplay who arg s
  | .disarm who => Sys2Proof.Machine.execDisarm who s
  | .pauseAt who arg => Sys2Proof.Machine.execPauseAt who arg s
  | .stepFrame who => Sys2Proof.Machine.execStepFrame who s
  | .resume who => Sys2Proof.Machine.execResume who s
  | .usbWindowLoad w => Sys2Proof.Machine.execUsbWindowLoad w s
  | .usbWindowReadout n => Sys2Proof.Machine.execUsbWindowReadout n s
  | .eccCorrected mem addr syndrome => Sys2Proof.Machine.execEccCorrected mem addr syndrome s
  | .powerFail us => Sys2Proof.Machine.execPowerFail us s
  | .supplyInputLoss psB v => Sys2Proof.Machine.execSupplyInputLoss psB v s
  | .supplyInputReturn psB v => Sys2Proof.Machine.execSupplyInputReturn psB v s
  | .holdupReady v => Sys2Proof.Machine.execHoldupReady v s
  | .railWarn r mv => Sys2Proof.Machine.execRailWarn r mv s
  | .railFault r mv => Sys2Proof.Machine.execRailFault r mv s
  | .clockFailure k => Sys2Proof.Machine.execClockFailure k s
  | .overtemp t => Sys2Proof.Machine.execOvertemp t s
  | .registerWrite who addr val => Sys2Proof.Machine.execRegisterWrite who addr val s
  | .readClear who addr => Sys2Proof.Machine.execReadClear who addr s
  | .latchingRead who addr => Sys2Proof.Machine.execLatchingRead who addr s
  | .writeOneClear who addr val => Sys2Proof.Machine.execWriteOneClear who addr val s
  | .unoccupiedAccess who addr write narrow val => Sys2Proof.Machine.execUnoccupiedAccess who addr write narrow val s
  | .agLowClear g => Sys2Proof.Machine.execAgLowClear g s
  | .raRsp stn h tid status data => Sys2Proof.Machine.execRaRsp stn h tid status data s
  | .cellMeasurement mv => Sys2Proof.Machine.execCellMeasurement mv s
  | .overtempClear t => Sys2Proof.Machine.execOvertempClear t s
  | .railWarnClear r mv => Sys2Proof.Machine.execRailWarnClear r mv s
  | .bootWatchdogExpiry => Sys2Proof.Machine.execBootWatchdogExpiry s
  | .frameZeroStart => Sys2Proof.Machine.execFrameZeroStart s
  | .keyRemoved => Sys2Proof.Machine.execKeyRemoved s
  | .bootCommandComplete => Sys2Proof.Machine.execBootCommandComplete s
  | .jumperRemoved => Sys2Proof.Machine.execJumperRemoved s
  | .trialBankCommit => Sys2Proof.Machine.execTrialBankCommit s
  | .inputLatch => Sys2Proof.Machine.execInputLatch s
  | .executionOpen => Sys2Proof.Machine.execExecutionOpen s
  | .executionClose => Sys2Proof.Machine.execExecutionClose s
  | .signatureExchange => Sys2Proof.Machine.execSignatureExchange s
  | .commit => Sys2Proof.Machine.execCommit s
  | .doze => Sys2Proof.Machine.execDoze s
  | .mramCopyDone => Sys2Proof.Machine.execMramCopyDone s
  | .testExpired => Sys2Proof.Machine.execTestExpired s
  | .arrayTick => Sys2Proof.Machine.execArrayTick s
  | .solverStep => Sys2Proof.Machine.execSolverStep s
  | .pairWaitExpiry => Sys2Proof.Machine.execPairWaitExpiry s
  | .primingFrame => Sys2Proof.Machine.execPrimingFrame s
  | .agreementDeadline => Sys2Proof.Machine.execAgreementDeadline s
  | .sigDeadline => Sys2Proof.Machine.execSigDeadline s
  | .verdict => Sys2Proof.Machine.execVerdict s
  | .bulkRetry => Sys2Proof.Machine.execBulkRetry s
  | .heartbeatLoss => Sys2Proof.Machine.execHeartbeatLoss s
  | .timeLockAcquired => Sys2Proof.Machine.execTimeLockAcquired s
  | .catchUpFrame => Sys2Proof.Machine.execCatchUpFrame s
  | .verifyComplete => Sys2Proof.Machine.execVerifyComplete s
  | .joinTimeout => Sys2Proof.Machine.execJoinTimeout s
  | .calStoreWritten => Sys2Proof.Machine.execCalStoreWritten s
  | .calibrationTimeout => Sys2Proof.Machine.execCalibrationTimeout s
  | .ppsOutRise => Sys2Proof.Machine.execPpsOutRise s
  | .ppsOutFall => Sys2Proof.Machine.execPpsOutFall s
  | .ftWrap => Sys2Proof.Machine.execFtWrap s
  | .rtcCommandExecution => Sys2Proof.Machine.execRtcCommandExecution s
  | .offsetChange => Sys2Proof.Machine.execOffsetChange s
  | .rtcRewrite => Sys2Proof.Machine.execRtcRewrite s
  | .backupSwitchOver => Sys2Proof.Machine.execBackupSwitchOver s
  | .timeLost => Sys2Proof.Machine.execTimeLost s
  | .remoteStationCut => Sys2Proof.Machine.execRemoteStationCut s
  | .prpSupervision => Sys2Proof.Machine.execPrpSupervision s
  | .windowCollectionEnd => Sys2Proof.Machine.execWindowCollectionEnd s
  | .flashCopyDone => Sys2Proof.Machine.execFlashCopyDone s
  | .journalTruncation => Sys2Proof.Machine.execJournalTruncation s
  | .checkpointWritten => Sys2Proof.Machine.execCheckpointWritten s
  | .replayFrame => Sys2Proof.Machine.execReplayFrame s
  | .uncorrectableRingError => Sys2Proof.Machine.execUncorrectableRingError s
  | .pairResend => Sys2Proof.Machine.execPairResend s
  | .timeSendBeforeFn0 => Sys2Proof.Machine.execTimeSendBeforeFn0 s

end Sys2Proof.Machine
end

