-- ==== Sys2Proof/Machine/Tick.lean ====
section
/-! DEFINITION. What happens while no command waits. -/

namespace Sys2Proof.Machine

/-- One fabric cycle (20 in DEEP DOZE) passes: both times advance by TSU_INCR (R338), and the always-on domain by its own
crystal (R367). While the module holds itself in reset, the always-on domain alone goes on. -/
def Dyn.idle (d : Dyn) : Dyn :=
  if d.boot.held then { d with rtc := d.rtc.advance d.trimReg 1 } else d.ticks 1

end Sys2Proof.Machine
end

