-- ==== Sys2Proof/Safety.lean ====
section
/-! DEFINITION. The terms in which statements are made: a live module, what a requester may write, an instruction that
issues, and what every safe run keeps: the locked configuration. -/

namespace Sys2Proof.Machine

/-- The state with another dynamic part; configuration and queue stay. -/
def State.withDyn (s : State) (d : Dyn) : State := { s with dyn := d }

/-- The module does not hold itself in reset (R57, R274, R467). -/
abbrev Live (s : State) : Prop := s.dyn.boot.held = false

/-- The requester's port is served, and it may write the register (R24, R51, R53). -/
abbrev MayWrite (s : State) (who : Requester) (addr : Nat) : Prop :=
  s.dyn.portServed who = true ∧ s.dyn.mayAccess s.cfg who addr true = true

/-- The same for a read. -/
abbrev MayRead (s : State) (who : Requester) (addr : Nat) : Prop :=
  s.dyn.portServed who = true ∧ s.dyn.mayAccess s.cfg who addr false = true

/-- A command register's write is noted under its requester. -/
def Dyn.by_ (d : Dyn) (who : Requester) : Dyn := { d with twin := { d.twin with acting := Requester.code who } }

/-- Polder `p` with `n` lane cycles charged and one instruction counted (R82, R155). -/
def Dyn.issued (d : Dyn) (p n : Nat) : Dyn := (d.charge p n).counted p

/-- An instruction of `n` cycles of polder `p` issues, as task `k` in context `t`: it is the polder's turn, the program
counter lies in the segment, no breakpoint holds a polder in RUN there, and the budget covers it (R82, R87, R140, R156). -/
structure Issues (s : State) (p : BitVec 4) (n k : Nat) (t : TaskCtx) : Prop where
  live : Live s
  ready : s.dyn.ready s.cfg p.toNat = some (k, t)
  inside : t.pc < s.cfg.get (F.LGE_SEG_LEN_VALUE p.toNat)
  free : s.dyn.mode p.toNat ≠ 2 ∨ (s.dyn.polder p.toNat).skipBp = true ∨ s.dyn.breakAt p.toNat t.pc = false
  paid : n ≤ (s.dyn.polder p.toNat).bLogic

/-- The state after an instruction of `n` cycles: what `f` does to the machine, and the task's new context. -/
def State.ran (s : State) (p : BitVec 4) (n k : Nat) (f : Dyn → Dyn) (t : Option TaskCtx) : State :=
  s.withDyn ((f (s.dyn.issued p.toNat n)).setPolder p.toNat fun x => x.setTask k t)

/-- The state after a service of `n` cycles that succeeds with `w`: LA set, WA the result (R150). -/
def State.served (s : State) (p : BitVec 4) (n k : Nat) (t : TaskCtx) (f : Dyn → Dyn) (w : Word) : State :=
  s.ran p n k f (some { t with la := true, wa := w, pc := t.pc + 1 })

/-- After one that fails with status `e`: nothing but the charge and the context changes. -/
def State.failed (s : State) (p : BitVec 4) (n k : Nat) (t : TaskCtx) (e : Word) : State :=
  s.ran p n k id (some { t with la := false, wa := e, pc := t.pc + 1 })

/-- The parameter block of `n` words at WA lies within the polder's window (R150). -/
abbrev BlockAt (s : State) (p : BitVec 4) (t : TaskCtx) (n : Nat) : Prop :=
  s.cfg.inWindow p.toNat t.wa.toInt n = true

/-- Word `i` of the block. -/
def State.blockWord (s : State) (p : BitVec 4) (t : TaskCtx) (i : Nat) : Word :=
  s.dyn.mword s.cfg p.toNat (t.wa.toInt.toNat + i)

/-- The LK registers are in canonical form, only LK registers are listed, and their reserved bits are zero (R9, R10). -/
structure ConfigWf (c : Cfg) : Prop where
  canonical : SparseWf 0 c.lk
  rows : ∀ e ∈ c.lk, isLk e.1 = true
  reserved : ∀ e ∈ c.lk, ∀ r, regRow e.1 = some r → e.2 &&& ~~~r.mask = 0

/-- What every step of the machine keeps. -/
def Safe (s : State) : Prop := ConfigWf s.cfg

/-- The command at the front is the release of power-on reset. -/
def ResetNext (s : State) : Prop := ∃ u i j rest, s.pending = .powerOnReset u i j :: rest

/-- An event that falls due at `t` ns on the extension of FT can be meant: `t` has come, or comes within a frame, a second
before the frames run (log entry 107). -/
abbrev Dyn.near (c : Cfg) (d : Dyn) (t : Nat) : Prop := t ≤ d.now + (if d.slc.framing then c.period else 10 ^ 9)

/-- The machine at `t`: as it is when `t` has come, else `t` is waited for. -/
def Dyn.dueAt (d : Dyn) (t : Nat) : Dyn := if t ≤ d.now then d else d.advTo (BitVec.ofNat 32 t)

/-- The same for fabric cycle `n` since reset. -/
abbrev Dyn.nearCycle (c : Cfg) (d : Dyn) (n : Nat) : Prop :=
  n ≤ d.clk.cycles ∨ 2 * (n - d.clk.cycles) ≤ (if d.slc.framing then c.period else 10 ^ 9)
def Dyn.dueCycle (d : Dyn) (n : Nat) : Dyn := if n ≤ d.clk.cycles then d else d.ticks (n - d.clk.cycles)

/-- A frame passes the checks of R390 in `d`, and is no second copy. -/
structure PassesChecks (d : Dyn) (h : StnHdr) (b : StnBody) : Prop where
  format : formOk h b = true
  station : h.stnId = d.nv.stnId.setWidth 8
  tag : d.tagOk h b = true
  first : (d.prpPass h).2 = true

/-- A station frame from a known source that the network accepts at its arrival (R386, R390, R416). -/
structure StationFrame (s : State) (h : StnHdr) (b : StnBody) : Prop where
  live : Live s
  up : (s.dyn.advTo h.at_).netUp = true
  taken : takenByPort h = true
  ours : h.dest ≠ .elsewhere
  known : s.cfg.knownSource (s.dyn.advTo h.at_) h = true
  checks : PassesChecks (s.dyn.advTo h.at_) h b

/-- The machine as an accepted station frame finds it. -/
def State.accepts (s : State) (h : StnHdr) : Dyn := ((s.dyn.advTo h.at_).prpPass h).1

/-- A frame of another protocol arrives at a port that the policing lets it through. -/
structure PolicedFrame (s : State) (h : StnHdr) : Prop where
  live : Live s
  up : (s.dyn.advTo h.at_).netUp = true
  taken : takenByPort h = true
  ours : h.dest ≠ .elsewhere
  policed : ((s.dyn.advTo h.at_).police h.lanB h.size.toNat).2 = true

/-- The machine as such a frame finds it. -/
def State.polices (s : State) (h : StnHdr) : Dyn := ((s.dyn.advTo h.at_).police h.lanB h.size.toNat).1

/-- One that the checks accept as well. -/
structure ServiceFrame (s : State) (h : StnHdr) (b : StnBody) : Prop where
  port : PolicedFrame s h
  checks : PassesChecks (s.polices h) h b

/-- The machine as a frame of a service finds it. -/
def State.serves (s : State) (h : StnHdr) : Dyn := ((s.polices h).prpPass h).1

/-- A Shucel message of `kind` whose CRC holds and whose SEQ is new at its arrival (R249). -/
structure PeerMessage (s : State) (kind : Nat) (h : ShlHdr) : Prop where
  live : Live s
  intact : h.crcOk = true
  fresh : (s.dyn.advTo h.at_).gotSeq kind h = false

/-- The machine as such a message finds it: its SEQ is noted. -/
def State.hears (s : State) (kind : Nat) (h : ShlHdr) : Dyn := (s.dyn.advTo h.at_).noteSeq kind h

/-- The machine as a bulk message finds it: acknowledged as well. -/
def State.hearsBulk (s : State) (kind : Nat) (h : ShlHdr) : Dyn :=
  ((s.dyn.advTo h.at_).sendWords 9 [0, BitVec.ofNat 32 kind, h.seq]).noteSeq kind h

end Sys2Proof.Machine
end

