-- ==== Sys2Proof/Certificates/Slice0/Obligations.lean ====
section
/-! DEFINITION. The statements about the model. An instruction of the logic engine is stated under `Issues` (it is the
polder's turn and the charge is covered), a command register's command under `MayWrite`; what `withDyn` and `ran` do
not change stands as it was. -/

open Sys2Proof Sys2Proof.Machine

/-! ## The block -/

/-- With a command at the front of the queue, a step is `exec` of that command on the state with the queue's rest. -/
def Obligations.StepRunsFrontCommand : Prop :=
  ∀ (s : State) (c : Instr) (rest : List Instr), s.pending = c :: rest →
    Machine.step s = exec c { s with pending := rest }

/-- With no command waiting, one fabric cycle passes: FT and PTP time advance by TSU_INCR, nothing but clocks, the
RTC and the WRAP flag changes. The model's choice (log entry 2); the module is live and not in DEEP DOZE. -/
def Obligations.EmptyQueueIsOneCycle : Prop :=
  ∀ s : State, s.pending = [] → Live s → s.dyn.flag F.TSU_STATUS_DEEP = false →
    ∃ t, Machine.step s = .next t ∧ t.cfg = s.cfg ∧ t.pending = [] ∧
      t.dyn.clk.cycles = s.dyn.clk.cycles + 1 ∧
      t.dyn.clk.ft = s.dyn.clk.ft + (s.dyn.rd Reg.TSU_INCR).toNat ∧
      t.dyn.clk.sec.toNat * second24 + t.dyn.clk.ns24 =
        ((s.dyn.clk.sec.toNat * second24 + s.dyn.clk.ns24 + (s.dyn.rd Reg.TSU_INCR).toNat) %
          (2 ^ 48 * second24)) ∧
      (∀ a, a ≠ Reg.TSU_STATUS → t.dyn.rd a = s.dyn.rd a) ∧
      { t.dyn with clk := s.dyn.clk, rtc := s.dyn.rtc, regs := s.dyn.regs } = s.dyn

/-- No command of the table stops: each answers a next state, on every state, and changes no waiting command. -/
def Obligations.EveryCommandAnswersNextState : Prop :=
  ∀ (c : Instr) (s : State), ∃ t, exec c s = .next t ∧ t.pending = s.pending

/-- While the module holds itself in reset, every command changes nothing, but for the release of reset, the field
watchdogs, the always-on domain, the jumper and the key. -/
def Obligations.HeldModuleIsInert : Prop :=
  ∀ (c : Instr) (s : State), s.dyn.boot.held = true →
    (match c with
      | .powerOnReset .. => False | .fieldWatchdogExpiry .. => False | .backupSwitchOver => False
      | .timeLost => False | .jumperRemoved => False | .keyRemoved => False | .keyInserted .. => False
      | _ => True) →
    exec c s = .next s

/-- From a locked state every step leaves the lock set and every LK register as it is, unless the command at the front
is POWER_ON_RESET. -/
def Obligations.LockedConfigurationStands : Prop :=
  ∀ s t : State, s.cfg.locked = true → ¬ ResetNext s → Machine.step s = .next t →
    t.cfg.locked = true ∧ t.cfg.lk = s.cfg.lk

/-- Every step keeps `Safe`: the LK registers are listed in rising address order without a zero entry, only LK registers
are listed, and their reserved bits are zero. -/
def Obligations.SafeKept : Prop :=
  ∀ s t : State, Safe s → Machine.step s = .next t → Safe t

/-- `Safe` holds at reset. -/
def Obligations.SafeAtReset : Prop := Safe State.reset

/-! ## The logic engine -/

/-- Each bit read that issues, with a permitted operand that reads M, sets LA to its function of LA and M, goes on at
the next address, and changes nothing but the polder's charge and context. -/
def Obligations.BitReadsSetLa : Prop :=
  ∀ (s : State) (p : BitVec 4) (sp : BitVec 2) (a : BitVec 24) (k : Nat) (t : TaskCtx) (o : Opd) (m : Bool),
    Issues s p 1 k t → bitForm sp.toNat a.toNat = .ok o → s.dyn.readBit s.cfg p.toNat o = .ok m →
    exec (.ld p sp a) s = .next (s.ran p 1 k id (some { t with la := m, pc := t.pc + 1 })) ∧
    exec (.ldn p sp a) s = .next (s.ran p 1 k id (some { t with la := !m, pc := t.pc + 1 })) ∧
    exec (.and p sp a) s = .next (s.ran p 1 k id (some { t with la := t.la && m, pc := t.pc + 1 })) ∧
    exec (.andn p sp a) s = .next (s.ran p 1 k id (some { t with la := t.la && !m, pc := t.pc + 1 })) ∧
    exec (.or p sp a) s = .next (s.ran p 1 k id (some { t with la := t.la || m, pc := t.pc + 1 })) ∧
    exec (.orn p sp a) s = .next (s.ran p 1 k id (some { t with la := t.la || !m, pc := t.pc + 1 })) ∧
    exec (.xor p sp a) s = .next (s.ran p 1 k id (some { t with la := xor t.la m, pc := t.pc + 1 }))

/-- NOT negates LA; PUSH pushes it, and raises STACK (0x10) on a 17th entry; POPA and POPO combine the popped value with
LA, and raise STACK on an empty stack. -/
def Obligations.StackInstructions : Prop :=
  ∀ (s : State) (p : BitVec 4) (k : Nat) (t : TaskCtx), Issues s p 1 k t →
    exec (.not p 0 0) s = .next (s.ran p 1 k id (some { t with la := !t.la, pc := t.pc + 1 })) ∧
    (t.stack.length < 16 →
      exec (.push p 0 0) s = .next (s.ran p 1 k id (some { t with stack := t.la :: t.stack, pc := t.pc + 1 }))) ∧
    (16 ≤ t.stack.length →
      exec (.push p 0 0) s =
        .next (s.withDyn ((s.dyn.issued p.toNat 1).programFault s.cfg p.toNat k 0x10 t.pc))) ∧
    (∀ b l, t.stack = b :: l →
      exec (.popa p 0 0) s = .next (s.ran p 1 k id (some { t with stack := l, la := b && t.la, pc := t.pc + 1 })) ∧
      exec (.popo p 0 0) s = .next (s.ran p 1 k id (some { t with stack := l, la := b || t.la, pc := t.pc + 1 }))) ∧
    (t.stack = [] →
      exec (.popa p 0 0) s =
        .next (s.withDyn ((s.dyn.issued p.toNat 1).programFault s.cfg p.toNat k 0x10 t.pc)) ∧
      exec (.popo p 0 0) s =
        .next (s.withDyn ((s.dyn.issued p.toNat 1).programFault s.cfg p.toNat k 0x10 t.pc)))

/-- A bit write to bit `a` of the polder's bit memory, or to an owned output bit no loop drives, stores LA, its
negation, or, with LA set, 1 or 0; SET and RST with LA clear store nothing. An output bit that is not owned, and one
that a loop drives, is ACCESS (0x14). -/
def Obligations.BitStores : Prop :=
  ∀ (s : State) (p : BitVec 4) (a : BitVec 24) (k : Nat) (t : TaskCtx), Issues s p 1 k t → a.toNat < 131072 →
    let set := fun (d : Dyn) (b : Bool) => d.setMbit s.cfg p.toNat a.toNat b
    let out := fun (d : Dyn) (b : Bool) =>
      { d with outW := sput 0 d.outW (a.toNat / 32) ((sget 0 d.outW (a.toNat / 32)).setBit (a.toNat % 32) b) }
    let goes : (Dyn → Dyn) → Out := fun f => .next (s.ran p 1 k f (some { t with pc := t.pc + 1 }))
    let owned := (s.cfg.outRes a.toNat).2 = some p.toNat ∧ s.cfg.loopBound (a.toNat / 32) = false
    (a.toNat < s.cfg.bits p.toNat →
      exec (.st p 0 a) s = goes (set · t.la) ∧
      exec (.stn p 0 a) s = goes (set · !t.la) ∧
      exec (.set p 0 a) s = goes (fun d => if t.la then set d true else d) ∧
      exec (.rst p 0 a) s = goes (fun d => if t.la then set d false else d)) ∧
    (owned →
      exec (.st p 2 a) s = goes (out · t.la) ∧
      exec (.stn p 2 a) s = goes (out · !t.la) ∧
      exec (.set p 2 a) s = goes (fun d => if t.la then out d true else d) ∧
      exec (.rst p 2 a) s = goes (fun d => if t.la then out d false else d)) ∧
    (¬ owned →
      exec (.st p 2 a) s =
        .next (s.withDyn ((s.dyn.issued p.toNat 1).programFault s.cfg p.toNat k 0x14 t.pc)))

/-- The frame of ST, STN, SET and RST on bit memory: for every index, the bit memory after the store reads as before
unless it is the bit stored to; word memory, timers, counters, edge bits, the output image, every register, the clock and
every other polder are as before. -/
def Obligations.BitStoreFrame : Prop :=
  ∀ (s : State) (p : BitVec 4) (a : BitVec 24) (k : Nat) (t : TaskCtx) (u : State), Issues s p 1 k t →
    a.toNat < 131072 → a.toNat < s.cfg.bits p.toNat →
    exec (.st p 0 a) s = .next u ∨ exec (.stn p 0 a) s = .next u ∨ exec (.set p 0 a) s = .next u ∨
      exec (.rst p 0 a) s = .next u →
    (∀ j, j ≠ s.cfg.bitKey p.toNat a.toNat → sget false u.dyn.bitMem j = sget false s.dyn.bitMem j) ∧
    u.dyn.wordMem = s.dyn.wordMem ∧ u.dyn.timers = s.dyn.timers ∧ u.dyn.counters = s.dyn.counters ∧
    u.dyn.edges = s.dyn.edges ∧ u.dyn.outW = s.dyn.outW ∧ u.dyn.outC = s.dyn.outC ∧ u.dyn.regs = s.dyn.regs ∧
    u.dyn.clk = s.dyn.clk ∧ u.cfg = s.cfg ∧ u.pending = s.pending ∧
    (∀ q, q ≠ p.toNat → u.dyn.polder q = s.dyn.polder q)

/-- EDR: prev = e; e = la; la = la and not prev. EDF: prev = e; e = la; la = prev and not la. The edge bit is the one
the instruction names, within the polder's allocation; an index beyond it is MEM_BOUNDS (0x12). A cold restart clears
every edge bit of the polder. -/
def Obligations.EdgesDetect : Prop :=
  (∀ (c : Cfg) (d : Dyn) (p reason i : Nat), i < c.get (F.LGE_EDGE_COUNT p) →
    sget false (d.coldRestart c p reason).edges (c.edgeKey p i) = false) ∧
  ∀ (s : State) (p : BitVec 4) (a : BitVec 24) (k : Nat) (t : TaskCtx) (e : Nat), Issues s p 1 k t →
    edgeForm 3 a.toNat = .ok e →
    (s.cfg.get (F.LGE_EDGE_COUNT p.toNat) ≤ e →
      exec (.edr p 3 a) s =
        .next (s.withDyn ((s.dyn.issued p.toNat 1).programFault s.cfg p.toNat k 0x12 t.pc)) ∧
      exec (.edf p 3 a) s =
        .next (s.withDyn ((s.dyn.issued p.toNat 1).programFault s.cfg p.toNat k 0x12 t.pc))) ∧
    (e < s.cfg.get (F.LGE_EDGE_COUNT p.toNat) →
    let key := s.cfg.edgeKey p.toNat e
    let prev := sget false s.dyn.edges key
    let store := fun (d : Dyn) => { d with edges := sput false d.edges key t.la }
    exec (.edr p 3 a) s = .next (s.ran p 1 k store (some { t with la := t.la && !prev, pc := t.pc + 1 })) ∧
    exec (.edf p 3 a) s = .next (s.ran p 1 k store (some { t with la := prev && !t.la, pc := t.pc + 1 })))

/-- With p_us the frame period, res_us the resolution and fn the FN of the polder's view, TMR updates acc, last_fn,
prev_in and Q of its timer as the three functions are defined, and sets LA to Q. `d` is the time since the last
evaluation, `pt` the preset, limited to 2^48 − 1. -/
def Obligations.TimersEvaluate : Prop :=
  ∀ (s : State) (p : BitVec 4) (a : BitVec 24) (k : Nat) (t : TaskCtx), Issues s p 1 k t →
    af a.toNat 23 22 = 0 → af a.toNat 19 18 ≠ 3 → af a.toNat 17 10 = 0 →
    af a.toNat 9 0 < s.cfg.get (F.LGE_TMR_COUNT p.toNat) →
    let key := s.cfg.tmrKey p.toNat (af a.toNat 9 0)
    let x := s.dyn.timer key
    let res := if af a.toNat 19 18 = 0 then 1 else if af a.toNat 19 18 = 1 then 1000 else 1000000
    let fn := s.dyn.viewWord p.toNat 0x250
    let pt := min (t.wa.toNat * res) (2 ^ 48 - 1)
    let d := (fn - x.lastFn).toNat * s.cfg.periodUs
    let done : Nat → Bool → State := fun acc q =>
      s.ran p 1 k (fun y => y.setTimer key ⟨acc, fn, t.la, q, res⟩) (some { t with la := q, pc := t.pc + 1 })
    -- TON
    (af a.toNat 21 20 = 0 → exec (.tmr p 3 a) s = .next (
      let acc := if t.la && x.prevIn then min (x.acc + d) pt else 0
      done acc (t.la && decide (pt ≤ acc)))) ∧
    -- TOF
    (af a.toNat 21 20 = 1 → exec (.tmr p 3 a) s = .next (
      if t.la then done 0 true
      else if x.prevIn then done 0 x.q
      else if x.q then done (min (x.acc + d) pt) (decide (min (x.acc + d) pt < pt))
      else done x.acc x.q)) ∧
    -- TP
    (af a.toNat 21 20 = 2 → exec (.tmr p 3 a) s = .next (
      if t.la && !x.prevIn && !x.q then done 0 true
      else if x.q then
        let acc := min (x.acc + d) pt
        if acc < pt then done acc true else done (if t.la then acc else 0) false
      else done (if t.la then x.acc else 0) false))

/-- UP counts a rising LA and compares CV with WA, DOWN counts a rising LA down and compares CV with 0; LOAD and RESET
with LA set write CV and leave LA. A count at the end of the range stays there and sets SAT. -/
def Obligations.CountersEvaluate : Prop :=
  ∀ (s : State) (p : BitVec 4) (a : BitVec 24) (k : Nat) (t : TaskCtx), Issues s p 1 k t →
    af a.toNat 23 22 = 1 → af a.toNat 19 10 = 0 → af a.toNat 9 0 < s.cfg.get (F.LGE_CNT_COUNT p.toNat) →
    let key := s.cfg.cntKey p.toNat (af a.toNat 9 0)
    let x := s.dyn.counter key
    let done : Counter → Bool → Bool → State := fun y la sat =>
      s.ran p 1 k (fun d => if sat then (d.setCounter key y).setSat p.toNat else d.setCounter key y)
        (some { t with la := la, pc := t.pc + 1 })
    (af a.toNat 21 20 = 0 → exec (.cnt p 3 a) s = .next (
      if t.la && !x.prevUp then
        if x.cv = 0x7FFFFFFF then done { x with prevUp := true, q := true } true true
        else
          let v := x.cv + 1
          done { x with cv := v, prevUp := true, q := t.wa.sle v } (t.wa.sle v) false
      else done { x with prevUp := t.la, q := t.wa.sle x.cv } (t.wa.sle x.cv) false)) ∧
    (af a.toNat 21 20 = 1 → exec (.cnt p 3 a) s = .next (
      if t.la && !x.prevDn then
        if x.cv = 0x80000000 then done { x with prevDn := true, q := true } true true
        else
          let v := x.cv - 1
          done { x with cv := v, prevDn := true, q := v.sle 0 } (v.sle 0) false
      else done { x with prevDn := t.la, q := x.cv.sle 0 } (x.cv.sle 0) false)) ∧
    (af a.toNat 21 20 = 2 → exec (.cnt p 3 a) s = .next (done { x with cv := if t.la then t.wa else x.cv } t.la false)) ∧
    (af a.toNat 21 20 = 3 → exec (.cnt p 3 a) s = .next (done { x with cv := if t.la then 0 else x.cv } t.la false))

/-- LDW loads the operand, moved by WA as signed when X is set; LDK loads constant ADDR + WA; STW stores WA to word
memory, to an owned output word that no loop drives, or to CV of a counter. -/
def Obligations.WordMoves : Prop :=
  ∀ (s : State) (p : BitVec 4) (sp : BitVec 2) (a : BitVec 24) (k : Nat) (t : TaskCtx), Issues s p 1 k t →
    (∀ o x w, loadForm sp.toNat a.toNat = .ok (o, x) →
      s.dyn.readWord s.cfg p.toNat (if x then o.move t.wa.toInt else o) = .ok w →
      exec (.ldw p sp a) s = .next (s.ran p 1 k id (some { t with wa := w, pc := t.pc + 1 }))) ∧
    (∀ i : Nat, sp = 0 → a.toNat < 4096 → (a.toNat : Int) + t.wa.toInt = i →
      i < s.cfg.get (F.LGE_CTRL_KSIZE p.toNat) →
      exec (.ldk p sp a) s =
        .next (s.ran p 1 k id (some { t with wa := s.dyn.konst s.cfg p.toNat i, pc := t.pc + 1 }))) ∧
    (sp = 0 → a.toNat < 2 ^ 18 → a.toNat < s.cfg.words p.toNat →
      exec (.stw p sp a) s = .next (s.ran p 1 k (fun d => d.setMword s.cfg p.toNat a.toNat t.wa)
        (some { t with pc := t.pc + 1 }))) ∧
    (sp = 2 → a.toNat < 4096 → outPacked a.toNat = false → (s.cfg.outRes (32 * a.toNat)).2 = some p.toNat →
      s.cfg.loopBound a.toNat = false →
      exec (.stw p sp a) s = .next (s.ran p 1 k (fun d => { d with outW := sput 0 d.outW a.toNat t.wa })
        (some { t with pc := t.pc + 1 }))) ∧
    (∀ i, sp = 3 → a.toNat = 2 ^ 22 + i → i < 1024 → i < s.cfg.get (F.LGE_CNT_COUNT p.toNat) →
      exec (.stw p sp a) s = .next (s.ran p 1 k (fun d =>
          d.setCounter (s.cfg.cntKey p.toNat i) { s.dyn.counter (s.cfg.cntKey p.toNat i) with cv := t.wa })
        (some { t with pc := t.pc + 1 })))

/-- The exact result goes to WA when it lies in the signed 32-bit range; beyond it WA takes the nearest limit and SAT is
set and counted. Division by zero gives the limit of WA's sign and sets DIVZ. -/
def Obligations.WordArithmeticSaturates : Prop :=
  ∀ (s : State) (p : BitVec 4) (sp : BitVec 2) (a : BitVec 24) (n k : Nat) (t : TaskCtx) (o : Opd) (m : Word),
    Issues s p n k t → wordForm sp.toNat a.toNat = .ok o → s.dyn.readWord s.cfg p.toNat o = .ok m →
    let done : Int → State := fun v =>
      if v > 2 ^ 31 - 1 then s.ran p n k (fun d => d.setSat p.toNat) (some { t with wa := 0x7FFFFFFF, pc := t.pc + 1 })
      else if v < -2 ^ 31 then
        s.ran p n k (fun d => d.setSat p.toNat) (some { t with wa := 0x80000000, pc := t.pc + 1 })
      else s.ran p n k id (some { t with wa := BitVec.ofInt 32 v, pc := t.pc + 1 })
    (n = 1 → exec (.add p sp a) s = .next (done (t.wa.toInt + m.toInt)) ∧
      exec (.sub p sp a) s = .next (done (t.wa.toInt - m.toInt))) ∧
    (n = 2 → exec (.mul p sp a) s = .next (done (t.wa.toInt * m.toInt))) ∧
    (n = 18 → m ≠ 0 → exec (.div p sp a) s = .next (done (t.wa.toInt.tdiv m.toInt))) ∧
    (n = 18 → m = 0 → exec (.div p sp a) s = .next (s.ran p n k (fun d => d.setDivz p.toNat)
      (some { t with wa := if 0 ≤ t.wa.toInt then 0x7FFFFFFF else 0x80000000, pc := t.pc + 1 })))

/-- The remaining word instructions: bitwise, the smaller and the larger, the limit between two words, the shifts, and
the six signed comparisons, which set LA and leave WA. None sets a flag. -/
def Obligations.WordLogicAndComparisons : Prop :=
  ∀ (s : State) (p : BitVec 4) (sp : BitVec 2) (a : BitVec 24) (k : Nat) (t : TaskCtx), Issues s p 1 k t →
    let wa : Word → Out := fun w => .next (s.ran p 1 k id (some { t with wa := w, pc := t.pc + 1 }))
    let la : Bool → Out := fun b => .next (s.ran p 1 k id (some { t with la := b, pc := t.pc + 1 }))
    (∀ o m, wordForm sp.toNat a.toNat = .ok o → s.dyn.readWord s.cfg p.toNat o = .ok m →
      exec (.andw p sp a) s = wa (t.wa &&& m) ∧
      exec (.orw p sp a) s = wa (t.wa ||| m) ∧
      exec (.min p sp a) s = wa (if t.wa.sle m then t.wa else m) ∧
      exec (.max p sp a) s = wa (if t.wa.sle m then m else t.wa) ∧
      exec (.cmpeq p sp a) s = la (decide (t.wa = m)) ∧
      exec (.cmpne p sp a) s = la (decide (t.wa ≠ m)) ∧
      exec (.cmplt p sp a) s = la (t.wa.slt m) ∧
      exec (.cmple p sp a) s = la (t.wa.sle m) ∧
      exec (.cmpgt p sp a) s = la (m.slt t.wa) ∧
      exec (.cmpge p sp a) s = la (m.sle t.wa)) ∧
    (∀ o lo hi, limForm sp.toNat a.toNat = .ok o → s.dyn.readWord s.cfg p.toNat o = .ok lo →
      s.dyn.readWord s.cfg p.toNat (o.move 1) = .ok hi →
      exec (.lim p sp a) s = wa (if hi.slt lo then lo else if t.wa.slt lo then lo else if hi.slt t.wa then hi else t.wa)) ∧
    (sp = 0 → a.toNat < 32 → exec (.shl p sp a) s = wa (t.wa <<< a.toNat) ∧ exec (.shr p sp a) s = wa (t.wa >>> a.toNat)) ∧
    (∀ i, sp = 0 → a.toNat = 32 + i → i < 32 → exec (.shr p sp a) s = wa (t.wa.sshiftRight i))

/-- A flow instruction that transfers control costs 2 cycles, one that does not costs 1; a target outside the segment is
JUMP_BOUNDS (0x15). CALL pushes the return address and raises CALL_STACK (0x11) on a 33rd entry, RET pops it and raises
CALL_STACK on an empty stack. END ends the task. -/
def Obligations.FlowInstructions : Prop :=
  ∀ (s : State) (p : BitVec 4) (a : BitVec 24) (n k : Nat) (t : TaskCtx), Issues s p n k t → a.toNat < 2 ^ 19 →
    let len := s.cfg.get (F.LGE_SEG_LEN_VALUE p.toNat)
    let jumps : Nat → TaskCtx → Out := fun x t => .next (s.ran p n k id (some { t with pc := x }))
    let fault : Nat → Out := fun code =>
      .next (s.withDyn ((s.dyn.issued p.toNat n).programFault s.cfg p.toNat k code t.pc))
    (n = 2 → exec (.jmp p 0 a) s = if a.toNat < len then jumps a.toNat t else fault 0x15) ∧
    (t.la = true → n = 2 → exec (.jc p 0 a) s = if a.toNat < len then jumps a.toNat t else fault 0x15) ∧
    (t.la = false → n = 1 → exec (.jc p 0 a) s = jumps (t.pc + 1) t) ∧
    (t.la = false → n = 2 → exec (.jnc p 0 a) s = if a.toNat < len then jumps a.toNat t else fault 0x15) ∧
    (t.la = true → n = 1 → exec (.jnc p 0 a) s = jumps (t.pc + 1) t) ∧
    (n = 2 → exec (.call p 0 a) s =
      if 32 ≤ t.calls.length then fault 0x11
      else if a.toNat < len then jumps a.toNat { t with calls := (t.pc + 1) :: t.calls } else fault 0x15) ∧
    (n = 2 → exec (.ret p 0 0) s = match t.calls with
      | [] => fault 0x11
      | x :: l => if x < len then jumps x { t with calls := l } else fault 0x15) ∧
    (n = 1 → exec (.endTask p 0 0) s = .next (s.ran p n k (fun d => d.taskEnded s.cfg p.toNat k) none))

/-- A word with an opcode that is not listed is ILLEGAL (0x13) after its charge; an instruction boundary past the segment
is JUMP_BOUNDS; a breakpoint at the next address enters HOLD; a polder without steps left enters HOLD; a next
instruction that costs more than the budget left spills the polder with kind BUDGET. -/
def Obligations.PolderStops : Prop :=
  ∀ (s : State) (p : BitVec 4) (k : Nat) (t : TaskCtx), Live s →
    (∀ w n, Issues s p n k t → effectOf w = none → costOf w t = n →
      exec (.illegalOpcode p w) s =
        .next (s.withDyn ((s.dyn.issued p.toNat n).programFault s.cfg p.toNat k 0x13 t.pc))) ∧
    (s.dyn.ready s.cfg p.toNat = some (k, t) → s.cfg.get (F.LGE_SEG_LEN_VALUE p.toNat) ≤ t.pc →
      exec (.runPastEnd p) s = .next (s.withDyn
        (s.dyn.programFault s.cfg p.toNat k 0x15 (s.cfg.get (F.LGE_SEG_LEN_VALUE p.toNat))))) ∧
    (s.dyn.ready s.cfg p.toNat = some (k, t) → s.dyn.mode p.toNat = 2 → (s.dyn.polder p.toNat).skipBp = false →
      s.dyn.breakAt p.toNat t.pc = true →
      exec (.breakpointHit p) s = .next (s.withDyn (s.dyn.setMode s.cfg p.toNat 3))) ∧
    (s.dyn.mode p.toNat = 2 → (s.dyn.polder p.toNat).steps = some 0 →
      exec (.stepComplete p) s = .next (s.withDyn
        ((s.dyn.setPolder p.toNat fun x => { x with steps := none }).setMode s.cfg p.toNat 3))) ∧
    (∀ cost : BitVec 8, s.dyn.ready s.cfg p.toNat = some (k, t) → (s.dyn.polder p.toNat).bLogic < cost.toNat →
      exec (.budgetExhaustion p cost) s = .next (s.withDyn (s.dyn.spill s.cfg p.toNat 1)))

/-! ## System services -/

/-- Every service with a parameter block of `m` words that does not lie within the polder's word memory window is
charged, answers LA = 0 and WA = 6, and changes nothing else. -/
def Obligations.ServiceBlockOutsideWindow : Prop :=
  ∀ (s : State) (p : BitVec 4) (k : Nat) (t : TaskCtx) (m n : Nat) (c : Instr),
    (c, m, n) ∈ [(.evqPop p, 4, 4), (.qmul p, 2, 3), (.stx p, 3, 3), (.loopWrite p, 3, 4), (.loopRead p, 2, 4),
      (.loopBank p, 2, 4), (.slvSubmit p, 2, 12), (.slvCancel p, 1, 4), (.qFill p, 1, 3), (.chanDiag p, 2, 4),
      (.chanTest p, 1, 4), (.jrnFreeze p, 1, 4), (.regRead p, 2, 4), (.regWrite p, 2, 4), (.calFromPtp p, 8, 40),
      (.calToPtp p, 8, 40)] →
    Issues s p n k t → ¬ BlockAt s p t m →
    exec c s = .next (s.failed p n k t 6)

/-- EVQ_POP moves the task's oldest entry into the block, ERR_INFO takes the error task's next cause, FLAGS reads and
clears SAT and DIVZ, QMUL multiplies Q16.16 rounded half up and saturating, STX stores a word, BUDGET reads the logic
budget left. EVQ_POP without an entry and ERR_INFO outside the error task or without a cause fail with EMPTY (4), STX
outside the window with MEM_BOUNDS. A service number not in the table is SYS_INVALID (0x16) after 1 cycle. -/
def Obligations.BasicServices : Prop :=
  ∀ (s : State) (p : BitVec 4) (n k : Nat) (t : TaskCtx), Issues s p n k t →
    let x := s.dyn.polder p.toNat
    let a := t.wa.toInt.toNat
    let mine := fun (e : EvEntry) => if k = 0 then e.task == 15 else if k ≤ 8 then e.task == k - 1 else false
    (n = 4 → BlockAt s p t 4 →
      exec (.evqPop p) s = .next (match x.evq.find? mine with
        | some e => s.served p 4 k t (fun d =>
            (d.setPolder p.toNat fun y => { y with evq := y.evq.eraseP mine }).store s.cfg p.toNat a
              [BitVec.ofNat 32 (e.kind * 2 ^ 24 + e.slot * 2 ^ 20 + e.task * 2 ^ 16 + e.source), e.ft, e.value, e.fn]) 0
        | none => s.failed p 4 k t 4)) ∧
    (n = 2 →
      exec (.errInfo p) s = .next (match x.causes with
        | y :: l => if k = 9 then
            s.served p 2 k t (fun d => d.setPolder p.toNat fun z => { z with causes := l }) (BitVec.ofNat 32 y)
          else s.failed p 2 k t 4
        | [] => s.failed p 2 k t 4) ∧
      exec (.flags p) s = .next (s.served p 2 k t
        (fun d => d.setPolder p.toNat fun y => { y with sat := false, divz := false })
        (BitVec.ofNat 32 (b2n x.sat + 2 * b2n x.divz))) ∧
      exec (.budget p) s = .next (s.served p 2 k t id (BitVec.ofNat 32 (x.bLogic - 2)))) ∧
    (n = 3 → BlockAt s p t 2 →
      let v := rnd ((s.blockWord p t 0).toInt * (s.blockWord p t 1).toInt) (2 ^ 16)
      exec (.qmul p) s = .next (s.served p 3 k t
        (fun d => if v > 2 ^ 31 - 1 ∨ v < -2 ^ 31 then d.setSat p.toNat else d) (satWord v).1)) ∧
    (n = 3 → BlockAt s p t 3 →
      let i := (s.blockWord p t 0).toInt + (s.blockWord p t 1).toInt
      exec (.stx p) s = .next (if s.cfg.inWindow p.toNat i 1 then
          s.served p 3 k t (fun d => d.setMword s.cfg p.toNat i.toNat (s.blockWord p t 2)) 0
        else s.failed p 3 k t 6)) ∧
    (∀ q : BitVec 16, n = 1 → serviceOf q.toNat = none →
      exec (.sysInvalid p q) s =
        .next (s.withDyn ((s.dyn.issued p.toNat 1).programFault s.cfg p.toNat k 0x16 t.pc)))

/-- On a context the polder owns, an accepted LOOP_WRITE replaces the value that waits for the next evaluation,
LOOP_READ answers the item, and LOOP_BANK requests a swap, or clears a request when it names the active bank. On a
context the polder does not own each fails with NOT_OWNED (1). -/
def Obligations.LoopServices : Prop :=
  ∀ (s : State) (p : BitVec 4) (k : Nat) (t : TaskCtx), Issues s p 4 k t →
    let c := (s.blockWord p t 0).toNat
    let l := s.dyn.loop c
    let code := (s.blockWord p t 1).toNat
    (BlockAt s p t 3 → s.cfg.ownsLoop p.toNat c = true → writableItems.contains code = true →
      ¬ (bankBase l.bankB ≤ code ∧ code ≤ bankBase l.bankB + 4) →
      s.cfg.loopOk c code (fun x => if x = code then (s.blockWord p t 2).toInt else (l.latest x).toInt) = true →
      exec (.loopWrite p) s = .next (s.served p 4 k t (fun d => d.setLoop c fun y =>
        { y with writes := y.writes.filter (fun w => w.1 != code) ++ [(code, s.blockWord p t 2)] }) 0)) ∧
    (BlockAt s p t 2 → s.cfg.ownsLoop p.toNat c = true →
      exec (.loopRead p) s = .next (match l.readItem code with
        | some w => s.served p 4 k t id w
        | none => s.failed p 4 k t 2) ∧
      (code < 2 → exec (.loopBank p) s = .next (s.served p 4 k t (fun d => d.setLoop c fun y =>
        { y with swap := decide (code = 1) != l.bankB }) 0))) ∧
    (BlockAt s p t 3 → s.cfg.ownsLoop p.toNat c = false →
      exec (.loopWrite p) s = .next (s.failed p 4 k t 1) ∧
      exec (.loopRead p) s = .next (s.failed p 4 k t 1) ∧
      exec (.loopBank p) s = .next (s.failed p 4 k t 1))

/-- SLV_SUBMIT captures the measurements and FN of the view, sets the deadline and queues the job; SLV_READ copies words
of the record in the view; SLV_CANCEL ends an unfinished job, and fails with EMPTY without one. -/
def Obligations.SolverServices : Prop :=
  ∀ (s : State) (p : BitVec 4) (n k : Nat) (t : TaskCtx), Issues s p n k t →
    let q := (s.blockWord p t 0).toNat
    let ofs := (s.blockWord p t 1).toNat
    let v := s.dyn.viewWord p.toNat
    (n = 12 → BlockAt s p t 2 → s.cfg.ownsSlot p.toNat q = true → 1000 ≤ ofs → ofs ≤ 10 ^ 9 →
      (s.dyn.slot q).job.busy = false →
      let ms := (s.cfg.template q).meas
      let ws := ms.map fun m => if m.fromView then v m.index else s.dyn.mword s.cfg p.toNat m.index
      exec (.slvSubmit p) s = .next (s.served p 12 k t (fun d =>
        ((d.setJob q fun _ => { Job.init with
            state := 1, at_ := d.now - d.sinceT + d.laneNs p.toNat, meas := ws, fn := v 0x250, frame := d.latches, offset := ofs,
            left := rangeCost ms.length }).put (F.SLV_JOB_CYC_CYCLES q) 0).wr (Reg.SLV_JOB_DL q)
          (d.slc.tFt + BitVec.ofNat 32 ofs)) (v 0x250))) ∧
    (∀ cnt : Nat, (s.blockWord p t 2).toNat = cnt → n = 8 + (cnt + 3) / 4 → BlockAt s p t 4 → q < 8 →
      s.cfg.slvUsed q = true → s.cfg.inClass p.toNat (32 * (0x284 + q)) = 1 → 0 < cnt →
      ofs + cnt ≤ s.cfg.recLen q → s.cfg.inWindow p.toNat (s.blockWord p t 3).toInt cnt = true →
      exec (.slvRead p) s = .next (s.served p n k t (fun d =>
        d.store s.cfg p.toNat (s.blockWord p t 3).toInt.toNat (((s.dyn.viewRec s.cfg p.toNat q).drop ofs).take cnt))
        (recWord (s.dyn.viewRec s.cfg p.toNat q) 0))) ∧
    (n = 4 → BlockAt s p t 1 → s.cfg.ownsSlot p.toNat q = true →
      exec (.slvCancel p) s = .next (if (s.dyn.slot q).job.busy then
          s.served p 4 k t (fun d => d.cancelJob s.cfg q) 0
        else s.failed p 4 k t 4))

/-- Q_SEND appends a message to the pending part of an owned transmit queue with room, and is FULL (5) at DEPTH under
DROP_NEWEST; Q_RECV takes the oldest visible entry of an owned receive queue into memory, or fails with EMPTY (4);
Q_FILL answers the entries of an owned queue. -/
def Obligations.QueueServices : Prop :=
  ∀ (s : State) (p : BitVec 4) (n k : Nat) (t : TaskCtx), Issues s p n k t →
    let q := (s.blockWord p t 0).toNat
    let w := (s.blockWord p t 1).toNat
    let dst := (s.blockWord p t 2).toInt
    q < 128 → s.cfg.queueUsed q = true → s.cfg.qOwner q = p.toNat →
    (n = 6 + (w + 3) / 4 → BlockAt s p t 3 → 1 ≤ w → w ≤ 64 → w ≤ s.cfg.qWords q →
      s.cfg.inWindow p.toNat dst w = true → s.cfg.qReceive q = false → s.cfg.qKind q ≠ 0 →
      let ws := s.dyn.block s.cfg p.toNat dst.toNat w
      (s.dyn.qSeen p.toNat q < s.cfg.qDepth q →
        exec (.qSend p) s = .next (s.served p n k t (fun d =>
          (d.setQueue q fun x => { x with pend := x.pend ++ [⟨0, ws⟩] }).qPeak q) 0)) ∧
      (s.cfg.qDepth q ≤ s.dyn.qSeen p.toNat q → s.cfg.flag (F.HQ_CFG_POLICY q) = false →
        exec (.qSend p) s = .next (s.ran p n k (fun d => d.bump (F.HQ_DROP_COUNT q))
          (some { t with la := false, wa := 5, pc := t.pc + 1 })))) ∧
    (n = 6 + (w + 3) / 4 → BlockAt s p t 3 → s.cfg.inWindow p.toNat dst w = true → s.cfg.qReceive q = true →
      (∀ e l, (s.dyn.queue q).done = e :: l → e.seq ≤ (s.dyn.polder p.toNat).viewSeq →
        exec (.qRecv p) s = .next (s.served p n k t (fun d =>
            (d.setQueue q fun x => { x with done := l }).store s.cfg p.toNat dst.toNat (e.words.take w))
          (BitVec.ofNat 32 (e.words.take w).length))) ∧
      ((s.dyn.queue q).done = [] → exec (.qRecv p) s = .next (s.failed p n k t 4))) ∧
    (n = 3 → BlockAt s p t 1 → s.cfg.qKind q ≠ 2 →
      exec (.qFill p) s = .next (s.served p 3 k t id (BitVec.ofNat 32
        (if s.cfg.qReceive q then s.dyn.qVisible p.toNat q else sget 0 (s.dyn.polder p.toNat).fillView q))))

/-- CHAN_DIAG answers the diagnostic word of a readable digital channel, CHAN_TEST requests a wire-break test of an owned
input, JRN_FREEZE requests a freeze with a 16-bit cause, REG_READ reads a granted LK register, and REG_WRITE lets P0
write one of its three registers. -/
def Obligations.ChannelAndRegisterServices : Prop :=
  ∀ (s : State) (p : BitVec 4) (k : Nat) (t : TaskCtx), Issues s p 4 k t →
    let x := (s.blockWord p t 0).toNat
    let y := (s.blockWord p t 1).toNat
    (BlockAt s p t 2 → x = 0 → y < 96 → s.cfg.inClass p.toNat (32 * (8 + y)) = 1 →
      exec (.chanDiag p) s = .next (s.served p 4 k t id
        ((s.cfg.rd (Reg.DIO_CFG y) &&& 0x07FFC000) |||
          BitVec.ofNat 32 (s.cfg.get (F.DIO_OCFG_SAFE y) * 256 + b2n (s.cfg.pairDo y) * 128) |||
          (s.dyn.viewWord p.toNat (8 + y) &&& 0x80000000)))) ∧
    (BlockAt s p t 1 → x < 96 → s.cfg.digOwner x = some p.toNat → s.cfg.isOut x = false →
      s.cfg.flag (F.DIO_CFG_WB_EN x) = true →
      exec (.chanTest p) s = .next (
        if (s.dyn.dig x).wb = true ∨ (s.dyn.viewWord p.toNat (8 + x)).bit (F.DIO_STATUS_WB_ACTIVE x).lo = true ∨
            s.dyn.recoveringView s.cfg p.toNat x = true then s.failed p 4 k t 3
        else s.served p 4 k t (fun d => d.setDig x fun z => { z with wb := true }) 0)) ∧
    (BlockAt s p t 1 → x ≤ 65535 →
      exec (.jrnFreeze p) s = .next (s.served p 4 k t
        (fun d => { d with jrn := { d.jrn with requests := d.jrn.requests ++ [(p.toNat, x)] } }) 0)) ∧
    (BlockAt s p t 2 → x % 4 = 0 → s.cfg.granted p.toNat x false = true → isLk x = true →
      p0Register x = false → latchedWord x = none →
      exec (.regRead p) s = .next (s.served p 4 k t
        (fun d => d.setMword s.cfg p.toNat (t.wa.toInt.toNat + 1) (s.cfg.rd x)) (s.cfg.rd x))) ∧
    (BlockAt s p t 2 → x % 4 = 0 → s.cfg.granted p.toNat x true = true → p = 0 → p0Register x = true →
      ∃ m, (regRow x).map (·.mask) = some m ∧
      exec (.regWrite p) s = .next (s.served p 4 k t (fun d => d.p0Write x (s.blockWord p t 1 &&& m)) 0))

/-- CAL_FROM_PTP writes the calendar date and time of the view's PTP time into the block, local time when LOCAL is set;
CAL_TO_PTP answers the PTP seconds of the block's date and time. A time outside the calendar's range fails with the
conversion's status and changes nothing. -/
def Obligations.CalendarServices : Prop :=
  ∀ (s : State) (p : BitVec 4) (k : Nat) (t : TaskCtx), Issues s p 40 k t → BlockAt s p t 8 →
    let v := s.dyn.viewWord p.toNat
    let cal := v 0x1000
    let loc := (s.blockWord p t 7).bit 0
    let shift : Int := if loc then localOfs cal * 900 else 0
    let b := fun i => (s.blockWord p t i).toInt
    (∀ u, calRange (utcOfPtp cal ((v 0x252).toNat + (v 0x253).field 0 16 * 2 ^ 32) + shift) = .ok u →
      ∃ w7 : Word, w7.bit 0 = loc ∧ w7.bit 1 = cal.bit 16 ∧ w7.bit 2 = (v 0x1001).bit 0 ∧
        w7.field 8 3 = weekday u.toNat ∧
      exec (.calFromPtp p) s = .next (s.served p 40 k t (fun d =>
        let x := CalTime.ofSeconds u.toNat
        d.store s.cfg p.toNat t.wa.toInt.toNat
          ([x.year, x.month, x.day, x.hour, x.minute, x.second].map (BitVec.ofInt 32) ++ [v 0x254, w7])) 0)) ∧
    (∀ l u, (CalTime.mk (b 0) (b 1) (b 2) (b 3) (b 4) (b 5)).toSeconds = .ok l → calRange (l - shift) = .ok u →
      exec (.calToPtp p) s = .next (s.served p 40 k t (fun d =>
        d.setMword s.cfg p.toNat (t.wa.toInt.toNat + 6) (BitVec.ofInt 32 (ptpOfUtc cal u / 2 ^ 32)))
        (BitVec.ofInt 32 (ptpOfUtc cal u)))) ∧
    (∀ e, calRange (utcOfPtp cal ((v 0x252).toNat + (v 0x253).field 0 16 * 2 ^ 32) + shift) = .error e →
      exec (.calFromPtp p) s = .next (s.failed p 40 k t (BitVec.ofNat 32 e)))

/-! ## Command registers -/

/-- While no LGE_CMD command is PENDING, an allowed write of RUN_COLD, RUN_WARM, STOP, HOLD, STEP, CONTINUE, BP_SET or
BP_CLR reports it PENDING in LGE_CMD_STAT and joins the writes of the next input latch with its polder, breakpoint and
argument; STEP and BP_SET load LGE_CMD_ARG first. While one is PENDING, a further one changes nothing but LGE_CMD_ARG. -/
def Obligations.LogicEngineCommands : Prop :=
  ∀ (s : State) (who : Requester) (p b : BitVec 4) (x : BitVec 19), Live s → MayWrite s who Reg.LGE_CMD →
    let d := s.dyn.by_ who
    let goes : Dyn → Nat → Nat → Nat → Out := fun d code bp a =>
      .next (s.withDyn ((d.lgeStat code 1).stage_ Reg.LGE_CMD
        (BitVec.ofNat 32 (code + p.toNat * 16 + bp * 256 + a * 4096))))
    let arg := s.dyn.get F.LGE_CMD_ARG_ARG
    (s.dyn.get F.LGE_CMD_STAT_STATUS ≠ 1 →
      exec (.runCold who p) s = goes d 1 0 arg ∧
      exec (.runWarm who p) s = goes d 2 0 arg ∧
      exec (.stop who p) s = goes d 3 0 arg ∧
      exec (.hold who p) s = goes d 4 0 arg ∧
      exec (.step who p x) s = goes (d.put F.LGE_CMD_ARG_ARG x.toNat) 5 0 x.toNat ∧
      exec (.continue_ who p) s = goes d 6 0 arg ∧
      exec (.bpSet who p b x) s = goes (d.put F.LGE_CMD_ARG_ARG x.toNat) 7 b.toNat x.toNat ∧
      exec (.bpClr who p b) s = goes d 8 b.toNat arg) ∧
    (s.dyn.get F.LGE_CMD_STAT_STATUS = 1 →
      exec (.runCold who p) s = .next (s.withDyn d) ∧ exec (.runWarm who p) s = .next (s.withDyn d) ∧
      exec (.stop who p) s = .next (s.withDyn d) ∧ exec (.hold who p) s = .next (s.withDyn d) ∧
      exec (.continue_ who p) s = .next (s.withDyn d) ∧ exec (.bpClr who p b) s = .next (s.withDyn d) ∧
      exec (.step who p x) s = .next (s.withDyn (d.put F.LGE_CMD_ARG_ARG x.toNat)) ∧
      exec (.bpSet who p b x) s = .next (s.withDyn (d.put F.LGE_CMD_ARG_ARG x.toNat)))

/-- While no such command is PENDING, an allowed write of STN_PL_CMD (VAR_WRITE, K_COMMIT, K_CANCEL, FORCE_SET,
FORCE_CLR, FORCE_CLR_POLDER) or of STN_TWIN_CMD (JOIN, HANDOVER, WITHDRAW, CLEAR_DIV) reports it PENDING and joins the
writes of the next input latch; HANDOVER and WITHDRAW write STN_TWIN_ARG with it. -/
def Obligations.ProgramLifeAndTwinCommands : Prop :=
  ∀ (s : State) (who : Requester) (p : BitVec 4) (unitB restart : Bool), Live s →
    let d := s.dyn.by_ who
    (MayWrite s who Reg.STN_PL_CMD → s.dyn.get F.STN_PL_STAT_STATUS ≠ 1 →
      let goes : Nat → Nat → Out := fun code q =>
        .next (s.withDyn ((d.plStat code 1 0).stage_ Reg.STN_PL_CMD (BitVec.ofNat 32 (code + q * 2 ^ 16))))
      exec (.varWrite who p) s = goes 1 p.toNat ∧ exec (.kCommit who p) s = goes 2 p.toNat ∧
      exec (.kCancel who p) s = goes 3 p.toNat ∧ exec (.forceSet who) s = goes 4 0 ∧
      exec (.forceClr who) s = goes 5 0 ∧ exec (.forceClrPolder who p) s = goes 6 p.toNat) ∧
    (MayWrite s who Reg.STN_TWIN_CMD → s.dyn.get F.STN_TWIN_STAT_STATUS ≠ 1 →
      let goes : Dyn → Nat → Out := fun d code =>
        .next (s.withDyn ((d.twinStat code 1).stage_ Reg.STN_TWIN_CMD (BitVec.ofNat 32 code)))
      let arg := d.stage_ Reg.STN_TWIN_ARG (BitVec.ofNat 32 (b2n restart * 256 + b2n unitB))
      exec (.join (.write who)) s = goes d 1 ∧
      exec (.handover who unitB restart) s = goes arg 2 ∧
      exec (.withdraw who unitB restart) s = goes arg 3 ∧
      exec (.clearDiv who) s = goes d 4)

/-- While the update service answers and no command is BUSY, a listed transition of the pending slot (with a usable key)
or of the idle bank is accepted: LAST names it and STATUS is BUSY (1). One that is not listed is REFUSED (3) and LAST
stays; one that needs the key without it ends with KEY_LOST (4). -/
def Obligations.UpdateCommandsRun : Prop :=
  ∀ (s : State) (who : Requester) (bank : Bool) (k : Nat) (c : Instr),
    (k, c) ∈ [(1, .updWrite who bank), (2, .updDone who bank), (3, .verifyPending who bank),
      (4, .requestActivate who bank), (5, .cancelActivate who bank), (6, .erasePending who bank)] →
    Live s → MayWrite s who Reg.BOOT_CMD → s.dyn.bootServed = true → s.dyn.bootBusy = false →
    let d := s.dyn.by_ who
    ((bank = true ∨ s.dyn.keyUsable.isSome = true) → s.dyn.bootAllowed k bank = true →
      exec c s = .next (s.withDyn
        ((({ d with boot := { d.boot with target := bank } } : Dyn).put F.BOOT_CMD_STAT_LAST k).put
          F.BOOT_CMD_STAT_STATUS 1))) ∧
    ((bank = true ∨ s.dyn.keyUsable.isSome = true) → s.dyn.bootAllowed k bank = false →
      exec c s = .next (s.withDyn (d.put F.BOOT_CMD_STAT_STATUS 3))) ∧
    (bank = false → s.dyn.keyUsable = none →
      exec c s = .next (s.withDyn ((d.put F.BOOT_CMD_STAT_LAST k).put F.BOOT_CMD_STAT_STATUS 4)))

/-- BOOT_COMMAND_COMPLETE ends the BUSY command: on the key, UPD_DONE, REQUEST_ACTIVATE and CANCEL_ACTIVATE write the
directory with the next state, ERASE_PENDING empties the pending slot, and VERIFY_PENDING tries the image; on the idle
bank, UPD_DONE, VERIFY_PENDING and ERASE_PENDING do the same. STATUS becomes DONE (2), VERIFY_FAILED (5) after a failed
trial, KEY_LOST (4) without a usable key; UPD_WRITE programs a page and is DONE. -/
def Obligations.UpdateCommandsComplete : Prop :=
  ∀ (s : State), Live s → s.dyn.bootBusy = true →
    let code := s.dyn.get F.BOOT_CMD_STAT_LAST
    (∀ k, s.dyn.boot.target = false → s.dyn.keyUsable = some k →
      let ends : Key → Out := fun x => .next (s.withDyn (((s.dyn.setKey x).pendRegs x).put F.BOOT_CMD_STAT_STATUS 2))
      (code = 2 → exec .bootCommandComplete s = ends (k.writeDir fun x => { x with pendState := 2 })) ∧
      (code = 4 → exec .bootCommandComplete s = ends (k.writeDir fun x => { x with pendState := 4 })) ∧
      (code = 5 → exec .bootCommandComplete s = ends (k.writeDir fun x => { x with pendState := 3 })) ∧
      (code = 6 → exec .bootCommandComplete s =
        ends ((k.setSlot k.pending ⟨none, []⟩).writeDir fun x => { x with pendState := 0, idPend := 0 })) ∧
      (let x := s.dyn.imageIn (k.slot k.pending)
       let y := k.setSlot k.pending { k.slot k.pending with image := some x }
       code = 3 → exec .bootCommandComplete s = match s.dyn.tryImage x with
        | none => ends (y.writeDir fun z => { z with pendState := 3, idPend := x.imageId })
        | some cause =>
          let z := y.writeDir fun z => { z with pendState := 5, pendCause := cause }
          .next (s.withDyn (((s.dyn.setKey z).pendRegs z).put F.BOOT_CMD_STAT_STATUS 5))) ∧
      (code = 1 → ∃ u, exec .bootCommandComplete s = .next u ∧ u.dyn.get F.BOOT_CMD_STAT_STATUS = 2)) ∧
    (s.dyn.boot.target = false → s.dyn.keyUsable = none →
      exec .bootCommandComplete s = .next (s.withDyn (s.dyn.put F.BOOT_CMD_STAT_STATUS 4))) ∧
    (s.dyn.boot.target = true →
      let i := !s.dyn.bankNow
      let ends : Bank → Out := fun b => .next (s.withDyn
        ((({ s.dyn with nv := s.dyn.nv.setBank i b } : Dyn).bankShown).put F.BOOT_CMD_STAT_STATUS 2))
      (code = 2 → exec .bootCommandComplete s = ends { s.dyn.nv.bank i with state := 2 }) ∧
      (code = 3 → exec .bootCommandComplete s =
        if (s.dyn.nv.bank i).candidate s.dyn.nv.fwSvn then ends { s.dyn.nv.bank i with state := 3 }
        else .next (s.withDyn
          ((({ s.dyn with nv := s.dyn.nv.setBank i { s.dyn.nv.bank i with state := 5 } } : Dyn).bankShown).put
            F.BOOT_CMD_STAT_STATUS 5))) ∧
      (code = 1 → ∃ u, exec .bootCommandComplete s = .next u ∧ u.dyn.get F.BOOT_CMD_STAT_STATUS = 2) ∧
      (code = 6 → exec .bootCommandComplete s = ends Bank.empty))

/-- The accepted commands: BEGIN makes the calibration ACTIVE on its channel with no point, DRIVE sets the stage of an
output, POINT starts a conversion (BUSY), COMMIT of a computed calibration waits for the store (BUSY), ABORT ends it,
FACTORY stores gain 1 and offset 0. A completed command reports DONE (2); while one is BUSY a further one is refused, and
LAST and the 600 s of the timeout alone follow it. -/
def Obligations.CalibrationCommands : Prop :=
  ∀ (s : State) (who : Requester) (m : BitVec 5) (x : BitVec 2), Live s → MayWrite s who Reg.AIO_CAL_CMD →
    let d := s.dyn.by_ who
    let act := s.dyn.flag F.AIO_CAL_STAT_ACTIVE
    let ch := s.dyn.get F.AIO_CAL_STAT_CHAN
    (s.dyn.get F.AIO_CAL_STAT_STATUS = 1 →
      let refused : Nat → Out := fun code => .next (s.withDyn (d.calMark code))
      exec (.begin_ who m x) s = refused 1 ∧ exec (.drive who x) s = refused 2 ∧ exec (.point who x) s = refused 3 ∧
      exec (.compute who) s = refused 4 ∧ exec (.calCommit who) s = refused 5 ∧ exec (.abort who) s = refused 6 ∧
      exec (.factory who m) s = refused 7) ∧
    (s.dyn.get F.AIO_CAL_STAT_STATUS ≠ 1 →
      (act = false → s.cfg.anaMode m.toNat ≠ 0 → x.toNat < 2 → (x = 0 → s.cfg.anaMode m.toNat = 1) →
        exec (.begin_ who m x) s = .next (s.withDyn
          (((({ ((d.setFlag F.AIO_CAL_STAT_ACTIVE true).put F.AIO_CAL_STAT_CHAN m.toNat).put F.AIO_CAL_STAT_POINTS 0 with
              cal := { Cal.init with external := x == 1 } } : Dyn).setAna m.toNat fun a =>
            { a with calStage := s.dyn.stage s.cfg m.toNat, calPlain := false, waitCal := false }).calStat 1 2 0).fixAio s.cfg m.toNat))) ∧
      (act = true → s.dyn.cal.external = true → s.cfg.anaMode ch = 2 → x.toNat < 3 →
        exec (.drive who x) s = .next (s.withDyn
          (((d.setAna ch fun a =>
            { a with calStage := if x = 0 then 0x40000 else if x = 1 then 0xC0000 else 0x140000, calPlain := true }).calStat 2 2 0).fixAio
            s.cfg ch))) ∧
      (act = true → x.toNat < (if s.dyn.cal.external then 3 else 2) →
        exec (.point who x) s = .next (s.withDyn
          (({ d with cal := { d.cal with point := x.toNat } } : Dyn).calBusy 3))) ∧
      (act = true → s.dyn.cal.computed = true →
        exec (.calCommit who) s = .next (s.withDyn (d.calBusy 5))) ∧
      (act = true → exec (.abort who) s = .next (s.withDyn ((d.calStat 6 2 0).calEnd s.cfg))) ∧
      (act = false →
        exec (.factory who m) s = .next (s.withDyn
          ((((d.calStore m.toNat 0x40000000 0 0 false).setAna m.toNat fun a =>
            { a with gain := 0x40000000, offs := 0 }).put F.AIO_CAL_STAT_CHAN m.toNat).calStat 7 2 0))))

/-- 6.4 ms after POINT, a point with a spread of at most 20 µA is kept with its reference and reports DONE, one with more
is REFUSED with reason 6; COMPUTE over points that lie on y = 1 · x gives gain 1 and offset 0 (two points, both read exactly); the
written store ends the calibration; at 600 s without a command it ends with reason TIMEOUT (7). -/
def Obligations.CalibrationCompletes : Prop :=
  ∀ (s : State), Live s →
    let d := s.dyn
    let ch := d.get F.AIO_CAL_STAT_CHAN
    (∀ mean spread : Word, d.get F.AIO_CAL_STAT_STATUS = 1 → d.cal.busy = 3 →
      d.near s.cfg (d.cal.busyAt + 6400000) →
      let d := d.dueAt (d.cal.busyAt + 6400000)
      let k := d.cal.point
      let y : Int := if d.cal.external then (d.rd Reg.AIO_CAL_REF).toInt else if k = 0 then 0 else 10 * 65536
      exec (.pointRecorded mean spread) s = .next (s.withDyn (
        if 20 * 65536 < spread.toNat * 1000 then d.calEnds 3 6
        else (({ d with cal := { d.cal with
            points := (d.cal.points.filter fun q => q.1 != k) ++ [(k, mean.toInt, y)] } } : Dyn).put
          F.AIO_CAL_STAT_POINTS (d.get F.AIO_CAL_STAT_POINTS ||| 1 <<< k)).calEnds 2 0))) ∧
    (∀ who, MayWrite s who Reg.AIO_CAL_CMD → d.get F.AIO_CAL_STAT_STATUS ≠ 1 → d.flag F.AIO_CAL_STAT_ACTIVE = true →
      d.cal.external = false → d.cal.points = [(0, 0, 0), (1, 655360, 655360)] →
      exec (.compute who) s = .next (s.withDyn
        (({ ((d.by_ who).wr Reg.AIO_CAL_RES_G 0x40000000).wr Reg.AIO_CAL_RES_O 0 with
            cal := { d.cal with computed := true } } : Dyn).calStat 4 2 0))) ∧
    (d.get F.AIO_CAL_STAT_STATUS = 1 → d.cal.busy = 5 →
      exec .calStoreWritten s = .next (s.withDyn (((d.calStore ch (d.rd Reg.AIO_CAL_RES_G) (d.rd Reg.AIO_CAL_RES_O)
        (if d.cal.external then 2 else 1) true).calEnds 2 0).calEnd s.cfg))) ∧
    (d.flag F.AIO_CAL_STAT_ACTIVE = true → d.near s.cfg (d.cal.lastCmd + 600 * 10 ^ 9) →
      exec .calibrationTimeout s =
        .next (s.withDyn (((d.dueAt (d.cal.lastCmd + 600 * 10 ^ 9)).calStat 6 2 7).calEnd s.cfg)))

/-- On a unit that is neither the time master nor a follower, with no change waiting and the servo external, SET_INCR
with a value inside the range of R339, SET_TIME with nanoseconds below one second, and ADJ_TIME act in the next fabric cycle and
report DONE (2); SET_INCR outside the range is refused with reason 3, SET_TIME beyond one second with reason 1. A write of
TSU_CMP_TGT of a ONE_SHOT unit and of TSU_CMP_ARM joins the writes of the next input latch. -/
def Obligations.TimeCommands : Prop :=
  ∀ (s : State) (who : Requester) (u : BitVec 5) (v : Word), Live s →
    let d := s.dyn.by_ who
    (MayWrite s who Reg.TSU_CMD → s.cfg.flag F.TSU_CFG_SERVO = true → s.dyn.follower = false →
      s.dyn.timeMaster s.cfg = false → s.dyn.tsu.apply = none →
      let incr := s.dyn.rd Reg.TSU_ST_INCR
      let ns := (s.dyn.rd Reg.TSU_ST_NS).toNat
      let sec := BitVec.ofNat 48 (s.dyn.get F.TSU_ST_SEC_HI_SEC_HI * 2 ^ 32 + (s.dyn.rd Reg.TSU_ST_SEC_LO).toNat)
      (exec (.setIncr who) s = .next (s.withDyn (
        if 33520878 ≤ incr.toNat ∧ incr.toNat ≤ 33587986 then ((d.ticks 1).change s.cfg ⟨some incr, none, none⟩).tsuStat 2 0
        else d.tsuStat 3 3))) ∧
      (exec (.setTime who) s = .next (s.withDyn (
        if ns < 10 ^ 9 then ((d.ticks 1).change s.cfg ⟨none, some (sec, ns), none⟩).tsuStat 2 0 else d.tsuStat 3 1))) ∧
      exec (.adjTime who) s = .next (s.withDyn
        (((d.ticks 1).change s.cfg ⟨none, none, some (s.dyn.rd Reg.TSU_ST_ADJ)⟩).tsuStat 2 0))) ∧
    (MayWrite s who (Reg.TSU_CMP_TGT u.toNat) →
      exec (.tsuCmpTgt who u v) s = .next (s.withDyn (
        if s.cfg.get (F.TSU_CMP_CFG_MODE u.toNat) = 3 then d.stage_ (Reg.TSU_CMP_TGT u.toNat) v else d))) ∧
    (MayWrite s who (Reg.TSU_CMP_ARM u.toNat) →
      exec (.tsuCmpArm who u) s = .next (s.withDyn (d.stage_ (Reg.TSU_CMP_ARM u.toNat) 1)))

/-- While none waits and no hour change runs, an RTC command is noted PENDING and waits for its execution; RTC_TRIM takes a trim other than −128. Outside REPLAY,
FREEZE opens a window, and PROTECT, UNPROTECT, ERASE, ARM_REPLAY (with checkpoint 0) and DISARM act on the selected
window; in REPLAY, PAUSE_AT names the frame and RESUME ends a pause. -/
def Obligations.RtcAndJournalCommands : Prop :=
  ∀ (s : State) (who : Requester), Live s →
    let d := s.dyn.by_ who
    (MayWrite s who Reg.RTC_CMD → s.dyn.rtc.cmd = none → s.dyn.rtc.hour = none →
      let pend : Nat → Nat → Out := fun code a => .next (s.withDyn
        { d.rtcStat code 1 0 with rtc := { d.rtc with cmd := some (code, a) } })
      exec (.addHour who) s = pend 1 0 ∧ exec (.subHour who) s = pend 2 0 ∧ exec (.setCal who) s = pend 3 0 ∧
      (∀ a : BitVec 8, exec (.setTaiUtc who a) s = pend 4 a.toNat) ∧ exec (.clrSwo who) s = pend 5 0) ∧
    (∀ v : Word, MayWrite s who Reg.RTC_TRIM →
      exec (.rtcTrimWrite who v) s = .next (s.withDyn (
        if v.field 0 8 = 0x80 then d else d.put F.RTC_TRIM_TRIM (v.field 0 8)))) ∧
    (MayWrite s who Reg.JRN_CMD → s.dyn.modState ≠ 4 →
      let i := s.dyn.get F.JRN_WIN_SEL_WIN
      exec (.freeze who) s = .next (s.withDyn ((d.freeze s.cfg 2 0 d.fn).jrnStat 1 2 0)) ∧
      (∀ w, s.dyn.window i = some w →
        let put : Nat → Option Window → Out := fun code x => .next (s.withDyn ((d.setWindow i x).jrnStat code 2 0))
        exec (.protect who) s = put 2 (some { w with prot := true }) ∧
        exec (.unprotect who) s = put 3 (some { w with prot := false }) ∧
        exec (.erase who) s = (if w.prot then .next (s.withDyn (d.jrnStat 4 3 3)) else put 4 none) ∧
        ((∀ j < 16, ∀ x, s.dyn.window j = some x → x.armed = false) →
          exec (.armReplay who 0) s =
            .next (s.withDyn (((d.wr Reg.JRN_ARG 0).setWindow i (some { w with armed := true, armArg := 0 })).jrnStat
              5 2 0))) ∧
        exec (.disarm who) s = put 6 (some { w with armed := false }))) ∧
    (MayWrite s who Reg.JRN_CMD → s.dyn.modState = 4 →
      (∀ n : Word, exec (.pauseAt who n) s = .next (s.withDyn
        (({ d.wr Reg.JRN_ARG n with jrn := { d.jrn with pauseAt := some n } } : Dyn).jrnStat 7 2 0))) ∧
      (s.dyn.get F.JRN_REPLAY_STATE = 2 → exec (.resume who) s = .next (s.withDyn (d.replayRuns.jrnStat 9 2 0))))

/-- On a configured channel without a held cancellation: RECOVER in BUS_OFF starts the recovery count; CANCEL of a queue
whose frame is not on the bus empties it and reports the entries removed; CLR_COLL clears ID_COLLISION. Each reports
DONE (2). -/
def Obligations.CanCommands : Prop :=
  ∀ (s : State) (who : Requester) (k : BitVec 2) (q : BitVec 7), Live s → MayWrite s who (Reg.CAN_CMD k.toNat) →
    s.cfg.canUsed k.toNat = true → (s.dyn.canOf k.toNat).held = none →
    let d := s.dyn.by_ who
    let n := k.toNat
    (s.dyn.canState n = 2 → (s.dyn.canOf n).counting = false →
      exec (.recover who k) s = .next (s.withDyn ((d.setCan n fun x => { x with counting := true }).canStat n 1 2 0))) ∧
    (s.cfg.canQueues.contains q.toNat = true → s.cfg.get (F.HQ_CFG_CANCH q.toNat) = n → s.dyn.onBus s.cfg q.toNat = false →
      exec (.cancel who k q) s = .next (s.withDyn
        (((((d.uncount (.queue q.toNat)).setQueue q.toNat fun x => { x with done := [], rel := [] }).put (F.CAN_CMD_STAT_REMOVED n)
          (min ((s.dyn.queue q.toNat).done.length + (s.dyn.queue q.toNat).rel.length) 255)).put
            (F.CAN_CMD_STAT_HELD n) 0).canStat n 2 2 0))) ∧
    exec (.clrColl who k) s = .next (s.withDyn ((d.setFlag (F.CAN_STATUS_ID_COLLISION n) false).canStat n 3 2 0))

/-! ## Digital channels -/

/-- On an output of a group without UV_WARN that is no pair output and not in that condition: OVERLOAD sets its bit while
the switch is ON, and ends DRV_FAIL; EXT_DRIVE and, with OPEN_OFF_EN, OPEN_OFF set theirs while the driver is OFF; OPEN_ON and, without OVERLOAD and THERMAL,
DRV_FAIL set theirs while it is ON; REVERSE in any case; EXT_DRIVE is counted. DIAGNOSTIC_CLEAR clears the bit of the
named condition. The status word's INVALID bit is then LINK_FAIL or DRV_FAIL, and no register but the channel's status
word and the event count changes. THERMAL sets its bit and counts; under LATCH it sets RETRY_LATCHED, under AUTO when the
failed retries in a row reach RETRY_MAX (not 0), a retry having failed when the shutdown came within 1 s of it. RETRY of
an AUTO driver that is not latched, RETRY_INT after the shutdown, clears THERMAL and starts that second where the driver
value is ON, and waits for it otherwise. -/
def Obligations.OutputDiagnostics : Prop :=
  ∀ (s : State) (n : BitVec 7), Live s → n.toNat < 96 → s.cfg.isOut n.toNat = true →
    let k := n.toNat
    let ends : Instr → Fld → Bool → Prop := fun c f b => ∃ u, exec c s = .next u ∧
      u.dyn.flag f = b ∧
      u.dyn.flag (F.DIO_STATUS_INVALID k) =
        (u.dyn.flag (F.DIO_STATUS_LINK_FAIL k) || u.dyn.flag (F.DIO_STATUS_DRV_FAIL k)) ∧
      (∀ a, a ≠ Reg.DIO_STATUS k → a ≠ Reg.DIO_EVCNT k → u.dyn.rd a = s.dyn.rd a) ∧
      { u.dyn with regs := s.dyn.regs } = s.dyn ∧ u.cfg = s.cfg ∧ u.pending = s.pending
    (s.dyn.switchOn s.cfg k = true → ∃ u, exec (.overload n) s = .next u ∧
      u.dyn.flag (F.DIO_STATUS_OVERLOAD k) = true ∧ u.dyn.flag (F.DIO_STATUS_DRV_FAIL k) = false ∧
      u.dyn.flag (F.DIO_STATUS_INVALID k) = u.dyn.flag (F.DIO_STATUS_LINK_FAIL k) ∧
      ∀ a, a ≠ Reg.DIO_STATUS k → u.dyn.rd a = s.dyn.rd a) ∧
    (∀ cond, ends (.diagnosticClear n cond) (condFld k cond) false) ∧
    (s.dyn.diagOn k = true → s.cfg.pairDo k = false →
      ends (.reverse n) (F.DIO_STATUS_REVERSE k) true ∧
      (s.dyn.driver s.cfg k = false → s.dyn.flag (F.DIO_STATUS_EXT_DRIVE k) = false →
        ends (.extDrive n) (F.DIO_STATUS_EXT_DRIVE k) true) ∧
      (s.dyn.driver s.cfg k = false → s.cfg.flag (F.DIO_OCFG_OPEN_OFF_EN k) = true →
        ends (.openOff n) (F.DIO_STATUS_OPEN_OFF k) true) ∧
      (s.dyn.driver s.cfg k = true →
        ends (.openOn n) (F.DIO_STATUS_OPEN_ON k) true ∧
        (s.dyn.flag (F.DIO_STATUS_OVERLOAD k) = false → s.dyn.flag (F.DIO_STATUS_THERMAL k) = false →
          ends (.drvFail n) (F.DIO_STATUS_DRV_FAIL k) true))) ∧
    (let again : Bool := (s.dyn.dig k).retryAt.any fun t => decide (s.dyn.now - t < 10 ^ 9)
     let fails := if again then (s.dyn.dig k).failedRetries + 1 else 0
     let mx := s.cfg.get (F.DIO_OCFG_RETRY_MAX k)
     ∃ u, exec (.thermal n) s = .next u ∧ u.dyn.flag (F.DIO_STATUS_THERMAL k) = true ∧
      u.dyn.flag (F.DIO_STATUS_RETRY_LATCHED k) = (s.dyn.flag (F.DIO_STATUS_RETRY_LATCHED k) ||
        s.cfg.flag (F.DIO_OCFG_RETRY k) || (mx != 0 && decide (mx ≤ fails))) ∧
      (u.dyn.dig k).failedRetries = fails ∧
      u.dyn.get (F.DIO_EVCNT_THERMAL k) = min (s.dyn.get (F.DIO_EVCNT_THERMAL k) + 1)
        (2 ^ (F.DIO_EVCNT_THERMAL k).width - 1) ∧
      ∀ a, a ≠ Reg.DIO_STATUS k → a ≠ Reg.DIO_EVCNT k → u.dyn.rd a = s.dyn.rd a) ∧
    (s.dyn.flag (F.DIO_STATUS_THERMAL k) = true → s.dyn.flag (F.DIO_STATUS_RETRY_LATCHED k) = false →
      s.cfg.flag (F.DIO_OCFG_RETRY k) = false →
      let due := (s.dyn.dig k).thermalAt + s.cfg.get (F.DIO_OCFG_RETRY_INT k) * 10 ^ 7
      s.dyn.near s.cfg due →
      let e := s.dyn.dueAt due
      ∃ u, exec (.retry n) s = .next u ∧
        (e.driver s.cfg k = true → u.dyn.flag (F.DIO_STATUS_THERMAL k) = false ∧ (u.dyn.dig k).retryAt = some e.now) ∧
        (e.driver s.cfg k = false → u.dyn.flag (F.DIO_STATUS_THERMAL k) = true ∧ (u.dyn.dig k).rearmed = some true) ∧
        ∀ a, a ≠ Reg.DIO_STATUS k → u.dyn.rd a = e.rd a)

/-- RAW_EDGE takes the new raw state and its time, in DEEP DOZE the time base's; FILTER_CONFIRM confirms a raw state held for the filter time, 14 ns
later; CHATTER_COOL_DOWN_END, CHAT_COOL after the chatter, with at most CHAT_N changes in the last CHAT_WIN and the state
as before it, clears CHATTER; STUCK, past the limit at the active level, sets its bit and queues event 0x0501; WIRE_BREAK_TEST_END,
2 ms after the start, with an unchanged level classes the current and ends the test, over a failed link it only ends it. -/
def Obligations.DigitalInputs : Prop :=
  ∀ (s : State) (n : BitVec 7) (at_ : Word), Live s → n.toNat < 96 →
    let k := n.toNat
    let d := s.dyn.advTo at_
    (∀ level, (d.dig k).raw ≠ level →
      let t := if d.flag F.TSU_STATUS_DEEP then d.ft else at_
      d.held k (s.cfg.filterOf k) t = false →
      exec (.rawEdge n level at_) s =
        .next (s.withDyn (d.setDig k fun x => { x with raw := level, rawAt := t }))) ∧
    (d.held k (s.cfg.filterOf k - 10) at_ = true →
      exec (.filterConfirm n at_) s =
        .next (s.withDyn ((d.advTo (at_ + 14)).confirm s.cfg k (d.dig k).raw (d.dig k).rawAt))) ∧
    (let due := (s.dyn.dig k).coolAt + s.cfg.get (F.DIO_CHATCFG_CHAT_COOL k) * 10 ^ 8
     s.dyn.flag (F.DIO_STATUS_CHATTER k) = true → s.dyn.near s.cfg due →
     (s.dyn.dig k).level = (s.dyn.dig k).coolFrom →
     ((s.dyn.dig k).changes.filter fun x => due - x ≤ s.cfg.get (F.DIO_CHATCFG_CHAT_WIN k) * 10 ^ 6).length ≤
       s.cfg.get (F.DIO_CHATCFG_CHAT_N k) →
     exec (.chatterCoolDownEnd n) s =
       .next (s.withDyn ((s.dyn.dueAt due).setFlag (F.DIO_STATUS_CHATTER k) false))) ∧
    (let lim := s.cfg.get (F.DIO_STUCK_MAX_ACT k) * 10 ^ 8
     let due := (s.dyn.dig k).activeAt + lim + 1
     s.cfg.isOut k = false → lim ≠ 0 → (s.dyn.dig k).level = s.cfg.flag (F.DIO_CFG_ACT_LEVEL k) →
     s.dyn.near s.cfg due → s.dyn.flag (F.DIO_STATUS_STUCK k) = false →
     exec (.stuck n) s = .next (s.withDyn
       (((s.dyn.dueAt due).setFlag (F.DIO_STATUS_STUCK k) true).alarm s.cfg 0x0501 k 0 0))) ∧
    (∀ cur : BitVec 12, s.dyn.flag (F.DIO_STATUS_WB_ACTIVE k) = true → s.cfg.isOut k = false →
      s.dyn.near s.cfg ((s.dyn.dig k).wbAt + 2 * 10 ^ 6) →
      let cls := if cur.toNat < 350 then 3 else if cur.toNat < 1500 then 2 else if cur.toNat < 2000 then 4 else 1
      (s.dyn.flag (F.DIO_STATUS_LINK_FAIL k) = true → ∃ u, exec (.wireBreakTestEnd n cur (s.dyn.dig k).level) s = .next u ∧
        u.dyn.flag (F.DIO_STATUS_WB_ACTIVE k) = false ∧ u.dyn.rd (Reg.DIO_WB k) = s.dyn.rd (Reg.DIO_WB k) ∧
        u.dyn.dig k = s.dyn.dig k) ∧
      (s.dyn.flag (F.DIO_STATUS_LINK_FAIL k) = false → ∃ u, exec (.wireBreakTestEnd n cur (s.dyn.dig k).level) s = .next u ∧
        u.dyn.get (F.DIO_WB_RESULT k) = cls ∧ u.dyn.flag (F.DIO_STATUS_WB_ACTIVE k) = false ∧
        u.dyn.flag (F.DIO_STATUS_WB_INDET k) = (cls == 4) ∧
        u.dyn.flag (F.DIO_STATUS_WIRE_BREAK k) =
          (if cls = 4 then s.dyn.flag (F.DIO_STATUS_WIRE_BREAK k) else cls == 3)))

/-- For a group with a configured channel: UV_WARN sets the group's bit and counts; UV_WARN_CLEAR clears it; LOCKOUT
sets LOCKOUT in every channel of the group and turns every driver of it off; RECOVERY_START clears the group's LOCKOUT
and releases its first four locked channels; CHANNEL_RELEASE, 100 µs later, releases the next four and ends the recovery when no more
are left. -/
def Obligations.FieldSupplyLockout : Prop :=
  ∀ (s : State) (g : BitVec 3), Live s → g.toNat < 6 → s.cfg.groupUsed g.toNat = true →
    let k := g.toNat
    (s.dyn.flag (F.DIO_GSTATUS_UV_WARN k) = false →
      ∃ u, exec (.uvWarn g) s = .next u ∧ u.dyn.flag (F.DIO_GSTATUS_UV_WARN k) = true ∧ u.cfg = s.cfg) ∧
    (s.dyn.flag (F.DIO_GSTATUS_UV_WARN k) = true →
      ∃ u, exec (.uvWarnClear g) s = .next u ∧ u.dyn.flag (F.DIO_GSTATUS_UV_WARN k) = false ∧ u.cfg = s.cfg) ∧
    (s.dyn.flag (F.DIO_GSTATUS_LOCKOUT k) = false →
      ∃ u, exec (.lockout g) s = .next u ∧ u.dyn.flag (F.DIO_GSTATUS_LOCKOUT k) = true ∧
        ∀ i < 16, u.dyn.flag (F.DIO_STATUS_LOCKOUT (16 * k + i)) = true ∧
          u.dyn.driver u.cfg (16 * k + i) = false) ∧
    (s.dyn.flag (F.DIO_GSTATUS_LOCKOUT k) = true →
      ∃ u, exec (.recoveryStart g) s = .next u ∧ u.dyn.flag (F.DIO_GSTATUS_LOCKOUT k) = false ∧
        ∀ n ∈ ((members k).filter fun n => s.dyn.flag (F.DIO_STATUS_LOCKOUT n)).take 4,
          u.dyn.flag (F.DIO_STATUS_LOCKOUT n) = false) ∧
    (s.dyn.flag (F.DIO_GSTATUS_RECOVERING k) = true →
      s.dyn.near s.cfg (sget 0 s.dyn.released k + 100000) →
      let todo := (members k).filter fun n => s.dyn.flag (F.DIO_STATUS_LOCKOUT n)
      ∃ u, exec (.channelRelease g) s = .next u ∧
        u.dyn.flag (F.DIO_GSTATUS_RECOVERING k) = !decide (todo.length ≤ 4) ∧
        ∀ n ∈ todo.take 4, u.dyn.flag (F.DIO_STATUS_LOCKOUT n) = false)

/-- A field watchdog that has not been refreshed within 98 % of its timeout, and a field side that missed its link
frames, put a digital output, or every output of an analogue group, at the safe value (WD_SAFE); a logic side that missed
its answers sets LINK_FAIL, of a digital channel with its bit of DIO_LINK0–2, of an analogue group with its channels; the
return of the link clears them; a digital channel takes the state that crosses anew, an input with WB_EN by a wire-break
test; the comparators of an analogue group stand as the field side has confirmed them, and show so on the matrix. -/
def Obligations.WatchdogsAndLinks : Prop :=
  ∀ (s : State) (n : BitVec 7) (m : BitVec 5) (g : BitVec 2) (x : BitVec 16), Live s → n.toNat < 96 →
    let k := n.toNat
    let a := Reg.DIO_LINK0 + 4 * (k / 32)
    let b := g.toNat
    (s.cfg.isOut k = true → (s.dyn.dig k).wdOn = true →
      s.cfg.get (F.DIO_OCFG_WD_TIMEOUT k) * 98000 ≤ s.dyn.now - (s.dyn.dig k).wdAt →
      ∃ u, exec (.fieldWatchdogExpiry (.digital n)) s = .next u ∧ u.dyn.flag (F.DIO_STATUS_WD_SAFE k) = true) ∧
    (s.cfg.anaMode m.toNat = 2 → (s.dyn.ana m.toNat).wdOn = true →
      s.cfg.get (F.AIO_OCFG_WD_TIMEOUT m.toNat) * 98000 ≤ s.dyn.now - (s.dyn.ana m.toNat).wdAt →
      ∃ u, exec (.fieldWatchdogExpiry (.analogue m)) s = .next u ∧ u.dyn.flag (F.AIO_STATUS_WD_SAFE m.toNat) = true) ∧
    (s.cfg.isOut k = true → ∃ u, exec (.couplerLinkFieldFail (.digital n)) s = .next u ∧
      u.dyn.flag (F.DIO_STATUS_WD_SAFE k) = true ∧ (u.dyn.dig k).cut = true) ∧
    (∃ u, exec (.couplerLinkFieldFail (.analogue g)) s = .next u ∧ ∀ i < 8, s.cfg.anaMode (8 * b + i) = 2 →
      u.dyn.flag (F.AIO_STATUS_WD_SAFE (8 * b + i)) = true ∧ (u.dyn.ana (8 * b + i)).cut = true) ∧
    (s.dyn.flag (F.DIO_STATUS_LINK_FAIL k) = false → ∃ u, exec (.couplerLinkLogicFail (.digital n)) s = .next u ∧
      u.dyn.flag (F.DIO_STATUS_LINK_FAIL k) = true ∧ (u.dyn.rd a).bit (k % 32) = true ∧
      u.dyn.flag (F.DIO_STATUS_INVALID k) = true) ∧
    (s.dyn.flag (F.AIO_GSTATUS_LINK_FAIL b) = false → ∃ u, exec (.couplerLinkLogicFail (.analogue g)) s = .next u ∧
      u.dyn.flag (F.AIO_GSTATUS_LINK_FAIL b) = true ∧
      ∀ i < 8, s.cfg.anaMode (8 * b + i) ≠ 0 → u.dyn.flag (F.AIO_STATUS_LINK_FAIL (8 * b + i)) = true) ∧
    (s.dyn.flag (F.DIO_STATUS_LINK_FAIL k) = true ∨ (s.dyn.dig k).cut = true →
      ∃ u, exec (.couplerLinkReturn (.digital n) x) s = .next u ∧ u.dyn.flag (F.DIO_STATUS_LINK_FAIL k) = false ∧
        (u.dyn.rd a).bit (k % 32) = false ∧ (u.dyn.dig k).cut = false ∧
        (s.cfg.isOut k = true ∨ s.cfg.flag (F.DIO_CFG_WB_EN k) = false → (u.dyn.dig k).level = x.getLsbD 0) ∧
        (s.cfg.isOut k = false → s.cfg.flag (F.DIO_CFG_WB_EN k) = true →
          u.dyn.flag (F.DIO_STATUS_WB_ACTIVE k) = true)) ∧
    (s.dyn.flag (F.AIO_GSTATUS_LINK_FAIL b) = true ∨ (∃ i < 8, (s.dyn.ana (8 * b + i)).cut = true) →
      ∃ u, exec (.couplerLinkReturn (.analogue g) x) s = .next u ∧ u.dyn.flag (F.AIO_GSTATUS_LINK_FAIL b) = false ∧
        ∀ i < 8, let y := u.dyn.ana (8 * b + i)
          y.cut = false ∧ y.cmp0 = (s.dyn.ana (8 * b + i)).cmp0 ∧ y.cmp1 = (s.dyn.ana (8 * b + i)).cmp1 ∧
          (s.cfg.anaMode (8 * b + i) ≠ 0 → s.dyn.flag (F.AIO_STATUS_OOS (8 * b + i)) = false →
            y.src0 = y.cmp0 ∧ y.src1 = y.cmp1))

/-! ## Analogue channels -/

/-- CONVERSION_START of a channel triggered by the frame starts a conversion (100 µs before the next T while frames run),
or, less than 100 µs after the previous start, sets and counts OVERRUN; CONVERSION_RESULT, 96 µs after the start, keeps the
last 16 results, forms the corrected mean of the last 2^AVG and, over a link in service, shows it in AIO_VALUE;
FAIL_DELAY_EXPIRY declares FAIL_LO or FAIL_HI once the region has lasted FAIL_DELAY, and shows it over a link in service;
COMPARATOR_CROSSING starts the filter on the state that the current gives by threshold and hysteresis, and stops it on the
confirmed one; COMPARATOR_CONFIRM takes it once it has held, and shows it to the matrix unless the link has failed or the
channel is out of service. -/
def Obligations.AnalogueInputs : Prop :=
  ∀ (s : State) (m : BitVec 5), Live s →
    let k := m.toNat
    let x := s.dyn.ana k
    (s.cfg.anaMode k ≠ 0 → s.cfg.flag (F.AIO_CFG_TRIG k) = false →
      let d := if s.dyn.slc.framing then s.dyn.advTo (s.dyn.atT (s.cfg.period - 100000)) else s.dyn
      exec (.conversionStart m) s = .next (s.withDyn (
        if x.startAt.any fun t => decide (d.now - t < 100000) then
          (d.setFlag (F.AIO_STATUS_OVERRUN k) true).bump (F.AIO_EVCNT_OVERRUN k)
        else d.setAna k fun y => { y with startAt := some d.now, busy := true }))) ∧
    (∀ t raw, x.startAt = some t → x.busy = true →
      let d := s.dyn.advTo (BitVec.ofNat 32 (t + 96000))
      let rs := (raw.toInt :: x.results).take 16
      let n := min rs.length (2 ^ s.cfg.get (F.AIO_CFG_AVG k))
      let v := corrected ((rs.take n).foldl (· + ·) 0) n x.gain x.offs
      ∃ u, exec (.conversionResult m raw) s = .next u ∧ (u.dyn.ana k).results = rs ∧ (u.dyn.ana k).busy = false ∧
        (u.dyn.ana k).avg = v ∧ u.dyn.clk = d.clk ∧
        u.dyn.rd (Reg.AIO_VALUE k) = (if s.dyn.flag (F.AIO_STATUS_LINK_FAIL k) then s.dyn.rd (Reg.AIO_VALUE k)
          else BitVec.ofInt 32 (satTo 32 (min v 0x190000)))) ∧
    (let due := x.regionAt + s.cfg.get (F.AIO_CFG_FAIL_DELAY k) * 10 ^ 7
      let f := if x.region = 1 then F.AIO_STATUS_FAIL_LO k else F.AIO_STATUS_FAIL_HI k
      s.cfg.anaMode k = 1 → x.region ≠ 0 → s.dyn.near s.cfg due → due ≤ (s.dyn.dueAt due).now →
      ∃ u, exec (.failDelayExpiry m) s = .next u ∧
        (if x.region = 1 then (u.dyn.ana k).failLo else (u.dyn.ana k).failHi) = true ∧
        (s.dyn.flag (F.AIO_STATUS_LINK_FAIL k) = false → u.dyn.flag f = true ∧
          u.dyn.flag (F.AIO_STATUS_INVALID k) = true)) ∧
    (∀ j (current : Word), s.cfg.cmpOn k j = true →
      let was := ((x.cross j).map (·.1)).getD (x.cmp j)
      let level := s.cfg.cmpLevel k j was current.toInt
      let z := if level = x.cmp j then none else some (level, s.dyn.now)
      exec (.comparatorCrossing m j current) s = .next (s.withDyn (if level = was then s.dyn
        else s.dyn.setAna k fun y => if j then { y with cross1 := z } else { y with cross0 := z }))) ∧
    (∀ j level t at_, x.cross j = some (level, t) →
      cmpFilterNs (s.cfg.get (if j then F.AIO_CMP1_FILTER k else F.AIO_CMP0_FILTER k)) ≤ (s.dyn.advTo at_).now - t →
      ∃ u, exec (.comparatorConfirm m j at_) s = .next u ∧ (u.dyn.ana k).cmp j = level ∧ (u.dyn.ana k).cross j = none ∧
        (u.dyn.ana k).src j = (if s.dyn.flag (F.AIO_STATUS_LINK_FAIL k) || s.dyn.flag (F.AIO_STATUS_OOS k) then x.src j
          else level))

/-- On an output that is neither locked out nor the standby side of a pair: COMPLIANCE, and with a command of at least
1 mA OPEN and STAGE_FAIL (the latter with neither of the others), set their bits; SHORT sets its bit on an input whose
loop this module supplies; ANALOGUE_FLAG_CLEAR clears the bit of the named flag. For a group with a configured channel:
AG_LOW sets AG_LOW, AG_LOW_CLEAR clears it; AG_LOCKOUT sets LOCKOUT and puts every stage of the group at 0 mA;
AG_RESTORATION clears the group's LOCKOUT; AG_LINK_FAIL holds the group's measurements, sets LINK_FAIL, makes every configured channel of the group invalid
and queues event 0x0602. -/
def Obligations.AnalogueDiagnostics : Prop :=
  ∀ (s : State) (m : BitVec 5) (g : BitVec 2), Live s →
    let k := m.toNat
    (s.dyn.stageDiag s.cfg k = true →
      (s.dyn.flag (F.AIO_STATUS_COMPLIANCE k) = false →
        (∃ u, exec (.compliance m) s = .next u ∧ u.dyn.flag (F.AIO_STATUS_COMPLIANCE k) = true) ∧
        (0x10000 ≤ (s.dyn.stage s.cfg k).toNat → s.dyn.flag (F.AIO_STATUS_OPEN k) = false →
          ∃ u, exec (.stageFail m) s = .next u ∧ u.dyn.flag (F.AIO_STATUS_STAGE_FAIL k) = true ∧
            u.dyn.flag (F.AIO_STATUS_INVALID k) = true)) ∧
      (0x10000 ≤ (s.dyn.stage s.cfg k).toNat → s.dyn.flag (F.AIO_STATUS_OPEN k) = false →
        ∃ u, exec (.open_ m) s = .next u ∧ u.dyn.flag (F.AIO_STATUS_OPEN k) = true)) ∧
    (s.dyn.supplies s.cfg k = true → s.dyn.flag (F.AIO_STATUS_LOCKOUT k) = false →
      ∃ u, exec (.short m) s = .next u ∧ u.dyn.flag (F.AIO_STATUS_SHORT k) = true) ∧
    (∀ f, ∃ u, exec (.analogueFlagClear m f) s = .next u ∧ u.dyn.flag (anaFlagFld k f) = false) ∧
    (s.cfg.agUsed g.toNat = true →
      let b := g.toNat
      (∃ u, exec (.agLow g) s = .next u ∧ u.dyn.flag (F.AIO_GSTATUS_AG_LOW b) = true) ∧
      (∃ u, exec (.agLowClear g) s = .next u ∧ u.dyn.flag (F.AIO_GSTATUS_AG_LOW b) = false) ∧
      (s.dyn.flag (F.AIO_GSTATUS_LOCKOUT b) = false →
        ∃ u, exec (.agLockout g) s = .next u ∧ u.dyn.flag (F.AIO_GSTATUS_LOCKOUT b) = true ∧
          ∀ i < 8, s.cfg.anaMode (8 * b + i) ≠ 0 → u.dyn.flag (F.AIO_STATUS_LOCKOUT (8 * b + i)) = true ∧
            u.dyn.stage u.cfg (8 * b + i) = 0) ∧
      (s.dyn.flag (F.AIO_GSTATUS_LOCKOUT b) = true →
        ∃ u, exec (.agRestoration g) s = .next u ∧ u.dyn.flag (F.AIO_GSTATUS_LOCKOUT b) = false) ∧
      (s.dyn.flag (F.AIO_GSTATUS_LINK_FAIL b) = false →
        let held := (agMembers b).foldl (fun d m => d.holdMeas s.cfg (Reg.AIO_MEAS m))
          (s.dyn.holdMeas s.cfg (Reg.AIO_GMEAS b))
        ∃ u, exec (.agLinkFail g) s = .next u ∧ u.dyn = ((held.setFlag (F.AIO_GSTATUS_LINK_FAIL b) true).agAll s.cfg b
            F.AIO_STATUS_LINK_FAIL true).alarm s.cfg 0x0602 b 0 0 ∧
          u.dyn.flag (F.AIO_GSTATUS_LINK_FAIL b) = true ∧
          ∀ i < 8, s.cfg.anaMode (8 * b + i) ≠ 0 → u.dyn.flag (F.AIO_STATUS_LINK_FAIL (8 * b + i)) = true))
/-! ## Start-up, keys and security -/

/-- POWER_ON_RESET ends the stay in reset, starts no frame and locks only in the start-up hold. MOD_UNIT shows the slot
coding. Without a bank to boot the module stays in STARTUP with cause 0x1D, unprovisioned it enters SERVICE with cause
0x1B, provisioned and without a key the start-up hold with cause 0x10. -/
def Obligations.PowerOnReset : Prop :=
  ∀ (s : State) (unitB : Bool) (stn : BitVec 5) (jumper : Bool),
    let nv := s.dyn.nv.romBank.2
    let started := (if s.dyn.nv.romBank.2.erasePend then nv.erased else nv).provisioned
    ∃ u, exec (.powerOnReset unitB stn jumper) s = .next u ∧ u.pending = s.pending ∧
      u.dyn.boot.held = false ∧ u.dyn.slc.framing = false ∧ (u.cfg.locked = true ↔ u.dyn.boot.stage = .hold) ∧
      u.dyn.flag F.MOD_UNIT_UNIT = unitB ∧ u.dyn.get F.MOD_UNIT_STN_ID = stn.toNat ∧
      let ends : BootStage → Nat → Nat → Prop := fun stage st cause =>
        u.dyn.boot.stage = stage ∧ u.dyn.modState = st ∧ u.dyn.get F.MOD_STATE_CAUSE = cause ∧ u.cfg.lk = []
      (s.dyn.nv.romBank.1 = none → ends .rom 0 0x1D) ∧
      (s.dyn.nv.romBank.1.isSome = true → started = false → ends .service 5 0x1B) ∧
      (s.dyn.nv.romBank.1.isSome = true → started = true → s.dyn.nv.key = none → ends .hold 0 0x10)

/-- Once the set-up is written, the lock word, and no other, locks it as it stands and sets BOOT_STATUS.LOCKED; without
it the watchdog locks an empty one and the module stays in STARTUP with cause 0x11. The frame zero of a locked simplex
module starts the frames with FN 0 in RUN, or in STOP when the image says so. -/
def Obligations.LockWatchdogAndFrameZero : Prop :=
  ∀ s : State, Live s →
    (s.dyn.boot.stage = .setup → s.cfg.locked = false →
      (s.dyn.toReplay = none → ∃ u, exec (.bootLock 0x4C4F434B) s = .next u ∧ u.cfg = { s.cfg with locked := true } ∧
        u.dyn.boot.stage = .locked ∧ u.dyn.flag F.BOOT_STATUS_LOCKED = true) ∧
      (∀ w, w ≠ 0x4C4F434B → exec (.bootLock w) s = .next s) ∧
      ∃ u, exec .bootWatchdogExpiry s = .next u ∧ u.cfg = { Cfg.init with locked := true } ∧
        u.dyn.boot.stage = .halted ∧ u.dyn.modState = 0 ∧ u.dyn.get F.MOD_STATE_CAUSE = 0x11 ∧
        u.dyn.flag F.BOOT_STATUS_LOCKED = true) ∧
    (s.cfg.twin = false → s.cfg.mayStart s.dyn = true →
      ∃ u, exec .frameZeroStart s = .next u ∧ u.cfg = s.cfg ∧ u.dyn.slc.framing = true ∧ u.dyn.fn = 0 ∧
        u.dyn.boot.stage = .running ∧ u.dyn.modState = (if s.cfg.img.startStopped then 2 else 1))

/-- A key that is inserted or removed shows in KEY_PRESENT; in RUN its removal queues event 0x0101, and a BUSY command on
it ends with KEY_LOST. An authorisation that fails a check changes nothing but the nonce and its result code; an
accepted one erases both keys and the image content, opens the port and enters SERVICE with cause 0x1C. Removing the
jumper closes the port in any state and leaves the state. 600 s in RUN commit a trial bank. -/
def Obligations.KeyAndServicePort : Prop :=
  ∀ s : State, Live s →
    (∀ k : Key, exec (.keyInserted k) s = .next (s.withDyn ((s.dyn.setKey k).setFlag F.BOOT_STATUS_KEY_PRESENT true))) ∧
    (let d := ({ s.dyn with nv := { s.dyn.nv with key := none } } : Dyn).setFlag F.BOOT_STATUS_KEY_PRESENT false
     let e := if s.dyn.bootBusy = true ∧ s.dyn.boot.target = false then
         (if s.dyn.get F.BOOT_CMD_STAT_LAST = 1 then
           ({ d with boot := { d.boot with wrote := s.dyn.nv.key.map (·.serial) } } : Dyn).put F.BOOT_PEND_STATE 1
         else d).bootStat 4
       else d
     (s.dyn.flag F.BOOT_STATUS_KEY_PRESENT = true → exec .keyRemoved s = .next (s.withDyn (
        if s.dyn.boot.stage = .running then e.alarm s.cfg 0x0101 0 0 0 else e))) ∧
     (s.dyn.flag F.BOOT_STATUS_KEY_PRESENT = false → exec .keyRemoved s =
        .next (s.withDyn { s.dyn with nv := { s.dyn.nv with key := none } }))) ∧
    (∀ a : ServiceAuth, s.dyn.authServed = true →
      (∀ r, s.dyn.authCause a = some r →
        exec (.serviceAuthorisation a) s = .next (s.withDyn (s.dyn.newNonce.put F.SEC_AUTH_STAT_RESULT r))) ∧
      (s.dyn.authCause a = none → ∃ u, exec (.serviceAuthorisation a) s = .next u ∧
        u.dyn.nv.stationKey = none ∧ u.dyn.nv.imageKey = none ∧ u.cfg.img = ImageData.empty ∧
        u.dyn.nv.verificationKey = (if a.clearVk then none else s.dyn.nv.verificationKey) ∧
        (a.eraseOk = true → u.dyn.get F.SEC_AUTH_STAT_RESULT = 1 ∧ u.dyn.flag F.SEC_STATUS_DEBUG_LIVE = true ∧
          u.dyn.flag F.SEC_STATUS_OPENED = true ∧ u.dyn.nv.openCount = min (s.dyn.nv.openCount + 1) 0xFFFF ∧
          u.dyn.modState = 5 ∧ u.dyn.get F.MOD_STATE_CAUSE = 0x1C) ∧
        (a.eraseOk = false → u.dyn.get F.SEC_AUTH_STAT_RESULT = 7 ∧ u.dyn.nv.erasePend = true ∧
          u.dyn.flag F.SEC_STATUS_DEBUG_LIVE = s.dyn.flag F.SEC_STATUS_DEBUG_LIVE))) ∧
    (∃ u, exec .jumperRemoved s = .next u ∧ u.dyn.flag F.SEC_STATUS_DEBUG_LIVE = false ∧
      u.dyn.flag F.SEC_STATUS_JUMPER = false ∧ u.dyn.modState = s.dyn.modState ∧
      ∀ a, a ≠ Reg.SEC_STATUS → u.dyn.rd a = s.dyn.rd a) ∧
    (s.dyn.flag F.BOOT_STATUS_BANK_TRIAL = true → s.dyn.modState = 1 → s.dyn.boot.runAt.isSome = true →
      ∃ u, exec .trialBankCommit s = .next u ∧ (u.dyn.nv.bank s.dyn.bankNow).state = 4 ∧
        u.dyn.nv.fwSvn = max s.dyn.nv.fwSvn (s.dyn.nv.bank s.dyn.bankNow).svn ∧
        u.dyn.flag F.BOOT_STATUS_BANK_TRIAL = false)

/-- A package that R56 accepts, in SERVICE: its three keys are installed in the one step, SEC_PROV_COUNT increments (it
saturates at 0xFFFF), SEC_STATUS.OPENED is clear and the module holds itself in reset. -/
def Obligations.ProvisioningPackage : Prop :=
  ∀ (s : State) (x : ProvPackage), Live s → s.dyn.modState = 5 → s.dyn.nv.packageOk x = true →
    ∃ u, exec (.provisioningPackage x) s = .next u ∧ u.cfg = s.cfg ∧ u.pending = s.pending ∧
      u.dyn.nv = { s.dyn.nv with stationKey := some x.stationKey, imageKey := some x.imageKey,
                                 verificationKey := some x.verificationKey,
                                 provCount := min (s.dyn.nv.provCount + 1) 0xFFFF, opened := false } ∧
      u.dyn.get F.SEC_PROV_COUNT_COUNT = min (s.dyn.nv.provCount + 1) 0xFFFF ∧
      u.dyn.flag F.SEC_STATUS_OPENED = false ∧ u.dyn.boot.held = true ∧
      ∀ a, a < 0x120000 → u.dyn.rd a = s.dyn.rd a

/-! ## Register accesses -/

/-- Whoever writes an LK register after the lock, the firmware too, over a port that is served (R51): configuration and
queue stay, BOOT_PV_COUNT increments (it saturates), BOOT_PV_ADDR and BOOT_PV_SRC hold address and writer (KIND and NUM); if the rights deny the write,
MOD_ACC_ERR increments and MOD_ACC_ADDR holds the address; no other register changes. -/
def Obligations.LockedWriteIsCounted : Prop :=
  ∀ (s : State) (who : Requester) (addr v : Word), Live s → s.cfg.locked = true → s.dyn.portServed who = true →
    addr.toNat % 4 = 0 → isLk addr.toNat = true →
    ∃ u, exec (.registerWrite who addr v) s = .next u ∧ u.cfg = s.cfg ∧ u.pending = s.pending ∧
      u.dyn.get F.BOOT_PV_COUNT_COUNT =
        min (s.dyn.get F.BOOT_PV_COUNT_COUNT + 1) (2 ^ F.BOOT_PV_COUNT_COUNT.width - 1) ∧
      u.dyn.rd Reg.BOOT_PV_ADDR = addr ∧
      u.dyn.rd Reg.BOOT_PV_SRC = (match who with
        | .polder p => BitVec.ofNat 32 p.toNat
        | .client k => BitVec.ofNat 32 (0x100 + k.toNat)
        | _ => 0x200) ∧
      (s.dyn.mayAccess s.cfg who addr.toNat true = false →
        u.dyn.get F.MOD_ACC_ERR_COUNT = min (s.dyn.get F.MOD_ACC_ERR_COUNT + 1) (2 ^ F.MOD_ACC_ERR_COUNT.width - 1) ∧
        u.dyn.rd Reg.MOD_ACC_ADDR = addr) ∧
      (s.dyn.mayAccess s.cfg who addr.toNat true = true →
        u.dyn.rd Reg.MOD_ACC_ERR = s.dyn.rd Reg.MOD_ACC_ERR ∧ u.dyn.rd Reg.MOD_ACC_ADDR = s.dyn.rd Reg.MOD_ACC_ADDR) ∧
      (∀ a, a ≠ Reg.BOOT_PV_COUNT → a ≠ Reg.BOOT_PV_ADDR → a ≠ Reg.BOOT_PV_SRC → a ≠ Reg.MOD_ACC_ERR →
        a ≠ Reg.MOD_ACC_ADDR → u.dyn.rd a = s.dyn.rd a) ∧
      { u.dyn with regs := s.dyn.regs, twin := s.dyn.twin } = s.dyn

/-- While the set-up is written, the boot code's write of an LK register other than BOOT_LOCK sets it, reserved bits
zero. A granted write of the W1C register clears the bits written as 1. A granted read of an RC register of the map's
plain blocks returns its value and clears it; one of an LT register returns its value and loads its companions. An
access that is narrow, misaligned or unoccupied counts in MOD_ACC_ERR, loads MOD_ACC_ADDR, and a read answers 0. -/
def Obligations.RegisterAccesses : Prop :=
  ∀ (s : State) (who : Requester) (addr v : Word) (r : RegRow), Live s →
    let a := addr.toNat
    let ok := a % 4 = 0 ∧ regRow a = some r
    (ok → who = .boot → s.cfg.locked = false → s.dyn.boot.stage = .setup → r.acc = .lk → a ≠ Reg.BOOT_LOCK →
      exec (.registerWrite who addr v) s =
        .next { s with cfg := { s.cfg with lk := sput 0 s.cfg.lk a (v &&& r.mask) } }) ∧
    (ok → r.acc = .w1c → MayWrite s who a →
      ∃ u, exec (.writeOneClear who addr v) s = .next u ∧ u.cfg = s.cfg ∧
        u.dyn.rd a = s.dyn.rd a &&& ~~~(v &&& r.mask) ∧ ∀ b, b ≠ a → u.dyn.rd b = s.dyn.rd b) ∧
    (MayRead s who a →
      (ok → r.acc = .rc →
        exec (.readClear who addr) s = .next (s.withDyn
          { s.dyn.wr a (s.dyn.afterRead a) with readData := s.dyn.regValue s.cfg a }) ∧
        ((a < 0xE0000 ∨ 0xE1000 ≤ a) → s.dyn.afterRead a = 0)) ∧
      (ok → r.acc = .lt →
        exec (.latchingRead who addr) s = .next (s.withDyn
          { s.dyn.latchFor a with readData := s.dyn.regValue s.cfg a }))) ∧
    (∀ write narrow, s.dyn.portServed who = true → (narrow = true ∨ a % 4 ≠ 0 ∨ regRow a = none) →
      ∃ u, exec (.unoccupiedAccess who addr write narrow v) s = .next u ∧ u.cfg = s.cfg ∧ u.pending = s.pending ∧
        u.dyn.get F.MOD_ACC_ERR_COUNT = min (s.dyn.get F.MOD_ACC_ERR_COUNT + 1) (2 ^ F.MOD_ACC_ERR_COUNT.width - 1) ∧
        u.dyn.rd Reg.MOD_ACC_ADDR = addr ∧
        (write = false → u.dyn.readData = 0) ∧ (write = true → u.dyn.readData = s.dyn.readData) ∧
        ∀ b, b ≠ Reg.MOD_ACC_ERR → b ≠ Reg.MOD_ACC_ADDR → u.dyn.rd b = s.dyn.rd b)

/-! ## The sluice frame -/

/-- Each command of the frame acts in its own phase only, and leaves the next one: 1 after the latch, 2 from E, 3 from X,
4 from C − 4 µs, 5 from the commit, 0 in DOZE. Outside its phase it changes nothing; a module in FAULT only counts the
phase (before the commit, and but for the berm, which still serves the register access of R410). -/
def Obligations.FramePhases : Prop :=
  ∀ (s : State) (burst : Bool), Live s → s.dyn.slc.framing = true →
    (∀ (n next : Nat) (c : Instr),
      (n, next, c) ∈ [(1, 2, .executionOpen), (2, 3, .polderWindowClose burst), (3, 4, .executionClose),
        (4, 4, .signatureExchange), (4, 5, .commit)] →
      (s.dyn.phase ≠ n → exec c s = .next s) ∧
      (s.dyn.phase = n → ∃ u, exec c s = .next u ∧ u.dyn.phase = next ∧ u.cfg = s.cfg ∧ u.pending = s.pending) ∧
      (s.dyn.phase = n → n ≠ 4 → n ≠ 2 → s.dyn.running = false →
        exec c s = .next (s.withDyn (s.dyn.put F.SLC_STATUS_PHASE next)))) ∧
    (s.dyn.role ≠ 4 → s.dyn.twin.nextRole ≠ some 4 → s.dyn.joining = false →
      ∃ u, exec .inputLatch s = .next u ∧ u.cfg = s.cfg ∧ u.pending = s.pending ∧ u.dyn.phase = 1) ∧
    (s.dyn.phase = 5 → ∃ u, exec .doze s = .next u ∧ u.dyn.phase = 0 ∧
      u.dyn.flag F.SLC_STATUS_DEEP = (s.dyn.running && s.dyn.mayDeep s.cfg) ∧
      u.dyn.flag F.TSU_STATUS_DEEP = (s.dyn.running && s.dyn.mayDeep s.cfg) ∧
      ∀ a, a ≠ Reg.SLC_STATUS → a ≠ Reg.TSU_STATUS → u.dyn.rd a = s.dyn.rd a)

/-- PRE_WAKE comes 2 µs before T, 62 µs from DEEP DOZE, completes the frame's journal record, ends the doze and brings the measured values (log entry 8).
AGREEMENT_DEADLINE at T + 7 µs decides the agreement that is due: merged, A's contribution first, when the peer's is held;
else the unit goes on with its own vector, after a counted miss and the failure of the link where it was agreeing.
EVENT_SLOT_BOUNDARY collects slot i at b_i; EVENT_SLOT_DISPATCH makes it the current slot. EXECUTION_CLOSE computes the output signature over the image as the commit
leaves it; a copy to the store that is done is the newest. -/
def Obligations.FrameInstants : Prop :=
  ∀ s : State, Live s →
    (∀ meas,
      let d := if s.dyn.slc.framing ∧ s.dyn.slc.first = false then s.dyn.advTo (s.dyn.atT
        (s.cfg.period - if s.dyn.flag F.TSU_STATUS_DEEP then 62000 else 2000)) else s.dyn
      exec (.preWake meas) s = .next (s.withDyn
        (meas.foldl (Dyn.measure s.cfg) (((d.finishRecord s.cfg).dozeTo false).setFlag F.TSU_STATUS_DEEP false)))) ∧
    (s.dyn.twin.agreeDue = true →
      let d := s.dyn.advTo (s.dyn.atT 7000)
      let e : Dyn := { d with twin := { d.twin with agreeDue := false } }
      (s.dyn.agreeing = false → exec .agreementDeadline s = .next (s.withDyn (e.ownVector s.cfg))) ∧
      (s.dyn.agreeing = true → d.agreementHeld s.cfg = true →
        exec .agreementDeadline s = .next (s.withDyn (e.agreeLanes.takeVector s.cfg true (if s.dyn.unitB then
          s.cfg.mergeAll s.dyn.twin.mirror s.dyn.twin.ownC else s.cfg.mergeAll s.dyn.twin.ownC s.dyn.twin.mirror)))) ∧
      (s.dyn.agreeing = true → d.agreementHeld s.cfg = false →
        exec .agreementDeadline s =
          .next (s.withDyn (((e.bump F.SHL_AGREE_MISS_COUNT).linkFail s.cfg).ownVector s.cfg)))) ∧
    (∀ n : BitVec 4, n ≠ 0 → s.dyn.slc.framing = true → s.dyn.phase = 2 →
      exec (.eventSlotBoundary n) s =
        .next (s.withDyn ((s.dyn.advTo (s.dyn.slotAt s.cfg n.toNat)).collectSlot s.cfg n.toNat)) ∧
      (s.dyn.get F.SLC_STATUS_SLOT < n.toNat → s.dyn.running = true →
        ∃ u, exec (.eventSlotDispatch n) s = .next u ∧ u.dyn.phase = 2 ∧
          u.dyn.get F.SLC_STATUS_SLOT = n.toNat % 2 ^ F.SLC_STATUS_SLOT.width)) ∧
    (s.dyn.slc.framing = true → s.dyn.phase = 3 → s.dyn.running = true →
      let d := (s.dyn.advTo (s.dyn.atT (s.cfg.offset - 4000))).evalAll s.cfg
      ∃ u, exec .executionClose s = .next u ∧ u.dyn.jrn.outCrc =
        Config.digest (flatWords (d.asCommitted s.cfg (polders.filter (d.commits s.cfg))).outC)) ∧
    (∀ recs, s.dyn.life.copying = some recs →
      exec .mramCopyDone s = .next (s.withDyn (
        if s.dyn.life.copyAgain then (s.dyn.endCopy recs).startCopy s.cfg else s.dyn.endCopy recs)))
/-! ## Time and clock -/

/-- Once frames run, COMPARE_FIRE of an armed unit fires it at its target; a periodic unit takes its target plus the
period, an aligned one the next aligned second count, a one-shot is disarmed. CAPTURE of a unit with source PPS_IN latches
the instant. PPS_OUT_RISE starts the pulse of a second that had none, PPS_OUT_FALL ends it WIDTH later. FT_WRAP carries FT
to its next wrap, which sets WRAP, unless FT has passed one since; either way the wraps that were passed are reported. An Announce timeout of the followed port without another master reports HOLDOVER, with the
mean increment; a PTP event message captures, received whatever its domain, and one of a unit that takes part in PTP is
sent with its stamp. The locked follower of a joining pair reports TWIN 3, and a join
that waits for the lock goes on. -/
def Obligations.TimeEvents : Prop :=
  ∀ s : State, Live s →
    (∀ n : BitVec 5, let k := n.toNat
      s.dyn.flag (F.TSU_CMP_STAT_ARMED k) = true → s.dyn.boot.stage = .running →
      let d := s.dyn.toTarget s.cfg k
      let e := d.fire s.cfg k (d.firedFt s.cfg k)
      let mode := s.cfg.get (F.TSU_CMP_CFG_MODE k)
      exec (.compareFire n) s = .next (s.withDyn (
        if mode = 1 then e.wr (Reg.TSU_CMP_TGT k) (e.rd (Reg.TSU_CMP_TGT k) + s.cfg.rd (Reg.TSU_CMP_PER k))
        else if mode = 2 then e.setAligned k (e.aligned k + s.cfg.get (F.TSU_CMP_PER_NS k))
        else e.setFlag (F.TSU_CMP_STAT_ARMED k) false))) ∧
    (∀ (n : BitVec 4) (at_ : Word), s.cfg.get (F.TSU_CAP_CFG_SRC n.toNat) = 1 →
      ∃ u, exec (.capture n at_) s = .next u ∧ u.cfg = s.cfg ∧
        (sget CapRec.init u.dyn.tsu.cap n.toNat).ft = (s.dyn.advTo at_).ft ∧
        ∀ a, a ≠ Reg.TSU_STATUS → a ≠ Reg.TSU_CAP_STAT n.toNat → u.dyn.rd a = s.dyn.rd a) ∧
    (let gap := (s.cfg.get F.TSU_PPS_OFS_NS + 10 ^ 9 - s.dyn.ptpNs % 10 ^ 9) % 10 ^ 9
     let d := s.dyn.ticks (s.dyn.cyclesFor gap)
     s.cfg.flag F.TSU_PPS_CFG_EN = true → s.cfg.flag F.TSU_PPS_CFG_GATE_LOCKED = false →
      d.tsu.ppsDone.contains d.clk.sec = false →
      exec .ppsOutRise s = .next (s.withDyn
        { d with tsu := { d.tsu with ppsOut := true, ppsAt := d.now, ppsDone := d.clk.sec :: d.tsu.ppsDone } })) ∧
    (s.dyn.tsu.ppsOut = true →
      let d := s.dyn.advTo (BitVec.ofNat 32 (s.dyn.tsu.ppsAt + s.cfg.get F.TSU_PPS_CFG_WIDTH * 1000))
      exec .ppsOutFall s = .next (s.withDyn { d with tsu := { d.tsu with ppsOut := false } })) ∧
    (∃ u, exec .ftWrap s = .next u ∧ u.cfg = s.cfg ∧ u.dyn.tsu.wraps = 0 ∧
      (s.dyn.tsu.wraps ≠ 0 → u.dyn.clk = s.dyn.clk) ∧
      (s.dyn.tsu.wraps = 0 → 0 < (s.dyn.rd Reg.TSU_INCR).toNat → u.dyn.flag F.TSU_STATUS_WRAP = true ∧
        u.dyn.clk.ft / 2 ^ 56 = s.dyn.clk.ft / 2 ^ 56 + 1)) ∧
    (∀ lanB : Bool, s.dyn.follower = false → (s.dyn.masterOf lanB).isSome = true →
      s.dyn.flag F.TSU_STATUS_PORT = lanB → s.dyn.masterOf (!lanB) = none → s.cfg.flag F.TSU_CFG_SERVO = false →
      ∃ u, exec (.announceReceiptTimeout lanB) s = .next u ∧ u.dyn.servo = 3 ∧ u.dyn.masterOf lanB = none ∧
        u.dyn.flag F.RTC_CALSTATE_TAI_SRC = false) ∧
    (∀ msg : PtpMsg, msg.body = .event →
      let lat := s.cfg.rd (if msg.lanB then Reg.TSU_PHY_LAT_B else Reg.TSU_PHY_LAT_A)
      let corr : Int := if msg.sent then (lat.field 16 16 : Nat) else -((lat.field 0 16 : Nat) : Int)
      let d := (s.dyn.advTo msg.at_).captureSrc s.cfg ((if msg.lanB then 4 else 2) + b2n msg.sent) corr
      (msg.sent = false → exec (.ptpMessage msg) s = .next (s.withDyn d)) ∧
      (msg.sent = true → s.dyn.follower = false → s.dyn.ptpRole s.cfg ≠ 0 →
        exec (.ptpMessage msg) s =
          .next (s.withDyn (d.ptpSend s.cfg msg.lanB msg.body ((d.ptpTotal : Int) + corr))))) ∧
    (s.dyn.get F.TSU_STATUS_TWIN = 2 → 16 ≤ s.dyn.tsu.lockGood →
      ∃ u, exec .timeLockAcquired s = .next u ∧ u.dyn.get F.TSU_STATUS_TWIN = 3 ∧
        u.dyn.get F.SHL_XFER_STATE = (if s.dyn.get F.SHL_XFER_STATE = 1 then 2 else s.dyn.get F.SHL_XFER_STATE) ∧
        ∀ a, a ≠ Reg.TSU_STATUS → a ≠ Reg.SHL_XFER → u.dyn.rd a = s.dyn.rd a) ∧
    (s.dyn.get F.TSU_STATUS_TWIN ≠ 2 → s.dyn.timeMaster s.cfg = true → s.dyn.get F.SHL_XFER_STATE = 1 →
      exec .timeLockAcquired s = .next (s.withDyn (s.dyn.put F.SHL_XFER_STATE 2)))

/-- Executed on a unit that follows no other: ADD_HOUR and SUB_HOUR within ±56 quarter-hours wait for the next whole UTC
second, SET_TAI_UTC without PTP stores its argument, CLR_SWO clears the switch-over record. OFFSET_CHANGE moves LOCAL_OFS
by an hour, toggles DST and reports DONE. RTC_REWRITE of a synchronised clock more than 0.5 s off sets the epoch from UTC,
counts, and queues event 0x0701. LEAP_SECOND takes the master's offset. The first switch-over sets SWO_FLAG and keeps its
tick, a later one is counted, also in reset; TIME_LOST is noted. CELL_MEASUREMENT shows the voltage and, off the limits of
the threshold, CELL_LOW. -/
def Obligations.RtcEvents : Prop :=
  ∀ s : State,
    (let ofs := localOfs (s.dyn.rd Reg.RTC_CALSTATE)
     let second := (s.dyn.rtcTime / 32768 + 1) * 32768
     Live s → s.dyn.follower = false → ∀ code arg, s.dyn.rtc.cmd = some (code, arg) →
      let d : Dyn := { s.dyn with rtc := { s.dyn.rtc with cmd := none } }
      (code = 1 → ofs ≤ 52 → exec .rtcCommandExecution s = .next (s.withDyn
        { d with rtc := { d.rtc with hour := some (true, second) } })) ∧
      (code = 2 → -52 ≤ ofs → exec .rtcCommandExecution s = .next (s.withDyn
        { d with rtc := { d.rtc with hour := some (false, second) } })) ∧
      (code = 4 → s.dyn.flag F.RTC_CALSTATE_TAI_SRC = false → exec .rtcCommandExecution s = .next (s.withDyn
        ((d.put F.RTC_CALSTATE_TAI_UTC arg).rtcDone 2 0))) ∧
      (code = 5 → exec .rtcCommandExecution s = .next (s.withDyn (d.clearSwo.rtcDone 2 0)))) ∧
    (∀ up t, Live s → s.dyn.rtc.hour = some (up, t) →
      ∃ u, exec .offsetChange s = .next u ∧ u.cfg = s.cfg ∧ u.dyn.rtc.hour = none ∧
        u.dyn.get F.RTC_CALSTATE_LOCAL_OFS =
          ((localOfs (s.dyn.rd Reg.RTC_CALSTATE) + if up then 4 else -4) % 256).toNat ∧
        u.dyn.flag F.RTC_CALSTATE_DST = !s.dyn.flag F.RTC_CALSTATE_DST ∧
        u.dyn.get F.RTC_CMD_STAT_STATUS = 2) ∧
    (let diff := (s.dyn.rtcTime : Int) * 10 ^ 9 - s.dyn.utcNs * 32768
     Live s → s.dyn.ptpSync = true → 10 ^ 9 * 16384 < diff.natAbs →
      let x : Dyn := { s.dyn with rtc := { s.dyn.rtc with
        epoch := BitVec.ofInt 48 (s.dyn.utcNs * 32768 / 10 ^ 9) - s.dyn.rtc.tick } }
      let ms := (((x.setFlag F.RTC_STATUS_LOST false).setFlag F.RTC_STATUS_VALID true).bump
        F.RTC_REWRITES_COUNT).roundFree diff (32768 * 10 ^ 6)
      exec .rtcRewrite s = .next (s.withDyn (ms.2.alarm s.cfg 0x0701 0 (BitVec.ofInt 32 ms.1) 0)) ∧
      (diff / (32768 * 10 ^ 6) ≤ ms.1 ∧ ms.1 ≤ diff / (32768 * 10 ^ 6) + 1)) ∧
    (∀ utc : BitVec 8, Live s → s.dyn.servo = 2 → s.dyn.flag F.RTC_CALSTATE_TAI_SRC = true → s.dyn.follower = false →
      ∃ u, exec (.leapSecond utc) s = .next u ∧ u.dyn.get F.RTC_CALSTATE_TAI_UTC = utc.toNat ∧
        ∀ a, a ≠ Reg.RTC_CALSTATE → a ≠ Reg.TSU_STATUS → u.dyn.rd a = s.dyn.rd a) ∧
    (∃ u, exec .backupSwitchOver s = .next u ∧ u.cfg = s.cfg ∧ u.dyn.flag F.RTC_STATUS_SWO_FLAG = true ∧
      (s.dyn.flag F.RTC_STATUS_SWO_FLAG = false → u.dyn.rtc.swoTick = s.dyn.rtc.tick ∧
        u.dyn.rd Reg.RTC_SWO_COUNT = s.dyn.rd Reg.RTC_SWO_COUNT) ∧
      (s.dyn.flag F.RTC_STATUS_SWO_FLAG = true → u.dyn.rtc.swoTick = s.dyn.rtc.swoTick ∧
        u.dyn.get F.RTC_SWO_COUNT_COUNT = min (s.dyn.get F.RTC_SWO_COUNT_COUNT + 1) 255) ∧
      ∀ a, a ≠ Reg.RTC_STATUS → a ≠ Reg.RTC_SWO_COUNT → u.dyn.rd a = s.dyn.rd a) ∧
    exec .timeLost s = .next (s.withDyn { s.dyn with rtc := { s.dyn.rtc with lost := true } }) ∧
    (∀ mv : BitVec 16, Live s →
      ∃ u, exec (.cellMeasurement mv) s = .next u ∧ u.dyn.get F.RTC_BACKUP_CELL_MV = mv.toNat ∧
        (mv.toNat < 2400 → u.dyn.flag F.RTC_STATUS_CELL_LOW = true) ∧
        (2600 ≤ mv.toNat → u.dyn.flag F.RTC_STATUS_CELL_LOW = false))

/-- A granted read of RTC_TICK_LO, over a port that is served, answers the low word of the tick and leaves its high part in RTC_TICK_HI; one of
RTC_EPOCH_LO does the same with the epoch. Reading the LO and then the HI register, for a requester that may read both,
gives the two parts of the one value that stood at the first read. -/
def Obligations.RtcLatchedReads : Prop :=
  ∀ (s : State) (who : Requester) (lo hi : Word) (v : BitVec 48), Live s →
    (lo, hi, v) ∈ [(BitVec.ofNat 32 Reg.RTC_TICK_LO, BitVec.ofNat 32 Reg.RTC_TICK_HI, s.dyn.rtc.tick),
      (BitVec.ofNat 32 Reg.RTC_EPOCH_LO, BitVec.ofNat 32 Reg.RTC_EPOCH_HI, s.dyn.rtc.epoch)] →
    MayRead s who lo.toNat → MayRead s who hi.toNat →
    ∃ u w, exec (.latchingRead who lo) s = .next u ∧ u.cfg = s.cfg ∧
      u.dyn.readData = v.extractLsb' 0 32 ∧ u.dyn.rd hi.toNat = (v.extractLsb' 32 16).setWidth 32 ∧
      (∀ a, a ≠ hi.toNat → u.dyn.rd a = s.dyn.rd a) ∧
      exec (.latchingRead who hi) u = .next w ∧ w.dyn.readData = (v.extractLsb' 32 16).setWidth 32
/-! ## The station network -/

/-- An INPUT of the configured length and a stream frame that the network accepts, whose SEQ was not received within the last
400 ms, wait for the next latch, and are forwarded while the units agree; a second copy of an INPUT is counted and goes no
further; an ACK clears NO_ACK_LIVE and waits as well. Without agreement REMOTE_STATION_CUT, 10 µs before the next T, takes what has arrived; an
ACK that has not arrived by its deadline sets NO_ACK_LIVE. -/
def Obligations.StationFrames : Prop :=
  ∀ (s : State) (h : StnHdr),
    (let e := s.accepts h;
      (∀ (n : BitVec 5) payload, StationFrame s h (inputBody n.toNat payload) → s.cfg.fromRemote n.toNat h = true →
        payload.length * 4 = s.cfg.get (F.NET_RS_CFG_IN_LEN n.toNat) →
        let seen := pairDiscard (e.remote n.toNat).seen h.seq e.now
        let d := e.setRemote n.toNat fun r => { r with seen := seen.1 }
        exec (.inputFrame n h payload) s = .next (s.withDyn (
          if seen.2 then d.arrive s.cfg (.input n.toNat h.fn h.seq payload) else d.bump (F.NET_RS_ERR_COUNT n.toNat)))) ∧
      (∀ (n : BitVec 5) seq (status : BitVec 8), StationFrame s h (ackBody n.toNat seq status) →
        s.cfg.fromRemote n.toNat h = true →
        exec (.ackFrame n h seq status) s =
          .next (s.withDyn ((e.gotAck n.toNat seq).arrive s.cfg (.ack n.toNat seq status.toNat)))) ∧
      (∀ (id : BitVec 16) payload, StationFrame s h (streamBody id.toNat payload) → 0x200 ≤ id.toNat →
        s.cfg.streamPeer id.toNat false = some h.src →
        (∀ x ∈ s.cfg.streamEntries id.toNat, x.2.1.bit 29 = false) →
        let x := sget StreamRx.init e.net.streams id.toNat
        let seen := pairDiscard x.seen h.seq e.now
        let d : Dyn := { e with net := { e.net with
          streams := sput StreamRx.init e.net.streams id.toNat { x with seen := seen.1 } } }
        exec (.streamFrame id h payload) s = .next (s.withDyn (
          if seen.2 then d.arrive s.cfg (.stream id.toNat h.seq payload) else d)))) ∧
    (let d := s.dyn.advTo (s.dyn.atT (s.cfg.period - 10000))
     Live s → s.dyn.slc.framing = true → s.dyn.agreeing = false → s.dyn.net.cutDone = false →
      ∃ u, exec .remoteStationCut s = .next u ∧ u.cfg = s.cfg ∧ u.pending = s.pending ∧ u.dyn.net.cutDone = true ∧
        ∀ r ∈ u.dyn.twin.rx, r ∈ s.dyn.twin.rx ∧
          ∀ k fn seq payload, r.peer = false → r.item = .input k fn seq payload → later r.ft d.ft = true) ∧
    (∀ (n : BitVec 5) o rest, Live s → (s.dyn.remote n.toNat).unanswered = o :: rest →
      let t := o.2 + s.dyn.get F.NET_ACK_DL_VALUE * 1000
      s.dyn.near s.cfg t →
      exec (.ackDeadline n) s =
        .next (s.withDyn ((s.dyn.dueAt t).setFlag (F.NET_RS_STATUS_NO_ACK_LIVE n.toNat) true)))

/-- An accepted request of a client waits for the berm (without frames it is served at once, log entry 118) and is
counted, or is answered BUSY when 64 wait. A server's
connection stands from its opening; its ALARM_HELLO and ALARM_ACK move the window of 256 records; a second without a
record sends an empty one, 10 s without ALARM_ACK close it. PRP supervision and answered ARP or ICMP requests send a frame;
PORT_LINK_CHANGE shows the link and what PTP makes of it; the diagnostic word of a remote station is asked for and its reply stored. -/
def Obligations.StationServices : Prop :=
  ∀ (s : State) (h : StnHdr),
    (let e := s.serves h;
      (∀ (k : BitVec 4) (tid : Word) (x : RaArgs), s.cfg.rd (Reg.NET_CLIENT k.toNat) ≠ 0 →
        h.src = s.cfg.rd (Reg.NET_CLIENT k.toNat) → h.sender.toNat = 0x40 + k.toNat →
        let body : Nat → StnBody := fun op => ⟨0x10, 0, false, raReqBytes tid op x.unitB x.count x.addr x.data⟩
        let waits : Nat → Out := fun op =>
          let d := ({ e with net := { e.net with waiting := e.net.waiting ++
              [⟨k.toNat, tid, op, x.unitB, x.addr.toNat, x.count.toNat, x.data⟩] } } : Dyn).put F.NET_RA_STAT_COUNT
                (e.net.waiting.length + 1)
          .next (s.withDyn (
            if e.net.waiting.length < 64 then (if e.slc.framing = true then d else d.raBerm s.cfg)
            else (e.bump F.NET_RA_STAT_BUSY).tx s.cfg 3 (.reply k.toNat tid 5 x.count.toNat 0 e.fn [])))
        (ServiceFrame s h (body 1) → exec (.raOpen k h tid x) s = waits 1) ∧
        (ServiceFrame s h (body 2) → exec (.raRead k h tid x) s = waits 2) ∧
        (ServiceFrame s h (body 3) → exec (.raWrite k h tid x) s = waits 3) ∧
        (ServiceFrame s h (body 4) → exec (.raClose k h tid x) s = waits 4)) ∧
      (∀ (n : BitVec 5) (tid : Word) (r : RaReply) data,
        ServiceFrame s h ⟨0x11, 0, false, raRspBytes tid r data⟩ → s.cfg.fromRemote n.toNat h = true →
        let x := e.diagOf n.toNat
        r.status = 0 → tid.extractLsb' 0 16 = x.num →
        (x.awaits = some true → exec (.raRsp n h tid r data) s = .next (s.withDyn
          (e.setDiag n.toNat { x with gen := tid.extractLsb' 16 16, awaits := none }))) ∧
        (x.awaits = some false → tid.extractLsb' 16 16 = x.gen → ∀ w rest, data = w :: rest →
          exec (.raRsp n h tid r data) s = .next (s.withDyn
            ((e.setDiag n.toNat { x with awaits := none }).wr (Reg.NET_RS_DIAG n.toNat) w)))) ∧
      (∀ (a : BitVec 2) k, s.cfg.fromServer a.toNat h = true → h.sender.toNat = 0x50 + a.toNat →
        e.conn a.toNat = some k →
        (∀ last : Word, ServiceFrame s h (helloBody a last) → exec (.alarmHello a h last) s = .next (s.withDyn
          (let held := if last = -1 then 0 else last.toNat
           (e.setConn a.toNat (some ⟨held, held, true, none, e.now, e.now⟩)).pumpOne s.cfg a.toNat))) ∧
        (∀ evn : Word, ServiceFrame s h (alarmAckBody evn) → exec (.alarmAck a h evn) s = .next (s.withDyn
          ((e.setConn a.toNat (some { k with acked := max k.acked (min evn.toNat k.sent), ackAt := e.now })).pumpOne
            s.cfg a.toNat))))) ∧
    (PolicedFrame s h → ((s.polices h).prpPass h).2 = true →
      let e := s.serves h
      (∀ a : BitVec 2, s.cfg.fromServer a.toNat h = true →
        exec (.alarmConnect a h) s = .next (s.withDyn
          (e.setConn a.toNat (some ⟨0, 0, false, none, e.now, e.now⟩)))) ∧
      ((if h.lanB then e.net.arpB else e.net.arpA).2 < 100 →
        ∃ u w, exec (.arpIcmpRequest h) s = .next u ∧ u.cfg = s.cfg ∧ u.dyn.regs = e.regs ∧
          u.dyn.sent = .lan w .answer :: e.sent)) ∧
    (∀ (a : BitVec 2) k, Live s → s.dyn.conn a.toNat = some k →
      (k.hello = true → s.dyn.near s.cfg (k.sentAt + 10 ^ 9) →
        let d := (s.dyn.dueAt (k.sentAt + 10 ^ 9)).tx s.cfg (Config.trafficClass 0x20) (.alarm a.toNat none)
        exec (.alarmIdle a) s = .next (s.withDyn (d.setConn a.toNat (some { k with sentAt := d.now })))) ∧
      (s.dyn.near s.cfg (k.ackAt + 10 ^ 10) →
        exec (.alarmTimeout a) s = .next (s.withDyn ((s.dyn.dueAt (k.ackAt + 10 ^ 10)).setConn a.toNat none)))) ∧
    (Live s → s.dyn.netUp = true →
      (s.dyn.near s.cfg (s.dyn.net.supAt + 2000000000) →
        let d := s.dyn.dueAt (s.dyn.net.supAt + 2000000000)
        exec .prpSupervision s = .next (s.withDyn
          (({ d with net := { d.net with supAt := d.now } } : Dyn).txPlain s.cfg (Config.trafficClass 0) .supervision))) ∧
      (∀ lanB offer,
        let fixed := s.cfg.get (if lanB then F.NET_CFG_SPEED_B else F.NET_CFG_SPEED_A)
        exec (.portLinkChange lanB offer) s = .next (s.withDyn
          ((s.dyn.put (if lanB then F.NET_PORT_STAT_LINK_B else F.NET_PORT_STAT_LINK_A)
            (match offer with
              | .down => 0
              | .mbit100 => if fixed = 2 then 0 else 1
              | .gbit1 => if fixed = 1 then 0 else 2
              | .halfDuplex => 3)).ptpFault s.cfg))) ∧
      (∀ n : BitVec 5, s.dyn.modState ≠ 4 → s.cfg.remote n.toNat = true →
        let x := s.dyn.diagOf n.toNat
        s.dyn.near s.cfg (x.at_ + 10 ^ 9) →
        let d := s.dyn.dueAt (x.at_ + 10 ^ 9)
        exec (.remoteDiagRead n) s = .next (s.withDyn
          ((d.setDiag n.toNat ⟨x.gen, x.num + 1, some (x.gen == 0), d.now⟩).tx s.cfg 3
            (.request n.toNat (x.gen.setWidth 32 <<< 16 ||| (x.num + 1).setWidth 32)
              (if x.gen == 0 then 1 else 2) (Config.diagAddr n.toNat))))))
/-! ## CAN channels -/

/-- A granted read of word 0 of a receive buffer answers it and sets LOCKED, of word 19 clears LOCKED and NEW; a lock that
lasts RXB_LOCK_MS ends and is counted. At bus idle the first candidate of a channel that drives starts an attempt. A frame
sent is counted and lowers TEC by 1, but while listening; lost arbitration ends the attempt and leaves TEC; an error that is
not exempt raises TEC by 8 in a transmitter, with BUS_OFF above 255, and REC by 1 in a receiver that does not listen
only, and a dominant bit after the error flag raises the counter by 8 more; a protocol exception under FD_EN is counted alone; recovery makes the channel ERROR_ACTIVE with both counters 0. A
dominant timeout cuts the transmitter off. A received data frame goes to its matching receive entry; without one, and not
matched by an entry of the other bus side either, it is counted as dropped, as a remote frame is. -/
def Obligations.CanEvents : Prop :=
  ∀ (s : State) (ch : BitVec 2), Live s → s.cfg.canUsed ch.toNat = true →
    let k := ch.toNat
    let tec := s.dyn.get (F.CAN_STATUS_TEC k)
    let rec_ := s.dyn.get (F.CAN_STATUS_REC k)
    (∀ who (b : BitVec 5),
      (MayRead s who (Reg.CAN_RXB k b.toNat 0) →
        ∃ u, exec (.rxbLock who ch b) s = .next u ∧ u.cfg = s.cfg ∧
          u.dyn.readData = s.dyn.rd (Reg.CAN_RXB k b.toNat 0) ∧
          u.dyn.rd (Reg.CAN_RXB k b.toNat 1) = (s.dyn.rd (Reg.CAN_RXB k b.toNat 1)).setBit 28 true ∧
          ∀ a, a ≠ Reg.CAN_RXB k b.toNat 1 → u.dyn.rd a = s.dyn.rd a) ∧
      (MayRead s who (Reg.CAN_RXB k b.toNat 19) →
        ∃ u, exec (.rxbUnlock who ch b) s = .next u ∧ u.cfg = s.cfg ∧
          u.dyn.readData = s.dyn.rd (Reg.CAN_RXB k b.toNat 19) ∧
          u.dyn.rd (Reg.CAN_RXB k b.toNat 1) =
            ((s.dyn.rd (Reg.CAN_RXB k b.toNat 1)).setBit 28 false).setBit 30 false ∧
          ∀ a, a ≠ Reg.CAN_RXB k b.toNat 1 → u.dyn.rd a = s.dyn.rd a) ∧
      (∀ t, sget none (s.dyn.canOf k).locks b.toNat = some t →
        s.dyn.near s.cfg (t + s.cfg.get (F.CAN_CFG_RXB_LOCK_MS k) * 10 ^ 6) →
        ∃ u, exec (.rxbLockTimeout ch b) s = .next u ∧ (u.dyn.rd (Reg.CAN_RXB k b.toNat 1)).bit 28 = false ∧
          u.dyn.get (F.CAN_RXDROP_LOCK_TO k) =
            min (s.dyn.get (F.CAN_RXDROP_LOCK_TO k) + 1) (2 ^ (F.CAN_RXDROP_LOCK_TO k).width - 1))) ∧
    (∀ r cand f, s.dyn.canDrives s.cfg k = true → (s.dyn.canOf k).under = none →
      firstCand (s.dyn.candidates s.cfg k) = some (r, cand, f) →
      ∃ u, exec (.canArbitration ch) s = .next u ∧ u.cfg = s.cfg ∧ u.dyn.regs = s.dyn.regs ∧
        (u.dyn.canOf k).under = some (cand, { f with esi := f.fdf && s.dyn.canState k == 1 }) ∧
        (u.dyn.canOf k).counted = some cand) ∧
    ((s.dyn.canDrives s.cfg k = false ∨ (s.dyn.canOf k).under.isSome = true ∨ s.dyn.candidates s.cfg k = []) →
      exec (.canArbitration ch) s = .next (s.withDyn (s.dyn.setCan k fun x => { x with cut := false }))) ∧
    (∀ cand f, (s.dyn.canOf k).under = some (cand, f) →
      ((s.dyn.canOf k).cut = false →
        ∃ u, exec (.canFrameSent ch) s = .next u ∧ (u.dyn.canOf k).under = none ∧
          u.dyn.get (F.CAN_TXCNT_COUNT k) = min (s.dyn.get (F.CAN_TXCNT_COUNT k) + 1) (2 ^ (F.CAN_TXCNT_COUNT k).width - 1) ∧
          u.dyn.get (F.CAN_STATUS_TEC k) = (if s.cfg.listens k then tec else tec - 1) ∧ ∃ e, Sent.can k e f ∈ u.dyn.sent) ∧
      (∃ u, exec (.arbitrationLost ch) s = .next u ∧ (u.dyn.canOf k).under = none ∧
        u.dyn.get (F.CAN_STATUS_TEC k) = tec) ∧
      (∀ err cd exempt dom, (err = .exception → s.cfg.flag (F.CAN_CFG_FD_EN k) = false) → s.dyn.canState k < 2 →
        let n := tec + (if exempt then 0 else 8) + if dom then 8 else 0
        ∃ u, exec (.canError ch err cd exempt dom) s = .next u ∧ (u.dyn.canOf k).under = none ∧
          u.dyn.get (F.CAN_STATUS_TEC k) = min n 255 ∧ u.dyn.get (F.CAN_STATUS_REC k) = rec_ ∧
          (255 < n → u.dyn.canState k = 2 ∧ u.dyn.flag (F.CAN_STATUS_INVALID k) = true))) ∧
    (∀ err cd exempt dom, (err = .exception → s.cfg.flag (F.CAN_CFG_FD_EN k) = false) → s.dyn.canState k < 2 →
      (s.dyn.canOf k).under = none →
      ∃ u, exec (.canError ch err cd exempt dom) s = .next u ∧ u.dyn.get (F.CAN_STATUS_TEC k) = tec ∧
        u.dyn.get (F.CAN_STATUS_REC k) = (if s.cfg.listens k then rec_ else
          min (rec_ + (if exempt then 0 else 1) + if dom then 8 else 0) 255)) ∧
    (∀ cd exempt dom, s.cfg.flag (F.CAN_CFG_FD_EN k) = true → s.dyn.canState k < 2 →
      exec (.canError ch .exception cd exempt dom) s = .next (s.withDyn (s.dyn.bump (F.CAN_ERRCNT1_PEX k)))) ∧
    (s.dyn.canState k = 2 → (s.dyn.canOf k).counting = true →
      ∃ u, exec (.busOffRecovery ch) s = .next u ∧ u.dyn.canState k = 0 ∧ u.dyn.get (F.CAN_STATUS_TEC k) = 0 ∧
        u.dyn.get (F.CAN_STATUS_REC k) = 0 ∧ u.dyn.flag (F.CAN_STATUS_INVALID k) = false) ∧
    (s.cfg.listens k = false →
      exec (.dominantTimeout ch) s = .next (s.withDyn (s.dyn.setCan k fun x => { x with cut := true }))) ∧
    (∀ (f : CanFrame) stamp at_, s.dyn.canState k < 2 → (f.fdf = true → s.cfg.flag (F.CAN_CFG_FD_EN k) = true) →
      let g := { f with data := maskData (canLen f.fdf f.dlc.toNat) f.data }
      let x := (s.dyn.advTo at_).canRxOk s.cfg k
      let d := x.jointSeen s.cfg k g
      let dropped := fun (y : Dyn) => (y.bump (F.CAN_RXDROP_UNMATCHED k)).setFlag (F.CAN_STATUS_RX_DROP k) true
      (f.remote = true → exec (.canFrameReceived ch f stamp at_) s = .next (s.withDyn (dropped x))) ∧
      (f.remote = false →
        (∀ e w0 w1, (s.cfg.canEntries k false).find? (fun e => entryId e.2.1 g) = some (e, w0, w1) →
          exec (.canFrameReceived ch f stamp at_) s = .next (s.withDyn (d.canMatched s.cfg k e w1 g stamp))) ∧
        ((∀ e ∈ s.cfg.canEntries k false, entryId e.2.1 g = false) →
          exec (.canFrameReceived ch f stamp at_) s = .next (s.withDyn (
            if (s.cfg.canEntries k true).any fun e => entryId e.2.1 g then d else dropped d)))))
/-! ## Journal, replay and power -/

/-- After its last frame a window stops collecting. A window that its copy does not keep up with loses the records the ring
needs, and with it the record in progress; an uncorrectable error of the ring loses the record in progress, or the newest
between two frames. A lost record is counted in GAPS, once. A corrected error is counted by its memory and recorded. A checkpoint that is written shows in JRN_CKPT_FN, a window that is copied takes
its place and queues event 0x0A02, and one of cause POWER leaves its area. A file that is loaded becomes an imported, unprotected window; one that is read out is
sent unchanged. In REPLAY a frame is replayed, unless the replay pauses before it, and STEP_FRAME replays one; a damaged
record and a gap end the replay with STATE 5. -/
def Obligations.JournalEvents : Prop :=
  ∀ s : State, Live s →
    (∀ x, s.dyn.jrn.collecting = some x → later x.2.2 s.dyn.fn = false →
      s.dyn.jrn.isOpen = false ∨ x.2.2 ≠ s.dyn.fn ∨ s.dyn.phase = 0 ∨ s.dyn.phase = 5 →
      ∃ u, exec .windowCollectionEnd s = .next u ∧ u.cfg = s.cfg ∧ u.dyn.jrn.collecting = none ∧
        u.dyn.flag F.JRN_STATUS_COLLECTING = false) ∧
    (let fresh := s.dyn.jrn.isOpen = true ∧ s.dyn.jrn.lose = false
     let held := (s.dyn.jrn.ring.filter fun x => s.dyn.jrn.protects x.fn).getLast?
     let lost : State → Prop := fun u => u.dyn.jrn.gapNext = true ∧
       u.dyn.get F.JRN_STATUS_GAPS = min (s.dyn.get F.JRN_STATUS_GAPS + 1) (2 ^ F.JRN_STATUS_GAPS.width - 1)
     (held = none → exec .journalTruncation s = .next s) ∧
     (∀ r, held = some r →
       exec .journalTruncation s = .next (s.withDyn ((s.dyn.loseOpen).truncateWindows s.cfg r.fn))) ∧
     (s.dyn.jrn.isOpen = true → exec .uncorrectableRingError s = .next (s.withDyn s.dyn.loseOpen)) ∧
     (fresh → lost (s.withDyn s.dyn.loseOpen)) ∧ (¬fresh → s.dyn.loseOpen = s.dyn) ∧
     (s.dyn.jrn.isOpen = false → s.dyn.jrn.ring = [] → exec .uncorrectableRingError s = .next s) ∧
     (∀ r l, s.dyn.jrn.isOpen = false → s.dyn.jrn.ring = r :: l →
       ∃ u, exec .uncorrectableRingError s = .next u ∧ u.cfg = s.cfg ∧ u.dyn.jrn.ring = l ∧ lost u)) ∧
    (∀ w p l, s.dyn.jrn.copying = (w, p) :: l →
      let nv := if w.cause = 8 then { s.dyn.nv with pfArea := none } else s.dyn.nv
      exec .flashCopyDone s = .next (s.withDyn
        ((({ s.dyn with nv := nv, jrn := { s.dyn.jrn with copying := l } } : Dyn).setWindow p (some { w with copied := 0 })).alarm s.cfg 0x0A02 p
          (BitVec.ofNat 32 w.cause) w.tfn))) ∧
    (∀ k l, s.dyn.jrn.writing = k :: l → exec .checkpointWritten s = .next (s.withDyn
      ((({ s.dyn with jrn := { s.dyn.jrn with writing := l, ckpts := k :: s.dyn.jrn.ckpts } } : Dyn).collectCkpt k).wr
        Reg.JRN_CKPT_FN k.fn))) ∧
    (∀ (w : Window) p, s.dyn.windowsServed = true → s.dyn.windowPlace s.cfg = some p →
      ∃ u, exec (.usbWindowLoad w) s = .next u ∧ u.cfg = s.cfg ∧ u.dyn.flag F.JRN_STATUS_ANY = true ∧
        u.dyn.window p = some { w with valid := true, imported := true, prot := false, armed := false,
                                       age := s.dyn.jrn.ages, copied := 0 } ∧
        ∀ i, i ≠ p → u.dyn.window i = s.dyn.window i) ∧
    (∀ w : Window, s.dyn.windowsServed = false ∨ s.dyn.windowPlace s.cfg = none →
      exec (.usbWindowLoad w) s = .next s) ∧
    (∀ n : BitVec 4, exec (.usbWindowReadout n) s = .next (match s.dyn.window n.toNat with
      | some w => if s.dyn.windowsServed = true then s.withDyn (s.dyn.send (.file w)) else s
      | none => s)) ∧
    (∀ (m : BitVec 2) addr syn,
      let f := [F.JRN_ECC_PROG, F.JRN_ECC_WORD, F.JRN_ECC_ARRAY].getD m.toNat F.JRN_ECC_RING
      ∃ u, exec (.eccCorrected m addr syn) s = .next u ∧ u.cfg = s.cfg ∧
        u.dyn.get f = min (s.dyn.get f + 1) (2 ^ f.width - 1) ∧
        u.dyn.jrn.items = ⟨7, [m.setWidth 32, addr, syn]⟩ :: s.dyn.jrn.items ∧
        ∀ a, a ≠ Reg.JRN_ECC → u.dyn.rd a = s.dyn.rd a) ∧
    (let stops := s.dyn.jrn.pauseAt.any fun n => s.dyn.jrn.playing.head?.any fun r => r.fn == n
     s.dyn.modState = 4 → s.dyn.get F.JRN_REPLAY_STATE = 1 ∨ s.dyn.get F.JRN_REPLAY_STATE = 4 →
      exec .replayFrame s = .next (s.withDyn (if stops then
        ({ s.dyn with jrn := { s.dyn.jrn with pauseAt := none } } : Dyn).put F.JRN_REPLAY_STATE 2
        else (s.dyn.replayOne s.cfg).pump s.cfg))) ∧
    (∀ who, MayWrite s who Reg.JRN_CMD → s.dyn.modState = 4 → s.dyn.get F.JRN_REPLAY_STATE = 2 →
      let d := (s.dyn.by_ who).jrnStat 8 2 0
      let e := (({ d with jrn := { d.jrn with stepOne := false } } : Dyn).replayOne s.cfg).pump s.cfg
      exec (.stepFrame who) s =
        .next (s.withDyn (if e.jrn.playing.isEmpty then e else e.put F.JRN_REPLAY_STATE 2))) ∧
    (∀ r rest, s.dyn.jrn.playing = r :: rest →
      (r.crcOk = true → r.gap = false →
        (s.dyn.replayOne s.cfg).jrn.playing = rest ∧ (s.dyn.replayOne s.cfg).rd Reg.JRN_RP_FN = r.fn) ∧
      ((r.crcOk = false ∨ r.gap = true) →
        (s.dyn.replayOne s.cfg).jrn.playing = [] ∧ (s.dyn.replayOne s.cfg).get F.JRN_REPLAY_STATE = 5))

/-- The loss and the return of a supply input show in its voltage and OK bit, a loss is counted, and, where the input is
required, an alarm record is queued; nothing else changes. HOLDUP_READY is set with the voltage. A rail warning sets its
bit, is counted and queues event 0x0B05; its clearing clears the bit. A rail fault or clock failure puts the module into
FAULT with cause 0x26 or 0x25 and stops its commits. OVERTEMP is set above TEMP_WARN and clears 5 °C below it. A power
fail is counted in the secure store, in MOD_PF_COUNT and MOD_PF_LAST, and ends with the module in reset; in REPLAY nothing
is stored. -/
def Obligations.PowerEvents : Prop :=
  ∀ s : State, Live s →
    (∀ (psB : Bool) (v : BitVec 16),
      let ok := if psB then F.MOD_PWR_STATUS_PSB_OK else F.MOD_PWR_STATUS_PSA_OK
      let req := s.cfg.flag (if psB then F.MOD_PWR_CFG_PSB_REQ else F.MOD_PWR_CFG_PSA_REQ)
      let d := s.dyn.put (if psB then F.MOD_VIN_PSB else F.MOD_VIN_PSA) v.toNat
      exec (.supplyInputLoss psB v) s = .next (s.withDyn (if s.dyn.flag ok then
          let e := (d.setFlag ok false).bump (if psB then F.MOD_PWR_EVCNT_PSB_LOSS else F.MOD_PWR_EVCNT_PSA_LOSS)
          if req then e.alarm s.cfg (if psB then 0x0B02 else 0x0B01) 0 (v.setWidth 32) 0 else e
        else d)) ∧
      exec (.supplyInputReturn psB v) s = .next (s.withDyn (if s.dyn.flag ok then d else
          let e := d.setFlag ok true
          if req then e.alarm s.cfg (if psB then 0x0B04 else 0x0B03) 0 (v.setWidth 32) 0 else e))) ∧
    (∀ v : BitVec 16, ∃ u, exec (.holdupReady v) s = .next u ∧ u.dyn.get F.MOD_HOLDUP_VALUE = v.toNat ∧
      u.dyn.flag F.MOD_PWR_STATUS_HOLDUP_READY = true ∧
      ∀ a, a ≠ Reg.MOD_HOLDUP → a ≠ Reg.MOD_PWR_STATUS → u.dyn.rd a = s.dyn.rd a) ∧
    (∀ (r : BitVec 2) (mv : BitVec 16), let k := r.toNat
      let d := s.dyn.put (railFld k) mv.toNat
      exec (.railWarn r mv) s = .next (s.withDyn (if (s.dyn.get F.MOD_PWR_STATUS_RAIL_WARN).testBit k then d else
        ((d.railWarn k true).bump F.MOD_PWR_EVCNT_RAIL_WARN).alarm s.cfg 0x0B05 k (mv.setWidth 32) 0)) ∧
      ((d.railWarn k true).get F.MOD_PWR_STATUS_RAIL_WARN).testBit k = true ∧
      (∃ u, exec (.railWarnClear r mv) s = .next u ∧ u.dyn.get (railFld k) = mv.toNat ∧
        (u.dyn.get F.MOD_PWR_STATUS_RAIL_WARN).testBit k = false) ∧
      (s.dyn.role ≠ 7 → s.dyn.modState ≠ 3 →
        (∃ u, exec (.railFault r mv) s = .next u ∧ u.dyn.get (railFld k) = mv.toNat ∧ u.dyn.modState = 3 ∧
          u.dyn.get F.MOD_STATE_CAUSE = 0x26 ∧ u.dyn.slc.commitOff = true) ∧
        ∃ u, exec (.clockFailure r) s = .next u ∧
          (k ≠ 2 → u.dyn.flag ([F.MOD_CLK_K32_OK, F.MOD_CLK_TCXO_OK].getD k F.MOD_CLK_CAN_LOCK) = false) ∧
          u.dyn.modState = 3 ∧ u.dyn.get F.MOD_STATE_CAUSE = 0x25 ∧ u.dyn.slc.commitOff = true)) ∧
    (∀ t : BitVec 16, let warn : Int := s.cfg.get F.MOD_PWR_CFG_TEMP_WARN * 10
      let d := s.dyn.setTemp t
      d.get F.MOD_TEMP_TEMP = t.toNat ∧
      exec (.overtemp t) s = .next (s.withDyn (
        if warn < t.toInt ∧ s.dyn.flag F.MOD_PWR_STATUS_OVERTEMP = false then
          ((d.setFlag F.MOD_PWR_STATUS_OVERTEMP true).bump F.MOD_PWR_EVCNT_OVERTEMP).alarm s.cfg 0x0B06 0
            (t.signExtend 32) 0
        else d)) ∧
      exec (.overtempClear t) s = .next (s.withDyn (
        if t.toInt ≤ warn - 50 then d.setFlag F.MOD_PWR_STATUS_OVERTEMP false else d))) ∧
    (∀ us : BitVec 16,
      (s.dyn.modState = 4 → exec (.powerFail us) s =
        .next (s.withDyn { s.dyn with boot := { s.dyn.boot with held := true, supplyOff := true } })) ∧
      (s.dyn.modState ≠ 4 → ∃ u, exec (.powerFail us) s = .next u ∧ u.cfg = s.cfg ∧ u.dyn.boot.held = true ∧
        u.dyn.nv.pfCount = min (s.dyn.nv.pfCount + 1) 0xFFFF ∧ u.dyn.nv.pfTick = some s.dyn.rtc.tick ∧
        u.dyn.rd Reg.MOD_PF_COUNT = BitVec.ofNat 32 u.dyn.nv.pfCount ∧ u.dyn.rd Reg.MOD_PF_LAST = u.dyn.nv.pfLast ∧
        (u.dyn.rd Reg.MOD_PF_LAST).field 0 16 = us.toNat))

/-! ## Twin operation -/

/-- A message whose CRC fails counts as an error of its lane and does nothing else; a second copy does nothing, but that a
bulk message is acknowledged again. An intact new one acts: INPUT writes the mirror, a whole contribution part by part, SLOT
keeps the entries of its slot in this frame, SIG is kept and compared, TIME is taken by a follower, GIVEUP ends the
agreement and leaves an ACTIVE unit alone, a CTRL acknowledgement frees its bulk message, FWD items and join records wait,
READY fixes the lockstep frame, LOCKSTEP is taken by the joining unit, JOIN makes a ready unit JOINING. A heartbeat
that a LAN accepts from the peer is noted once, and outside agreement and join shows the peer's role. -/
def Obligations.TwinMessages : Prop :=
  ∀ (s : State) (h : ShlHdr), s.cfg.twin = true →
    (∀ (pr : PairRec) slot es sig (m : InputMsg) (msg : TimeMsg) cause xfer seq l mapped,
      let cs : List (Nat × Instr) := [(1, .pair { pr with hdr := h }), (3, .inputMessage { m with hdr := h }),
        (4, .slotMessage h slot es), (5, .sigMessage h sig), (2, .timeMessage { msg with hdr := h }),
        (7, .giveupMessage h cause), (9, .ctrlAck h xfer seq), (9, .ready h), (9, .lockstep h l),
        (9, .join (.peer h mapped))]
      Live s → ∀ x ∈ cs,
        (h.crcOk = false → exec x.2 s = .next (s.withDyn ((s.dyn.advTo h.at_).laneErrors s.cfg h.lane1 1))) ∧
        (h.crcOk = true → (s.dyn.advTo h.at_).gotSeq x.1 h = true →
          exec x.2 s = .next (s.withDyn (s.dyn.advTo h.at_)))) ∧
    (∀ num item body, Live s → ∀ x ∈ ([(6, .fwd h num item), (8, .xfer h body)] : List (Nat × Instr)),
      (h.crcOk = false → exec x.2 s = .next (s.withDyn ((s.dyn.advTo h.at_).laneErrors s.cfg h.lane1 1))) ∧
      (h.crcOk = true → (s.dyn.advTo h.at_).gotSeq x.1 h = true →
        exec x.2 s = .next (s.withDyn ((s.dyn.advTo h.at_).sendWords 9 [0, BitVec.ofNat 32 x.1, h.seq])))) ∧
    (∀ carry words crc cut lanes, PeerMessage s 3 h →
      let e := s.hears 3 h
      let mirror := sputs 0 e.twin.mirror (words.filter fun x => inContrib x.1)
      let ok := (crc.map fun x => x == Config.digest (flatWords mirror)).getD true
      (∃ u, exec (.inputMessage ⟨h, none, carry, words, crc, cut, lanes⟩) s = .next u ∧ u.dyn.twin.mirror = mirror ∧
        u.dyn.twin.inputFn = some h.fn ∧ u.dyn.twin.digestOk = (ok && crc.isSome) ∧
        u.dyn.twin.peerCut = max e.twin.peerCut cut ∧ u.dyn.twin.peerLanes = lanes ∧
        ∀ a, a ≠ F.SHL_AGREE_PEAK_NS.addr → u.dyn.rd a = e.rd a) ∧
      ∀ i n, let parts := if e.twin.parts.contains i then e.twin.parts else i :: e.twin.parts
        let sum := crc.orElse fun _ => e.twin.fullCrc
        let whole := parts.length == n && (List.range n).all parts.contains
        exec (.inputMessage ⟨h, some (i, n), carry, words, crc, cut, lanes⟩) s = .next (s.withDyn (
          if s.dyn.agreeing = true then e else
          { e with twin := { e.twin with mirror := mirror, parts := parts, fullCrc := sum,
                                         primed := whole && sum == some (Config.digest (flatWords mirror)) } }))) ∧
    (∀ (slot : BitVec 4) es, PeerMessage s 4 h →
      let e := s.hears 4 h
      exec (.slotMessage h slot es) s = .next (s.withDyn (if h.fn = e.fn then
        { e with twin := { e.twin with peerSlots := e.twin.peerSlots ++ [(slot.toNat, es)] } } else e))) ∧
    (∀ sig, PeerMessage s 5 h →
      let e := s.hears 5 h
      exec (.sigMessage h sig) s = .next (s.withDyn
        (({ e with twin := { e.twin with peerSig := some (h.fn, sig) } } : Dyn).compareSig s.cfg))) ∧
    (∀ masterFt sec ns status incr cal change, PeerMessage s 2 h →
      ∃ u, exec (.timeMessage ⟨h, masterFt, sec, ns, status, incr, cal, change⟩) s = .next u ∧ u.cfg = s.cfg ∧
        u.dyn.twin.timeFn = some h.fn ∧
        (s.dyn.follower = true → u.dyn.tsu.master = some (sec, ns, status, h.fn) ∧ u.dyn.tsu.apply = change)) ∧
    (∀ cause : BitVec 8, PeerMessage s 7 h →
      (s.dyn.role = 7 → exec (.giveupMessage h cause) s = .next (s.withDyn (s.hears 7 h))) ∧
      (s.dyn.role ≠ 7 → ∃ u, exec (.giveupMessage h cause) s = .next u ∧ u.dyn.get F.SHL_GIVEUP_PEER = cause.toNat ∧
        u.dyn.peerRole = 7 ∧ u.dyn.lockstep = false ∧ u.dyn.twin.mapped = 0 ∧
        (s.dyn.joining = false → u.dyn.role = s.dyn.role))) ∧
    (∀ xfer seq, PeerMessage s 9 h →
      let e := s.hears 9 h
      exec (.ctrlAck h xfer seq) s = .next (s.withDyn { e with twin := { e.twin with
        unacked := e.twin.unacked.filter fun x => !(x.seq == seq && x.msg.bulkKind == (if xfer then 8 else 6)) } })) ∧
    (∀ (num : BitVec 32) item, PeerMessage s 6 h →
      let e := s.hearsBulk 6 h
      ((∀ r ∈ e.twin.rx ++ e.twin.seen, r.peer = true → r.num ≠ num.toNat) →
        ∃ u, exec (.fwd h num item) s = .next u ∧ u.dyn.twin.rx = e.twin.rx ++ [⟨num.toNat, true, e.ft, item⟩] ∧
          (∀ k seq st, item = .ack k seq st → u.dyn.flag (F.NET_RS_STATUS_NO_ACK_LIVE k) = false) ∧
          (s.dyn.agreeing = true → (∀ k seq st, item ≠ .ack k seq st) → u.dyn.regs = e.regs)) ∧
      ((∃ r ∈ e.twin.rx ++ e.twin.seen, r.peer = true ∧ r.num = num.toNat) →
        exec (.fwd h num item) s = .next (s.withDyn e))) ∧
    (PeerMessage s 8 h →
      let e := s.hearsBulk 8 h
      let x := e.put F.SHL_XFER_STATE 3
      (∀ body, s.dyn.role ≠ 4 → exec (.xfer h body) s = .next (s.withDyn e)) ∧
      (∀ r, s.dyn.role = 4 → exec (.xfer h (.record r)) s = .next (s.withDyn
        { e with twin := { e.twin with recs := e.twin.recs ++ [(h.fn, r)] } })) ∧
      (∀ k, s.dyn.role = 4 → s.dyn.flag F.SHL_XFER_KIND = false →
        exec (.xfer h (.checkpoint k)) s = .next (s.withDyn
          (({ x.loadCheckpoint k with twin := { (x.loadCheckpoint k).twin with recs := [] } } : Dyn).stnState s.cfg))) ∧
      (∀ k, s.dyn.role = 4 → s.dyn.flag F.SHL_XFER_KIND = true →
        let y : Dyn := { x with twin := { x.twin with
          mapSrc := polders.filterMap fun p => (sget Polder.init k.pol p).snap.map fun r => (p, r) } }
        exec (.xfer h (.checkpoint k)) s =
          .next (s.withDyn (if s.dyn.get F.SHL_XFER_STATE ≤ 2 then y.sendReady else y)))) ∧
    (PeerMessage s 9 h →
      let e := s.hears 9 h
      (s.dyn.role = 2 → s.dyn.get F.SHL_XFER_STATE = 3 → s.dyn.twin.lockFn = none →
        let l := if e.ft = e.slc.tFt then e.fn + 2 else e.fn + 3
        exec (.ready h) s = .next (s.withDyn
          ((({ e with twin := { e.twin with lockFn := some l } } : Dyn).wr Reg.SHL_XFER_FN l).sendWords 9 [3, l]))) ∧
      (∀ l, s.dyn.role = 4 → exec (.lockstep h l) s = .next (s.withDyn
        (({ e with twin := { e.twin with lockFn := some l } } : Dyn).wr Reg.SHL_XFER_FN l))) ∧
      (∀ mapped, s.dyn.role = 3 ∨ s.dyn.boot.stage = .locked ∧ (s.dyn.twin.outcome = 3 ∨ s.dyn.twin.outcome = 4) →
        s.dyn.joining = false →
        ∃ u, exec (.join (.peer h mapped)) s = .next u ∧ u.dyn.role = 4 ∧ u.dyn.get F.SHL_XFER_STATE = 1 ∧
          u.dyn.flag F.SHL_XFER_KIND = mapped ∧ u.dyn.get F.TSU_STATUS_TWIN = 2)) ∧
    (∀ msg : Heartbeat, StationFrame s msg.hdr (heartbeatBody msg) → s.dyn.fromPeer s.cfg msg.hdr = true →
      let e := s.accepts msg.hdr
      let x := sget StreamRx.init e.net.streams 0
      let new := (pairDiscard x.seen msg.hdr.seq e.now).2 && isFresh x.applied msg.hdr.seq e.now
      ∃ u, exec (.heartbeatReceipt msg) s = .next u ∧ u.cfg = s.cfg ∧
        (new = false → u.dyn.twin = e.twin ∧ u.dyn.regs = e.regs) ∧
        (new = true → u.dyn.twin.hbSeen = true ∧
          u.dyn.twin.hbNow = (s.dyn.twin.hbNow || (msg.role == 2 && !msg.giveUp)) ∧
          (s.dyn.agreeing = false → s.dyn.joining = false →
            u.dyn.peerRole = (if msg.giveUp then 7 else msg.role.toNat))))

/-- PAIR goes out every 10 ms until the units are paired. A received PAIR ends the pairing of a unit that waits as the table
of R252 states, and shows the peer; after the wait unit A starts alone, and B unless it has heard A. Unit A of a paired start sends TIME
before FN 0, and in the priming frame the whole contribution goes out. A missing SLOT fails the link, a missing SIG leaves
the frame unverified. The verdict of a mismatch: a failed burst gives up with 0x34, none sets DIV and makes B give up with
0x33. A lane that is lost shows DOWN, one that is up shows its latency; CRC errors are counted, and more than 8 in a frame
take the lane down. The bulk message sent first is sent again. A hardware fault gives up in a twin and puts a simplex module
into FAULT, with the cause of the check. A SHADOW without heartbeats becomes ACTIVE; 64 matching frames end a join with both
units ACTIVE; 10 s fail it with cause 1; a caught-up frame that matches is kept, another fails the join with cause 2. -/
def Obligations.TwinEvents : Prop :=
  ∀ s : State, Live s →
    (∀ c : HwCheck, s.dyn.role ≠ 7 → s.dyn.modState ≠ 3 →
      let k := match c with
        | .lane _ => 0x20
        | .pipeline _ => 0x21
        | .array => 0x22
        | .ecc m _ => if s.cfg.twin then 0x24 else if m = 2 then 0x21 else if m = 3 then 0x22 else 0x20
        | .clock => 0x25
        | .rail => 0x26
        | .sequencer => 0x27
      ∃ u, exec (.hardwareFault c) s = .next u ∧ u.dyn.modState = 3 ∧ u.dyn.get F.MOD_STATE_CAUSE = k ∧
        u.dyn.slc.commitOff = true ∧
        (s.cfg.twin = true → u.dyn.role = 7 ∧ u.dyn.get F.SHL_GIVEUP_OWN = k ∧ u.dyn.lockstep = false)) ∧
    (∀ b l, s.dyn.twin.unacked = b :: l → s.dyn.nearCycle s.cfg (b.sentAt + 2500) →
      let d := s.dyn.dueCycle (b.sentAt + 2500)
      exec .bulkRetry s = .next (s.withDyn (({ d with twin := { d.twin with
        unacked := l ++ [{ b with sentAt := d.clk.cycles }] } } : Dyn).send (.retry b.seq b.msg)))) ∧
    (s.cfg.twin = true →
      (s.cfg.pairs s.dyn = true →
        (s.dyn.paired = false → s.dyn.nearCycle s.cfg (s.dyn.twin.pairAt + 5000000) →
          exec .pairResend s =
            .next (s.withDyn ((s.dyn.dueCycle (s.dyn.twin.pairAt + 5000000)).sendPair s.cfg))) ∧
        (∀ r : PairRec, PeerMessage s 1 r.hdr →
          ∃ u, exec (.pair r) s = .next u ∧ u.cfg = s.cfg ∧ u.dyn.twin.peerIfp = r.ifp ∧
            u.dyn.twin.peerSame = (r.imageId == s.cfg.img.imageId) ∧
            (s.dyn.agreeing = false → u.dyn.peerRole = r.role.toNat) ∧
            (s.dyn.boot.stage = .locked → s.dyn.twin.outcome = 0 →
              let refused := fun k => u.dyn.twin.outcome = 5 ∧ u.dyn.modState = 0 ∧ u.dyn.get F.MOD_STATE_CAUSE = k
              (r.hdr.stnId ≠ s.dyn.nv.stnId ∨ r.hdr.unitB = s.dyn.unitB → refused 1) ∧
              (r.hdr.stnId = s.dyn.nv.stnId → r.hdr.unitB = !s.dyn.unitB →
                (∀ k, s.dyn.pairCause s.cfg r = some k → r.role = 2 ∨ s.dyn.unitB = true → refused k) ∧
                (∀ k, s.dyn.pairCause s.cfg r = some k → r.role ≠ 2 → s.dyn.unitB = false → u.dyn.twin.outcome = 1) ∧
                (s.dyn.pairCause s.cfg r = none → r.role = 2 →
                  u.dyn.twin.outcome = if r.imageId = s.cfg.img.imageId then 3 else 4) ∧
                (s.dyn.pairCause s.cfg r = none → r.role ≠ 2 →
                  (r.imageId = s.cfg.img.imageId → u.dyn.twin.outcome = 2 ∧
                    u.dyn.get F.TSU_STATUS_TWIN = (if s.dyn.unitB then 2 else 1)) ∧
                  (r.imageId ≠ s.cfg.img.imageId → u.dyn.twin.outcome = if s.dyn.unitB then 4 else 1))))) ∧
        (s.dyn.boot.stage = .locked → s.dyn.twin.outcome = 0 →
          ∃ u, exec .pairWaitExpiry s = .next u ∧
            u.dyn.twin.outcome = (if s.dyn.unitB && s.dyn.twin.hbSeen then 0 else 1))) ∧
      (s.dyn.boot.stage = .locked → s.dyn.twin.outcome = 2 → s.dyn.unitB = false →
        exec .timeSendBeforeFn0 s = .next (s.withDyn (s.dyn.sendWords 2
          [s.dyn.ft, s.dyn.clk.sec.extractLsb' 0 32, (s.dyn.clk.sec.extractLsb' 32 16).setWidth 32,
            BitVec.ofNat 32 s.dyn.ptpNs, s.dyn.timeStatus, s.dyn.rd Reg.TSU_INCR, s.dyn.rd Reg.RTC_CALSTATE]))) ∧
      (let start := s.dyn.boot.stage = .locked ∧ s.dyn.twin.outcome = 2
       let latched := ({ s.dyn with slc := { s.dyn.slc with tFt := s.dyn.ft } } : Dyn).latchOwn s.cfg
       (start ∨ s.dyn.twin.lockFn = some (s.dyn.frameNow + 1)) →
        exec .primingFrame s = .next (s.withDyn
          (if start ∨ s.dyn.role = 4 then latched.sendFull else s.dyn.sendFull))) ∧
      (∀ n : BitVec 4, s.dyn.slc.framing = true → (n = 0 → s.dyn.phase = 1) →
        (n ≠ 0 → s.dyn.phase = 2 ∧ s.dyn.get F.SLC_STATUS_SLOT < n.toNat) →
        let d := s.dyn.advTo (if n = 0 then s.dyn.atT 2000 else s.dyn.slotAt s.cfg n.toNat + 2000)
        exec (.slotAgreementDeadline n) s = .next (s.withDyn (
          if d.agreeing && !(d.twin.peerSlots.any fun x => x.1 == n.toNat) then d.slotMissed s.cfg else d))) ∧
      (s.dyn.slc.framing = true → s.dyn.phase = 4 →
        exec .sigDeadline s = .next (s.withDyn ((s.dyn.advTo (s.dyn.atT (s.cfg.offset - 500))).sigMissing)) ∧
        (∀ n v, s.dyn.twin.mismatch = some (n, v) →
          let d := s.dyn.advTo (s.dyn.atT s.cfg.offset)
          let theirs := s.dyn.twin.peerSig.any fun x => x.1 == s.dyn.fn && x.2.verdict == some false
          (later v s.dyn.fn = true → exec .verdict s = .next (s.withDyn d)) ∧
          (later v s.dyn.fn = false →
            (s.dyn.twin.burstOk = false →
              ∃ u, exec .verdict s = .next u ∧ u.dyn.role = 7 ∧ u.dyn.get F.SHL_GIVEUP_OWN = 0x34) ∧
            (s.dyn.twin.burstOk = true → theirs = true ∨ s.dyn.lockstep = false →
              exec .verdict s = .next (s.withDyn
                { d with twin := { d.twin with mismatch := none, suppress := false } })) ∧
            (s.dyn.twin.burstOk = true → theirs = false → s.dyn.lockstep = true →
              ∃ u, exec .verdict s = .next u ∧ u.dyn.flag F.STN_STATE_DIV = true ∧ u.dyn.rd Reg.STN_DIV_FN = n ∧
                (s.dyn.unitB = true → u.dyn.role = 7 ∧ u.dyn.get F.SHL_GIVEUP_OWN = 0x33) ∧
                (s.dyn.unitB = false → u.dyn.role = s.dyn.role))))) ∧
      (∀ lane1 : Bool,
        (s.dyn.flag (laneFld lane1) = true →
          ∃ u, exec (.laneSignalLoss lane1) s = .next u ∧ u.dyn.flag (laneFld lane1) = false ∧
            u.dyn.get (latFld lane1) = 0) ∧
        (∀ n : BitVec 8, let cnt := F.SHL_LANE_ERR_COUNT (b2n lane1)
          ∃ u, exec (.laneCrcErrors lane1 n) s = .next u ∧
            u.dyn.get cnt = min (s.dyn.get cnt + n.toNat) (2 ^ cnt.width - 1) ∧
            (8 < sget 0 s.dyn.twin.crcFrame (b2n lane1) + n.toNat → u.dyn.flag (laneFld lane1) = false) ∧
            (sget 0 s.dyn.twin.crcFrame (b2n lane1) + n.toNat ≤ 8 →
              u.dyn.flag (laneFld lane1) = s.dyn.flag (laneFld lane1))) ∧
        (∀ lat : BitVec 16, s.dyn.flag (laneFld lane1) = false →
          ∃ u, exec (.laneUp lane1 lat) s = .next u ∧ u.dyn.flag (laneFld lane1) = true ∧
            u.dyn.get (latFld lane1) = lat.toNat % 2 ^ (latFld lane1).width)) ∧
      (s.dyn.role = 3 → 3 ≤ s.dyn.twin.hbGap →
        ∃ u, exec .heartbeatLoss s = .next u ∧ u.dyn.role = 2 ∧ u.dyn.peerRole = 0 ∧ u.dyn.follower = false) ∧
      (s.dyn.get F.SHL_XFER_STATE = 4 → 64 ≤ s.dyn.twin.matched →
        ∃ u, exec .verifyComplete s = .next u ∧ u.dyn.get F.SHL_XFER_STATE = 5 ∧ u.dyn.rd Reg.STN_LOCK_FN = s.dyn.fn ∧
          (s.dyn.role = 6 → u.dyn.role = 2) ∧ (s.dyn.role ≠ 6 → u.dyn.peerRole = 2)) ∧
      (1 ≤ s.dyn.get F.SHL_XFER_STATE → s.dyn.get F.SHL_XFER_STATE ≤ 3 →
        s.dyn.nearCycle s.cfg (s.dyn.twin.joinAt + 5000000000) →
        ∃ u, exec .joinTimeout s = .next u ∧ u.dyn.get F.SHL_XFER_STATE = 6 ∧ u.dyn.get F.SHL_XFER_CAUSE = 1 ∧
          (s.dyn.role = 4 → u.dyn.role = 7) ∧ (s.dyn.role = 2 → u.dyn.role = 2 ∧ u.dyn.lockstep = false)) ∧
      (∀ arrived r, s.dyn.role = 4 → s.dyn.get F.SHL_XFER_STATE = 3 → s.dyn.flag F.SHL_XFER_KIND = false →
        s.dyn.twin.recs.find? (fun x => x.2.fn == s.dyn.fn + 1) = some (arrived, r) →
        let x := s.dyn.runFrame s.cfg r
        let y := s.dyn.loadCheckpoint (x.1.joinCkpt s.cfg)
        let d : Dyn := { y with twin := { y.twin with recs := y.twin.recs.filter fun z => later z.2.fn r.fn } }
        exec .catchUpFrame s = .next (s.withDyn (
          if x.2.1 ≠ r.outCrc ∨ x.2.2 ≠ r.relDigest then d.joinFail s.cfg 2
          else if arrived = d.frameNow ∧ d.twin.current = false then
            ({ d with twin := { d.twin with current := true } } : Dyn).sendReady
          else d))))
/-! ## Levee, loops and solver outside the logic engine -/

/-- A source line takes its level when it belongs to a used input or an enabled comparator, under no wire-break test and behind a
working link, and holds it otherwise; a hold ends when its time has passed since the term became true; the matrix follows. A plane mismatch sets its
bit, takes the other plane's commands and flags, and, when new, queues event 0x0301; a simplex module goes on, a twin unit
gives up with 0x23. A test that has lasted LVE_TEST_LIMIT ends with STATE 3 and event 0x0302. An issued loop is evaluated
once, after its primary, while its polder is in RUN; a bound output goes to its analogue channel. At a tick a free array
takes the first job; an ending step is followed by the next; at the berm no job stays on the array, and a failed test
factorisation puts the module into FAULT with cause 0x22. The planes' values come with the command, and an event named
early moves the clock to its instant (the model's choices, log entries 107 and 114). -/
def Obligations.LeveeLoopsAndArray : Prop :=
  ∀ s : State, Live s →
    (∀ (src : BitVec 8) level,
      exec (.sourceChange src level) s = .next (s.withDyn
        (if s.dyn.lineLive s.cfg src.toNat then (s.dyn.setSource src.toNat level).levee s.cfg else s.dyn))) ∧
    (∀ t : BitVec 6,
      let n := sget 0 s.dyn.lve.since t.toNat + s.cfg.get (F.LVE_HOLD_HOLD_US t.toNat) * 500
      (s.dyn.lve.holding.getLsbD t.toNat = true → s.dyn.nearCycle s.cfg n →
        exec (.termHoldElapsed t) s = .next (s.withDyn (((s.dyn.dueCycle n).setHolding t.toNat false).levee s.cfg))) ∧
      (s.dyn.lve.holding.getLsbD t.toNat = false → exec (.termHoldElapsed t) s = .next s)) ∧
    (∀ gates flags,
      ∃ (u : State) (e : Dyn), exec (.planeMismatch gates flags) s = .next u ∧ u.cfg = s.cfg ∧
        u.dyn = (if s.dyn.flag F.LVE_STATUS_PLANE_MISMATCH then e
          else if s.cfg.twin then (e.alarm s.cfg 0x0301 0 0 0).hardwareFault s.cfg 0x23
          else e.alarm s.cfg 0x0301 0 0 0) ∧
        e.flag F.LVE_STATUS_PLANE_MISMATCH = true ∧ e.lve.planeGate = gates ∧ e.lve.planeFlag = flags ∧
        e.modState = s.dyn.modState) ∧
    (let n := s.dyn.lve.testStart + s.cfg.get F.LVE_TEST_LIMIT_SECONDS * 500000000
     (s.dyn.lve.testMode ≠ 0 → s.dyn.nearCycle s.cfg n →
      ∃ (u : State) (e : Dyn), exec .testExpired s = .next u ∧ u.cfg = s.cfg ∧
        u.dyn = e.alarm s.cfg 0x0302 s.dyn.lve.testTerm 0 0 ∧ e.lve.testMode = 0 ∧
        e.get F.LVE_TEST_STAT_STATE = 3) ∧
     (s.dyn.lve.testMode = 0 → exec .testExpired s = .next s)) ∧
    (∀ (k : BitVec 7) n w, (s.dyn.loop k.toNat).issued = some (n, w) →
      (s.dyn.mode (s.cfg.get (F.LPE_CFG_OWNER k.toNat)) = 2 →
        ∃ u, exec (.loopEvaluation k) s = .next u ∧ u.cfg = s.cfg ∧ (u.dyn.loop k.toNat).issued = none ∧
          (u.dyn.loop k.toNat).evalFn = s.dyn.fn ∧
          (s.cfg.flag (F.LPE_AO_BOUND k.toNat) = true →
            sget 0 u.dyn.outW (0x200 + s.cfg.get (F.LPE_AO_CHAN k.toNat)) = (u.dyn.loop k.toNat).u) ∧
          ∀ j, j ≠ k.toNat → s.cfg.primaryOf k.toNat ≠ some j → u.dyn.loop j = s.dyn.loop j) ∧
      (s.dyn.mode (s.cfg.get (F.LPE_CFG_OWNER k.toNat)) ≠ 2 → s.cfg.primaryOf k.toNat = none →
        exec (.loopEvaluation k) s =
          .next (s.withDyn (s.dyn.setLoop k.toNat fun l => { l with issued := none })))) ∧
    (∀ k : BitVec 7, (s.dyn.loop k.toNat).issued = none → s.cfg.primaryOf k.toNat = none →
      exec (.loopEvaluation k) s = .next s) ∧
    (let r := s.dyn.sinceT % 1000
     exec .arrayTick s = .next (s.withDyn
      ((if r = 0 then s.dyn else s.dyn.advTo (s.dyn.ft + BitVec.ofNat 32 (1000 - r))).takeArray s.cfg))) ∧
    (∀ k t, (List.range 8).find? (fun j => (s.dyn.slot j).job.stepEnd.isSome) = some k →
      (s.dyn.slot k).job.stepEnd = some t →
      exec .solverStep s = .next (s.withDyn
        (((s.dyn.advTo (BitVec.ofNat 32 t)).stepDone s.cfg k).takeArray s.cfg))) ∧
    ((∀ j < 8, (s.dyn.slot j).job.stepEnd = none) →
      exec .solverStep s = .next (s.withDyn (s.dyn.takeArray s.cfg))) ∧
    ((∃ u, exec (.arrayBerm true) s = .next u ∧ u.cfg = s.cfg ∧ ∀ k < 8, (u.dyn.slot k).job.state ≠ 2) ∧
     (s.dyn.role ≠ 7 → s.dyn.modState ≠ 3 →
      ∃ u, exec (.arrayBerm false) s = .next u ∧ u.dyn.flag F.SLV_GSTATUS_ARRAY_FAULT = true ∧ u.dyn.modState = 3 ∧
        u.dyn.get F.MOD_STATE_CAUSE = 0x22 ∧ u.dyn.slc.commitOff = true))
end

