-- ==== Sys2Proof/Laws/Sparse.lean ====
section
/-! SUPPORT. Laws of the sparse memories: a read after a write, and that every operation keeps the canonical form. -/

namespace Sys2Proof.Machine

variable {α : Type} {d : α}

theorem sget_of_not_mem : ∀ {m : List (Nat × α)} {k : Nat}, (∀ e ∈ m, e.1 ≠ k) → sget d m k = d
  | [], _, _ => rfl
  | e :: m, k, h => by
    have h1 : e.1 ≠ k := h e (by simp)
    have h2 : ∀ x ∈ m, x.1 ≠ k := fun x hx => h x (List.mem_cons_of_mem _ hx)
    simp [sget, h1, sget_of_not_mem h2]

theorem sget_sdel_same (m : List (Nat × α)) (k : Nat) : sget d (sdel m k) k = d :=
  sget_of_not_mem fun e he => by simpa [sdel] using (List.mem_filter.1 he).2

theorem sget_sdel_ne {m : List (Nat × α)} {k j : Nat} (h : j ≠ k) : sget d (sdel m k) j = sget d m j := by
  induction m with
  | nil => rfl
  | cons e m ih =>
    by_cases hk : e.1 = k
    · have hj : e.1 ≠ j := fun hj => h (hj ▸ hk)
      have hd : sdel (e :: m) k = sdel m k := by simp [sdel, hk]
      rw [hd, ih]; simp [sget, hj]
    · have hd : sdel (e :: m) k = e :: sdel m k := by simp [sdel, hk]
      rw [hd]; simp only [sget, ih]

theorem sget_sins_same (v : α) (k : Nat) : ∀ {m : List (Nat × α)}, (∀ e ∈ m, e.1 ≠ k) → sget d (sins k v m) k = v
  | [], _ => by simp [sins, sget]
  | e :: m, h => by
    have h1 : e.1 ≠ k := h e (by simp)
    by_cases hl : k < e.1
    · simp [sins, hl, sget]
    · simp [sins, hl, sget, h1, sget_sins_same v k (m := m) (fun x hx => h x (by simp [hx]))]

theorem sget_sins_ne {v : α} {k j : Nat} (h : j ≠ k) : ∀ {m : List (Nat × α)}, sget d (sins k v m) j = sget d m j
  | [] => by simp [sins, sget, h.symm]
  | e :: m => by
    by_cases hl : k < e.1
    · simp [sins, hl, sget, h.symm]
    · simp only [sins, hl, if_false, sget, sget_sins_ne h (m := m)]

/-- A read after a write to the same key. -/
@[simp] theorem sget_sput_same [DecidableEq α] (m : List (Nat × α)) (k : Nat) (v : α) : sget d (sput d m k v) k = v := by
  unfold sput
  split
  · next h => rw [sget_sdel_same, h]
  · exact sget_sins_same v k fun e he => by simpa [sdel] using (List.mem_filter.1 he).2

/-- A write leaves every other key alone. -/
theorem sget_sput_ne [DecidableEq α] {m : List (Nat × α)} {k j : Nat} {v : α} (h : j ≠ k) : sget d (sput d m k v) j = sget d m j := by
  unfold sput
  split
  · exact sget_sdel_ne h
  · rw [sget_sins_ne h, sget_sdel_ne h]

/-- What a key reads as after a write. -/
theorem sget_sput [DecidableEq α] (m : List (Nat × α)) (k j : Nat) (v : α) :
    sget d (sput d m k v) j = if j = k then v else sget d m j := by
  split
  · next h => rw [h, sget_sput_same]
  · next h => exact sget_sput_ne h

theorem mem_sins {v : α} {k : Nat} {x : Nat × α} : ∀ {m : List (Nat × α)}, x ∈ sins k v m → x = (k, v) ∨ x ∈ m
  | [], h => by simpa [sins] using h
  | e :: m, h => by
    by_cases hl : k < e.1
    · simpa [sins, hl] using h
    · simp only [sins, hl, if_false, List.mem_cons] at h
      rcases h with h | h
      · exact .inr (by simp [h])
      · rcases mem_sins h with h | h
        · exact .inl h
        · exact .inr (by simp [h])

theorem sins_pairwise {v : α} {k : Nat} : ∀ {m : List (Nat × α)}, m.Pairwise (fun a b => a.1 < b.1) →
    (∀ e ∈ m, e.1 ≠ k) → (sins k v m).Pairwise fun a b => a.1 < b.1
  | [], _, _ => by simp [sins]
  | e :: m, hp, hk => by
    obtain ⟨he, hm⟩ := List.pairwise_cons.1 hp
    by_cases hl : k < e.1
    · simp only [sins, hl, if_true]
      refine List.pairwise_cons.2 ⟨fun x hx => ?_, hp⟩
      rcases List.mem_cons.1 hx with rfl | hx
      · exact hl
      · exact Nat.lt_trans hl (he x hx)
    · simp only [sins, hl, if_false]
      refine List.pairwise_cons.2 ⟨fun x hx => ?_, sins_pairwise hm fun y hy => hk y (by simp [hy])⟩
      rcases mem_sins hx with rfl | hx
      · have : e.1 ≠ k := hk e (by simp)
        simp; omega
      · exact he x hx

/-- Deleting a key keeps the canonical form. -/
theorem sdel_wf {m : List (Nat × α)} (h : SparseWf d m) (k : Nat) : SparseWf d (sdel m k) :=
  ⟨h.1.filter _, fun e he => h.2 e (List.mem_filter.1 he).1⟩

/-- A write keeps the canonical form. -/
theorem sput_wf [DecidableEq α] {m : List (Nat × α)} (h : SparseWf d m) (k : Nat) (v : α) : SparseWf d (sput d m k v) := by
  unfold sput
  split
  · exact sdel_wf h k
  · next hv =>
    refine ⟨sins_pairwise (sdel_wf h k).1 fun e he => by simpa [sdel] using (List.mem_filter.1 he).2, fun e he => ?_⟩
    rcases mem_sins he with rfl | he
    · exact hv
    · exact (sdel_wf h k).2 e he

/-- Several writes keep the canonical form. -/
theorem sputs_wf [DecidableEq α] {m : List (Nat × α)} (h : SparseWf d m) (es : List (Nat × α)) : SparseWf d (sputs d m es) := by
  unfold sputs
  induction es generalizing m with
  | nil => exact h
  | cons e es ih => exact ih (sput_wf h e.1 e.2)

/-- Clearing a range of keys keeps the canonical form. -/
theorem sclear_wf {m : List (Nat × α)} (h : SparseWf d m) (lo hi : Nat) : SparseWf d (sclear m lo hi) :=
  ⟨h.1.filter _, fun e he => h.2 e (List.mem_filter.1 he).1⟩

theorem sparseWf_nil : SparseWf d ([] : List (Nat × α)) := ⟨.nil, fun _ h => nomatch h⟩

theorem sget_of_mem {m : List (Nat × α)} (h : m.Pairwise fun a b => a.1 < b.1) {e : Nat × α} (he : e ∈ m) :
    sget d m e.1 = e.2 := by
  induction m with
  | nil => simp at he
  | cons x m ih =>
    obtain ⟨hx, hm⟩ := List.pairwise_cons.1 h
    rcases List.mem_cons.1 he with rfl | he
    · simp [sget]
    · have : x.1 ≠ e.1 := Nat.ne_of_lt (hx e he)
      simp [sget, this, ih hm he]

end Sys2Proof.Machine
end

