-- ==== Sys2Proof/Laws/Ops.lean ====
section
/-! SUPPORT. Laws of words, registers and fields: a read after a write, what a write leaves alone, and what the passing of cycles does. -/

namespace Sys2Proof

theorem Word.field_lt (w : Word) (lo n : Nat) : w.field lo n < 2 ^ n := Nat.mod_lt _ (Nat.two_pow_pos n)

theorem Word.field_testBit (w : Word) (lo n i : Nat) :
    (w.field lo n).testBit i = (decide (i < n) && w.getLsbD (lo + i)) := by
  simp [Word.field, Nat.testBit_mod_two_pow, Nat.testBit_shiftRight, BitVec.getLsbD]

theorem ofNat_getElem (n x j : Nat) (h : j < n) : (BitVec.ofNat n x)[j] = x.testBit j := by
  rw [← BitVec.getLsbD_eq_getElem]
  rw [BitVec.getLsbD_ofNat, decide_eq_true h, Bool.true_and]

theorem Word.setField_getLsbD (w : Word) (lo n v j : Nat) (h : lo + n ≤ 32) :
    (w.setField lo n v).getLsbD j = if lo ≤ j ∧ j < lo + n then v.testBit (j - lo) else w.getLsbD j := by
  by_cases hj : j < 32
  · by_cases h1 : lo ≤ j <;> by_cases h2 : j - lo < n <;> by_cases h3 : lo ≤ j ∧ j < lo + n <;>
      simp [Word.setField, hj, h1, h2, h3, ofNat_getElem, Nat.testBit_shiftLeft, Nat.testBit_mod_two_pow] <;>
      omega
  · have h3 : ¬ (lo ≤ j ∧ j < lo + n) := by omega
    rw [if_neg h3, BitVec.getLsbD_of_ge _ _ (by omega), BitVec.getLsbD_of_ge _ _ (by omega)]

/-- A field reads as the value set, reduced to its width. -/
theorem Word.field_setField_same (w : Word) {lo n : Nat} (v : Nat) (h : lo + n ≤ 32) :
    (w.setField lo n v).field lo n = v % 2 ^ n := by
  apply Nat.eq_of_testBit_eq
  intro i
  rw [Word.field_testBit, Word.setField_getLsbD _ _ _ _ _ h, Nat.testBit_mod_two_pow]
  by_cases hi : i < n
  · have : lo ≤ lo + i ∧ lo + i < lo + n := by omega
    simp [hi]
  · simp [hi]

/-- Setting a field leaves a disjoint one alone. -/
theorem Word.field_setField_disjoint (w : Word) {lo n lo' n' : Nat} (v : Nat) (h : lo + n ≤ 32)
    (hd : lo' + n' ≤ lo ∨ lo + n ≤ lo') : (w.setField lo n v).field lo' n' = w.field lo' n' := by
  apply Nat.eq_of_testBit_eq
  intro i
  rw [Word.field_testBit, Word.field_testBit, Word.setField_getLsbD _ _ _ _ _ h]
  by_cases hi : i < n'
  · have : ¬ (lo ≤ lo' + i ∧ lo' + i < lo + n) := by omega
    rw [if_neg this]
  · simp [hi]

namespace Machine

/-! Shapes of meanings. -/

/-- While the module is not in reset, a meaning acts on the dynamic state. -/
theorem State.upd_eq {s : State} (h : s.dyn.boot.held = false) (f : Cfg → Dyn → Dyn) :
    s.upd f = .next { s with dyn := f s.cfg s.dyn } := by simp [State.upd, h]

/-- In reset it changes nothing. -/
theorem State.upd_held {s : State} (h : s.dyn.boot.held = true) (f : Cfg → Dyn → Dyn) : s.upd f = .next s := by
  simp [State.upd, h]

/-- Everything that such a meaning can do: it answers a next state with the configuration and the queue it found. -/
theorem State.upd_next {s t : State} {f : Cfg → Dyn → Dyn} (h : s.upd f = .next t) :
    t.cfg = s.cfg ∧ t.pending = s.pending ∧ (t.dyn = s.dyn ∨ (s.dyn.boot.held = false ∧ t.dyn = f s.cfg s.dyn)) := by
  unfold State.upd at h
  cases hb : s.dyn.boot.held <;> simp [hb] at h <;> subst h <;> simp

theorem State.always_next {s t : State} {f : Cfg → Dyn → Dyn} (h : s.always f = .next t) :
    t.cfg = s.cfg ∧ t.pending = s.pending ∧ t.dyn = f s.cfg s.dyn := by
  unfold State.always at h
  injection h with h
  subst h
  exact ⟨rfl, rfl, rfl⟩

/-! Registers. -/

@[simp] theorem Dyn.rd_wr_same (d : Dyn) (a : Nat) (v : Word) : (d.wr a v).rd a = v := sget_sput_same ..
theorem Dyn.rd_wr_ne (d : Dyn) {a b : Nat} (v : Word) (h : b ≠ a) : (d.wr a v).rd b = d.rd b := sget_sput_ne h
theorem Dyn.rd_put_ne (d : Dyn) {f : Fld} {b : Nat} (v : Nat) (h : b ≠ f.addr) : (d.put f v).rd b = d.rd b :=
  d.rd_wr_ne _ h

/-- A field of a register just set. -/
theorem Dyn.get_put_same (d : Dyn) (f : Fld) (v : Nat) (h : f.lo + f.width ≤ 32) :
    (d.put f v).get f = v % 2 ^ f.width := by
  simp [Dyn.get, Dyn.put, Word.field_setField_same _ _ h]

/-- A field of another register. -/
theorem Dyn.get_put_ne (d : Dyn) {f g : Fld} (v : Nat) (h : g.addr ≠ f.addr) : (d.put f v).get g = d.get g := by
  simp [Dyn.get, d.rd_put_ne v h]

/-- A disjoint field of the same register. -/
theorem Dyn.get_put_disjoint (d : Dyn) {f g : Fld} (v : Nat) (ha : g.addr = f.addr) (h : f.lo + f.width ≤ 32)
    (hd : g.lo + g.width ≤ f.lo ∨ f.lo + f.width ≤ g.lo) : (d.put f v).get g = d.get g := by
  simp [Dyn.get, Dyn.put, ha, Word.field_setField_disjoint _ _ h hd]

theorem Dyn.get_wr_ne (d : Dyn) {a : Nat} {g : Fld} (v : Word) (h : g.addr ≠ a) : (d.wr a v).get g = d.get g := by
  simp [Dyn.get, d.rd_wr_ne v h]

/-- A flag just set. -/
theorem Dyn.flag_setFlag_same (d : Dyn) (f : Fld) (b : Bool) (h : f.lo + f.width ≤ 32) (hw : 1 ≤ f.width) :
    (d.setFlag f b).flag f = b := by
  have h2 : 2 ^ f.width ≠ 1 := by
    have := Nat.one_lt_two_pow (n := f.width) (by omega)
    omega
  have h1 : 1 % 2 ^ f.width = 1 := Nat.mod_eq_of_lt (Nat.one_lt_two_pow (by omega))
  unfold Dyn.flag Dyn.setFlag
  rw [d.get_put_same f _ h]
  cases b <;> simp [b2n, h1]

theorem Dyn.flag_setFlag_ne (d : Dyn) {f g : Fld} (b : Bool) (h : g.addr ≠ f.addr) :
    (d.setFlag f b).flag g = d.flag g := by simp [Dyn.flag, Dyn.setFlag, d.get_put_ne _ h]

theorem Dyn.flag_setFlag_disjoint (d : Dyn) {f g : Fld} (b : Bool) (ha : g.addr = f.addr) (h : f.lo + f.width ≤ 32)
    (hd : g.lo + g.width ≤ f.lo ∨ f.lo + f.width ≤ g.lo) : (d.setFlag f b).flag g = d.flag g := by
  simp [Dyn.flag, Dyn.setFlag, d.get_put_disjoint _ ha h hd]

/-! Polders, channels and queues. -/

@[simp] theorem Dyn.polder_setPolder_same (d : Dyn) (p : Nat) (f : Polder → Polder) :
    (d.setPolder p f).polder p = f (d.polder p) := sget_sput_same ..
theorem Dyn.polder_setPolder_ne (d : Dyn) {p q : Nat} (f : Polder → Polder) (h : q ≠ p) :
    (d.setPolder p f).polder q = d.polder q := sget_sput_ne h
@[simp] theorem Dyn.dig_setDig_same (d : Dyn) (n : Nat) (f : Dio → Dio) : (d.setDig n f).dig n = f (d.dig n) :=
  sget_sput_same ..
theorem Dyn.dig_setDig_ne (d : Dyn) {n m : Nat} (f : Dio → Dio) (h : m ≠ n) : (d.setDig n f).dig m = d.dig m :=
  sget_sput_ne h
@[simp] theorem Dyn.ana_setAna_same (d : Dyn) (m : Nat) (f : Aio → Aio) : (d.setAna m f).ana m = f (d.ana m) :=
  sget_sput_same ..
theorem Dyn.ana_setAna_ne (d : Dyn) {n m : Nat} (f : Aio → Aio) (h : n ≠ m) : (d.setAna m f).ana n = d.ana n :=
  sget_sput_ne h
@[simp] theorem Dyn.queue_setQueue_same (d : Dyn) (q : Nat) (f : HQueue → HQueue) :
    (d.setQueue q f).queue q = f (d.queue q) := sget_sput_same ..
theorem Dyn.queue_setQueue_ne (d : Dyn) {q r : Nat} (f : HQueue → HQueue) (h : r ≠ q) :
    (d.setQueue q f).queue r = d.queue r := sget_sput_ne h

/-! The clock. -/

theorem Clock.addPtp_cycles (k : Clock) (x : Nat) : (k.addPtp x).cycles = k.cycles := rfl
theorem Clock.addPtp_ft (k : Clock) (x : Nat) : (k.addPtp x).ft = k.ft := rfl

/-- PTP nanoseconds stay within a second. -/
theorem Clock.addPtp_ns (k : Clock) (x : Nat) : (k.addPtp x).ns24 < second24 := by
  unfold Clock.addPtp second24
  exact Nat.mod_lt _ (by decide)

/-- Advances of PTP time add up. -/
theorem Clock.addPtp_addPtp (k : Clock) (x y : Nat) : (k.addPtp x).addPtp y = k.addPtp (x + y) := by
  have h : second24 > 0 := by decide
  unfold Clock.addPtp
  simp only [Clock.mk.injEq, true_and, and_true]
  constructor
  · rw [BitVec.add_assoc, ← BitVec.ofNat_add]
    congr 2
    rw [← Nat.add_assoc]
    conv => rhs; rw [← Nat.div_add_mod (k.ns24 + x) second24, Nat.add_assoc, Nat.mul_add_div h]
  · rw [Nat.mod_add_mod, Nat.add_assoc]

/-- All that the passing of cycles does: the clocks run, a wrap is counted, and TSU_STATUS.WRAP may be set. -/
theorem Dyn.ticks_eq (d : Dyn) (n : Nat) : ∃ k r w m, d.ticks n =
    { d with clk := k, rtc := r, tsu := { d.tsu with wraps := w }, regs := m } ∧
    ∀ a, a ≠ Reg.TSU_STATUS → sget 0 m a = sget 0 d.regs a := by
  simp only [Dyn.ticks]
  generalize (if d.flag F.TSU_STATUS_DEEP then (n + 19) / 20 * 20 else n) = m
  by_cases h : ((d.clk.run (d.rd Reg.TSU_INCR).toNat m).ft >>> 56 != d.clk.ft >>> 56) = true
  · rw [if_pos h]; exact ⟨_, _, _, _, rfl, fun a h => sget_sput_ne h⟩
  · rw [if_neg h]; exact ⟨_, _, _, _, rfl, fun _ _ => rfl⟩

theorem Dyn.rd_ticks (d : Dyn) (n : Nat) {a : Nat} (h : a ≠ Reg.TSU_STATUS) : (d.ticks n).rd a = d.rd a := by
  obtain ⟨k, r, w, m, e, hm⟩ := d.ticks_eq n
  rw [e]; exact hm a h
theorem Dyn.get_ticks (d : Dyn) (n : Nat) {f : Fld} (h : f.addr ≠ Reg.TSU_STATUS) : (d.ticks n).get f = d.get f := by
  simp only [Dyn.get, d.rd_ticks n h]
theorem Dyn.flag_ticks (d : Dyn) (n : Nat) {f : Fld} (h : f.addr ≠ Reg.TSU_STATUS) : (d.ticks n).flag f = d.flag f := by
  simp only [Dyn.flag, d.get_ticks n h]
@[simp] theorem Dyn.ticks_boot (d : Dyn) (n : Nat) : (d.ticks n).boot = d.boot := by
  obtain ⟨_, _, _, _, e, _⟩ := d.ticks_eq n; rw [e]
@[simp] theorem Dyn.ticks_nv (d : Dyn) (n : Nat) : (d.ticks n).nv = d.nv := by
  obtain ⟨_, _, _, _, e, _⟩ := d.ticks_eq n; rw [e]
@[simp] theorem Dyn.ticks_slc (d : Dyn) (n : Nat) : (d.ticks n).slc = d.slc := by
  obtain ⟨_, _, _, _, e, _⟩ := d.ticks_eq n; rw [e]
@[simp] theorem Dyn.ticks_pol (d : Dyn) (n : Nat) : (d.ticks n).pol = d.pol := by
  obtain ⟨_, _, _, _, e, _⟩ := d.ticks_eq n; rw [e]
@[simp] theorem Dyn.ticks_dio (d : Dyn) (n : Nat) : (d.ticks n).dio = d.dio := by
  obtain ⟨_, _, _, _, e, _⟩ := d.ticks_eq n; rw [e]
@[simp] theorem Dyn.ticks_aio (d : Dyn) (n : Nat) : (d.ticks n).aio = d.aio := by
  obtain ⟨_, _, _, _, e, _⟩ := d.ticks_eq n; rw [e]
@[simp] theorem Dyn.ticks_lve (d : Dyn) (n : Nat) : (d.ticks n).lve = d.lve := by
  obtain ⟨_, _, _, _, e, _⟩ := d.ticks_eq n; rw [e]
@[simp] theorem Dyn.ticks_life (d : Dyn) (n : Nat) : (d.ticks n).life = d.life := by
  obtain ⟨_, _, _, _, e, _⟩ := d.ticks_eq n; rw [e]
@[simp] theorem Dyn.ticks_queues (d : Dyn) (n : Nat) : (d.ticks n).queues = d.queues := by
  obtain ⟨_, _, _, _, e, _⟩ := d.ticks_eq n; rw [e]
@[simp] theorem Dyn.ticks_alarms (d : Dyn) (n : Nat) : (d.ticks n).alarms = d.alarms := by
  obtain ⟨_, _, _, _, e, _⟩ := d.ticks_eq n; rw [e]
@[simp] theorem Dyn.ticks_jrn (d : Dyn) (n : Nat) : (d.ticks n).jrn = d.jrn := by
  obtain ⟨_, _, _, _, e, _⟩ := d.ticks_eq n; rw [e]
@[simp] theorem Dyn.ticks_twin (d : Dyn) (n : Nat) : (d.ticks n).twin = d.twin := by
  obtain ⟨_, _, _, _, e, _⟩ := d.ticks_eq n; rw [e]
@[simp] theorem Dyn.ticks_net (d : Dyn) (n : Nat) : (d.ticks n).net = d.net := by
  obtain ⟨_, _, _, _, e, _⟩ := d.ticks_eq n; rw [e]
@[simp] theorem Dyn.ticks_can (d : Dyn) (n : Nat) : (d.ticks n).can = d.can := by
  obtain ⟨_, _, _, _, e, _⟩ := d.ticks_eq n; rw [e]
@[simp] theorem Dyn.ticks_sent (d : Dyn) (n : Nat) : (d.ticks n).sent = d.sent := by
  obtain ⟨_, _, _, _, e, _⟩ := d.ticks_eq n; rw [e]
@[simp] theorem Dyn.ticks_loops (d : Dyn) (n : Nat) : (d.ticks n).loops = d.loops := by
  obtain ⟨_, _, _, _, e, _⟩ := d.ticks_eq n; rw [e]
@[simp] theorem Dyn.ticks_slv (d : Dyn) (n : Nat) : (d.ticks n).slv = d.slv := by
  obtain ⟨_, _, _, _, e, _⟩ := d.ticks_eq n; rw [e]
@[simp] theorem Dyn.ticks_outW (d : Dyn) (n : Nat) : (d.ticks n).outW = d.outW := by
  obtain ⟨_, _, _, _, e, _⟩ := d.ticks_eq n; rw [e]
@[simp] theorem Dyn.ticks_outC (d : Dyn) (n : Nat) : (d.ticks n).outC = d.outC := by
  obtain ⟨_, _, _, _, e, _⟩ := d.ticks_eq n; rw [e]
@[simp] theorem Dyn.ticks_latches (d : Dyn) (n : Nat) : (d.ticks n).latches = d.latches := by
  obtain ⟨_, _, _, _, e, _⟩ := d.ticks_eq n; rw [e]

end Machine

end Sys2Proof
end

