-- ==== Sys2Proof/Laws/State.lean ====
section
/-! SUPPORT. One lemma per field of the dynamic state and per named update: what the update leaves as it was. -/

namespace Sys2Proof.Machine

variable (c : Cfg) (d : Dyn)

@[simp] theorem Dyn.wr_free (a : Nat) (v : Word) : (d.wr a v).free = d.free := rfl
@[simp] theorem Dyn.wr_readData (a : Nat) (v : Word) : (d.wr a v).readData = d.readData := rfl
@[simp] theorem Dyn.wr_boot (a : Nat) (v : Word) : (d.wr a v).boot = d.boot := rfl
@[simp] theorem Dyn.wr_nv (a : Nat) (v : Word) : (d.wr a v).nv = d.nv := rfl
@[simp] theorem Dyn.wr_slc (a : Nat) (v : Word) : (d.wr a v).slc = d.slc := rfl
@[simp] theorem Dyn.wr_pol (a : Nat) (v : Word) : (d.wr a v).pol = d.pol := rfl
@[simp] theorem Dyn.wr_bitMem (a : Nat) (v : Word) : (d.wr a v).bitMem = d.bitMem := rfl
@[simp] theorem Dyn.wr_wordMem (a : Nat) (v : Word) : (d.wr a v).wordMem = d.wordMem := rfl
@[simp] theorem Dyn.wr_timers (a : Nat) (v : Word) : (d.wr a v).timers = d.timers := rfl
@[simp] theorem Dyn.wr_counters (a : Nat) (v : Word) : (d.wr a v).counters = d.counters := rfl
@[simp] theorem Dyn.wr_edges (a : Nat) (v : Word) : (d.wr a v).edges = d.edges := rfl
@[simp] theorem Dyn.wr_agreed (a : Nat) (v : Word) : (d.wr a v).agreed = d.agreed := rfl
@[simp] theorem Dyn.wr_outW (a : Nat) (v : Word) : (d.wr a v).outW = d.outW := rfl
@[simp] theorem Dyn.wr_outC (a : Nat) (v : Word) : (d.wr a v).outC = d.outC := rfl
@[simp] theorem Dyn.wr_lve (a : Nat) (v : Word) : (d.wr a v).lve = d.lve := rfl
@[simp] theorem Dyn.wr_life (a : Nat) (v : Word) : (d.wr a v).life = d.life := rfl
@[simp] theorem Dyn.wr_dio (a : Nat) (v : Word) : (d.wr a v).dio = d.dio := rfl
@[simp] theorem Dyn.wr_released (a : Nat) (v : Word) : (d.wr a v).released = d.released := rfl
@[simp] theorem Dyn.wr_aio (a : Nat) (v : Word) : (d.wr a v).aio = d.aio := rfl
@[simp] theorem Dyn.wr_cal (a : Nat) (v : Word) : (d.wr a v).cal = d.cal := rfl
@[simp] theorem Dyn.wr_clk (a : Nat) (v : Word) : (d.wr a v).clk = d.clk := rfl
@[simp] theorem Dyn.wr_tsu (a : Nat) (v : Word) : (d.wr a v).tsu = d.tsu := rfl
@[simp] theorem Dyn.wr_latches (a : Nat) (v : Word) : (d.wr a v).latches = d.latches := rfl
@[simp] theorem Dyn.wr_queues (a : Nat) (v : Word) : (d.wr a v).queues = d.queues := rfl
@[simp] theorem Dyn.wr_alarms (a : Nat) (v : Word) : (d.wr a v).alarms = d.alarms := rfl
@[simp] theorem Dyn.wr_jrn (a : Nat) (v : Word) : (d.wr a v).jrn = d.jrn := rfl
@[simp] theorem Dyn.wr_twin (a : Nat) (v : Word) : (d.wr a v).twin = d.twin := rfl
@[simp] theorem Dyn.wr_rtc (a : Nat) (v : Word) : (d.wr a v).rtc = d.rtc := rfl
@[simp] theorem Dyn.wr_net (a : Nat) (v : Word) : (d.wr a v).net = d.net := rfl
@[simp] theorem Dyn.wr_can (a : Nat) (v : Word) : (d.wr a v).can = d.can := rfl
@[simp] theorem Dyn.wr_sent (a : Nat) (v : Word) : (d.wr a v).sent = d.sent := rfl
@[simp] theorem Dyn.wr_loops (a : Nat) (v : Word) : (d.wr a v).loops = d.loops := rfl
@[simp] theorem Dyn.wr_slv (a : Nat) (v : Word) : (d.wr a v).slv = d.slv := rfl

@[simp] theorem Dyn.put_free (f : Fld) (v : Nat) : (d.put f v).free = d.free := rfl
@[simp] theorem Dyn.put_readData (f : Fld) (v : Nat) : (d.put f v).readData = d.readData := rfl
@[simp] theorem Dyn.put_boot (f : Fld) (v : Nat) : (d.put f v).boot = d.boot := rfl
@[simp] theorem Dyn.put_nv (f : Fld) (v : Nat) : (d.put f v).nv = d.nv := rfl
@[simp] theorem Dyn.put_slc (f : Fld) (v : Nat) : (d.put f v).slc = d.slc := rfl
@[simp] theorem Dyn.put_pol (f : Fld) (v : Nat) : (d.put f v).pol = d.pol := rfl
@[simp] theorem Dyn.put_bitMem (f : Fld) (v : Nat) : (d.put f v).bitMem = d.bitMem := rfl
@[simp] theorem Dyn.put_wordMem (f : Fld) (v : Nat) : (d.put f v).wordMem = d.wordMem := rfl
@[simp] theorem Dyn.put_timers (f : Fld) (v : Nat) : (d.put f v).timers = d.timers := rfl
@[simp] theorem Dyn.put_counters (f : Fld) (v : Nat) : (d.put f v).counters = d.counters := rfl
@[simp] theorem Dyn.put_edges (f : Fld) (v : Nat) : (d.put f v).edges = d.edges := rfl
@[simp] theorem Dyn.put_agreed (f : Fld) (v : Nat) : (d.put f v).agreed = d.agreed := rfl
@[simp] theorem Dyn.put_outW (f : Fld) (v : Nat) : (d.put f v).outW = d.outW := rfl
@[simp] theorem Dyn.put_outC (f : Fld) (v : Nat) : (d.put f v).outC = d.outC := rfl
@[simp] theorem Dyn.put_lve (f : Fld) (v : Nat) : (d.put f v).lve = d.lve := rfl
@[simp] theorem Dyn.put_life (f : Fld) (v : Nat) : (d.put f v).life = d.life := rfl
@[simp] theorem Dyn.put_dio (f : Fld) (v : Nat) : (d.put f v).dio = d.dio := rfl
@[simp] theorem Dyn.put_released (f : Fld) (v : Nat) : (d.put f v).released = d.released := rfl
@[simp] theorem Dyn.put_aio (f : Fld) (v : Nat) : (d.put f v).aio = d.aio := rfl
@[simp] theorem Dyn.put_cal (f : Fld) (v : Nat) : (d.put f v).cal = d.cal := rfl
@[simp] theorem Dyn.put_clk (f : Fld) (v : Nat) : (d.put f v).clk = d.clk := rfl
@[simp] theorem Dyn.put_tsu (f : Fld) (v : Nat) : (d.put f v).tsu = d.tsu := rfl
@[simp] theorem Dyn.put_latches (f : Fld) (v : Nat) : (d.put f v).latches = d.latches := rfl
@[simp] theorem Dyn.put_queues (f : Fld) (v : Nat) : (d.put f v).queues = d.queues := rfl
@[simp] theorem Dyn.put_alarms (f : Fld) (v : Nat) : (d.put f v).alarms = d.alarms := rfl
@[simp] theorem Dyn.put_jrn (f : Fld) (v : Nat) : (d.put f v).jrn = d.jrn := rfl
@[simp] theorem Dyn.put_twin (f : Fld) (v : Nat) : (d.put f v).twin = d.twin := rfl
@[simp] theorem Dyn.put_rtc (f : Fld) (v : Nat) : (d.put f v).rtc = d.rtc := rfl
@[simp] theorem Dyn.put_net (f : Fld) (v : Nat) : (d.put f v).net = d.net := rfl
@[simp] theorem Dyn.put_can (f : Fld) (v : Nat) : (d.put f v).can = d.can := rfl
@[simp] theorem Dyn.put_sent (f : Fld) (v : Nat) : (d.put f v).sent = d.sent := rfl
@[simp] theorem Dyn.put_loops (f : Fld) (v : Nat) : (d.put f v).loops = d.loops := rfl
@[simp] theorem Dyn.put_slv (f : Fld) (v : Nat) : (d.put f v).slv = d.slv := rfl

@[simp] theorem Dyn.setFlag_free (f : Fld) (b : Bool) : (d.setFlag f b).free = d.free := rfl
@[simp] theorem Dyn.setFlag_readData (f : Fld) (b : Bool) : (d.setFlag f b).readData = d.readData := rfl
@[simp] theorem Dyn.setFlag_boot (f : Fld) (b : Bool) : (d.setFlag f b).boot = d.boot := rfl
@[simp] theorem Dyn.setFlag_nv (f : Fld) (b : Bool) : (d.setFlag f b).nv = d.nv := rfl
@[simp] theorem Dyn.setFlag_slc (f : Fld) (b : Bool) : (d.setFlag f b).slc = d.slc := rfl
@[simp] theorem Dyn.setFlag_pol (f : Fld) (b : Bool) : (d.setFlag f b).pol = d.pol := rfl
@[simp] theorem Dyn.setFlag_bitMem (f : Fld) (b : Bool) : (d.setFlag f b).bitMem = d.bitMem := rfl
@[simp] theorem Dyn.setFlag_wordMem (f : Fld) (b : Bool) : (d.setFlag f b).wordMem = d.wordMem := rfl
@[simp] theorem Dyn.setFlag_timers (f : Fld) (b : Bool) : (d.setFlag f b).timers = d.timers := rfl
@[simp] theorem Dyn.setFlag_counters (f : Fld) (b : Bool) : (d.setFlag f b).counters = d.counters := rfl
@[simp] theorem Dyn.setFlag_edges (f : Fld) (b : Bool) : (d.setFlag f b).edges = d.edges := rfl
@[simp] theorem Dyn.setFlag_agreed (f : Fld) (b : Bool) : (d.setFlag f b).agreed = d.agreed := rfl
@[simp] theorem Dyn.setFlag_outW (f : Fld) (b : Bool) : (d.setFlag f b).outW = d.outW := rfl
@[simp] theorem Dyn.setFlag_outC (f : Fld) (b : Bool) : (d.setFlag f b).outC = d.outC := rfl
@[simp] theorem Dyn.setFlag_lve (f : Fld) (b : Bool) : (d.setFlag f b).lve = d.lve := rfl
@[simp] theorem Dyn.setFlag_life (f : Fld) (b : Bool) : (d.setFlag f b).life = d.life := rfl
@[simp] theorem Dyn.setFlag_dio (f : Fld) (b : Bool) : (d.setFlag f b).dio = d.dio := rfl
@[simp] theorem Dyn.setFlag_released (f : Fld) (b : Bool) : (d.setFlag f b).released = d.released := rfl
@[simp] theorem Dyn.setFlag_aio (f : Fld) (b : Bool) : (d.setFlag f b).aio = d.aio := rfl
@[simp] theorem Dyn.setFlag_cal (f : Fld) (b : Bool) : (d.setFlag f b).cal = d.cal := rfl
@[simp] theorem Dyn.setFlag_clk (f : Fld) (b : Bool) : (d.setFlag f b).clk = d.clk := rfl
@[simp] theorem Dyn.setFlag_tsu (f : Fld) (b : Bool) : (d.setFlag f b).tsu = d.tsu := rfl
@[simp] theorem Dyn.setFlag_latches (f : Fld) (b : Bool) : (d.setFlag f b).latches = d.latches := rfl
@[simp] theorem Dyn.setFlag_queues (f : Fld) (b : Bool) : (d.setFlag f b).queues = d.queues := rfl
@[simp] theorem Dyn.setFlag_alarms (f : Fld) (b : Bool) : (d.setFlag f b).alarms = d.alarms := rfl
@[simp] theorem Dyn.setFlag_jrn (f : Fld) (b : Bool) : (d.setFlag f b).jrn = d.jrn := rfl
@[simp] theorem Dyn.setFlag_twin (f : Fld) (b : Bool) : (d.setFlag f b).twin = d.twin := rfl
@[simp] theorem Dyn.setFlag_rtc (f : Fld) (b : Bool) : (d.setFlag f b).rtc = d.rtc := rfl
@[simp] theorem Dyn.setFlag_net (f : Fld) (b : Bool) : (d.setFlag f b).net = d.net := rfl
@[simp] theorem Dyn.setFlag_can (f : Fld) (b : Bool) : (d.setFlag f b).can = d.can := rfl
@[simp] theorem Dyn.setFlag_sent (f : Fld) (b : Bool) : (d.setFlag f b).sent = d.sent := rfl
@[simp] theorem Dyn.setFlag_loops (f : Fld) (b : Bool) : (d.setFlag f b).loops = d.loops := rfl
@[simp] theorem Dyn.setFlag_slv (f : Fld) (b : Bool) : (d.setFlag f b).slv = d.slv := rfl

@[simp] theorem Dyn.bump_free (f : Fld) : (d.bump f).free = d.free := rfl
@[simp] theorem Dyn.bump_readData (f : Fld) : (d.bump f).readData = d.readData := rfl
@[simp] theorem Dyn.bump_boot (f : Fld) : (d.bump f).boot = d.boot := rfl
@[simp] theorem Dyn.bump_nv (f : Fld) : (d.bump f).nv = d.nv := rfl
@[simp] theorem Dyn.bump_slc (f : Fld) : (d.bump f).slc = d.slc := rfl
@[simp] theorem Dyn.bump_pol (f : Fld) : (d.bump f).pol = d.pol := rfl
@[simp] theorem Dyn.bump_bitMem (f : Fld) : (d.bump f).bitMem = d.bitMem := rfl
@[simp] theorem Dyn.bump_wordMem (f : Fld) : (d.bump f).wordMem = d.wordMem := rfl
@[simp] theorem Dyn.bump_timers (f : Fld) : (d.bump f).timers = d.timers := rfl
@[simp] theorem Dyn.bump_counters (f : Fld) : (d.bump f).counters = d.counters := rfl
@[simp] theorem Dyn.bump_edges (f : Fld) : (d.bump f).edges = d.edges := rfl
@[simp] theorem Dyn.bump_agreed (f : Fld) : (d.bump f).agreed = d.agreed := rfl
@[simp] theorem Dyn.bump_outW (f : Fld) : (d.bump f).outW = d.outW := rfl
@[simp] theorem Dyn.bump_outC (f : Fld) : (d.bump f).outC = d.outC := rfl
@[simp] theorem Dyn.bump_lve (f : Fld) : (d.bump f).lve = d.lve := rfl
@[simp] theorem Dyn.bump_life (f : Fld) : (d.bump f).life = d.life := rfl
@[simp] theorem Dyn.bump_dio (f : Fld) : (d.bump f).dio = d.dio := rfl
@[simp] theorem Dyn.bump_released (f : Fld) : (d.bump f).released = d.released := rfl
@[simp] theorem Dyn.bump_aio (f : Fld) : (d.bump f).aio = d.aio := rfl
@[simp] theorem Dyn.bump_cal (f : Fld) : (d.bump f).cal = d.cal := rfl
@[simp] theorem Dyn.bump_clk (f : Fld) : (d.bump f).clk = d.clk := rfl
@[simp] theorem Dyn.bump_tsu (f : Fld) : (d.bump f).tsu = d.tsu := rfl
@[simp] theorem Dyn.bump_latches (f : Fld) : (d.bump f).latches = d.latches := rfl
@[simp] theorem Dyn.bump_queues (f : Fld) : (d.bump f).queues = d.queues := rfl
@[simp] theorem Dyn.bump_alarms (f : Fld) : (d.bump f).alarms = d.alarms := rfl
@[simp] theorem Dyn.bump_jrn (f : Fld) : (d.bump f).jrn = d.jrn := rfl
@[simp] theorem Dyn.bump_twin (f : Fld) : (d.bump f).twin = d.twin := rfl
@[simp] theorem Dyn.bump_rtc (f : Fld) : (d.bump f).rtc = d.rtc := rfl
@[simp] theorem Dyn.bump_net (f : Fld) : (d.bump f).net = d.net := rfl
@[simp] theorem Dyn.bump_can (f : Fld) : (d.bump f).can = d.can := rfl
@[simp] theorem Dyn.bump_sent (f : Fld) : (d.bump f).sent = d.sent := rfl
@[simp] theorem Dyn.bump_loops (f : Fld) : (d.bump f).loops = d.loops := rfl
@[simp] theorem Dyn.bump_slv (f : Fld) : (d.bump f).slv = d.slv := rfl

@[simp] theorem Dyn.bumpBy_free (f : Fld) (n : Nat) : (d.bumpBy f n).free = d.free := rfl
@[simp] theorem Dyn.bumpBy_readData (f : Fld) (n : Nat) : (d.bumpBy f n).readData = d.readData := rfl
@[simp] theorem Dyn.bumpBy_boot (f : Fld) (n : Nat) : (d.bumpBy f n).boot = d.boot := rfl
@[simp] theorem Dyn.bumpBy_nv (f : Fld) (n : Nat) : (d.bumpBy f n).nv = d.nv := rfl
@[simp] theorem Dyn.bumpBy_slc (f : Fld) (n : Nat) : (d.bumpBy f n).slc = d.slc := rfl
@[simp] theorem Dyn.bumpBy_pol (f : Fld) (n : Nat) : (d.bumpBy f n).pol = d.pol := rfl
@[simp] theorem Dyn.bumpBy_bitMem (f : Fld) (n : Nat) : (d.bumpBy f n).bitMem = d.bitMem := rfl
@[simp] theorem Dyn.bumpBy_wordMem (f : Fld) (n : Nat) : (d.bumpBy f n).wordMem = d.wordMem := rfl
@[simp] theorem Dyn.bumpBy_timers (f : Fld) (n : Nat) : (d.bumpBy f n).timers = d.timers := rfl
@[simp] theorem Dyn.bumpBy_counters (f : Fld) (n : Nat) : (d.bumpBy f n).counters = d.counters := rfl
@[simp] theorem Dyn.bumpBy_edges (f : Fld) (n : Nat) : (d.bumpBy f n).edges = d.edges := rfl
@[simp] theorem Dyn.bumpBy_agreed (f : Fld) (n : Nat) : (d.bumpBy f n).agreed = d.agreed := rfl
@[simp] theorem Dyn.bumpBy_outW (f : Fld) (n : Nat) : (d.bumpBy f n).outW = d.outW := rfl
@[simp] theorem Dyn.bumpBy_outC (f : Fld) (n : Nat) : (d.bumpBy f n).outC = d.outC := rfl
@[simp] theorem Dyn.bumpBy_lve (f : Fld) (n : Nat) : (d.bumpBy f n).lve = d.lve := rfl
@[simp] theorem Dyn.bumpBy_life (f : Fld) (n : Nat) : (d.bumpBy f n).life = d.life := rfl
@[simp] theorem Dyn.bumpBy_dio (f : Fld) (n : Nat) : (d.bumpBy f n).dio = d.dio := rfl
@[simp] theorem Dyn.bumpBy_released (f : Fld) (n : Nat) : (d.bumpBy f n).released = d.released := rfl
@[simp] theorem Dyn.bumpBy_aio (f : Fld) (n : Nat) : (d.bumpBy f n).aio = d.aio := rfl
@[simp] theorem Dyn.bumpBy_cal (f : Fld) (n : Nat) : (d.bumpBy f n).cal = d.cal := rfl
@[simp] theorem Dyn.bumpBy_clk (f : Fld) (n : Nat) : (d.bumpBy f n).clk = d.clk := rfl
@[simp] theorem Dyn.bumpBy_tsu (f : Fld) (n : Nat) : (d.bumpBy f n).tsu = d.tsu := rfl
@[simp] theorem Dyn.bumpBy_latches (f : Fld) (n : Nat) : (d.bumpBy f n).latches = d.latches := rfl
@[simp] theorem Dyn.bumpBy_queues (f : Fld) (n : Nat) : (d.bumpBy f n).queues = d.queues := rfl
@[simp] theorem Dyn.bumpBy_alarms (f : Fld) (n : Nat) : (d.bumpBy f n).alarms = d.alarms := rfl
@[simp] theorem Dyn.bumpBy_jrn (f : Fld) (n : Nat) : (d.bumpBy f n).jrn = d.jrn := rfl
@[simp] theorem Dyn.bumpBy_twin (f : Fld) (n : Nat) : (d.bumpBy f n).twin = d.twin := rfl
@[simp] theorem Dyn.bumpBy_rtc (f : Fld) (n : Nat) : (d.bumpBy f n).rtc = d.rtc := rfl
@[simp] theorem Dyn.bumpBy_net (f : Fld) (n : Nat) : (d.bumpBy f n).net = d.net := rfl
@[simp] theorem Dyn.bumpBy_can (f : Fld) (n : Nat) : (d.bumpBy f n).can = d.can := rfl
@[simp] theorem Dyn.bumpBy_sent (f : Fld) (n : Nat) : (d.bumpBy f n).sent = d.sent := rfl
@[simp] theorem Dyn.bumpBy_loops (f : Fld) (n : Nat) : (d.bumpBy f n).loops = d.loops := rfl
@[simp] theorem Dyn.bumpBy_slv (f : Fld) (n : Nat) : (d.bumpBy f n).slv = d.slv := rfl

@[simp] theorem Dyn.setPolder_regs (p : Nat) (f : Polder → Polder) : (d.setPolder p f).regs = d.regs := rfl
@[simp] theorem Dyn.setPolder_free (p : Nat) (f : Polder → Polder) : (d.setPolder p f).free = d.free := rfl
@[simp] theorem Dyn.setPolder_readData (p : Nat) (f : Polder → Polder) : (d.setPolder p f).readData = d.readData := rfl
@[simp] theorem Dyn.setPolder_boot (p : Nat) (f : Polder → Polder) : (d.setPolder p f).boot = d.boot := rfl
@[simp] theorem Dyn.setPolder_nv (p : Nat) (f : Polder → Polder) : (d.setPolder p f).nv = d.nv := rfl
@[simp] theorem Dyn.setPolder_slc (p : Nat) (f : Polder → Polder) : (d.setPolder p f).slc = d.slc := rfl
@[simp] theorem Dyn.setPolder_bitMem (p : Nat) (f : Polder → Polder) : (d.setPolder p f).bitMem = d.bitMem := rfl
@[simp] theorem Dyn.setPolder_wordMem (p : Nat) (f : Polder → Polder) : (d.setPolder p f).wordMem = d.wordMem := rfl
@[simp] theorem Dyn.setPolder_timers (p : Nat) (f : Polder → Polder) : (d.setPolder p f).timers = d.timers := rfl
@[simp] theorem Dyn.setPolder_counters (p : Nat) (f : Polder → Polder) : (d.setPolder p f).counters = d.counters := rfl
@[simp] theorem Dyn.setPolder_edges (p : Nat) (f : Polder → Polder) : (d.setPolder p f).edges = d.edges := rfl
@[simp] theorem Dyn.setPolder_agreed (p : Nat) (f : Polder → Polder) : (d.setPolder p f).agreed = d.agreed := rfl
@[simp] theorem Dyn.setPolder_outW (p : Nat) (f : Polder → Polder) : (d.setPolder p f).outW = d.outW := rfl
@[simp] theorem Dyn.setPolder_outC (p : Nat) (f : Polder → Polder) : (d.setPolder p f).outC = d.outC := rfl
@[simp] theorem Dyn.setPolder_lve (p : Nat) (f : Polder → Polder) : (d.setPolder p f).lve = d.lve := rfl
@[simp] theorem Dyn.setPolder_life (p : Nat) (f : Polder → Polder) : (d.setPolder p f).life = d.life := rfl
@[simp] theorem Dyn.setPolder_dio (p : Nat) (f : Polder → Polder) : (d.setPolder p f).dio = d.dio := rfl
@[simp] theorem Dyn.setPolder_released (p : Nat) (f : Polder → Polder) : (d.setPolder p f).released = d.released := rfl
@[simp] theorem Dyn.setPolder_aio (p : Nat) (f : Polder → Polder) : (d.setPolder p f).aio = d.aio := rfl
@[simp] theorem Dyn.setPolder_cal (p : Nat) (f : Polder → Polder) : (d.setPolder p f).cal = d.cal := rfl
@[simp] theorem Dyn.setPolder_clk (p : Nat) (f : Polder → Polder) : (d.setPolder p f).clk = d.clk := rfl
@[simp] theorem Dyn.setPolder_tsu (p : Nat) (f : Polder → Polder) : (d.setPolder p f).tsu = d.tsu := rfl
@[simp] theorem Dyn.setPolder_latches (p : Nat) (f : Polder → Polder) : (d.setPolder p f).latches = d.latches := rfl
@[simp] theorem Dyn.setPolder_queues (p : Nat) (f : Polder → Polder) : (d.setPolder p f).queues = d.queues := rfl
@[simp] theorem Dyn.setPolder_alarms (p : Nat) (f : Polder → Polder) : (d.setPolder p f).alarms = d.alarms := rfl
@[simp] theorem Dyn.setPolder_jrn (p : Nat) (f : Polder → Polder) : (d.setPolder p f).jrn = d.jrn := rfl
@[simp] theorem Dyn.setPolder_twin (p : Nat) (f : Polder → Polder) : (d.setPolder p f).twin = d.twin := rfl
@[simp] theorem Dyn.setPolder_rtc (p : Nat) (f : Polder → Polder) : (d.setPolder p f).rtc = d.rtc := rfl
@[simp] theorem Dyn.setPolder_net (p : Nat) (f : Polder → Polder) : (d.setPolder p f).net = d.net := rfl
@[simp] theorem Dyn.setPolder_can (p : Nat) (f : Polder → Polder) : (d.setPolder p f).can = d.can := rfl
@[simp] theorem Dyn.setPolder_sent (p : Nat) (f : Polder → Polder) : (d.setPolder p f).sent = d.sent := rfl
@[simp] theorem Dyn.setPolder_loops (p : Nat) (f : Polder → Polder) : (d.setPolder p f).loops = d.loops := rfl
@[simp] theorem Dyn.setPolder_slv (p : Nat) (f : Polder → Polder) : (d.setPolder p f).slv = d.slv := rfl

@[simp] theorem Dyn.setDig_regs (n : Nat) (f : Dio → Dio) : (d.setDig n f).regs = d.regs := rfl
@[simp] theorem Dyn.setDig_free (n : Nat) (f : Dio → Dio) : (d.setDig n f).free = d.free := rfl
@[simp] theorem Dyn.setDig_readData (n : Nat) (f : Dio → Dio) : (d.setDig n f).readData = d.readData := rfl
@[simp] theorem Dyn.setDig_boot (n : Nat) (f : Dio → Dio) : (d.setDig n f).boot = d.boot := rfl
@[simp] theorem Dyn.setDig_nv (n : Nat) (f : Dio → Dio) : (d.setDig n f).nv = d.nv := rfl
@[simp] theorem Dyn.setDig_slc (n : Nat) (f : Dio → Dio) : (d.setDig n f).slc = d.slc := rfl
@[simp] theorem Dyn.setDig_pol (n : Nat) (f : Dio → Dio) : (d.setDig n f).pol = d.pol := rfl
@[simp] theorem Dyn.setDig_bitMem (n : Nat) (f : Dio → Dio) : (d.setDig n f).bitMem = d.bitMem := rfl
@[simp] theorem Dyn.setDig_wordMem (n : Nat) (f : Dio → Dio) : (d.setDig n f).wordMem = d.wordMem := rfl
@[simp] theorem Dyn.setDig_timers (n : Nat) (f : Dio → Dio) : (d.setDig n f).timers = d.timers := rfl
@[simp] theorem Dyn.setDig_counters (n : Nat) (f : Dio → Dio) : (d.setDig n f).counters = d.counters := rfl
@[simp] theorem Dyn.setDig_edges (n : Nat) (f : Dio → Dio) : (d.setDig n f).edges = d.edges := rfl
@[simp] theorem Dyn.setDig_agreed (n : Nat) (f : Dio → Dio) : (d.setDig n f).agreed = d.agreed := rfl
@[simp] theorem Dyn.setDig_outW (n : Nat) (f : Dio → Dio) : (d.setDig n f).outW = d.outW := rfl
@[simp] theorem Dyn.setDig_outC (n : Nat) (f : Dio → Dio) : (d.setDig n f).outC = d.outC := rfl
@[simp] theorem Dyn.setDig_lve (n : Nat) (f : Dio → Dio) : (d.setDig n f).lve = d.lve := rfl
@[simp] theorem Dyn.setDig_life (n : Nat) (f : Dio → Dio) : (d.setDig n f).life = d.life := rfl
@[simp] theorem Dyn.setDig_released (n : Nat) (f : Dio → Dio) : (d.setDig n f).released = d.released := rfl
@[simp] theorem Dyn.setDig_aio (n : Nat) (f : Dio → Dio) : (d.setDig n f).aio = d.aio := rfl
@[simp] theorem Dyn.setDig_cal (n : Nat) (f : Dio → Dio) : (d.setDig n f).cal = d.cal := rfl
@[simp] theorem Dyn.setDig_clk (n : Nat) (f : Dio → Dio) : (d.setDig n f).clk = d.clk := rfl
@[simp] theorem Dyn.setDig_tsu (n : Nat) (f : Dio → Dio) : (d.setDig n f).tsu = d.tsu := rfl
@[simp] theorem Dyn.setDig_latches (n : Nat) (f : Dio → Dio) : (d.setDig n f).latches = d.latches := rfl
@[simp] theorem Dyn.setDig_queues (n : Nat) (f : Dio → Dio) : (d.setDig n f).queues = d.queues := rfl
@[simp] theorem Dyn.setDig_alarms (n : Nat) (f : Dio → Dio) : (d.setDig n f).alarms = d.alarms := rfl
@[simp] theorem Dyn.setDig_jrn (n : Nat) (f : Dio → Dio) : (d.setDig n f).jrn = d.jrn := rfl
@[simp] theorem Dyn.setDig_twin (n : Nat) (f : Dio → Dio) : (d.setDig n f).twin = d.twin := rfl
@[simp] theorem Dyn.setDig_rtc (n : Nat) (f : Dio → Dio) : (d.setDig n f).rtc = d.rtc := rfl
@[simp] theorem Dyn.setDig_net (n : Nat) (f : Dio → Dio) : (d.setDig n f).net = d.net := rfl
@[simp] theorem Dyn.setDig_can (n : Nat) (f : Dio → Dio) : (d.setDig n f).can = d.can := rfl
@[simp] theorem Dyn.setDig_sent (n : Nat) (f : Dio → Dio) : (d.setDig n f).sent = d.sent := rfl
@[simp] theorem Dyn.setDig_loops (n : Nat) (f : Dio → Dio) : (d.setDig n f).loops = d.loops := rfl
@[simp] theorem Dyn.setDig_slv (n : Nat) (f : Dio → Dio) : (d.setDig n f).slv = d.slv := rfl

@[simp] theorem Dyn.setAna_regs (m : Nat) (f : Aio → Aio) : (d.setAna m f).regs = d.regs := rfl
@[simp] theorem Dyn.setAna_free (m : Nat) (f : Aio → Aio) : (d.setAna m f).free = d.free := rfl
@[simp] theorem Dyn.setAna_readData (m : Nat) (f : Aio → Aio) : (d.setAna m f).readData = d.readData := rfl
@[simp] theorem Dyn.setAna_boot (m : Nat) (f : Aio → Aio) : (d.setAna m f).boot = d.boot := rfl
@[simp] theorem Dyn.setAna_nv (m : Nat) (f : Aio → Aio) : (d.setAna m f).nv = d.nv := rfl
@[simp] theorem Dyn.setAna_slc (m : Nat) (f : Aio → Aio) : (d.setAna m f).slc = d.slc := rfl
@[simp] theorem Dyn.setAna_pol (m : Nat) (f : Aio → Aio) : (d.setAna m f).pol = d.pol := rfl
@[simp] theorem Dyn.setAna_bitMem (m : Nat) (f : Aio → Aio) : (d.setAna m f).bitMem = d.bitMem := rfl
@[simp] theorem Dyn.setAna_wordMem (m : Nat) (f : Aio → Aio) : (d.setAna m f).wordMem = d.wordMem := rfl
@[simp] theorem Dyn.setAna_timers (m : Nat) (f : Aio → Aio) : (d.setAna m f).timers = d.timers := rfl
@[simp] theorem Dyn.setAna_counters (m : Nat) (f : Aio → Aio) : (d.setAna m f).counters = d.counters := rfl
@[simp] theorem Dyn.setAna_edges (m : Nat) (f : Aio → Aio) : (d.setAna m f).edges = d.edges := rfl
@[simp] theorem Dyn.setAna_agreed (m : Nat) (f : Aio → Aio) : (d.setAna m f).agreed = d.agreed := rfl
@[simp] theorem Dyn.setAna_outW (m : Nat) (f : Aio → Aio) : (d.setAna m f).outW = d.outW := rfl
@[simp] theorem Dyn.setAna_outC (m : Nat) (f : Aio → Aio) : (d.setAna m f).outC = d.outC := rfl
@[simp] theorem Dyn.setAna_lve (m : Nat) (f : Aio → Aio) : (d.setAna m f).lve = d.lve := rfl
@[simp] theorem Dyn.setAna_life (m : Nat) (f : Aio → Aio) : (d.setAna m f).life = d.life := rfl
@[simp] theorem Dyn.setAna_dio (m : Nat) (f : Aio → Aio) : (d.setAna m f).dio = d.dio := rfl
@[simp] theorem Dyn.setAna_released (m : Nat) (f : Aio → Aio) : (d.setAna m f).released = d.released := rfl
@[simp] theorem Dyn.setAna_cal (m : Nat) (f : Aio → Aio) : (d.setAna m f).cal = d.cal := rfl
@[simp] theorem Dyn.setAna_clk (m : Nat) (f : Aio → Aio) : (d.setAna m f).clk = d.clk := rfl
@[simp] theorem Dyn.setAna_tsu (m : Nat) (f : Aio → Aio) : (d.setAna m f).tsu = d.tsu := rfl
@[simp] theorem Dyn.setAna_latches (m : Nat) (f : Aio → Aio) : (d.setAna m f).latches = d.latches := rfl
@[simp] theorem Dyn.setAna_queues (m : Nat) (f : Aio → Aio) : (d.setAna m f).queues = d.queues := rfl
@[simp] theorem Dyn.setAna_alarms (m : Nat) (f : Aio → Aio) : (d.setAna m f).alarms = d.alarms := rfl
@[simp] theorem Dyn.setAna_jrn (m : Nat) (f : Aio → Aio) : (d.setAna m f).jrn = d.jrn := rfl
@[simp] theorem Dyn.setAna_twin (m : Nat) (f : Aio → Aio) : (d.setAna m f).twin = d.twin := rfl
@[simp] theorem Dyn.setAna_rtc (m : Nat) (f : Aio → Aio) : (d.setAna m f).rtc = d.rtc := rfl
@[simp] theorem Dyn.setAna_net (m : Nat) (f : Aio → Aio) : (d.setAna m f).net = d.net := rfl
@[simp] theorem Dyn.setAna_can (m : Nat) (f : Aio → Aio) : (d.setAna m f).can = d.can := rfl
@[simp] theorem Dyn.setAna_sent (m : Nat) (f : Aio → Aio) : (d.setAna m f).sent = d.sent := rfl
@[simp] theorem Dyn.setAna_loops (m : Nat) (f : Aio → Aio) : (d.setAna m f).loops = d.loops := rfl
@[simp] theorem Dyn.setAna_slv (m : Nat) (f : Aio → Aio) : (d.setAna m f).slv = d.slv := rfl

@[simp] theorem Dyn.setQueue_regs (q : Nat) (f : HQueue → HQueue) : (d.setQueue q f).regs = d.regs := rfl
@[simp] theorem Dyn.setQueue_free (q : Nat) (f : HQueue → HQueue) : (d.setQueue q f).free = d.free := rfl
@[simp] theorem Dyn.setQueue_readData (q : Nat) (f : HQueue → HQueue) : (d.setQueue q f).readData = d.readData := rfl
@[simp] theorem Dyn.setQueue_boot (q : Nat) (f : HQueue → HQueue) : (d.setQueue q f).boot = d.boot := rfl
@[simp] theorem Dyn.setQueue_nv (q : Nat) (f : HQueue → HQueue) : (d.setQueue q f).nv = d.nv := rfl
@[simp] theorem Dyn.setQueue_slc (q : Nat) (f : HQueue → HQueue) : (d.setQueue q f).slc = d.slc := rfl
@[simp] theorem Dyn.setQueue_pol (q : Nat) (f : HQueue → HQueue) : (d.setQueue q f).pol = d.pol := rfl
@[simp] theorem Dyn.setQueue_bitMem (q : Nat) (f : HQueue → HQueue) : (d.setQueue q f).bitMem = d.bitMem := rfl
@[simp] theorem Dyn.setQueue_wordMem (q : Nat) (f : HQueue → HQueue) : (d.setQueue q f).wordMem = d.wordMem := rfl
@[simp] theorem Dyn.setQueue_timers (q : Nat) (f : HQueue → HQueue) : (d.setQueue q f).timers = d.timers := rfl
@[simp] theorem Dyn.setQueue_counters (q : Nat) (f : HQueue → HQueue) : (d.setQueue q f).counters = d.counters := rfl
@[simp] theorem Dyn.setQueue_edges (q : Nat) (f : HQueue → HQueue) : (d.setQueue q f).edges = d.edges := rfl
@[simp] theorem Dyn.setQueue_agreed (q : Nat) (f : HQueue → HQueue) : (d.setQueue q f).agreed = d.agreed := rfl
@[simp] theorem Dyn.setQueue_outW (q : Nat) (f : HQueue → HQueue) : (d.setQueue q f).outW = d.outW := rfl
@[simp] theorem Dyn.setQueue_outC (q : Nat) (f : HQueue → HQueue) : (d.setQueue q f).outC = d.outC := rfl
@[simp] theorem Dyn.setQueue_lve (q : Nat) (f : HQueue → HQueue) : (d.setQueue q f).lve = d.lve := rfl
@[simp] theorem Dyn.setQueue_life (q : Nat) (f : HQueue → HQueue) : (d.setQueue q f).life = d.life := rfl
@[simp] theorem Dyn.setQueue_dio (q : Nat) (f : HQueue → HQueue) : (d.setQueue q f).dio = d.dio := rfl
@[simp] theorem Dyn.setQueue_released (q : Nat) (f : HQueue → HQueue) : (d.setQueue q f).released = d.released := rfl
@[simp] theorem Dyn.setQueue_aio (q : Nat) (f : HQueue → HQueue) : (d.setQueue q f).aio = d.aio := rfl
@[simp] theorem Dyn.setQueue_cal (q : Nat) (f : HQueue → HQueue) : (d.setQueue q f).cal = d.cal := rfl
@[simp] theorem Dyn.setQueue_clk (q : Nat) (f : HQueue → HQueue) : (d.setQueue q f).clk = d.clk := rfl
@[simp] theorem Dyn.setQueue_tsu (q : Nat) (f : HQueue → HQueue) : (d.setQueue q f).tsu = d.tsu := rfl
@[simp] theorem Dyn.setQueue_latches (q : Nat) (f : HQueue → HQueue) : (d.setQueue q f).latches = d.latches := rfl
@[simp] theorem Dyn.setQueue_alarms (q : Nat) (f : HQueue → HQueue) : (d.setQueue q f).alarms = d.alarms := rfl
@[simp] theorem Dyn.setQueue_jrn (q : Nat) (f : HQueue → HQueue) : (d.setQueue q f).jrn = d.jrn := rfl
@[simp] theorem Dyn.setQueue_twin (q : Nat) (f : HQueue → HQueue) : (d.setQueue q f).twin = d.twin := rfl
@[simp] theorem Dyn.setQueue_rtc (q : Nat) (f : HQueue → HQueue) : (d.setQueue q f).rtc = d.rtc := rfl
@[simp] theorem Dyn.setQueue_net (q : Nat) (f : HQueue → HQueue) : (d.setQueue q f).net = d.net := rfl
@[simp] theorem Dyn.setQueue_can (q : Nat) (f : HQueue → HQueue) : (d.setQueue q f).can = d.can := rfl
@[simp] theorem Dyn.setQueue_sent (q : Nat) (f : HQueue → HQueue) : (d.setQueue q f).sent = d.sent := rfl
@[simp] theorem Dyn.setQueue_loops (q : Nat) (f : HQueue → HQueue) : (d.setQueue q f).loops = d.loops := rfl
@[simp] theorem Dyn.setQueue_slv (q : Nat) (f : HQueue → HQueue) : (d.setQueue q f).slv = d.slv := rfl

@[simp] theorem Dyn.setTimer_regs (k : Nat) (x : Timer) : (d.setTimer k x).regs = d.regs := rfl
@[simp] theorem Dyn.setTimer_free (k : Nat) (x : Timer) : (d.setTimer k x).free = d.free := rfl
@[simp] theorem Dyn.setTimer_readData (k : Nat) (x : Timer) : (d.setTimer k x).readData = d.readData := rfl
@[simp] theorem Dyn.setTimer_boot (k : Nat) (x : Timer) : (d.setTimer k x).boot = d.boot := rfl
@[simp] theorem Dyn.setTimer_nv (k : Nat) (x : Timer) : (d.setTimer k x).nv = d.nv := rfl
@[simp] theorem Dyn.setTimer_slc (k : Nat) (x : Timer) : (d.setTimer k x).slc = d.slc := rfl
@[simp] theorem Dyn.setTimer_pol (k : Nat) (x : Timer) : (d.setTimer k x).pol = d.pol := rfl
@[simp] theorem Dyn.setTimer_bitMem (k : Nat) (x : Timer) : (d.setTimer k x).bitMem = d.bitMem := rfl
@[simp] theorem Dyn.setTimer_wordMem (k : Nat) (x : Timer) : (d.setTimer k x).wordMem = d.wordMem := rfl
@[simp] theorem Dyn.setTimer_counters (k : Nat) (x : Timer) : (d.setTimer k x).counters = d.counters := rfl
@[simp] theorem Dyn.setTimer_edges (k : Nat) (x : Timer) : (d.setTimer k x).edges = d.edges := rfl
@[simp] theorem Dyn.setTimer_agreed (k : Nat) (x : Timer) : (d.setTimer k x).agreed = d.agreed := rfl
@[simp] theorem Dyn.setTimer_outW (k : Nat) (x : Timer) : (d.setTimer k x).outW = d.outW := rfl
@[simp] theorem Dyn.setTimer_outC (k : Nat) (x : Timer) : (d.setTimer k x).outC = d.outC := rfl
@[simp] theorem Dyn.setTimer_lve (k : Nat) (x : Timer) : (d.setTimer k x).lve = d.lve := rfl
@[simp] theorem Dyn.setTimer_life (k : Nat) (x : Timer) : (d.setTimer k x).life = d.life := rfl
@[simp] theorem Dyn.setTimer_dio (k : Nat) (x : Timer) : (d.setTimer k x).dio = d.dio := rfl
@[simp] theorem Dyn.setTimer_released (k : Nat) (x : Timer) : (d.setTimer k x).released = d.released := rfl
@[simp] theorem Dyn.setTimer_aio (k : Nat) (x : Timer) : (d.setTimer k x).aio = d.aio := rfl
@[simp] theorem Dyn.setTimer_cal (k : Nat) (x : Timer) : (d.setTimer k x).cal = d.cal := rfl
@[simp] theorem Dyn.setTimer_clk (k : Nat) (x : Timer) : (d.setTimer k x).clk = d.clk := rfl
@[simp] theorem Dyn.setTimer_tsu (k : Nat) (x : Timer) : (d.setTimer k x).tsu = d.tsu := rfl
@[simp] theorem Dyn.setTimer_latches (k : Nat) (x : Timer) : (d.setTimer k x).latches = d.latches := rfl
@[simp] theorem Dyn.setTimer_queues (k : Nat) (x : Timer) : (d.setTimer k x).queues = d.queues := rfl
@[simp] theorem Dyn.setTimer_alarms (k : Nat) (x : Timer) : (d.setTimer k x).alarms = d.alarms := rfl
@[simp] theorem Dyn.setTimer_jrn (k : Nat) (x : Timer) : (d.setTimer k x).jrn = d.jrn := rfl
@[simp] theorem Dyn.setTimer_twin (k : Nat) (x : Timer) : (d.setTimer k x).twin = d.twin := rfl
@[simp] theorem Dyn.setTimer_rtc (k : Nat) (x : Timer) : (d.setTimer k x).rtc = d.rtc := rfl
@[simp] theorem Dyn.setTimer_net (k : Nat) (x : Timer) : (d.setTimer k x).net = d.net := rfl
@[simp] theorem Dyn.setTimer_can (k : Nat) (x : Timer) : (d.setTimer k x).can = d.can := rfl
@[simp] theorem Dyn.setTimer_sent (k : Nat) (x : Timer) : (d.setTimer k x).sent = d.sent := rfl
@[simp] theorem Dyn.setTimer_loops (k : Nat) (x : Timer) : (d.setTimer k x).loops = d.loops := rfl
@[simp] theorem Dyn.setTimer_slv (k : Nat) (x : Timer) : (d.setTimer k x).slv = d.slv := rfl

@[simp] theorem Dyn.setCounter_regs (k : Nat) (x : Counter) : (d.setCounter k x).regs = d.regs := rfl
@[simp] theorem Dyn.setCounter_free (k : Nat) (x : Counter) : (d.setCounter k x).free = d.free := rfl
@[simp] theorem Dyn.setCounter_readData (k : Nat) (x : Counter) : (d.setCounter k x).readData = d.readData := rfl
@[simp] theorem Dyn.setCounter_boot (k : Nat) (x : Counter) : (d.setCounter k x).boot = d.boot := rfl
@[simp] theorem Dyn.setCounter_nv (k : Nat) (x : Counter) : (d.setCounter k x).nv = d.nv := rfl
@[simp] theorem Dyn.setCounter_slc (k : Nat) (x : Counter) : (d.setCounter k x).slc = d.slc := rfl
@[simp] theorem Dyn.setCounter_pol (k : Nat) (x : Counter) : (d.setCounter k x).pol = d.pol := rfl
@[simp] theorem Dyn.setCounter_bitMem (k : Nat) (x : Counter) : (d.setCounter k x).bitMem = d.bitMem := rfl
@[simp] theorem Dyn.setCounter_wordMem (k : Nat) (x : Counter) : (d.setCounter k x).wordMem = d.wordMem := rfl
@[simp] theorem Dyn.setCounter_timers (k : Nat) (x : Counter) : (d.setCounter k x).timers = d.timers := rfl
@[simp] theorem Dyn.setCounter_edges (k : Nat) (x : Counter) : (d.setCounter k x).edges = d.edges := rfl
@[simp] theorem Dyn.setCounter_agreed (k : Nat) (x : Counter) : (d.setCounter k x).agreed = d.agreed := rfl
@[simp] theorem Dyn.setCounter_outW (k : Nat) (x : Counter) : (d.setCounter k x).outW = d.outW := rfl
@[simp] theorem Dyn.setCounter_outC (k : Nat) (x : Counter) : (d.setCounter k x).outC = d.outC := rfl
@[simp] theorem Dyn.setCounter_lve (k : Nat) (x : Counter) : (d.setCounter k x).lve = d.lve := rfl
@[simp] theorem Dyn.setCounter_life (k : Nat) (x : Counter) : (d.setCounter k x).life = d.life := rfl
@[simp] theorem Dyn.setCounter_dio (k : Nat) (x : Counter) : (d.setCounter k x).dio = d.dio := rfl
@[simp] theorem Dyn.setCounter_released (k : Nat) (x : Counter) : (d.setCounter k x).released = d.released := rfl
@[simp] theorem Dyn.setCounter_aio (k : Nat) (x : Counter) : (d.setCounter k x).aio = d.aio := rfl
@[simp] theorem Dyn.setCounter_cal (k : Nat) (x : Counter) : (d.setCounter k x).cal = d.cal := rfl
@[simp] theorem Dyn.setCounter_clk (k : Nat) (x : Counter) : (d.setCounter k x).clk = d.clk := rfl
@[simp] theorem Dyn.setCounter_tsu (k : Nat) (x : Counter) : (d.setCounter k x).tsu = d.tsu := rfl
@[simp] theorem Dyn.setCounter_latches (k : Nat) (x : Counter) : (d.setCounter k x).latches = d.latches := rfl
@[simp] theorem Dyn.setCounter_queues (k : Nat) (x : Counter) : (d.setCounter k x).queues = d.queues := rfl
@[simp] theorem Dyn.setCounter_alarms (k : Nat) (x : Counter) : (d.setCounter k x).alarms = d.alarms := rfl
@[simp] theorem Dyn.setCounter_jrn (k : Nat) (x : Counter) : (d.setCounter k x).jrn = d.jrn := rfl
@[simp] theorem Dyn.setCounter_twin (k : Nat) (x : Counter) : (d.setCounter k x).twin = d.twin := rfl
@[simp] theorem Dyn.setCounter_rtc (k : Nat) (x : Counter) : (d.setCounter k x).rtc = d.rtc := rfl
@[simp] theorem Dyn.setCounter_net (k : Nat) (x : Counter) : (d.setCounter k x).net = d.net := rfl
@[simp] theorem Dyn.setCounter_can (k : Nat) (x : Counter) : (d.setCounter k x).can = d.can := rfl
@[simp] theorem Dyn.setCounter_sent (k : Nat) (x : Counter) : (d.setCounter k x).sent = d.sent := rfl
@[simp] theorem Dyn.setCounter_loops (k : Nat) (x : Counter) : (d.setCounter k x).loops = d.loops := rfl
@[simp] theorem Dyn.setCounter_slv (k : Nat) (x : Counter) : (d.setCounter k x).slv = d.slv := rfl

@[simp] theorem Dyn.setMbit_regs (p i : Nat) (b : Bool) : (d.setMbit c p i b).regs = d.regs := rfl
@[simp] theorem Dyn.setMbit_free (p i : Nat) (b : Bool) : (d.setMbit c p i b).free = d.free := rfl
@[simp] theorem Dyn.setMbit_readData (p i : Nat) (b : Bool) : (d.setMbit c p i b).readData = d.readData := rfl
@[simp] theorem Dyn.setMbit_boot (p i : Nat) (b : Bool) : (d.setMbit c p i b).boot = d.boot := rfl
@[simp] theorem Dyn.setMbit_nv (p i : Nat) (b : Bool) : (d.setMbit c p i b).nv = d.nv := rfl
@[simp] theorem Dyn.setMbit_slc (p i : Nat) (b : Bool) : (d.setMbit c p i b).slc = d.slc := rfl
@[simp] theorem Dyn.setMbit_pol (p i : Nat) (b : Bool) : (d.setMbit c p i b).pol = d.pol := rfl
@[simp] theorem Dyn.setMbit_wordMem (p i : Nat) (b : Bool) : (d.setMbit c p i b).wordMem = d.wordMem := rfl
@[simp] theorem Dyn.setMbit_timers (p i : Nat) (b : Bool) : (d.setMbit c p i b).timers = d.timers := rfl
@[simp] theorem Dyn.setMbit_counters (p i : Nat) (b : Bool) : (d.setMbit c p i b).counters = d.counters := rfl
@[simp] theorem Dyn.setMbit_edges (p i : Nat) (b : Bool) : (d.setMbit c p i b).edges = d.edges := rfl
@[simp] theorem Dyn.setMbit_agreed (p i : Nat) (b : Bool) : (d.setMbit c p i b).agreed = d.agreed := rfl
@[simp] theorem Dyn.setMbit_outW (p i : Nat) (b : Bool) : (d.setMbit c p i b).outW = d.outW := rfl
@[simp] theorem Dyn.setMbit_outC (p i : Nat) (b : Bool) : (d.setMbit c p i b).outC = d.outC := rfl
@[simp] theorem Dyn.setMbit_lve (p i : Nat) (b : Bool) : (d.setMbit c p i b).lve = d.lve := rfl
@[simp] theorem Dyn.setMbit_life (p i : Nat) (b : Bool) : (d.setMbit c p i b).life = d.life := rfl
@[simp] theorem Dyn.setMbit_dio (p i : Nat) (b : Bool) : (d.setMbit c p i b).dio = d.dio := rfl
@[simp] theorem Dyn.setMbit_released (p i : Nat) (b : Bool) : (d.setMbit c p i b).released = d.released := rfl
@[simp] theorem Dyn.setMbit_aio (p i : Nat) (b : Bool) : (d.setMbit c p i b).aio = d.aio := rfl
@[simp] theorem Dyn.setMbit_cal (p i : Nat) (b : Bool) : (d.setMbit c p i b).cal = d.cal := rfl
@[simp] theorem Dyn.setMbit_clk (p i : Nat) (b : Bool) : (d.setMbit c p i b).clk = d.clk := rfl
@[simp] theorem Dyn.setMbit_tsu (p i : Nat) (b : Bool) : (d.setMbit c p i b).tsu = d.tsu := rfl
@[simp] theorem Dyn.setMbit_latches (p i : Nat) (b : Bool) : (d.setMbit c p i b).latches = d.latches := rfl
@[simp] theorem Dyn.setMbit_queues (p i : Nat) (b : Bool) : (d.setMbit c p i b).queues = d.queues := rfl
@[simp] theorem Dyn.setMbit_alarms (p i : Nat) (b : Bool) : (d.setMbit c p i b).alarms = d.alarms := rfl
@[simp] theorem Dyn.setMbit_jrn (p i : Nat) (b : Bool) : (d.setMbit c p i b).jrn = d.jrn := rfl
@[simp] theorem Dyn.setMbit_twin (p i : Nat) (b : Bool) : (d.setMbit c p i b).twin = d.twin := rfl
@[simp] theorem Dyn.setMbit_rtc (p i : Nat) (b : Bool) : (d.setMbit c p i b).rtc = d.rtc := rfl
@[simp] theorem Dyn.setMbit_net (p i : Nat) (b : Bool) : (d.setMbit c p i b).net = d.net := rfl
@[simp] theorem Dyn.setMbit_can (p i : Nat) (b : Bool) : (d.setMbit c p i b).can = d.can := rfl
@[simp] theorem Dyn.setMbit_sent (p i : Nat) (b : Bool) : (d.setMbit c p i b).sent = d.sent := rfl
@[simp] theorem Dyn.setMbit_loops (p i : Nat) (b : Bool) : (d.setMbit c p i b).loops = d.loops := rfl
@[simp] theorem Dyn.setMbit_slv (p i : Nat) (b : Bool) : (d.setMbit c p i b).slv = d.slv := rfl

@[simp] theorem Dyn.setMword_regs (p i : Nat) (w : Word) : (d.setMword c p i w).regs = d.regs := rfl
@[simp] theorem Dyn.setMword_free (p i : Nat) (w : Word) : (d.setMword c p i w).free = d.free := rfl
@[simp] theorem Dyn.setMword_readData (p i : Nat) (w : Word) : (d.setMword c p i w).readData = d.readData := rfl
@[simp] theorem Dyn.setMword_boot (p i : Nat) (w : Word) : (d.setMword c p i w).boot = d.boot := rfl
@[simp] theorem Dyn.setMword_nv (p i : Nat) (w : Word) : (d.setMword c p i w).nv = d.nv := rfl
@[simp] theorem Dyn.setMword_slc (p i : Nat) (w : Word) : (d.setMword c p i w).slc = d.slc := rfl
@[simp] theorem Dyn.setMword_pol (p i : Nat) (w : Word) : (d.setMword c p i w).pol = d.pol := rfl
@[simp] theorem Dyn.setMword_bitMem (p i : Nat) (w : Word) : (d.setMword c p i w).bitMem = d.bitMem := rfl
@[simp] theorem Dyn.setMword_timers (p i : Nat) (w : Word) : (d.setMword c p i w).timers = d.timers := rfl
@[simp] theorem Dyn.setMword_counters (p i : Nat) (w : Word) : (d.setMword c p i w).counters = d.counters := rfl
@[simp] theorem Dyn.setMword_edges (p i : Nat) (w : Word) : (d.setMword c p i w).edges = d.edges := rfl
@[simp] theorem Dyn.setMword_agreed (p i : Nat) (w : Word) : (d.setMword c p i w).agreed = d.agreed := rfl
@[simp] theorem Dyn.setMword_outW (p i : Nat) (w : Word) : (d.setMword c p i w).outW = d.outW := rfl
@[simp] theorem Dyn.setMword_outC (p i : Nat) (w : Word) : (d.setMword c p i w).outC = d.outC := rfl
@[simp] theorem Dyn.setMword_lve (p i : Nat) (w : Word) : (d.setMword c p i w).lve = d.lve := rfl
@[simp] theorem Dyn.setMword_life (p i : Nat) (w : Word) : (d.setMword c p i w).life = d.life := rfl
@[simp] theorem Dyn.setMword_dio (p i : Nat) (w : Word) : (d.setMword c p i w).dio = d.dio := rfl
@[simp] theorem Dyn.setMword_released (p i : Nat) (w : Word) : (d.setMword c p i w).released = d.released := rfl
@[simp] theorem Dyn.setMword_aio (p i : Nat) (w : Word) : (d.setMword c p i w).aio = d.aio := rfl
@[simp] theorem Dyn.setMword_cal (p i : Nat) (w : Word) : (d.setMword c p i w).cal = d.cal := rfl
@[simp] theorem Dyn.setMword_clk (p i : Nat) (w : Word) : (d.setMword c p i w).clk = d.clk := rfl
@[simp] theorem Dyn.setMword_tsu (p i : Nat) (w : Word) : (d.setMword c p i w).tsu = d.tsu := rfl
@[simp] theorem Dyn.setMword_latches (p i : Nat) (w : Word) : (d.setMword c p i w).latches = d.latches := rfl
@[simp] theorem Dyn.setMword_queues (p i : Nat) (w : Word) : (d.setMword c p i w).queues = d.queues := rfl
@[simp] theorem Dyn.setMword_alarms (p i : Nat) (w : Word) : (d.setMword c p i w).alarms = d.alarms := rfl
@[simp] theorem Dyn.setMword_jrn (p i : Nat) (w : Word) : (d.setMword c p i w).jrn = d.jrn := rfl
@[simp] theorem Dyn.setMword_twin (p i : Nat) (w : Word) : (d.setMword c p i w).twin = d.twin := rfl
@[simp] theorem Dyn.setMword_rtc (p i : Nat) (w : Word) : (d.setMword c p i w).rtc = d.rtc := rfl
@[simp] theorem Dyn.setMword_net (p i : Nat) (w : Word) : (d.setMword c p i w).net = d.net := rfl
@[simp] theorem Dyn.setMword_can (p i : Nat) (w : Word) : (d.setMword c p i w).can = d.can := rfl
@[simp] theorem Dyn.setMword_sent (p i : Nat) (w : Word) : (d.setMword c p i w).sent = d.sent := rfl
@[simp] theorem Dyn.setMword_loops (p i : Nat) (w : Word) : (d.setMword c p i w).loops = d.loops := rfl
@[simp] theorem Dyn.setMword_slv (p i : Nat) (w : Word) : (d.setMword c p i w).slv = d.slv := rfl

end Sys2Proof.Machine
end

