-- ==== Sys2Proof/Laws/Logic.lean ====
section
/-! SUPPORT. Laws of issue: what an instruction that issues does, and that charging it changes no operand. -/

namespace Sys2Proof.Machine

/-- An index within its range, and one beyond it (R132). -/
theorem inRange_lt {k n : Nat} (h : k < n) : inRange (k : Int) n = .ok k := if_pos h
theorem inRange_ge {k n : Nat} (h : n ≤ k) : inRange (k : Int) n = .error 0x12 := if_neg (Nat.not_lt.2 h)

@[simp] theorem Dyn.issued_regs (d : Dyn) (p n : Nat) : (d.issued p n).regs = d.regs := rfl
@[simp] theorem Dyn.issued_bitMem (d : Dyn) (p n : Nat) : (d.issued p n).bitMem = d.bitMem := rfl
@[simp] theorem Dyn.issued_wordMem (d : Dyn) (p n : Nat) : (d.issued p n).wordMem = d.wordMem := rfl
@[simp] theorem Dyn.issued_timers (d : Dyn) (p n : Nat) : (d.issued p n).timers = d.timers := rfl
@[simp] theorem Dyn.issued_counters (d : Dyn) (p n : Nat) : (d.issued p n).counters = d.counters := rfl
@[simp] theorem Dyn.issued_edges (d : Dyn) (p n : Nat) : (d.issued p n).edges = d.edges := rfl
@[simp] theorem Dyn.issued_outW (d : Dyn) (p n : Nat) : (d.issued p n).outW = d.outW := rfl
@[simp] theorem Dyn.issued_outC (d : Dyn) (p n : Nat) : (d.issued p n).outC = d.outC := rfl
@[simp] theorem Dyn.issued_dig (d : Dyn) (p n m : Nat) : (d.issued p n).dig m = d.dig m := rfl
@[simp] theorem Dyn.issued_queue (d : Dyn) (p n q : Nat) : (d.issued p n).queue q = d.queue q := rfl
@[simp] theorem Dyn.issued_rd (d : Dyn) (p n a : Nat) : (d.issued p n).rd a = d.rd a := rfl
@[simp] theorem Dyn.issued_get (d : Dyn) (p n : Nat) (f : Fld) : (d.issued p n).get f = d.get f := rfl
@[simp] theorem Dyn.issued_flag (d : Dyn) (p n : Nat) (f : Fld) : (d.issued p n).flag f = d.flag f := rfl
@[simp] theorem Dyn.issued_mbit (c : Cfg) (d : Dyn) (p n q i : Nat) :
    Dyn.mbit c (d.issued p n) q i = d.mbit c q i := rfl
@[simp] theorem Dyn.issued_mword (c : Cfg) (d : Dyn) (p n q i : Nat) :
    Dyn.mword c (d.issued p n) q i = d.mword c q i := rfl

/-- The polder that issues: charged, one step taken, no longer past a breakpoint. -/
theorem Dyn.issued_polder (d : Dyn) (p n : Nat) :
    (d.issued p n).polder p =
      { d.polder p with bLogic := (d.polder p).bLogic - n, uLogic := (d.polder p).uLogic + n,
                        steps := (d.polder p).steps.map (· - 1), skipBp := false } := by
  simp only [Dyn.issued, Dyn.counted, Dyn.charge, Dyn.polder_setPolder_same]
  simp only [Dyn.polder, Dyn.setPolder, sget_sput_same]

/-- Another polder. -/
theorem Dyn.issued_polder_ne (d : Dyn) (p n : Nat) {q : Nat} (h : q ≠ p) : (d.issued p n).polder q = d.polder q := by
  simp only [Dyn.issued, Dyn.counted, Dyn.charge, Dyn.polder, Dyn.setPolder, sget_sput_ne h]

@[simp] theorem Dyn.issued_view (d : Dyn) (p n q : Nat) : ((d.issued p n).polder q).view = (d.polder q).view := by
  by_cases h : q = p
  · subst h; simp [Dyn.issued_polder]
  · rw [d.issued_polder_ne p n h]

@[simp] theorem Dyn.issued_viewWord (d : Dyn) (p n q w : Nat) : (d.issued p n).viewWord q w = d.viewWord q w := by
  simp [Dyn.viewWord]

@[simp] theorem Dyn.issued_overlay (d : Dyn) (p n q : Nat) :
    ((d.issued p n).polder q).overlay = (d.polder q).overlay := by
  by_cases h : q = p
  · subst h; simp [Dyn.issued_polder]
  · rw [d.issued_polder_ne p n h]

@[simp] theorem Dyn.issued_current (d : Dyn) (p n q : Nat) :
    ((d.issued p n).polder q).current = (d.polder q).current := by
  by_cases h : q = p
  · subst h; rw [Dyn.issued_polder]; rfl
  · rw [d.issued_polder_ne p n h]

/-- Charging changes no bit operand. -/
@[simp] theorem Dyn.issued_readBit (c : Cfg) (d : Dyn) (p n q : Nat) (o : Opd) :
    (d.issued p n).readBit c q o = d.readBit c q o := by
  cases o <;> simp [Dyn.readBit, Dyn.timer, Dyn.counter]

/-- Charging changes no word operand. -/
@[simp] theorem Dyn.issued_readWord (c : Cfg) (d : Dyn) (p n q : Nat) (o : Opd) :
    (d.issued p n).readWord c q o = d.readWord c q o := by
  cases o <;> simp [Dyn.readWord, Dyn.timer, Dyn.counter, Dyn.konst]

/-- The task that issues is the polder's current one. -/
theorem Issues.current {s : State} {p : BitVec 4} {n k : Nat} {t : TaskCtx} (h : Issues s p n k t) :
    (s.dyn.polder p.toNat).current = some (k, t) := by
  have hr := h.ready
  unfold Dyn.ready at hr
  split at hr
  · simp only [Dyn.able] at hr
    split at hr
    · cases hr
    · split at hr
      · next hc =>
        split at hr
        · cases hr; exact hc
        · cases hr
      · cases hr
  · cases hr

/-- An instruction that issues and ends without a fault. -/
theorem Issues.issue_ok {s : State} {p : BitVec 4} {n k : Nat} {t : TaskCtx} (h : Issues s p n k t)
    {cost : Cfg → Dyn → TaskCtx → Nat} (hc : cost s.cfg s.dyn t = n) {f : Effect} {d' : Dyn} {t' : Option TaskCtx}
    (hf : f s.cfg (s.dyn.issued p.toNat n) p.toNat t = .ok (d', t')) :
    (s.upd fun c d => d.issue c p.toNat (cost c) f) =
      .next (s.withDyn (d'.setPolder p.toNat fun x => x.setTask k t')) := by
  rw [State.upd_eq h.live]
  have hb : (!(s.dyn.polder p.toNat).skipBp && s.dyn.breakAt p.toNat t.pc && s.dyn.mode p.toNat == 2) = false := by
    rcases h.free with h | h | h <;> simp [h]
  have hn : ¬ (s.dyn.polder p.toNat).bLogic < n := Nat.not_lt.2 h.paid
  have hl : ¬ s.cfg.get (F.LGE_SEG_LEN_VALUE p.toNat) ≤ t.pc := Nat.not_le.2 h.inside
  simp only [Dyn.issued] at hf
  simp [Dyn.issue, h.ready, hb, hl, hc, hn, hf, State.withDyn]

/-- An instruction that issues and raises a program fault. -/
theorem Issues.issue_error {s : State} {p : BitVec 4} {n k : Nat} {t : TaskCtx} (h : Issues s p n k t)
    {cost : Cfg → Dyn → TaskCtx → Nat} (hc : cost s.cfg s.dyn t = n) {f : Effect} {code : Nat}
    (hf : f s.cfg (s.dyn.issued p.toNat n) p.toNat t = .error code) :
    (s.upd fun c d => d.issue c p.toNat (cost c) f) =
      .next (s.withDyn ((s.dyn.issued p.toNat n).programFault s.cfg p.toNat k code t.pc)) := by
  rw [State.upd_eq h.live]
  have hb : (!(s.dyn.polder p.toNat).skipBp && s.dyn.breakAt p.toNat t.pc && s.dyn.mode p.toNat == 2) = false := by
    rcases h.free with h | h | h <;> simp [h]
  have hn : ¬ (s.dyn.polder p.toNat).bLogic < n := Nat.not_lt.2 h.paid
  have hl : ¬ s.cfg.get (F.LGE_SEG_LEN_VALUE p.toNat) ≤ t.pc := Nat.not_le.2 h.inside
  simp only [Dyn.issued] at hf
  simp [Dyn.issue, h.ready, hb, hl, hc, hn, hf, State.withDyn, Dyn.issued]

/-- An instruction of fixed cost that issues and ends without a fault. -/
theorem Issues.logic_ok {s : State} {p : BitVec 4} {n k : Nat} {t : TaskCtx} (h : Issues s p n k t) {f : Effect}
    (g : Dyn → Dyn) {t' : Option TaskCtx}
    (hf : f s.cfg (s.dyn.issued p.toNat n) p.toNat t = .ok (g (s.dyn.issued p.toNat n), t')) :
    logic p n f s = .next (s.ran p n k g t') := h.issue_ok (cost := fun _ _ _ => n) rfl hf

/-- An instruction of fixed cost that issues and raises a program fault. -/
theorem Issues.logic_error {s : State} {p : BitVec 4} {n k : Nat} {t : TaskCtx} (h : Issues s p n k t) {f : Effect}
    {code : Nat} (hf : f s.cfg (s.dyn.issued p.toNat n) p.toNat t = .error code) :
    logic p n f s = .next (s.withDyn ((s.dyn.issued p.toNat n).programFault s.cfg p.toNat k code t.pc)) :=
  h.issue_error (cost := fun _ _ _ => n) rfl hf

/-- The words of a parameter block, charged or not. -/
theorem State.issued_blockWord (s : State) (p : BitVec 4) (t : TaskCtx) {n m i : Nat} (h : i < m) :
    ((s.dyn.issued p.toNat n).block s.cfg p.toNat t.wa.toInt.toNat m).getD i 0 = s.blockWord p t i := by
  simp [Dyn.block, State.blockWord, h]

/-- A service whose block lies within the window, by its answer (R150). -/
theorem Issues.service {s : State} {p : BitVec 4} {n k : Nat} {t : TaskCtx} (h : Issues s p n k t) {q m : Nat}
    {f : Service} (hs : serviceOf q = some (m, f)) (hc : sysCost q s.cfg s.dyn p.toNat t = n)
    (hb : m = 0 ∨ BlockAt s p t m) (g : Dyn → Dyn) {r : Except Nat Word}
    (hf : f s.cfg (s.dyn.issued p.toNat n) p.toNat k t.wa t.wa.toInt.toNat
      ((s.dyn.issued p.toNat n).block s.cfg p.toNat t.wa.toInt.toNat m) = (g (s.dyn.issued p.toNat n), r)) :
    sysCall p q s = .next (match r with
      | .ok w => s.served p n k t g w
      | .error e => s.ran p n k g (some { t with la := false, wa := BitVec.ofNat 32 e, pc := t.pc + 1 })) := by
  have hw : (decide (m ≠ 0) && !s.cfg.inWindow p.toNat t.wa.toInt m) = false := by
    rcases hb with hb | hb
    · simp [hb]
    · unfold BlockAt at hb; simp [hb]
  have he : serve m f s.cfg (s.dyn.issued p.toNat n) p.toNat t = (match r with
      | .ok w => .ok (g (s.dyn.issued p.toNat n), some { t with la := true, wa := w, pc := t.pc + 1 })
      | .error e => .ok (g (s.dyn.issued p.toNat n),
          some { t with la := false, wa := BitVec.ofNat 32 e, pc := t.pc + 1 })) := by
    simp only [serve, Dyn.issued_current, h.current, Option.map_some, Option.getD_some, hw, hf]
    cases r <;> rfl
  have hx : sysEffect q = serve m f := by
    funext c d p t
    simp only [sysEffect, hs]
  unfold sysCall
  rw [hx]
  cases r <;>
    exact h.issue_ok (cost := fun c d t => sysCost q c d p.toNat t) hc he

/-- A service whose block lies outside the window (R150). -/
theorem Issues.service_outside {s : State} {p : BitVec 4} {n k : Nat} {t : TaskCtx} (h : Issues s p n k t) {q m : Nat}
    {f : Service} (hs : serviceOf q = some (m, f)) (hc : sysCost q s.cfg s.dyn p.toNat t = n) (hm : m ≠ 0)
    (hb : ¬ BlockAt s p t m) : sysCall p q s = .next (s.failed p n k t 6) := by
  have hw : (decide (m ≠ 0) && !s.cfg.inWindow p.toNat t.wa.toInt m) = true := by
    unfold BlockAt at hb; simp [hm, hb]
  have hx : sysEffect q = serve m f := by
    funext c d p t
    simp only [sysEffect, hs]
  unfold sysCall
  rw [hx]
  refine h.issue_ok (cost := fun c d t => sysCost q c d p.toNat t) hc ?_
  simp only [serve, hw]
  rfl

/-! Events that fall due. -/

/-- An event that falls due happens at its instant. -/
theorem Dyn.whenDue_near {c : Cfg} {d : Dyn} {n : Nat} (h : d.near c n) (f : Dyn → Dyn) :
    d.whenDue c n f = f (d.dueAt n) := by
  unfold Dyn.near at h
  by_cases hn : n ≤ d.now
  · simp [Dyn.whenDue, Dyn.dueAt, hn]
  · unfold Dyn.whenDue Dyn.dueAt
    rw [if_neg hn, if_pos h, if_neg hn]

/-- The same in fabric cycles. -/
theorem Dyn.whenCycle_near {c : Cfg} {d : Dyn} {n : Nat} (h : d.nearCycle c n) (f : Dyn → Dyn) :
    d.whenCycle c n f = f (d.dueCycle n) := by
  by_cases hn : n ≤ d.clk.cycles
  · simp [Dyn.whenCycle, Dyn.dueCycle, hn]
  · unfold Dyn.whenCycle Dyn.dueCycle
    rw [if_neg hn, if_pos (h.resolve_left hn), if_neg hn]

end Sys2Proof.Machine
end

