-- ==== Sys2Proof/WellFormed.lean ====
section
/-! DEFINITION. Well-formed commands: operands that a sender can produce at all. The widths of the operands are part of
`Instr`; what remains is said here. No meaning depends on it: a command that names no channel of the module changes
no channel. -/

namespace Sys2Proof

open Machine

/-- A digital channel, 0–95 (R3). -/
def digitalOk (n : BitVec 7) : Bool := n.toNat < 96

/-- A digital channel group, 0–5 (R11). -/
def groupOk (g : BitVec 3) : Bool := g.toNat < 6

/-- A source line that a command can change (R106): digital 0–95 and comparators 96–159. -/
def sourceOk (src : BitVec 8) : Bool := src.toNat < 160

/-- Channels with a field-side watchdog. -/
def ChannelRef.ok : ChannelRef → Bool
  | .digital n => digitalOk n
  | .analogue _ => true

/-- Couplers. -/
def LinkRef.ok : LinkRef → Bool
  | .digital n => digitalOk n
  | .analogue _ => true

/-- PTP nanoseconds lie within a second (R338). -/
def TimeMsg.ok (m : TimeMsg) : Bool := m.ns < 10 ^ 9

/-- Changed words of a contribution: rising input image addresses (R253). -/
def InputMsg.ok (m : InputMsg) : Bool :=
  decide ((m.words.map (·.1)).Pairwise (· < ·)) && m.words.all (fun e => e.1 < 4100) &&
    match m.part with
    | some (i, n) => decide (i < n)
    | none => true

/-- A CAN frame (R424): a base identifier has 11 bits; a classical frame has no bit rate switch; the data words are those
of its length, none in a remote frame. -/
def Machine.CanFrame.ok (f : CanFrame) : Bool :=
  (f.ide || f.id.toNat < 2048) && (f.fdf || !f.brs) && !(f.fdf && f.remote) && f.data.length ≤ 16

/-- An entry of an event queue: its fields fit the words of R146. -/
def Machine.EvEntry.ok (e : EvEntry) : Bool := e.kind < 256 && e.slot < 16 && e.task < 16 && e.source < 65536

/-- A forwarded item (R256): an aligned register address, a remote station, a stream, a CAN channel. -/
def Machine.RxItem.ok : RxItem → Bool
  | .write _ addr _ => addr % 4 == 0 && addr < 2 ^ 32
  | .input s _ _ _ => s < 32
  | .ack s _ status => s < 32 && status < 256
  | .stream id _ _ => id < 65536
  | .can k _ f _ => k < 4 && f.ok

/-- A directory copy of a key (R30): PEND_STATE and PEND_CAUSE are bytes. -/
def Directory.ok (d : Directory) : Bool := d.pendState < 256 && d.pendCause < 256

/-- A key (R30): a directory copy has at most twelve words. -/
def Key.ok (k : Key) : Bool := decide (k.dir0.length ≤ 12) && decide (k.dir1.length ≤ 12)

/-- A window to load (R454, R456): its numbers fit their registers. -/
def Machine.Window.ok (w : Window) : Bool := w.trigs < 256 && w.cause < 256 && w.hwMajor < 2 ^ 16

/-- A give-up names a cause (R264). -/
def causeOk (cause : BitVec 8) : Bool := cause != 0

/-- PAIR (R251): a role is 0–6. -/
def PairRec.ok (r : PairRec) : Bool := r.role.toNat < 7

/-- The well-formed commands. -/
def Instr.wellFormed : Instr → Bool
  | .powerOnReset _ _ _ => true
  | .bootLock _ => true
  | .keyInserted k => k.ok
  | .updWrite _ _ => true
  | .updDone _ _ => true
  | .verifyPending _ _ => true
  | .requestActivate _ _ => true
  | .cancelActivate _ _ => true
  | .erasePending _ _ => true
  | .provisioningPackage _ => true
  | .serviceAuthorisation _ => true
  | .preWake _ => true
  | .eventSlotBoundary _ => true
  | .eventSlotDispatch _ => true
  | .budgetExhaustion _ _ => true
  | .polderWindowClose _ => true
  | .ld _ _ _ => true
  | .ldn _ _ _ => true
  | .and _ _ _ => true
  | .andn _ _ _ => true
  | .or _ _ _ => true
  | .orn _ _ _ => true
  | .xor _ _ _ => true
  | .not _ _ _ => true
  | .push _ _ _ => true
  | .popa _ _ _ => true
  | .popo _ _ _ => true
  | .st _ _ _ => true
  | .stn _ _ _ => true
  | .set _ _ _ => true
  | .rst _ _ _ => true
  | .edr _ _ _ => true
  | .edf _ _ _ => true
  | .tmr _ _ _ => true
  | .cnt _ _ _ => true
  | .ldw _ _ _ => true
  | .stw _ _ _ => true
  | .ldk _ _ _ => true
  | .add _ _ _ => true
  | .sub _ _ _ => true
  | .mul _ _ _ => true
  | .div _ _ _ => true
  | .andw _ _ _ => true
  | .orw _ _ _ => true
  | .shl _ _ _ => true
  | .shr _ _ _ => true
  | .cmpeq _ _ _ => true
  | .cmpne _ _ _ => true
  | .cmplt _ _ _ => true
  | .cmple _ _ _ => true
  | .cmpgt _ _ _ => true
  | .cmpge _ _ _ => true
  | .min _ _ _ => true
  | .max _ _ _ => true
  | .lim _ _ _ => true
  | .jmp _ _ _ => true
  | .jc _ _ _ => true
  | .jnc _ _ _ => true
  | .call _ _ _ => true
  | .ret _ _ _ => true
  | .endTask _ _ _ => true
  | .illegalOpcode _ _ => true
  | .runPastEnd _ => true
  | .sysInvalid _ _ => true
  | .evqPop _ => true
  | .errInfo _ => true
  | .flags _ => true
  | .qmul _ => true
  | .stx _ => true
  | .budget _ => true
  | .loopWrite _ => true
  | .loopRead _ => true
  | .loopBank _ => true
  | .slvSubmit _ => true
  | .slvRead _ => true
  | .slvCancel _ => true
  | .qSend _ => true
  | .qRecv _ => true
  | .qFill _ => true
  | .chanDiag _ => true
  | .chanTest _ => true
  | .jrnFreeze _ => true
  | .regRead _ => true
  | .regWrite _ => true
  | .calFromPtp _ => true
  | .calToPtp _ => true
  | .breakpointHit _ => true
  | .stepComplete _ => true
  | .runCold _ _ => true
  | .runWarm _ _ => true
  | .stop _ _ => true
  | .hold _ _ => true
  | .step _ _ _ => true
  | .continue_ _ _ => true
  | .bpSet _ _ _ _ => true
  | .bpClr _ _ _ => true
  | .varWrite _ _ => true
  | .kCommit _ _ => true
  | .kCancel _ _ => true
  | .forceSet _ => true
  | .forceClr _ => true
  | .forceClrPolder _ _ => true
  | .loopEvaluation _ => true
  | .sourceChange src _ => sourceOk src
  | .termHoldElapsed _ => true
  | .planeMismatch _ _ => true
  | .arrayBerm _ => true
  | .pair r => r.ok
  | .inputMessage msg => msg.ok
  | .slotMessage _ _ entries => entries.all EvEntry.ok
  | .slotAgreementDeadline _ => true
  | .sigMessage _ _ => true
  | .hardwareFault _ => true
  | .giveupMessage _ cause => causeOk cause
  | .laneSignalLoss _ => true
  | .laneCrcErrors _ _ => true
  | .laneUp _ _ => true
  | .ctrlAck _ _ _ => true
  | .fwd _ _ item => item.ok
  | .xfer _ _ => true
  | .heartbeatReceipt _ => true
  | .join _ => true
  | .handover _ _ _ => true
  | .withdraw _ _ _ => true
  | .clearDiv _ => true
  | .ready _ => true
  | .lockstep _ _ => true
  | .rawEdge n _ _ => digitalOk n
  | .filterConfirm n _ => digitalOk n
  | .chatterCoolDownEnd n => digitalOk n
  | .stuck n => digitalOk n
  | .wireBreakTestEnd n _ _ => digitalOk n
  | .overload n => digitalOk n
  | .thermal n => digitalOk n
  | .retry n => digitalOk n
  | .extDrive n => digitalOk n
  | .reverse n => digitalOk n
  | .openOn n => digitalOk n
  | .openOff n => digitalOk n
  | .drvFail n => digitalOk n
  | .diagnosticClear n _ => digitalOk n
  | .fieldWatchdogExpiry ch => ch.ok
  | .couplerLinkFieldFail ch => ch.ok
  | .couplerLinkLogicFail ch => ch.ok
  | .couplerLinkReturn ch _ => ch.ok
  | .uvWarn g => groupOk g
  | .uvWarnClear g => groupOk g
  | .lockout g => groupOk g
  | .recoveryStart g => groupOk g
  | .channelRelease g => groupOk g
  | .conversionStart _ => true
  | .conversionResult _ _ => true
  | .failDelayExpiry _ => true
  | .comparatorCrossing _ _ _ => true
  | .comparatorConfirm _ _ _ => true
  | .compliance _ => true
  | .open_ _ => true
  | .analogueFlagClear _ _ => true
  | .stageFail _ => true
  | .short _ => true
  | .agLow _ => true
  | .agLockout _ => true
  | .agRestoration _ => true
  | .agLinkFail _ => true
  | .begin_ _ _ _ => true
  | .drive _ _ => true
  | .point _ _ => true
  | .pointRecorded _ _ => true
  | .compute _ => true
  | .calCommit _ => true
  | .abort _ => true
  | .factory _ _ => true
  | .setIncr _ => true
  | .setTime _ => true
  | .adjTime _ => true
  | .compareFire _ => true
  | .tsuCmpTgt _ _ _ => true
  | .tsuCmpArm _ _ => true
  | .capture _ _ => true
  | .timeMessage msg => msg.ok
  | .ptpMessage _ => true
  | .announceReceiptTimeout _ => true
  | .addHour _ => true
  | .subHour _ => true
  | .setCal _ => true
  | .setTaiUtc _ _ => true
  | .clrSwo _ => true
  | .leapSecond _ => true
  | .rtcTrimWrite _ _ => true
  | .inputFrame _ _ _ => true
  | .ackFrame _ _ _ _ => true
  | .streamFrame _ _ _ => true
  | .ackDeadline _ => true
  | .raOpen _ _ _ _ => true
  | .raRead _ _ _ _ => true
  | .raWrite _ _ _ _ => true
  | .raClose _ _ _ _ => true
  | .alarmConnect _ _ => true
  | .alarmHello _ _ _ => true
  | .alarmAck _ _ _ => true
  | .alarmIdle _ => true
  | .alarmTimeout _ => true
  | .arpIcmpRequest _ => true
  | .remoteDiagRead _ => true
  | .portLinkChange _ _ => true
  | .canFrameReceived _ f _ _ => f.ok
  | .canArbitration _ => true
  | .canFrameSent _ => true
  | .arbitrationLost _ => true
  | .canError _ _ _ _ _ => true
  | .busOffRecovery _ => true
  | .recover _ _ => true
  | .cancel _ _ _ => true
  | .clrColl _ _ => true
  | .rxbLock _ _ _ => true
  | .rxbUnlock _ _ _ => true
  | .rxbLockTimeout _ _ => true
  | .dominantTimeout _ => true
  | .freeze _ => true
  | .protect _ => true
  | .unprotect _ => true
  | .erase _ => true
  | .armReplay _ _ => true
  | .disarm _ => true
  | .pauseAt _ _ => true
  | .stepFrame _ => true
  | .resume _ => true
  | .usbWindowLoad w => w.ok
  | .usbWindowReadout _ => true
  | .eccCorrected _ _ _ => true
  | .powerFail _ => true
  | .supplyInputLoss _ _ => true
  | .supplyInputReturn _ _ => true
  | .holdupReady _ => true
  | .railWarn _ _ => true
  | .railFault _ _ => true
  | .clockFailure _ => true
  | .overtemp _ => true
  | .registerWrite _ _ _ => true
  | .readClear _ _ => true
  | .latchingRead _ _ => true
  | .writeOneClear _ _ _ => true
  | .unoccupiedAccess _ _ _ _ _ => true
  | .agLowClear _ => true
  | .raRsp _ _ _ _ _ => true
  | .cellMeasurement _ => true
  | .overtempClear _ => true
  | .railWarnClear _ _ => true
  | .bootWatchdogExpiry => true
  | .frameZeroStart => true
  | .keyRemoved => true
  | .bootCommandComplete => true
  | .jumperRemoved => true
  | .trialBankCommit => true
  | .inputLatch => true
  | .executionOpen => true
  | .executionClose => true
  | .signatureExchange => true
  | .commit => true
  | .doze => true
  | .mramCopyDone => true
  | .testExpired => true
  | .arrayTick => true
  | .solverStep => true
  | .pairWaitExpiry => true
  | .primingFrame => true
  | .agreementDeadline => true
  | .sigDeadline => true
  | .verdict => true
  | .bulkRetry => true
  | .heartbeatLoss => true
  | .timeLockAcquired => true
  | .catchUpFrame => true
  | .verifyComplete => true
  | .joinTimeout => true
  | .calStoreWritten => true
  | .calibrationTimeout => true
  | .ppsOutRise => true
  | .ppsOutFall => true
  | .ftWrap => true
  | .rtcCommandExecution => true
  | .offsetChange => true
  | .rtcRewrite => true
  | .backupSwitchOver => true
  | .timeLost => true
  | .remoteStationCut => true
  | .prpSupervision => true
  | .windowCollectionEnd => true
  | .flashCopyDone => true
  | .journalTruncation => true
  | .checkpointWritten => true
  | .replayFrame => true
  | .uncorrectableRingError => true
  | .pairResend => true
  | .timeSendBeforeFn0 => true

end Sys2Proof
end

