-- ==== Sys2Proof/Tests/Slice0.lean ====
section
/-! SUPPORT. Tests: an ill-formed command for each check of `WellFormed`, a state that meets the hypotheses of each
statement clause by clause, and single steps whose results are worked out from the spec's words. -/

set_option Elab.async false

namespace Sys2Proof.Tests

open Machine

/-! Small states. -/

/-- A register that holds the given fields and nothing else. -/
def reg (fs : List (Fld × Nat)) : Nat × Word :=
  (((fs.head?).map fun e => e.1.addr).getD 0, fs.foldl (fun w e => w.setField e.1.lo e.1.width e.2) 0)

/-- Nothing but the listed registers, after the first commit. -/
def bare (regs : List (Nat × Word)) : Dyn :=
  let d := Dyn.init NonVol.init
  { d with regs := regs, slc := { d.slc with opened := true } }

def mk (lk regs : List (Nat × Word)) (f : Dyn → Dyn := id) : State :=
  { State.reset with cfg := { Cfg.init with lk := lk }, dyn := f (bare regs) }

/-! ## Well-formedness: every check refuses a term. -/

def hdr0 : ShlHdr := ⟨false, true, 0, 1, false, 0, 0⟩
/-- A frame for this unit alone from address 9, with an empty header. -/
def stn0 : StnHdr := ⟨false, 100, none, 0, false, .unit, 1, 9, none, 0x4D44, 1, 0, 0, 1, 0, 0, 0, 0, 0⟩
def frame0 : CanFrame := { ide := false, id := 1, fdf := false, brs := false, esi := false, remote := false, dlc := 1,
                           data := [0xAB] }
def window0 : Window :=
  { valid := true, prot := false, replayable := true, trunc := false, short := false, unitB := false, imported := false,
    armed := false, armArg := 0, trigs := 0, cause := 1, fn0 := 0, tfn := 0, fn1 := 0, stnId := 0, imageId := 0, fwRev := 0,
    hwMajor := 0, tagOk := true, recs := [], ckpts := [], age := 0, copied := 0 }

theorem refuses_digital : Instr.wellFormed (.stuck 96) = false := by decide +kernel
theorem refuses_group : Instr.wellFormed (.uvWarn 6) = false := by decide +kernel
theorem refuses_source : Instr.wellFormed (.sourceChange 160 true) = false := by decide +kernel
theorem refuses_channel : Instr.wellFormed (.fieldWatchdogExpiry (.digital 96)) = false := by decide +kernel
theorem refuses_link : Instr.wellFormed (.couplerLinkFieldFail (.digital 97)) = false := by decide +kernel
theorem refuses_time : Instr.wellFormed (.timeMessage ⟨hdr0, 0, 0, 10 ^ 9, 0, 0, 0, none⟩) = false := by decide +kernel
theorem refuses_input : Instr.wellFormed (.inputMessage ⟨hdr0, none, false, [(2, 0), (1, 0)], none, 0, 3⟩) = false := by decide +kernel
theorem refuses_can : Instr.wellFormed (.canFrameReceived 0 { frame0 with id := 2048 } 0 0) = false := by decide +kernel
theorem refuses_entry : Instr.wellFormed (.slotMessage hdr0 0 [⟨4, 0, 16, 0, 0, 0, 0⟩]) = false := by decide +kernel
theorem refuses_item : Instr.wellFormed (.fwd hdr0 1 (.ack 32 0 0)) = false := by decide +kernel
theorem refuses_cause : Instr.wellFormed (.giveupMessage hdr0 0) = false := by decide +kernel
theorem refuses_pair : Instr.wellFormed (.pair ⟨hdr0, 0, 0, 0, 0, 0, 7⟩) = false := by decide +kernel
theorem refuses_window : Instr.wellFormed (.usbWindowLoad { window0 with cause := 256 }) = false := by decide +kernel
theorem refuses_directory : Directory.ok { active := false, pendState := 256, pendCause := 0, idActive := 0, idPend := 0,
                                           seq := 1 } = false := by decide +kernel
theorem accepts_channel : Instr.wellFormed (.fieldWatchdogExpiry (.digital 95)) = true := by decide +kernel

/-! ## A polder whose task runs -/

/-- Polder 0 configured in class 0, 512 bits and words, 100 words of program, 4 of each timer, counter, edge, constant. -/
def lk0 : List (Nat × Word) :=
  [reg [(F.PLD_CFG_CONFIGURED 0, 1)], reg [(F.PLD_BITWIN_SIZE 0, 2)], reg [(F.PLD_WORDWIN_SIZE 0, 2)],
   reg [(F.LGE_SEG_LEN_VALUE 0, 100)], reg [(F.LGE_TMR_COUNT 0, 4)], reg [(F.LGE_CNT_COUNT 0, 4)],
   reg [(F.LGE_EDGE_COUNT 0, 4)], reg [(F.LGE_CTRL_KSIZE 0, 4)]]

/-- RUN, phase EXECUTE, polder 0 in RUN. -/
def regs0 : List (Nat × Word) :=
  [reg [(F.SLC_STATUS_PHASE, 2)], reg [(F.MOD_STATE_STATE, 1)], reg [(F.PLD_STATE_STATE 0, 2)]]

/-- The cyclic task with context `t`, and what `f` adds. -/
def task (t : TaskCtx) (lk : List (Nat × Word) := []) (regs : List (Nat × Word) := []) (f : Dyn → Dyn := id) (k : Nat := 0) :
    State :=
  mk (lk ++ lk0) (regs ++ regs0) fun d => f { d with pol := [(0, { Polder.init with tasks := [(k, t)], bLogic := 1000 })] }

def ctx : TaskCtx := ⟨true, 5, [], [], 7⟩

theorem issues {s : State} {p : BitVec 4} {n k : Nat} {t : TaskCtx}
    (h : Live s ∧ s.dyn.ready s.cfg p.toNat = some (k, t) ∧ t.pc < s.cfg.get (F.LGE_SEG_LEN_VALUE p.toNat) ∧
      s.dyn.breakAt p.toNat t.pc = false ∧ n ≤ (s.dyn.polder p.toNat).bLogic) : Issues s p n k t :=
  ⟨h.1, h.2.1, h.2.2.1, .inr (.inr h.2.2.2.1), h.2.2.2.2⟩

theorem issuesCtx : ∀ n ∈ [1, 2, 3, 4, 12, 18, 40], Issues (task ctx) 0 n 0 ctx :=
  fun n h => issues (by revert n; decide +kernel)

/-! ## Witnesses of the hypotheses -/

/-! Logic engine. -/

theorem wit_BitReadsSetLa : bitForm 0 9 = .ok (.mem 9) ∧ (task ctx).dyn.readBit (task ctx).cfg 0 (.mem 9) = .ok false :=
  by decide +kernel

def full : TaskCtx := { ctx with stack := List.replicate 16 true }
def one : TaskCtx := { ctx with stack := [true], calls := [9] }
theorem wit_StackInstructions_room : ctx.stack.length < 16 ∧ ctx.stack = [] := by decide
theorem wit_StackInstructions_full : Issues (task full) 0 1 0 full ∧ 16 ≤ full.stack.length :=
  ⟨issues (by decide +kernel), by decide⟩
theorem wit_StackInstructions_one : Issues (task one) 0 2 0 one ∧ Issues (task one) 0 1 0 one ∧ one.stack = [true] :=
  ⟨issues (by decide +kernel),
   issues (by decide +kernel), rfl⟩

theorem wit_BitStores_mem : (511#24).toNat < (task ctx).cfg.bits 0 := by decide +kernel
/-- Digital output 5 belongs to polder 0. -/
def lkOut : List (Nat × Word) := [reg [(F.DIO_CFG_OWNED 5, 1), (F.DIO_CFG_OWNER 5, 0)]]
theorem wit_BitStores_out : Issues (task ctx lkOut) 0 1 0 ctx ∧ (task ctx lkOut).cfg.outRes 5 = (true, some 0) ∧
    (task ctx lkOut).cfg.loopBound 0 = false :=
  ⟨issues (by decide +kernel),
   by decide +kernel, by decide +kernel⟩
theorem wit_BitStores_denied : ((task ctx).cfg.outRes 131071).2 ≠ some 0 := by decide +kernel

theorem wit_EdgesDetect : edgeForm 3 (2 * 2 ^ 22 + 3) = .ok 3 ∧ 3 < (task ctx).cfg.get (F.LGE_EDGE_COUNT 0) ∧
    edgeForm 3 (2 * 2 ^ 22 + 4) = .ok 4 ∧ (task ctx).cfg.get (F.LGE_EDGE_COUNT 0) ≤ 4 := by decide +kernel

theorem wit_TimersEvaluate : ∀ f < 3, let a := f * 2 ^ 20 + 2 * 2 ^ 18 + 3
    af a 23 22 = 0 ∧ af a 21 20 = f ∧ af a 19 18 ≠ 3 ∧ af a 17 10 = 0 ∧
      af a 9 0 < (task ctx).cfg.get (F.LGE_TMR_COUNT 0) := by decide +kernel
theorem wit_CountersEvaluate : ∀ f < 4, let a := 2 ^ 22 + f * 2 ^ 20 + 3
    af a 23 22 = 1 ∧ af a 21 20 = f ∧ af a 19 10 = 0 ∧ af a 9 0 < (task ctx).cfg.get (F.LGE_CNT_COUNT 0) := by decide +kernel

theorem wit_WordMoves_load : loadForm 0 (2 ^ 23 + 9) = .ok (.mem 9, true) ∧
    (task ctx).dyn.readWord (task ctx).cfg 0 ((Opd.mem 9).move 5) = .ok 0 := by decide +kernel
theorem wit_WordMoves_const : ((0 : Nat) : Int) + { ctx with wa := 3 }.wa.toInt = (3 : Nat) ∧
    3 < (task ctx).cfg.get (F.LGE_CTRL_KSIZE 0) ∧ Issues (task { ctx with wa := 3 }) 0 1 0 { ctx with wa := 3 } :=
  ⟨by decide, by decide +kernel,
   issues (by decide +kernel)⟩
theorem wit_WordMoves_mem : 511 < 2 ^ 18 ∧ 511 < (task ctx).cfg.words 0 := by decide +kernel
/-- Analogue output 31 belongs to polder 0. -/
def lkAo : List (Nat × Word) :=
  [reg [(F.AIO_CFG_MODE 31, 2), (F.AIO_CFG_OWNED 31, 1), (F.AIO_CFG_OWNER 31, 0)]]
theorem wit_WordMoves_out : Issues (task ctx lkAo) 0 1 0 ctx ∧ outPacked 0x21F = false ∧
    ((task ctx lkAo).cfg.outRes (32 * 0x21F)).2 = some 0 ∧ (task ctx lkAo).cfg.loopBound 0x21F = false :=
  ⟨issues (by decide +kernel),
   by decide +kernel, by decide +kernel, by decide +kernel⟩
theorem wit_WordMoves_counter : (0x400003#24).toNat = 2 ^ 22 + 3 ∧ 3 < (task ctx).cfg.get (F.LGE_CNT_COUNT 0) := by decide +kernel

theorem wit_WordArithmeticSaturates : wordForm 3 (3 * 2 ^ 22 + 3) = .ok (.konst 3) ∧
    (task ctx).dyn.readWord (task ctx).cfg 0 (.konst 3) = .ok 0 := by decide +kernel
/-- Word 9 of polder 0 holds 2. -/
def two : State := task ctx [] [] fun d => { d with wordMem := [((task ctx).cfg.wordKey 0 9, 2)] }
theorem wit_WordArithmeticSaturates_div : Issues two 0 18 0 ctx ∧ two.dyn.readWord two.cfg 0 (.mem 9) = .ok 2 ∧ (2 : Word) ≠ 0 :=
  ⟨issues (by decide +kernel), by decide +kernel, by decide⟩
theorem wit_WordLogicAndComparisons_lim : limForm 0 9 = .ok (.mem 9) ∧ two.dyn.readWord two.cfg 0 (.mem 9) = .ok 2 ∧
    two.dyn.readWord two.cfg 0 ((Opd.mem 9).move 1) = .ok 0 := by decide +kernel
theorem wit_WordLogicAndComparisons_shift : (31#24).toNat < 32 ∧ (63#24).toNat = 32 + 31 := by decide

def low : TaskCtx := { ctx with la := false }
theorem wit_FlowInstructions : Issues (task low) 0 2 0 low ∧ Issues (task low) 0 1 0 low ∧ (99#24).toNat < 2 ^ 19 :=
  ⟨issues (by decide +kernel),
   issues (by decide +kernel), by decide⟩

/-- A budget that covers any charge. -/
def rich : State := task ctx [] [] fun d => d.setPolder 0 fun x => { x with bLogic := 2 ^ 32 }
theorem wit_PolderStops_illegal : effectOf 0xFF000000 = none ∧ Issues rich 0 (costOf 0xFF000000 ctx) 0 ctx :=
  ⟨by decide +kernel, ⟨by decide +kernel, by decide +kernel, by decide +kernel, .inr (by decide +kernel),
    Nat.le_of_lt (Config.freeWord 0xFF000000).isLt⟩⟩
def past : TaskCtx := { ctx with pc := 100 }
theorem wit_PolderStops_end : Live (task past) ∧ (task past).dyn.ready (task past).cfg 0 = some (0, past) ∧
    (task past).cfg.get (F.LGE_SEG_LEN_VALUE 0) ≤ past.pc := by decide +kernel
/-- Polder 1 with a breakpoint at 7. -/
def stopped : State :=
  mk [reg [(F.PLD_CFG_CONFIGURED 1, 1)]]
    [reg [(F.SLC_STATUS_PHASE, 2)], reg [(F.MOD_STATE_STATE, 1)], reg [(F.PLD_STATE_STATE 1, 2)],
     reg [(F.LGE_BP_VALID 15, 1), (F.LGE_BP_POLDER 15, 1), (F.LGE_BP_ADDR 15, 7)]]
    fun d => { d with pol := [(1, { Polder.init with tasks := [(0, ctx)], bLogic := 3 })] }
theorem wit_PolderStops_break : stopped.dyn.ready stopped.cfg 1 = some (0, ctx) ∧ stopped.dyn.mode 1 = 2 ∧
    (stopped.dyn.polder 1).skipBp = false ∧ stopped.dyn.breakAt 1 7 = true := by decide +kernel
theorem wit_PolderStops_budget : stopped.dyn.ready stopped.cfg 1 = some (0, ctx) ∧ (stopped.dyn.polder 1).bLogic < (4#8).toNat := by
  decide +kernel
def stepped : State := mk [] [reg [(F.PLD_STATE_STATE 1, 2)]] fun d =>
  { d with pol := [(1, { Polder.init with steps := some 0 })] }
theorem wit_PolderStops_steps : Live stepped ∧ stepped.dyn.mode 1 = 2 ∧ (stepped.dyn.polder 1).steps = some 0 := by decide +kernel

theorem wit_BitStoreFrame : Issues (task ctx) 0 1 0 ctx ∧ (511#24).toNat < 131072 ∧
    (511#24).toNat < (task ctx).cfg.bits (0#4).toNat ∧ ∃ u, exec (.st 0 0 511) (task ctx) = .next u :=
  ⟨issuesCtx 1 (by decide), by decide, by decide +kernel, _, rfl⟩

/-! System services. -/

/-- Every rights table permits everything. -/
def granting (s : State) : State :=
  { s with cfg := { s.cfg with img := { s.cfg.img with rights := (List.range 64).map fun t => (t, [⟨true, true, 0, 2 ^ 20⟩]) } } }

/-- The words `ws` stand at word 5, where WA of `ctx` points. -/
def svc (ws : List Word) (lk : List (Nat × Word) := []) (f : Dyn → Dyn := id) : State :=
  let s := task ctx lk [] f
  granting (s.withDyn (s.dyn.store s.cfg 0 5 ws))

def outside : TaskCtx := { ctx with wa := -1 }
theorem wit_ServiceBlockOutsideWindow : ∀ n ∈ [3, 4, 12, 40], Issues (task outside) 0 n 0 outside ∧
    ∀ m ∈ [1, 2, 3, 4, 8], ¬ BlockAt (task outside) 0 outside m :=
  fun n h => ⟨issues (by revert n; decide +kernel), by decide +kernel⟩

theorem wit_BasicServices : Issues (svc []) 0 4 0 ctx ∧ Issues (svc []) 0 2 0 ctx ∧ Issues (svc []) 0 3 0 ctx ∧
    Issues (svc []) 0 1 0 ctx ∧ BlockAt (svc []) 0 ctx 4 ∧ BlockAt (svc []) 0 ctx 2 ∧ BlockAt (svc []) 0 ctx 3 ∧
    serviceOf (0xFFFF#16).toNat = none :=
  ⟨issues (by decide +kernel), issues (by decide +kernel), issues (by decide +kernel), issues (by decide +kernel),
   by decide +kernel, by decide +kernel, by decide +kernel, rfl⟩

/-- Loop context 127 belongs to polder 0. -/
def loopSvc : State := svc [127, 2, 0x10000] [reg [(F.LPE_CFG_CONFIGURED 127, 1), (F.LPE_CFG_OWNER 127, 0)]]
theorem wit_LoopServices_write : Issues loopSvc 0 4 0 ctx ∧ BlockAt loopSvc 0 ctx 3 ∧ loopSvc.blockWord 0 ctx 0 = 127 ∧
    loopSvc.blockWord 0 ctx 1 = 2 ∧ loopSvc.cfg.ownsLoop 0 127 = true ∧ writableItems.contains 2 = true ∧
    ¬ (bankBase (loopSvc.dyn.loop 127).bankB ≤ 2 ∧ 2 ≤ bankBase (loopSvc.dyn.loop 127).bankB + 4) ∧
    loopSvc.cfg.loopOk 127 2 (fun x => if x = 2 then (0x10000 : Word).toInt else ((loopSvc.dyn.loop 127).latest x).toInt) =
      true :=
  ⟨issues (by decide +kernel), by decide +kernel⟩
theorem wit_LoopServices_other : Issues (svc [126]) 0 4 0 ctx ∧ BlockAt (svc [126]) 0 ctx 3 ∧
    (svc [126]).blockWord 0 ctx 0 = 126 ∧ (svc [126]).cfg.ownsLoop 0 126 = false ∧ (svc [126]).blockWord 0 ctx 1 = 0 :=
  ⟨issues (by decide +kernel), by decide +kernel⟩

/-- Solver slot 7 belongs to polder 0. -/
def lkSlv : List (Nat × Word) := [reg [(F.SLV_CFG_CONFIGURED 7, 1), (F.SLV_CFG_OWNER 7, 0)]]
theorem wit_SolverServices_submit : let s := svc [7, 1000] lkSlv
    Issues s 0 12 0 ctx ∧ BlockAt s 0 ctx 2 ∧ s.blockWord 0 ctx 0 = 7 ∧ s.blockWord 0 ctx 1 = 1000 ∧
      s.cfg.ownsSlot 0 7 = true ∧ (s.dyn.slot 7).job.busy = false ∧ Issues s 0 4 0 ctx :=
  ⟨issues (by decide +kernel), by decide +kernel, by decide +kernel, by decide +kernel, by decide +kernel,
   by decide +kernel, issues (by decide +kernel)⟩
theorem wit_SolverServices_read : let s := svc [7, 7, 1, 511] lkSlv
    Issues s 0 9 0 ctx ∧ BlockAt s 0 ctx 4 ∧ s.blockWord 0 ctx 2 = 1 ∧ s.cfg.slvUsed 7 = true ∧
      s.cfg.inClass 0 (32 * (0x284 + 7)) = 1 ∧ 7 + 1 ≤ s.cfg.recLen 7 ∧ s.blockWord 0 ctx 3 = 511 ∧
      s.cfg.inWindow 0 (511 : Word).toInt 1 = true :=
  ⟨issues (by decide +kernel), by decide +kernel⟩

/-- Queue 127 belongs to polder 0: `depth` entries of 64 words, of the kind and direction given. -/
def lkQueue (kind dir depth : Nat) : List (Nat × Word) :=
  [reg [(F.HQ_CFG_TKIND 127, kind), (F.HQ_CFG_DIR 127, dir), (F.HQ_CFG_OWNER 127, 0)],
   reg [(F.HQ_SIZE_DEPTH 127, depth), (F.HQ_SIZE_EWORDS 127, 63)]]
theorem wit_QueueServices_send : let s := svc [127, 64, 448] (lkQueue 1 0 1)
    Issues s 0 22 0 ctx ∧ Issues s 0 3 0 ctx ∧ s.cfg.queueUsed 127 = true ∧ s.cfg.qOwner 127 = 0 ∧ BlockAt s 0 ctx 3 ∧
      s.blockWord 0 ctx 0 = 127 ∧ s.blockWord 0 ctx 1 = 64 ∧ 64 ≤ s.cfg.qWords 127 ∧ s.blockWord 0 ctx 2 = 448 ∧
      s.cfg.inWindow 0 (448 : Word).toInt 64 = true ∧ s.cfg.qReceive 127 = false ∧ s.cfg.qKind 127 = 1 ∧
      (s.dyn.queue 127).total < s.cfg.qDepth 127 :=
  ⟨issues (by decide +kernel), issues (by decide +kernel), by decide +kernel⟩
/-- One message waits in queue 127. -/
def oneWaits (d : Dyn) : Dyn := d.setQueue 127 fun x => { x with pend := [⟨0, [1]⟩], done := [⟨0, [1]⟩] }
theorem wit_QueueServices_full : let s := svc [127, 1, 448] (lkQueue 1 0 1) oneWaits
    Issues s 0 7 0 ctx ∧ s.blockWord 0 ctx 1 = 1 ∧ s.cfg.qDepth 127 ≤ (s.dyn.queue 127).total ∧
      s.cfg.flag (F.HQ_CFG_POLICY 127) = false := ⟨issues (by decide +kernel), by decide +kernel⟩
theorem wit_QueueServices_receive : let s := svc [127, 1, 511] (lkQueue 1 1 1) oneWaits
    Issues s 0 7 0 ctx ∧ s.cfg.queueUsed 127 = true ∧ BlockAt s 0 ctx 3 ∧ s.cfg.inWindow 0 (511 : Word).toInt 1 = true ∧
      s.cfg.qReceive 127 = true ∧ (s.dyn.queue 127).done = [⟨0, [1]⟩] ∧ 0 ≤ (s.dyn.polder 0).viewSeq :=
  ⟨issues (by decide +kernel), by decide +kernel⟩
theorem wit_QueueServices_empty : let s := svc [127, 1, 511] (lkQueue 1 1 1)
    s.cfg.qReceive 127 = true ∧ (s.dyn.queue 127).done = [] := by decide +kernel

/-- Digital input 95 belongs to polder 0, with the wire-break test. -/
def lkIn : List (Nat × Word) := [reg [(F.DIO_CFG_OWNED 95, 1), (F.DIO_CFG_OWNER 95, 0), (F.DIO_CFG_WB_EN 95, 1)]]
theorem wit_ChannelAndRegisterServices_diag : let s := svc [0, 95] lkIn
    Issues s 0 4 0 ctx ∧ BlockAt s 0 ctx 2 ∧ s.blockWord 0 ctx 0 = 0 ∧ s.blockWord 0 ctx 1 = 95 ∧
      s.cfg.inClass 0 (32 * (8 + 95)) = 1 := ⟨issues (by decide +kernel), by decide +kernel⟩
theorem wit_ChannelAndRegisterServices_test : let s := svc [95] lkIn
    Issues s 0 4 0 ctx ∧ BlockAt s 0 ctx 1 ∧ s.blockWord 0 ctx 0 = 95 ∧ s.cfg.digOwner 95 = some 0 ∧
      s.cfg.isOut 95 = false ∧ s.cfg.flag (F.DIO_CFG_WB_EN 95) = true := ⟨issues (by decide +kernel), by decide +kernel⟩
theorem wit_ChannelAndRegisterServices_freeze : let s := svc [65535]
    Issues s 0 4 0 ctx ∧ BlockAt s 0 ctx 1 ∧ s.blockWord 0 ctx 0 = 65535 := ⟨issues (by decide +kernel), by decide +kernel⟩
theorem wit_ChannelAndRegisterServices_read : let x := Reg.DIO_CFG 95; let s := svc [BitVec.ofNat 32 x]
    Issues s 0 4 0 ctx ∧ BlockAt s 0 ctx 2 ∧ (s.blockWord 0 ctx 0).toNat = x ∧ x % 4 = 0 ∧
      s.cfg.granted (0#4).toNat x false = true ∧ isLk x = true ∧ p0Register x = false ∧ latchedWord x = none :=
  ⟨issues (by decide +kernel), by decide +kernel⟩
theorem wit_ChannelAndRegisterServices_write : let x := Reg.LVE_P0F; let s := svc [BitVec.ofNat 32 x, 1]
    Issues s 0 4 0 ctx ∧ BlockAt s 0 ctx 2 ∧ (s.blockWord 0 ctx 0).toNat = x ∧ x % 4 = 0 ∧
      s.cfg.granted (0#4).toNat x true = true ∧ p0Register x = true :=
  ⟨issues (by decide +kernel), by decide +kernel⟩

/-- The view shows PTP second 1000000000 (2001-09-09), and the block 2199-12-31 23:59:59. -/
def calSvc : State :=
  svc [2199, 12, 31, 23, 59, 59, 0, 0] [] fun d => d.setPolder 0 fun x => { x with view := [(0x252, 1000000000)] }
def okIs (x : Except Nat Int) (v : Int) : Bool := match x with | .ok w => w == v | .error _ => false
def errIs (x : Except Nat Int) (v : Nat) : Bool := match x with | .ok _ => false | .error w => w == v
theorem wit_CalendarServices : Issues calSvc 0 40 0 ctx ∧ BlockAt calSvc 0 ctx 8 ∧
    okIs (calRange (utcOfPtp (calSvc.dyn.viewWord 0 0x1000)
      ((calSvc.dyn.viewWord 0 0x252).toNat + (calSvc.dyn.viewWord 0 0x253).field 0 16 * 2 ^ 32) + 0)) 53315200 = true ∧
    okIs (CalTime.mk 2199 12 31 23 59 59).toSeconds 6311433599 = true ∧ okIs (calRange (6311433599 - 0)) 6311433599 = true ∧
    calSvc.blockWord 0 ctx 7 = 0 :=
  ⟨issues (by decide +kernel), by decide +kernel⟩
theorem wit_CalendarServices_before2000 : Issues (svc []) 0 40 0 ctx ∧ errIs (calRange (utcOfPtp 0 0 + 0)) 7 = true :=
  ⟨issues (by decide +kernel), by decide +kernel⟩

/-! The block, and command registers. -/

/-- A module with the given registers, on which client 15 may do everything. -/
def mod (regs : List (Fld × Nat)) (lk : List (Nat × Word) := []) (f : Dyn → Dyn := id) : State :=
  granting (mk lk [] fun d => f (regs.foldl (fun d e => d.put e.1 e.2) d))

theorem wit_StepRunsFrontCommand : ({ State.reset with pending := [.commit, .doze] } : State).pending = .commit :: [.doze] := rfl
theorem wit_EmptyQueueIsOneCycle : State.reset.pending = [] ∧ Live State.reset ∧
    State.reset.dyn.flag F.TSU_STATUS_DEEP = false := by decide +kernel
theorem wit_HeldModuleIsInert : (mod [] [] fun d => { d with boot := { d.boot with held := true } }).dyn.boot.held = true := by
  decide +kernel
/-- A locked module with one LK register set, and a command waiting. -/
def lockedMod : State :=
  { mk [(0x20000, 1)] [] with cfg := { Cfg.init with locked := true, lk := [(0x20000, 1)] }, pending := [.doze] }
theorem wit_LockedConfigurationStands : lockedMod.cfg.locked = true ∧ ¬ ResetNext lockedMod ∧
    ∃ t, Machine.step lockedMod = .next t := ⟨rfl, by rintro ⟨_, _, _, _, h⟩; simp [lockedMod] at h, _, rfl⟩
theorem wit_SafeKept : Safe lockedMod ∧ ∃ t, Machine.step lockedMod = .next t := by
  refine ⟨⟨by decide +kernel, ?_, ?_⟩, _, rfl⟩
  · intro e he; have : e = (0x20000, 1) := by simpa [lockedMod] using he
    subst this; decide +kernel
  · intro e he r hr; have : e = (0x20000, 1) := by simpa [lockedMod] using he
    subst this
    have : ∀ x, regRow 0x20000 = some x → (1 : Word) &&& ~~~x.mask = 0 := by
      have h : (regRow 0x20000).all (fun x => (1 : Word) &&& ~~~x.mask == 0) = true := by decide +kernel
      intro x hx; rw [hx] at h; simpa using h
    exact this r hr

theorem wit_LogicEngineCommands : Live (mod []) ∧ MayWrite (mod []) (.client 15) Reg.LGE_CMD ∧
    (mod []).dyn.get F.LGE_CMD_STAT_STATUS ≠ 1 := by decide +kernel
theorem wit_LogicEngineCommands_pending : let s := mod [(F.LGE_CMD_STAT_STATUS, 1)]
    Live s ∧ MayWrite s (.polder 15) Reg.LGE_CMD ∧ s.dyn.get F.LGE_CMD_STAT_STATUS = 1 := by decide +kernel
theorem wit_ProgramLifeAndTwinCommands : let s := mod []
    Live s ∧ MayWrite s (.client 15) Reg.STN_PL_CMD ∧ s.dyn.get F.STN_PL_STAT_STATUS ≠ 1 ∧
      MayWrite s (.client 15) Reg.STN_TWIN_CMD ∧ s.dyn.get F.STN_TWIN_STAT_STATUS ≠ 1 ∧ s.dyn.agreeing = false := by
  decide +kernel

/-- A usable key whose one valid directory copy has the pending slot in `pend`. -/
def keyIn (pend : Nat) : Key :=
  { sfdp := some ⟨true, true, 256⟩, serial := 1, dir0 := Directory.words ⟨1, false, pend, 0, 0, 0⟩, dir1 := [],
    slot0 := ⟨none, []⟩, slot1 := ⟨none, []⟩ }
def key0 : Key := keyIn 0
/-- A running module with a key and the given registers. -/
def served (regs : List (Fld × Nat)) (key : Option Key) (f : Dyn → Dyn := id) : State :=
  mod regs [] fun d => f { d with boot := { d.boot with stage := .running }, nv := { d.nv with key := key } }
theorem wit_UpdateCommandsRun_accepted : let s := served [] (some key0)
    Live s ∧ MayWrite s (.client 15) Reg.BOOT_CMD ∧ s.dyn.bootServed = true ∧ s.dyn.bootBusy = false ∧
      s.dyn.keyUsable.isSome = true ∧ s.dyn.bootAllowed 1 false = true ∧ s.dyn.bootAllowed 6 true = true := by
  decide +kernel
theorem wit_UpdateCommandsRun_refused : let s := served [] (some key0)
    s.dyn.bootAllowed 2 false = false ∧ s.dyn.bootAllowed 5 true = false := by decide +kernel
theorem wit_UpdateCommandsRun_keyLost : let s := served [] none
    Live s ∧ MayWrite s (.client 15) Reg.BOOT_CMD ∧ s.dyn.bootServed = true ∧ s.dyn.bootBusy = false ∧
      s.dyn.keyUsable = none := by decide +kernel
theorem wit_UpdateCommandsComplete_noKey :
    let s := served [(F.BOOT_CMD_STAT_STATUS, 1), (F.BOOT_CMD_STAT_LAST, 6)] none
    Live s ∧ s.dyn.bootBusy = true ∧ s.dyn.boot.target = false ∧ s.dyn.keyUsable = none := by decide +kernel
theorem wit_UpdateCommandsComplete_key : ∀ code ∈ [1, 2, 3, 4, 5, 6],
    let s := served [(F.BOOT_CMD_STAT_STATUS, 1), (F.BOOT_CMD_STAT_LAST, code)] (some key0)
    Live s ∧ s.dyn.bootBusy = true ∧ s.dyn.boot.target = false ∧ s.dyn.keyUsable = some key0 ∧
      s.dyn.get F.BOOT_CMD_STAT_LAST = code := by decide +kernel
theorem wit_UpdateCommandsComplete_bank : ∀ code ∈ [1, 2, 3, 6],
    let s := served [(F.BOOT_CMD_STAT_STATUS, 1), (F.BOOT_CMD_STAT_LAST, code)] none
      fun d => { d with boot := { d.boot with target := true } }
    Live s ∧ s.dyn.bootBusy = true ∧ s.dyn.boot.target = true ∧ s.dyn.get F.BOOT_CMD_STAT_LAST = code := by decide +kernel

/-- Channel 31 is an analogue output, channel 0 an input. -/
def lkAna : List (Nat × Word) := [reg [(F.AIO_CFG_MODE 31, 2)], reg [(F.AIO_CFG_MODE 0, 1)]]
def calMod (regs : List (Fld × Nat)) (f : Cal → Cal := id) : State :=
  mod regs lkAna fun d => { d with cal := f d.cal }
theorem wit_CalibrationCommands_busy : let s := calMod [(F.AIO_CAL_STAT_STATUS, 1)]
    Live s ∧ MayWrite s (.client 15) Reg.AIO_CAL_CMD ∧ s.dyn.get F.AIO_CAL_STAT_STATUS = 1 := by decide +kernel
theorem wit_CalibrationCommands_begin : let s := calMod []
    Live s ∧ MayWrite s (.client 15) Reg.AIO_CAL_CMD ∧ s.dyn.get F.AIO_CAL_STAT_STATUS ≠ 1 ∧
      s.dyn.flag F.AIO_CAL_STAT_ACTIVE = false ∧ s.cfg.anaMode 31 ≠ 0 ∧ s.cfg.anaMode 0 = 1 := by decide +kernel
theorem wit_CalibrationCommands_active :
    let s := calMod [(F.AIO_CAL_STAT_ACTIVE, 1), (F.AIO_CAL_STAT_CHAN, 31)]
      fun k => { k with external := true, computed := true }
    s.dyn.get F.AIO_CAL_STAT_STATUS ≠ 1 ∧ s.dyn.flag F.AIO_CAL_STAT_ACTIVE = true ∧ s.dyn.cal.external = true ∧
      s.cfg.anaMode (s.dyn.get F.AIO_CAL_STAT_CHAN) = 2 ∧ s.dyn.cal.computed = true ∧ (2#2).toNat < 3 := by decide +kernel
theorem wit_CalibrationCommands_inputStage : (0 : BitVec 2).toNat < 2 ∧ (1 : BitVec 2).toNat < 2 := by decide
theorem wit_CalibrationCompletes : ∀ code ∈ [3, 5], let s := calMod [(F.AIO_CAL_STAT_STATUS, 1)] fun k => { k with busy := code }
    Live s ∧ s.dyn.get F.AIO_CAL_STAT_STATUS = 1 ∧ s.dyn.cal.busy = code ∧
      s.dyn.near s.cfg (s.dyn.cal.busyAt + 6400000) := by decide +kernel
theorem wit_CalibrationCompletes_compute :
    let s := calMod [(F.AIO_CAL_STAT_ACTIVE, 1)] fun k => { k with points := [(0, 0, 0), (1, 655360, 655360)] }
    Live s ∧ MayWrite s (.client 15) Reg.AIO_CAL_CMD ∧ s.dyn.get F.AIO_CAL_STAT_STATUS ≠ 1 ∧
      s.dyn.flag F.AIO_CAL_STAT_ACTIVE = true ∧ s.dyn.cal.external = false ∧
      s.dyn.cal.points = [(0, 0, 0), (1, 655360, 655360)] := by decide +kernel
theorem wit_CalibrationCompletes_timeout :
    let s := mod [(F.AIO_CAL_STAT_ACTIVE, 1)] [] fun d => { d with clk := { d.clk with ft := 600 * 10 ^ 9 * 2 ^ 24 } }
    Live s ∧ s.dyn.flag F.AIO_CAL_STAT_ACTIVE = true ∧ s.dyn.near s.cfg (s.dyn.cal.lastCmd + 600 * 10 ^ 9) := by decide +kernel

theorem wit_TimeCommands : let s := mod [] [reg [(F.TSU_CFG_SERVO, 1)]]
    Live s ∧ MayWrite s (.client 15) Reg.TSU_CMD ∧ s.cfg.flag F.TSU_CFG_SERVO = true ∧ s.dyn.follower = false ∧
      s.dyn.timeMaster s.cfg = false ∧ s.dyn.tsu.apply = none ∧ MayWrite s (.client 15) (Reg.TSU_CMP_TGT (31#5).toNat) ∧
      MayWrite s (.client 15) (Reg.TSU_CMP_ARM (31#5).toNat) := by decide +kernel
theorem wit_RtcAndJournalCommands_rtc : let s := mod []
    Live s ∧ MayWrite s (.client 15) Reg.RTC_CMD ∧ s.dyn.rtc.cmd = none ∧ s.dyn.rtc.hour = none ∧
      MayWrite s (.client 15) Reg.RTC_TRIM := by decide +kernel
theorem wit_RtcAndJournalCommands_window :
    let s := mod [(F.JRN_WIN_SEL_WIN, 15)] [] fun d => { d with nv := { d.nv with windows := [(15, some window0)] } }
    Live s ∧ MayWrite s (.client 15) Reg.JRN_CMD ∧ s.dyn.modState ≠ 4 ∧ s.dyn.get F.JRN_WIN_SEL_WIN = 15 ∧
      s.dyn.window 15 = some window0 ∧ ∀ j < 16, (s.dyn.window j).all (fun x => !x.armed) = true := by decide +kernel
theorem wit_RtcAndJournalCommands_replay : let s := mod [(F.MOD_STATE_STATE, 4), (F.JRN_REPLAY_STATE, 2)]
    Live s ∧ MayWrite s (.client 15) Reg.JRN_CMD ∧ s.dyn.modState = 4 ∧ s.dyn.get F.JRN_REPLAY_STATE = 2 := by
  decide +kernel
theorem wit_CanCommands_recover : let s := mod [(F.CAN_STATUS_STATE 3, 2)] [reg [(F.CAN_CFG_EN 3, 1)]]
    Live s ∧ MayWrite s (.client 15) (Reg.CAN_CMD (3#2).toNat) ∧ s.cfg.canUsed 3 = true ∧ (s.dyn.canOf 3).held = none ∧
      s.dyn.canState 3 = 2 ∧ (s.dyn.canOf 3).counting = false := by decide +kernel
theorem wit_CanCommands_cancel :
    let s := mod [] [reg [(F.CAN_CFG_EN 3, 1)],
      reg [(F.HQ_CFG_TKIND 127, 0), (F.HQ_CFG_DIR 127, 0), (F.HQ_CFG_CANCH 127, 3)], reg [(F.HQ_SIZE_DEPTH 127, 1)]]
    Live s ∧ MayWrite s (.client 15) (Reg.CAN_CMD (3#2).toNat) ∧ s.cfg.canUsed 3 = true ∧
      s.cfg.canQueues.contains 127 = true ∧ s.cfg.get (F.HQ_CFG_CANCH 127) = 3 ∧ s.dyn.onBus s.cfg 127 = false := by
  decide +kernel

/-! Digital and analogue channels. -/

/-- Channel 95 is an output whose driver is on or off. -/
def outMod (on : Bool) (regs : List (Fld × Nat)) : State :=
  mod regs [reg [(F.DIO_CFG_DIR 95, 1)], reg [(F.DIO_OCFG_OPEN_OFF_EN 95, 1)]]
    fun d => { d with outC := if on then [(2, 0x80000000)] else [] }
theorem wit_OutputDiagnostics_off : let s := outMod false []
    Live s ∧ s.cfg.isOut 95 = true ∧ s.dyn.diagOn 95 = true ∧ s.cfg.pairDo 95 = false ∧ s.dyn.driver s.cfg 95 = false ∧
      s.dyn.flag (F.DIO_STATUS_EXT_DRIVE 95) = false ∧ s.cfg.flag (F.DIO_OCFG_OPEN_OFF_EN 95) = true := by decide +kernel
theorem wit_OutputDiagnostics_on : let s := outMod true []
    s.dyn.switchOn s.cfg 95 = true ∧
    Live s ∧ s.cfg.isOut 95 = true ∧ s.dyn.diagOn 95 = true ∧ s.cfg.pairDo 95 = false ∧ s.dyn.driver s.cfg 95 = true ∧
      s.dyn.flag (F.DIO_STATUS_OVERLOAD 95) = false ∧ s.dyn.flag (F.DIO_STATUS_THERMAL 95) = false := by decide +kernel
theorem wit_OutputDiagnostics_retry : ∀ on ∈ [true, false], let s := outMod on [(F.DIO_STATUS_THERMAL 95, 1)]
    Live s ∧ (s.dyn.dueAt ((s.dyn.dig 95).thermalAt + s.cfg.get (F.DIO_OCFG_RETRY_INT 95) * 10 ^ 7)).driver s.cfg 95 = on ∧ s.cfg.isOut 95 = true ∧ s.dyn.flag (F.DIO_STATUS_THERMAL 95) = true ∧
      s.dyn.flag (F.DIO_STATUS_RETRY_LATCHED 95) = false ∧ s.cfg.flag (F.DIO_OCFG_RETRY 95) = false ∧
      s.dyn.near s.cfg ((s.dyn.dig 95).thermalAt + s.cfg.get (F.DIO_OCFG_RETRY_INT 95) * 10 ^ 7) := by decide +kernel

def inMod (regs : List (Fld × Nat)) (lk : List (Nat × Word)) (f : Dio → Dio) (ns : Nat := 0) : State :=
  mod regs lk fun d => { d.setDig 95 f with clk := { d.clk with ft := ns * 2 ^ 24 } }
theorem wit_DigitalInputs_edge : let s := inMod [] [] id
    Live s ∧ (s.dyn.advTo 0 |>.dig 95).raw ≠ true ∧ (s.dyn.advTo 0).held 95 (s.cfg.filterOf 95) 0 = false := by decide +kernel
theorem wit_DigitalInputs_confirm : let s := inMod [] [] (fun x => { x with raw := true }) 490
    Live s ∧ (s.dyn.advTo 490).held 95 (s.cfg.filterOf 95 - 10) 490 = true := by decide +kernel
theorem wit_DigitalInputs_chatter : let s := inMod [(F.DIO_STATUS_CHATTER 95, 1)] [] id
    Live s ∧ s.dyn.flag (F.DIO_STATUS_CHATTER 95) = true ∧ (s.dyn.dig 95).level = (s.dyn.dig 95).coolFrom ∧
      (let due := (s.dyn.dig 95).coolAt + s.cfg.get (F.DIO_CHATCFG_CHAT_COOL 95) * 10 ^ 8
       s.dyn.near s.cfg due ∧
       ((s.dyn.dig 95).changes.filter fun x => due - x ≤ s.cfg.get (F.DIO_CHATCFG_CHAT_WIN 95) * 10 ^ 6).length ≤
        s.cfg.get (F.DIO_CHATCFG_CHAT_N 95)) := by decide +kernel
theorem wit_DigitalInputs_stuck :
    let s := inMod [] [reg [(F.DIO_STUCK_MAX_ACT 95, 1)], reg [(F.DIO_CFG_ACT_LEVEL 95, 1)]] (fun x => { x with level := true })
      (10 ^ 8 + 1)
    Live s ∧ s.cfg.isOut 95 = false ∧ s.cfg.get (F.DIO_STUCK_MAX_ACT 95) * 10 ^ 8 ≠ 0 ∧
      (s.dyn.dig 95).level = s.cfg.flag (F.DIO_CFG_ACT_LEVEL 95) ∧
      s.dyn.near s.cfg ((s.dyn.dig 95).activeAt + s.cfg.get (F.DIO_STUCK_MAX_ACT 95) * 10 ^ 8 + 1) ∧
      s.dyn.flag (F.DIO_STATUS_STUCK 95) = false := by decide +kernel
theorem wit_DigitalInputs_wireBreak : ∀ b ∈ [0, 1],
    let s := inMod [(F.DIO_STATUS_WB_ACTIVE 95, 1), (F.DIO_STATUS_LINK_FAIL 95, b)] [] id
    Live s ∧ s.dyn.flag (F.DIO_STATUS_LINK_FAIL 95) = decide (b = 1) ∧ s.dyn.flag (F.DIO_STATUS_WB_ACTIVE 95) = true ∧ s.cfg.isOut 95 = false ∧
      s.dyn.near s.cfg ((s.dyn.dig 95).wbAt + 2 * 10 ^ 6) := by decide +kernel

theorem wit_FieldSupplyLockout : let lk := [reg [(F.DIO_CFG_DIR 95, 1)]]
    (let s := mod [] lk
     Live s ∧ s.cfg.groupUsed 5 = true ∧ s.dyn.flag (F.DIO_GSTATUS_UV_WARN 5) = false ∧
       s.dyn.flag (F.DIO_GSTATUS_LOCKOUT 5) = false) ∧
    (let s := mod [(F.DIO_GSTATUS_UV_WARN 5, 1), (F.DIO_GSTATUS_LOCKOUT 5, 1), (F.DIO_GSTATUS_RECOVERING 5, 1),
        (F.DIO_STATUS_LOCKOUT 95, 1)] lk
     Live s ∧ s.cfg.groupUsed 5 = true ∧ s.dyn.flag (F.DIO_GSTATUS_UV_WARN 5) = true ∧
       s.dyn.flag (F.DIO_GSTATUS_LOCKOUT 5) = true ∧ s.dyn.flag (F.DIO_GSTATUS_RECOVERING 5) = true ∧
       s.dyn.near s.cfg (sget 0 s.dyn.released 5 + 100000) ∧
       ((members 5).filter fun n => s.dyn.flag (F.DIO_STATUS_LOCKOUT n)) = [95]) := by decide +kernel

theorem wit_WatchdogsAndLinks :
    let s := mod [(F.DIO_STATUS_LINK_FAIL 94, 1), (F.DIO_STATUS_LINK_FAIL 93, 1), (F.AIO_GSTATUS_LINK_FAIL 3, 1)]
      [reg [(F.DIO_CFG_DIR 95, 1)], reg [(F.DIO_CFG_DIR 94, 1)], reg [(F.DIO_CFG_WB_EN 93, 1)], reg [(F.DIO_OCFG_WD_TIMEOUT 95, 1)],
       reg [(F.AIO_CFG_MODE 31, 2)], reg [(F.AIO_OCFG_WD_TIMEOUT 31, 1)]]
      fun d => { (d.setDig 95 fun x => { x with wdOn := true }).setAna 31 fun x => { x with wdOn := true } with
        clk := { d.clk with ft := 98000 * 2 ^ 24 } }
    Live s ∧ s.cfg.isOut 95 = true ∧ (s.dyn.dig 95).wdOn = true ∧
      s.cfg.get (F.DIO_OCFG_WD_TIMEOUT 95) * 98000 ≤ s.dyn.now - (s.dyn.dig 95).wdAt ∧
      s.cfg.anaMode 31 = 2 ∧ (s.dyn.ana 31).wdOn = true ∧
      s.cfg.get (F.AIO_OCFG_WD_TIMEOUT 31) * 98000 ≤ s.dyn.now - (s.dyn.ana 31).wdAt ∧
      s.dyn.flag (F.DIO_STATUS_LINK_FAIL 95) = false ∧ s.dyn.flag (F.DIO_STATUS_LINK_FAIL 94) = true ∧
      s.cfg.isOut 94 = true ∧ s.dyn.flag (F.DIO_STATUS_LINK_FAIL 93) = true ∧ s.cfg.isOut 93 = false ∧
      s.cfg.flag (F.DIO_CFG_WB_EN 93) = true ∧ s.dyn.flag (F.AIO_GSTATUS_LINK_FAIL 3) = true ∧
      s.cfg.anaMode (8 * 3 + 7) ≠ 0 ∧ s.dyn.flag (F.AIO_STATUS_OOS (8 * 3 + 7)) = false ∧
      s.dyn.flag (F.AIO_GSTATUS_LINK_FAIL 2) = false := by decide +kernel

def anaMod (regs : List (Fld × Nat)) (mode : Nat) (f : Aio → Aio := id) (ns : Nat := 0) : State :=
  mod regs [reg [(F.AIO_CFG_MODE 31, mode), (F.AIO_CFG_FAIL_DELAY 31, 1), (F.AIO_CFG_LOOP_PWR 31, 3)], reg [(F.AIO_CMP1_EN 31, 1)]]
    fun d => { d.setAna 31 f with clk := { d.clk with ft := ns * 2 ^ 24 } }
theorem wit_AnalogueInputs_start : let s := anaMod [] 1
    Live s ∧ s.cfg.anaMode 31 ≠ 0 ∧ s.cfg.flag (F.AIO_CFG_TRIG 31) = false ∧ s.cfg.cmpOn 31 true = true := by decide +kernel
theorem wit_AnalogueInputs_result : let s := anaMod [(F.AIO_STATUS_LINK_FAIL 31, 1)] 1 fun x => { x with startAt := some 0, busy := true }
    Live s ∧ (s.dyn.ana 31).startAt = some 0 ∧ (s.dyn.ana 31).busy = true ∧ s.dyn.flag (F.AIO_STATUS_LINK_FAIL 31) = true := by
  decide +kernel
theorem wit_AnalogueInputs_delay : let s := anaMod [] 1 (fun x => { x with region := 1 }) (10 ^ 7)
    Live s ∧ s.cfg.anaMode 31 = 1 ∧ (s.dyn.ana 31).region ≠ 0 ∧
      (let due := (s.dyn.ana 31).regionAt + s.cfg.get (F.AIO_CFG_FAIL_DELAY 31) * 10 ^ 7
       s.dyn.near s.cfg due ∧ due ≤ (s.dyn.dueAt due).now) ∧ s.dyn.flag (F.AIO_STATUS_LINK_FAIL 31) = false ∧
      s.dyn.flag (F.AIO_STATUS_FAIL_LO 31) = false := by decide +kernel
theorem wit_AnalogueInputs_comparator :
    let s := anaMod [(F.AIO_STATUS_LINK_FAIL 31, 1)] 1 (fun x => { x with cross1 := some (true, 0) }) 5000
    Live s ∧ (s.dyn.ana 31).cross true = some (true, 0) ∧ s.dyn.flag (F.AIO_STATUS_LINK_FAIL 31) = true ∧
      cmpFilterNs (s.cfg.get (F.AIO_CMP1_FILTER 31)) ≤ (s.dyn.advTo 5000).now - 0 := by decide +kernel

theorem wit_AnalogueDiagnostics_output : let s := mod [] [reg [(F.AIO_CFG_MODE 31, 2)]] fun d => { d with outC := [(0x21F, 0x10000)] }
    Live s ∧ s.dyn.stageDiag s.cfg 31 = true ∧ s.dyn.flag (F.AIO_STATUS_COMPLIANCE 31) = false ∧
      0x10000 ≤ (s.dyn.stage s.cfg 31).toNat ∧ s.dyn.flag (F.AIO_STATUS_OPEN 31) = false := by decide +kernel
theorem wit_AnalogueDiagnostics_input : let s := anaMod [] 1
    Live s ∧ s.dyn.supplies s.cfg 31 = true ∧ s.dyn.flag (F.AIO_STATUS_LOCKOUT 31) = false ∧ s.cfg.agUsed 3 = true ∧
      s.dyn.flag (F.AIO_GSTATUS_LOCKOUT 3) = false ∧ s.dyn.flag (F.AIO_GSTATUS_LINK_FAIL 3) = false := by decide +kernel
theorem wit_AnalogueDiagnostics_restored : let s := anaMod [(F.AIO_GSTATUS_LOCKOUT 3, 1)] 1
    Live s ∧ s.cfg.agUsed 3 = true ∧ s.dyn.flag (F.AIO_GSTATUS_LOCKOUT 3) = true := by decide +kernel

/-! Start-up, keys, registers, the frame. -/

theorem wit_PowerOnReset_noBank :
    (({ NonVol.init with bank0 := Bank.empty } : NonVol)).romBank.1 = none := by decide +kernel
theorem wit_PowerOnReset_unprovisioned : let nv := State.reset.dyn.nv.romBank
    nv.1.isSome = true ∧ (if nv.2.erasePend then State.reset.dyn.nv.erased else State.reset.dyn.nv).provisioned = false := by
  decide +kernel
theorem wit_PowerOnReset_noKey :
    let s := mod [] [] fun d =>
      { d with nv := { d.nv with stationKey := some 1, imageKey := some 1, verificationKey := some 1 } }
    s.dyn.nv.romBank.1.isSome = true ∧ (if s.dyn.nv.romBank.2.erasePend then s.dyn.nv.erased else s.dyn.nv).provisioned = true ∧
      s.dyn.nv.key = none := by decide +kernel

def staged (b : BootStage) (regs : List (Fld × Nat)) (lk : List (Nat × Word) := []) (f : Dyn → Dyn := id) : State :=
  mod regs lk fun d => f { d with boot := { d.boot with stage := b } }
theorem wit_LockWatchdogAndFrameZero_setup : let s := staged .setup []
    Live s ∧ s.dyn.boot.stage = .setup ∧ s.cfg.locked = false ∧ s.dyn.toReplay = none ∧ (0x4C4F434A : Word) ≠ 0x4C4F434B := by
  decide +kernel
theorem wit_LockWatchdogAndFrameZero_start : let s := staged .locked [(F.MOD_PWR_STATUS_HOLDUP_READY, 1)]
    Live s ∧ s.cfg.twin = false ∧ s.cfg.mayStart s.dyn = true := by decide +kernel
theorem wit_KeyAndServicePort_removed : let s := staged .running [(F.BOOT_STATUS_KEY_PRESENT, 1)]
    Live s ∧ s.dyn.flag F.BOOT_STATUS_KEY_PRESENT = true ∧ (staged .running []).dyn.flag F.BOOT_STATUS_KEY_PRESENT = false := by
  decide +kernel
theorem wit_KeyAndServicePort_authorised :
    let s := staged .service [] [] fun d => { d with nv := { d.nv with jumper := true } }
    Live s ∧ s.dyn.authServed = true ∧ s.dyn.authCause ⟨true, 0, 0, true, true⟩ = none ∧
      s.dyn.authCause ⟨true, 0, 0, true, false⟩ = none ∧ s.dyn.authCause ⟨true, 0, 1, true, true⟩ = some 4 := by decide +kernel
theorem wit_KeyAndServicePort_trial :
    let s := mod [(F.BOOT_STATUS_BANK_TRIAL, 1), (F.MOD_STATE_STATE, 1)] [] fun d => { d with boot := { d.boot with runAt := some 7 } }
    Live s ∧ s.dyn.flag F.BOOT_STATUS_BANK_TRIAL = true ∧ s.dyn.modState = 1 ∧ s.dyn.boot.runAt.isSome = true := by decide +kernel
theorem wit_ProvisioningPackage : let s := staged .service [(F.MOD_STATE_STATE, 5)]
    Live s ∧ s.dyn.modState = 5 ∧ s.dyn.nv.packageOk ⟨s.dyn.nv.devPublic, 7, 1, 2, 7⟩ = true :=
  ⟨by decide +kernel, by decide +kernel, by
    have h : (staged .service [(F.MOD_STATE_STATE, 5)]).dyn.nv.verificationKey = none := by decide +kernel
    simp [NonVol.packageOk, h]⟩

/-- The lock is on; nobody has rights, or client 15 has all. -/
def afterLock (all : Bool) : State :=
  let s := if all then mod [] else mk [] []
  { s with cfg := { s.cfg with locked := true } }
theorem wit_LockedWriteIsCounted : let a := BitVec.ofNat 32 Reg.SLC_PERIOD
    Live (afterLock false) ∧ (afterLock false).cfg.locked = true ∧ (afterLock false).dyn.portServed (.client 15) = true ∧ a.toNat % 4 = 0 ∧ isLk a.toNat = true ∧
      (afterLock false).dyn.mayAccess (afterLock false).cfg (.client 15) a.toNat true = false ∧
      (afterLock true).cfg.locked = true ∧
      (afterLock true).dyn.mayAccess (afterLock true).cfg (.client 15) a.toNat true = true := by decide +kernel
theorem wit_RegisterAccesses_lk : let s := staged .setup []; let a := Reg.SLC_PERIOD
    Live s ∧ a % 4 = 0 ∧ (regRow a).any (fun r => r.acc == .lk) = true ∧ s.cfg.locked = false ∧ s.dyn.boot.stage = .setup ∧
      a ≠ Reg.BOOT_LOCK := by decide +kernel
theorem wit_RegisterAccesses_w1c : let s := mod []; let a := Reg.TSU_STATUS
    Live s ∧ a % 4 = 0 ∧ (regRow a).any (fun r => r.acc == .w1c) = true ∧ MayWrite s (.client 15) a := by decide +kernel
theorem wit_RegisterAccesses_rc : let s := mod []; let a := Reg.MOD_ACC_ERR
    Live s ∧ a % 4 = 0 ∧ (regRow a).any (fun r => r.acc == .rc) = true ∧ MayRead s (.client 15) a ∧
      a < 0xE0000 := by decide +kernel
theorem wit_RegisterAccesses_lt : let s := mod []; let a := Reg.RTC_TICK_LO
    Live s ∧ a % 4 = 0 ∧ (regRow a).any (fun r => r.acc == .lt) = true ∧ MayRead s (.client 15) a := by
  decide +kernel
theorem wit_RegisterAccesses_unoccupied : Live (mod []) ∧ (mod []).dyn.portServed .usb = true ∧ regRow 0xFFFFFFFC = none ∧
    0x10001 % 4 ≠ 0 := by decide +kernel

/-- Frames run, in phase `n`, in RUN. -/
def frame (n : Nat) (regs : List (Fld × Nat) := []) (f : Dyn → Dyn := id) : State :=
  mod ((F.SLC_STATUS_PHASE, n) :: (F.MOD_STATE_STATE, 1) :: regs) [] fun d =>
    f { d with slc := { d.slc with framing := true, first := false }, boot := { d.boot with stage := .running } }
theorem wit_FramePhases : ∀ n ∈ [1, 2, 3, 4, 5], Live (frame n) ∧ (frame n).dyn.slc.framing = true ∧ (frame n).dyn.phase = n ∧
    (frame n).dyn.running = true ∧ (frame n).dyn.role ≠ 4 ∧ (frame n).dyn.twin.nextRole ≠ some 4 ∧
    (frame n).dyn.joining = false := by decide +kernel
theorem wit_FramePhases_fault : ∀ n ∈ [1, 2, 3, 4], let s := frame n [(F.MOD_STATE_STATE, 3)]
    Live s ∧ s.dyn.slc.framing = true ∧ s.dyn.phase = n ∧ s.dyn.running = false := by decide +kernel
theorem wit_FrameInstants : let s := frame 3 [] fun d => { d with life := { d.life with copying := some [] } }
    Live s ∧ s.dyn.slc.framing = true ∧ s.dyn.slc.first = false ∧ s.dyn.phase = 3 ∧ s.dyn.running = true ∧
      s.dyn.life.copying = some [] := by decide +kernel
theorem wit_FrameInstants_slot : let s := frame 2
    Live s ∧ (15#4) ≠ 0 ∧ s.dyn.slc.framing = true ∧ s.dyn.phase = 2 ∧ s.dyn.get F.SLC_STATUS_SLOT < (15#4).toNat ∧
      s.dyn.running = true := by decide +kernel
theorem wit_FrameInstants_alone : let s := frame 1 [] fun d => { d with twin := { d.twin with agreeDue := true } }
    Live s ∧ s.dyn.twin.agreeDue = true ∧ s.dyn.agreeing = false := by decide +kernel
theorem wit_FrameInstants_held :
    let s := frame 1 [(F.SHL_STATUS_LOCKSTEP, 1)] fun d => { d with twin := { d.twin with
      agreeDue := true, primed := true, inputFn := some 0, digestOk := true, timeFn := some 0 } }
    Live s ∧ s.dyn.twin.agreeDue = true ∧ s.dyn.agreeing = true ∧ (s.dyn.advTo (s.dyn.atT 7000)).agreementHeld s.cfg = true ∧
      s.dyn.unitB = false := by
  decide +kernel
theorem wit_FrameInstants_missed :
    let s := frame 1 [(F.SHL_STATUS_LOCKSTEP, 1)] fun d => { d with twin := { d.twin with agreeDue := true } }
    Live s ∧ s.dyn.twin.agreeDue = true ∧ s.dyn.agreeing = true ∧ (s.dyn.advTo (s.dyn.atT 7000)).agreementHeld s.cfg = false := by
  decide +kernel

/-! Time. -/

theorem wit_TimeEvents_compare : let s := staged .running [(F.TSU_CMP_STAT_ARMED 31, 1)] [reg [(F.TSU_CAP_CFG_SRC 15, 1)]]
    Live s ∧ s.dyn.flag (F.TSU_CMP_STAT_ARMED 31) = true ∧ s.dyn.boot.stage = .running ∧
      s.cfg.get (F.TSU_CAP_CFG_SRC 15) = 1 := by decide +kernel
theorem wit_TimeEvents_rise : let s := mod [] [reg [(F.TSU_PPS_CFG_EN, 1)]] fun d => d.wr Reg.TSU_INCR 0x02000000
    let gap := (s.cfg.get F.TSU_PPS_OFS_NS + 10 ^ 9 - s.dyn.ptpNs % 10 ^ 9) % 10 ^ 9
    let d := s.dyn.ticks (s.dyn.cyclesFor gap)
    Live s ∧ s.cfg.flag F.TSU_PPS_CFG_EN = true ∧ s.cfg.flag F.TSU_PPS_CFG_GATE_LOCKED = false ∧
      d.tsu.ppsDone.contains d.clk.sec = false := by decide +kernel
theorem wit_TimeEvents_fall : let s := mod [] [] fun d =>
      { d.wr Reg.TSU_INCR 0x02000000 with tsu := { d.tsu with ppsOut := true } }
    Live s ∧ s.dyn.tsu.ppsOut = true ∧ 0 < (s.dyn.rd Reg.TSU_INCR).toNat ∧ s.dyn.tsu.wraps = 0 := by decide +kernel
theorem wit_TimeEvents_wrapped : let s := mod [] [] fun d => { d with tsu := { d.tsu with wraps := 1 } }
    Live s ∧ s.dyn.tsu.wraps ≠ 0 := by decide +kernel
theorem wit_TimeEvents_timeout :
    let s := mod [(F.TSU_STATUS_PORT, 1)] [] fun d => { d with tsu := { d.tsu with masterB := some (1, 1) } }
    Live s ∧ s.dyn.follower = false ∧ (s.dyn.masterOf true).isSome = true ∧ s.dyn.flag F.TSU_STATUS_PORT = true ∧
      s.dyn.masterOf false = none ∧ s.cfg.flag F.TSU_CFG_SERVO = false := by decide +kernel
theorem wit_TimeEvents_message : let s := mod [] [reg [(F.TSU_CFG_ROLE, 1)]]
    Live s ∧ s.dyn.follower = false ∧ s.dyn.ptpRole s.cfg ≠ 0 := by decide +kernel
theorem wit_TimeEvents_lock :
    let s := mod [(F.TSU_STATUS_TWIN, 2)] [] fun d => { d with tsu := { d.tsu with lockGood := 16 } }
    Live s ∧ s.dyn.get F.TSU_STATUS_TWIN = 2 ∧ 16 ≤ s.dyn.tsu.lockGood ∧ s.dyn.get F.SHL_XFER_STATE ≠ 1 := by decide +kernel
theorem wit_TimeEvents_masterLock :
    let s := mod [(F.SHL_STATUS_ROLE, 2), (F.SHL_XFER_STATE, 1)] [reg [(F.SLC_CTRL_TWIN, 1)]]
    Live s ∧ s.dyn.get F.TSU_STATUS_TWIN ≠ 2 ∧ s.dyn.timeMaster s.cfg = true ∧ s.dyn.get F.SHL_XFER_STATE = 1 := by decide +kernel
theorem wit_RtcEvents_cell : Live (mod []) ∧ (2399#16).toNat < 2400 ∧ 2600 ≤ (2600#16).toNat := by decide +kernel
theorem wit_RtcEvents_command : ∀ code ∈ [1, 2, 4, 5],
    let s := mod [] [] fun d => { d with rtc := { d.rtc with cmd := some (code, 37), hour := some (true, 32768) } }
    Live s ∧ s.dyn.follower = false ∧ s.dyn.rtc.cmd = some (code, 37) ∧ localOfs (s.dyn.rd Reg.RTC_CALSTATE) ≤ 52 ∧
      -52 ≤ localOfs (s.dyn.rd Reg.RTC_CALSTATE) ∧ s.dyn.flag F.RTC_CALSTATE_TAI_SRC = false ∧ s.dyn.rtc.hour = some (true, 32768) := by
  decide +kernel
theorem wit_RtcEvents_rewrite :
    let s := mod [(F.TSU_STATUS_SERVO, 2), (F.RTC_CALSTATE_TAI_SRC, 1)]
      [] fun d => { d with clk := { d.clk with sec := 1000000000 } }
    let diff := (s.dyn.rtcTime : Int) * 10 ^ 9 - s.dyn.utcNs * 32768
    Live s ∧ s.dyn.ptpSync = true ∧ 10 ^ 9 * 16384 < diff.natAbs ∧ s.dyn.servo = 2 ∧
      s.dyn.flag F.RTC_CALSTATE_TAI_SRC = true ∧ s.dyn.follower = false := by decide +kernel
theorem wit_RtcEvents_switch : (mod [(F.RTC_STATUS_SWO_FLAG, 1)]).dyn.flag F.RTC_STATUS_SWO_FLAG = true ∧
    (mod []).dyn.flag F.RTC_STATUS_SWO_FLAG = false := by decide +kernel
theorem wit_RtcLatchedReads : let s := mod []
    Live s ∧ ∀ a ∈ [Reg.RTC_TICK_LO, Reg.RTC_TICK_HI, Reg.RTC_EPOCH_LO, Reg.RTC_EPOCH_HI],
      MayRead s (.client 15) (BitVec.ofNat 32 a).toNat := by decide +kernel

/-! The station network, CAN, the journal, power. -/

/-- Remote station 31 and stream 0x200 are configured, client 15 and server 3 too. -/
def lkNet : List (Nat × Word) :=
  [reg [(F.NET_RS_CFG_EN 31, 1), (F.NET_RS_CFG_IN_LEN 31, 4)], (Reg.NET_RS_ADDR 31, 9), (0xD8000 + 8 * 2047, 0x80000200),
   (Reg.NET_CLIENT 15, 9), (Reg.NET_ALMSRV 3, 9)]
def netMod (regs : List (Fld × Nat) := []) (f : Dyn → Dyn := id) (lk : List (Nat × Word) := lkNet) : State :=
  let s := staged .running regs lk fun d => f { d with nv := { d.nv with stationKey := some 1 } }
  { s with cfg := { s.cfg with img := { s.cfg.img with streams := [⟨0x200, 9, false⟩] } } }
/-- The frame of the given SENDER that carries `b`, at FT 0, with its tag under key 1. -/
def stn (sender : Byte) (b : StnBody) : StnHdr :=
  { stn0 with sender := sender, len := BitVec.ofNat 16 b.payload.length, ip := BitVec.ofNat 16 (b.payload.length + 60),
              tag := stnTag 1 0 sender 0 (b.bytes 0 sender 1 0 0) }
theorem stn_tagOk {d : Dyn} (k : d.nv.stationKey = some 1) (sender : Byte) (b : StnBody) :
    d.tagOk (stn sender b) b = true := by
  have e : (stn sender b).tag = stnTag 1 (stn sender b).stnId (stn sender b).sender (stn sender b).txc
      (b.bytes (stn sender b).stnId (stn sender b).sender (stn sender b).seq (stn sender b).fn (stn sender b).txc) := rfl
  unfold Dyn.tagOk
  rw [k, Option.any_some, e]
  exact beq_self_eq_true _
theorem stn_ours (sender : Byte) (b : StnBody) : (stn sender b).dest ≠ .elsewhere := nofun

theorem stationFrame {s : State} {x : Byte} {b : StnBody} (k : (s.dyn.advTo (stn x b).at_).nv.stationKey = some 1)
    (a : Live s ∧ (s.dyn.advTo (stn x b).at_).netUp = true ∧ takenByPort (stn x b) = true ∧
      s.cfg.knownSource (s.dyn.advTo (stn x b).at_) (stn x b) = true ∧ formOk (stn x b) b = true ∧
      (stn x b).stnId = (s.dyn.advTo (stn x b).at_).nv.stnId.setWidth 8 ∧
      ((s.dyn.advTo (stn x b).at_).prpPass (stn x b)).2 = true) : StationFrame s (stn x b) b :=
  ⟨a.1, a.2.1, a.2.2.1, stn_ours x b, a.2.2.2.1, ⟨a.2.2.2.2.1, a.2.2.2.2.2.1, stn_tagOk k x b, a.2.2.2.2.2.2⟩⟩
theorem policedFrame {s : State} {x : Byte} {b : StnBody}
    (a : Live s ∧ (s.dyn.advTo (stn x b).at_).netUp = true ∧ takenByPort (stn x b) = true ∧
      ((s.dyn.advTo (stn x b).at_).police (stn x b).lanB (stn x b).size.toNat).2 = true) : PolicedFrame s (stn x b) :=
  ⟨a.1, a.2.1, a.2.2.1, stn_ours x b, a.2.2.2⟩
theorem serviceFrame {s : State} {x : Byte} {b : StnBody} (k : (s.polices (stn x b)).nv.stationKey = some 1)
    (a : Live s ∧ (s.dyn.advTo (stn x b).at_).netUp = true ∧ takenByPort (stn x b) = true ∧
      ((s.dyn.advTo (stn x b).at_).police (stn x b).lanB (stn x b).size.toNat).2 = true)
    (c : formOk (stn x b) b = true ∧ (stn x b).stnId = (s.polices (stn x b)).nv.stnId.setWidth 8 ∧
      ((s.polices (stn x b)).prpPass (stn x b)).2 = true) : ServiceFrame s (stn x b) b :=
  ⟨policedFrame a, ⟨c.1, c.2.1, stn_tagOk k x b, c.2.2⟩⟩

theorem wit_StationFrames_input : StationFrame netMod (stn 0x3F (inputBody 31 [1])) (inputBody 31 [1]) ∧
    netMod.cfg.fromRemote (31#5).toNat (stn 0x3F (inputBody 31 [1])) = true ∧
    ([1] : List Word).length * 4 = netMod.cfg.get (F.NET_RS_CFG_IN_LEN (31#5).toNat) :=
  ⟨stationFrame (by decide +kernel) (by decide +kernel), by decide +kernel⟩
theorem wit_StationFrames_ack : StationFrame netMod (stn 0x3F (ackBody 31 0 0)) (ackBody 31 0 0) ∧
    netMod.cfg.fromRemote (31#5).toNat (stn 0x3F (ackBody 31 0 0)) = true :=
  ⟨stationFrame (by decide +kernel) (by decide +kernel), by decide +kernel⟩
theorem wit_StationFrames_stream : StationFrame netMod (stn 0x3F (streamBody 0x200 [1])) (streamBody 0x200 [1]) ∧
    0x200 ≤ (0x200#16).toNat ∧ netMod.cfg.streamPeer (0x200#16).toNat false = some (stn 0x3F (streamBody 0x200 [1])).src ∧
    ∀ x ∈ netMod.cfg.streamEntries (0x200#16).toNat, x.2.1.bit 29 = false :=
  ⟨stationFrame (by decide +kernel) (by decide +kernel), by decide +kernel⟩
theorem wit_StationFrames_cut :
    let s := netMod [] fun d => { d.setRemote 31 fun r => { r with due := [(0, 0)] } with slc := { d.slc with framing := true } }
    Live s ∧ s.dyn.slc.framing = true ∧ s.dyn.agreeing = false ∧ s.dyn.net.cutDone = false ∧
      (s.dyn.remote 31).unanswered = (0, 0) :: [] ∧ s.dyn.near s.cfg (0 + s.dyn.get F.NET_ACK_DL_VALUE * 1000) := by
  decide +kernel

theorem wit_StationServices_client : ∀ op ∈ [1, 2, 3, 4],
    let x : RaArgs := ⟨false, 0, 1, [7]⟩
    let b : StnBody := ⟨0x10, 0, false, raReqBytes 5 op x.unitB x.count x.addr x.data⟩
    ServiceFrame netMod (stn 0x4F b) b ∧ netMod.cfg.rd (Reg.NET_CLIENT (15#4).toNat) ≠ 0 ∧
    (stn 0x4F b).src = netMod.cfg.rd (Reg.NET_CLIENT (15#4).toNat) ∧ (stn 0x4F b).sender.toNat = 0x40 + (15#4).toNat :=
  fun op h => ⟨serviceFrame (by revert op; decide +kernel) (by revert op; decide +kernel) (by revert op; decide +kernel),
    by revert op; decide +kernel⟩
theorem wit_StationServices_reply : ∀ b ∈ [true, false],
    let s := netMod [] fun d => d.setDiag 31 ⟨5, 1, some b, 0⟩
    let x : StnBody := ⟨0x11, 0, false, raRspBytes 0x00050001 ⟨0, 1, 0, 0⟩ [7]⟩
    ServiceFrame s (stn 0x3F x) x ∧ s.cfg.fromRemote (31#5).toNat (stn 0x3F x) = true ∧
      (0x00050001#32).extractLsb' 0 16 = ((s.serves (stn 0x3F x)).diagOf (31#5).toNat).num ∧
      ((s.serves (stn 0x3F x)).diagOf (31#5).toNat).awaits = some b ∧
      (0x00050001#32).extractLsb' 16 16 = ((s.serves (stn 0x3F x)).diagOf (31#5).toNat).gen := fun b h =>
  ⟨serviceFrame (by revert b; decide +kernel) (by revert b; decide +kernel) (by revert b; decide +kernel),
    by revert b; decide +kernel⟩
theorem wit_StationServices_server : let s := netMod [] fun d => d.setConn 3 (some ⟨0, 0, true, none, 0, 0⟩)
    ∀ b ∈ [helloBody 3 0, alarmAckBody 0],
    ServiceFrame s (stn 0x53 b) b ∧ s.cfg.fromServer (3#2).toNat (stn 0x53 b) = true ∧
      (stn 0x53 b).sender.toNat = 0x50 + (3#2).toNat ∧
      (s.serves (stn 0x53 b)).conn (3#2).toNat = some ⟨0, 0, true, none, 0, 0⟩ := fun b h =>
  ⟨serviceFrame (by revert b; decide +kernel) (by revert b; decide +kernel) (by revert b; decide +kernel),
    by revert b; decide +kernel⟩
theorem wit_StationServices_policed : let s := netMod [] fun d => d.setConn 3 (some ⟨0, 0, true, none, 0, 0⟩)
    let h := stn 0x53 ⟨0, 0, true, []⟩
    PolicedFrame s h ∧ ((s.polices h).prpPass h).2 = true ∧ s.cfg.fromServer (3#2).toNat h = true ∧
      (s.serves h).net.arpA.2 < 100 ∧ s.dyn.conn (3#2).toNat = some ⟨0, 0, true, none, 0, 0⟩ ∧
      s.dyn.near s.cfg (0 + 10 ^ 9) :=
  ⟨policedFrame (by decide +kernel), by decide +kernel⟩
theorem wit_StationServices_timeout :
    let s := netMod [] fun d => { d.setConn 3 (some ⟨0, 0, true, none, 0, 0⟩) with clk := { d.clk with ft := 10 ^ 10 * 2 ^ 24 } }
    Live s ∧ s.dyn.conn (3#2).toNat = some ⟨0, 0, true, none, 0, 0⟩ ∧ s.dyn.near s.cfg (0 + 10 ^ 10) ∧
      s.dyn.near s.cfg (s.dyn.net.supAt + 2000000000) ∧ s.dyn.near s.cfg ((s.dyn.diagOf (31#5).toNat).at_ + 10 ^ 9) := by
  decide +kernel
theorem wit_StationServices_port : Live netMod ∧ netMod.dyn.netUp = true ∧ netMod.dyn.modState ≠ 4 ∧
    netMod.cfg.remote (31#5).toNat = true := by decide +kernel

/-- CAN channel 3 with one waiting frame, on a unit that sends; its STATE and TEC as given. -/
def canMod (st tec : Nat) (f : Can → Can := id) (lk : List (Nat × Word) := []) : State :=
  mod [(F.SHL_STATUS_ROLE, 2), (F.CAN_STATUS_STATE 3, st), (F.CAN_STATUS_TEC 3, tec)] (lk ++ [reg [(F.CAN_CFG_EN 3, 1)]])
    fun d => d.setCan 3 f
theorem wit_CanEvents_buffer : let s := canMod 0 0 fun x => { x with locks := [(31, some 0)] }
    Live s ∧ s.cfg.canUsed (3#2).toNat = true ∧ MayRead s (.client 15) (Reg.CAN_RXB 3 31 0) ∧
      MayRead s (.client 15) (Reg.CAN_RXB 3 31 19) ∧ sget none (s.dyn.canOf 3).locks 31 = some 0 ∧
      s.dyn.near s.cfg (0 + s.cfg.get (F.CAN_CFG_RXB_LOCK_MS 3) * 10 ^ 6) := by
  decide +kernel
theorem wit_CanEvents_attempt : let s := canMod 1 0 fun x => { x with waiting := [(2047, some frame0)] }
    Live s ∧ s.cfg.canUsed 3 = true ∧ s.dyn.canDrives s.cfg 3 = true ∧ (s.dyn.canOf 3).under = none ∧
      (firstCand (s.dyn.candidates s.cfg 3)).isSome = true := by decide +kernel
theorem wit_CanEvents_under : let s := canMod 1 248 fun x => { x with under := some (.entry 2047, frame0) }
    Live s ∧ s.cfg.canUsed 3 = true ∧ (s.dyn.canOf 3).under = some (.entry 2047, frame0) ∧ (s.dyn.canOf 3).cut = false ∧
      s.cfg.listens 3 = false ∧ s.dyn.canState 3 < 2 ∧ 255 < s.dyn.get (F.CAN_STATUS_TEC 3) + 8 := by decide +kernel
theorem wit_CanEvents_receiver : let s := canMod 1 0
    Live s ∧ s.cfg.canUsed 3 = true ∧ s.dyn.canState 3 < 2 ∧ (s.dyn.canOf 3).under = none ∧ s.cfg.listens 3 = false := by
  decide +kernel
theorem wit_CanEvents_recovery : let s := canMod 2 255 fun x => { x with counting := true }
    Live s ∧ s.cfg.canUsed 3 = true ∧ s.dyn.canState 3 = 2 ∧ (s.dyn.canOf 3).counting = true := by decide +kernel
theorem wit_CanEvents_exception : let s := canMod 1 0 id [reg [(F.CAN_CFG_FD_EN 3, 1), (F.CAN_CFG_EN 3, 1)]]
    Live s ∧ s.cfg.canUsed 3 = true ∧ s.cfg.flag (F.CAN_CFG_FD_EN 3) = true ∧ s.dyn.canState 3 < 2 := by decide +kernel
theorem wit_CanEvents_matched :
    let s := canMod 0 0 id [(0xD8000 + 8 * 2047, 0x40000001), (0xD8000 + 8 * 2047 + 4, 0xC0000000)]
    let g := { frame0 with data := maskData (canLen frame0.fdf frame0.dlc.toNat) frame0.data }
    Live s ∧ s.cfg.canUsed 3 = true ∧ s.dyn.canState 3 < 2 ∧ frame0.remote = false ∧ frame0.fdf = false ∧
      ((s.cfg.canEntries 3 false).find? (fun e => entryId e.2.1 g)).isSome = true := by decide +kernel
theorem wit_CanEvents_unmatched : let s := canMod 0 0
    Live s ∧ s.cfg.canUsed 3 = true ∧ ∀ e ∈ s.cfg.canEntries 3 false ++ s.cfg.canEntries 3 true, entryId e.2.1 frame0 = false := by
  decide +kernel

def ckpt0 : Checkpoint :=
  { fn := 0, imageId := 0, regs := [], latches := 0, lgeDo := none, pol := [], bitMem := [], wordMem := [], timers := [],
    counters := [], edges := [], outW := [], outC := [], p0c := none, p0Pend := [], agreed := [], forces := [], outForces := [],
    queues := [], loops := [], solver := [], sha := 0, stn := [] }
def rec0 : JRec :=
  { fn := 1, ft := 0, outCrc := 0, relDigest := 0, ckpt := false, unverified := false, trigger := false, gap := false,
    crc := 0, role := 2, items := [] }
/-- The same with the CRC of its header. -/
def rec1 : JRec := { rec0 with crc := rec0.crcOf }
theorem wit_JournalEvents :
    let s := mod [] [] fun d => { d with
      jrn := { d.jrn with collecting := some (window0, none, 0), copying := [(window0, 15)], writing := [ckpt0] },
      nv := { d.nv with windows := [(15, some window0)] } }
    Live s ∧ s.dyn.jrn.collecting = some (window0, none, 0) ∧ later 0 s.dyn.fn = false ∧
      s.dyn.jrn.isOpen = false ∧ s.dyn.jrn.copying = (window0, 15) :: [] ∧ s.dyn.jrn.writing = ckpt0 :: [] ∧
      s.dyn.windowPlace s.cfg = some 0 ∧ s.dyn.window 15 = some window0 := by decide +kernel
theorem wit_JournalEvents_served : (staged .running []).dyn.windowsServed = true ∧
    (staged .running []).dyn.windowPlace (staged .running []).cfg = some 0 ∧ (staged .hold []).dyn.windowsServed = false := by
  decide +kernel
/-- The ring holds one record, which a window on its way to flash protects; the record in progress is open. -/
def protecting (isOpen : Bool) : State :=
  mod [] [] fun d => { d with
    jrn := { d.jrn with ring := [rec0], isOpen := isOpen, copying := [({ window0 with recs := [rec0], fn1 := 1 }, 15)] } }
theorem wit_JournalEvents_truncation : ∀ b ∈ [true, false], let s := protecting b
    Live s ∧ s.dyn.jrn.isOpen = b ∧ s.dyn.jrn.lose = false ∧ s.dyn.jrn.ring = rec0 :: [] ∧
      (s.dyn.jrn.ring.filter fun x => s.dyn.jrn.protects x.fn).getLast? = some rec0 := by decide +kernel
theorem wit_JournalEvents_idle : let s := mod []
    (s.dyn.jrn.ring.filter fun x => s.dyn.jrn.protects x.fn).getLast? = none ∧ s.dyn.jrn.isOpen = false ∧
      s.dyn.jrn.ring = [] := by decide +kernel
/-- A replay with one frame left, running or paused. -/
def replaying (st : Nat) (stop : Option Word) : State :=
  mod [(F.MOD_STATE_STATE, 4), (F.JRN_REPLAY_STATE, st)] [] fun d => { d with jrn := { d.jrn with playing := [rec1], pauseAt := stop } }
theorem wit_JournalEvents_replay : ∀ x ∈ [(1, some 1), (1, none), (2, none)], let s := replaying x.1 x.2
    Live s ∧ s.dyn.modState = 4 ∧ s.dyn.jrn.playing = rec1 :: [] ∧ rec1.crcOk = true ∧ rec1.gap = false ∧ { rec1 with crc := 0 }.crcOk = false ∧
      s.dyn.get F.JRN_REPLAY_STATE = x.1 ∧ s.dyn.jrn.pauseAt = x.2 ∧ MayWrite s (.client 15) Reg.JRN_CMD := by decide +kernel

theorem wit_PowerEvents : let s := mod [(F.MOD_PWR_STATUS_PSB_OK, 1)]
    Live s ∧ s.dyn.flag F.MOD_PWR_STATUS_PSB_OK = true ∧ s.dyn.flag F.MOD_PWR_STATUS_PSA_OK = false ∧
      (s.dyn.get F.MOD_PWR_STATUS_RAIL_WARN).testBit 3 = false ∧ s.cfg.twin = false ∧ s.dyn.role ≠ 7 ∧ s.dyn.modState ≠ 3 ∧
      s.dyn.modState ≠ 4 ∧ s.dyn.flag F.MOD_PWR_STATUS_OVERTEMP = false ∧
      (s.cfg.get F.MOD_PWR_CFG_TEMP_WARN * 10 : Int) < (1#16).toInt ∧
      (-50#16).toInt ≤ (s.cfg.get F.MOD_PWR_CFG_TEMP_WARN * 10 : Int) - 50 := by decide +kernel
theorem wit_PowerEvents_replay : Live (replaying 1 none) ∧ (replaying 1 none).dyn.modState = 4 := by decide +kernel

/-! Twin operation. -/

/-- A unit of a twin in the given role. -/
def twinMod (role : Nat) (regs : List (Fld × Nat) := []) (f : Dyn → Dyn := id) (b : BootStage := .running) : State :=
  staged b ((F.SHL_STATUS_ROLE, role) :: regs) [reg [(F.SLC_CTRL_TWIN, 1)]] f
theorem peerMessage {s : State} {kind : Nat} {h : ShlHdr}
    (a : Live s ∧ h.crcOk = true ∧ (s.dyn.advTo h.at_).gotSeq kind h = false) : PeerMessage s kind h := ⟨a.1, a.2.1, a.2.2⟩

theorem wit_TwinMessages_kinds : (twinMod 2).cfg.twin = true ∧ ∀ k ∈ [1, 2, 3, 4, 5, 6, 7, 8, 9], PeerMessage (twinMod 2) k hdr0 :=
  ⟨by decide +kernel, fun k h => peerMessage (by revert k; decide +kernel)⟩
theorem wit_TwinMessages_damaged : Live (twinMod 2) ∧ ({ hdr0 with crcOk := false } : ShlHdr).crcOk = false := by decide +kernel
theorem wit_TwinMessages_second : ∀ k ∈ [1, 2, 3, 4, 5, 6, 7, 8, 9],
    let s := twinMod 2 [] fun d => { d with twin := { d.twin with seqIn := [(k, [hdr0.seq])] } }
    Live s ∧ hdr0.crcOk = true ∧ (s.dyn.advTo hdr0.at_).gotSeq k hdr0 = true := by decide +kernel
theorem wit_TwinMessages_follower : let s := twinMod 3 [(F.TSU_STATUS_TWIN, 3)]
    PeerMessage s 2 hdr0 ∧ s.dyn.follower = true := ⟨peerMessage (by decide +kernel), by decide +kernel⟩
theorem wit_TwinMessages_giveup : ∀ role ∈ [2, 7], PeerMessage (twinMod role) 7 hdr0 ∧ (twinMod role).dyn.role = role ∧
    (twinMod role).dyn.joining = false := fun role h => ⟨peerMessage (by revert role; decide +kernel), by revert role; decide +kernel⟩
theorem wit_TwinMessages_fwd : PeerMessage (twinMod 2) 6 hdr0 ∧
    ∀ r ∈ ((twinMod 2).hearsBulk 6 hdr0).twin.rx ++ ((twinMod 2).hearsBulk 6 hdr0).twin.seen, r.peer = true → r.num ≠ (1#32).toNat :=
  ⟨peerMessage (by decide +kernel), by decide +kernel⟩
theorem wit_TwinMessages_fwdKnown :
    let s := twinMod 2 [] fun d => { d with twin := { d.twin with rx := [⟨1, true, 0, .ack 31 0 0⟩] } }
    PeerMessage s 6 hdr0 ∧ ∃ r ∈ (s.hearsBulk 6 hdr0).twin.rx ++ (s.hearsBulk 6 hdr0).twin.seen, r.peer = true ∧ r.num = (1#32).toNat :=
  ⟨peerMessage (by decide +kernel), by decide +kernel⟩
theorem wit_TwinMessages_xfer : ∀ k ∈ [0, 1], let s := twinMod 4 [(F.SHL_XFER_KIND, k)]
    PeerMessage s 8 hdr0 ∧ s.dyn.role = 4 ∧ s.dyn.flag F.SHL_XFER_KIND = decide (k = 1) :=
  fun k h => ⟨peerMessage (by revert k; decide +kernel), by revert k; decide +kernel⟩
theorem wit_TwinMessages_ready : let s := twinMod 2 [(F.SHL_XFER_STATE, 3)]
    PeerMessage s 9 hdr0 ∧ s.dyn.role = 2 ∧ s.dyn.get F.SHL_XFER_STATE = 3 ∧ s.dyn.twin.lockFn = none :=
  ⟨peerMessage (by decide +kernel), by decide +kernel⟩
theorem wit_TwinMessages_lockstep : PeerMessage (twinMod 4) 9 hdr0 ∧ (twinMod 4).dyn.role = 4 :=
  ⟨peerMessage (by decide +kernel), by decide +kernel⟩
theorem wit_TwinMessages_join : PeerMessage (twinMod 3) 9 hdr0 ∧ (twinMod 3).dyn.role = 3 ∧ (twinMod 3).dyn.joining = false :=
  ⟨peerMessage (by decide +kernel), by decide +kernel⟩
/-- The heartbeat of unit B, ACTIVE, and unit A, to whom it is addressed. -/
def beat : Heartbeat :=
  let m : Heartbeat := ⟨stn0, 2, false, false, 1, 0, 0⟩
  { m with hdr := stn 1 (heartbeatBody m) }
def hearing : State := netMod [(F.SHL_STATUS_ROLE, 3)] id [reg [(F.SLC_CTRL_TWIN, 1)], (Reg.NET_ADDR_B, 9)]
theorem wit_TwinMessages_heartbeat : StationFrame hearing beat.hdr (heartbeatBody beat) ∧
    hearing.dyn.fromPeer hearing.cfg beat.hdr = true ∧ hearing.cfg.twin = true ∧ hearing.dyn.agreeing = false ∧
    hearing.dyn.joining = false :=
  ⟨stationFrame (by decide +kernel) (by decide +kernel), by decide +kernel⟩
theorem wit_TwinMessages_heartbeat_new : let x := sget StreamRx.init (hearing.accepts beat.hdr).net.streams 0
    ((pairDiscard x.seen beat.hdr.seq (hearing.accepts beat.hdr).now).2 &&
      isFresh x.applied beat.hdr.seq (hearing.accepts beat.hdr).now) = true := by decide +kernel
/-- The same when its SEQ was applied just before. -/
theorem wit_TwinMessages_heartbeat_again :
    let s := { hearing with dyn := { hearing.dyn with net := { hearing.dyn.net with
      streams := [(0, { StreamRx.init with applied := some (1, 0) })] } } }
    let x := sget StreamRx.init (s.accepts beat.hdr).net.streams 0
    isFresh x.applied beat.hdr.seq (s.accepts beat.hdr).now = false := by decide +kernel

theorem wit_TwinEvents_fault : Live (twinMod 2) ∧ (twinMod 2).dyn.role ≠ 7 ∧ (twinMod 2).dyn.modState ≠ 3 ∧
    Live (mod []) ∧ (mod []).cfg.twin = false := by decide +kernel
theorem wit_TwinEvents_bulk : let s := twinMod 2 [] fun d => { d with twin := { d.twin with unacked := [⟨1, 0, .file window0⟩] } }
    Live s ∧ s.dyn.twin.unacked = ⟨1, 0, .file window0⟩ :: [] ∧ s.dyn.nearCycle s.cfg (0 + 2500) := by decide +kernel
/-- Before frames run, in role WAITING. -/
def waiting (f : Twin → Twin := id) : State := twinMod 0 [] (fun d => { d with twin := f d.twin }) .locked
theorem wit_TwinEvents_pairing : Live waiting ∧ waiting.cfg.twin = true ∧ waiting.cfg.pairs waiting.dyn = true ∧
    waiting.dyn.paired = false ∧ waiting.dyn.boot.stage = .locked ∧ waiting.dyn.twin.outcome = 0 ∧ waiting.dyn.unitB = false ∧
    waiting.dyn.nearCycle waiting.cfg (waiting.dyn.twin.pairAt + 5000000) := by decide +kernel
/-- The other unit's PAIR record, of station `n`, in `role`, with firmware `fw`. -/
def pairRec (n : BitVec 5) (role : BitVec 3 := 0) (fw : Nat := 0) : PairRec :=
  ⟨{ hdr0 with unitB := true, stnId := n }, fw, 0, 0, 0, 0, role⟩
theorem wit_TwinEvents_equal : ∀ role ∈ [(0 : BitVec 3), 2], let r := pairRec 0 role
    PeerMessage waiting 1 r.hdr ∧ r.hdr.stnId = waiting.dyn.nv.stnId ∧ r.hdr.unitB = !waiting.dyn.unitB ∧ r.role = role ∧
      waiting.dyn.agreeing = false ∧ waiting.dyn.pairCause waiting.cfg r = none ∧ r.imageId = waiting.cfg.img.imageId :=
  fun role h => ⟨peerMessage (by revert role; decide +kernel), by revert role; decide +kernel⟩
theorem wit_TwinEvents_refused : ∀ role ∈ [(0 : BitVec 3), 2], let r := pairRec 0 role 1
    PeerMessage waiting 1 r.hdr ∧ r.hdr.stnId = waiting.dyn.nv.stnId ∧ r.hdr.unitB = !waiting.dyn.unitB ∧
      waiting.dyn.pairCause waiting.cfg r = some 0x31 ∧ r.role = role :=
  fun role h => ⟨peerMessage (by revert role; decide +kernel), by revert role; decide +kernel⟩
theorem wit_TwinEvents_otherImage : (1 : BitVec 64) ≠ waiting.cfg.img.imageId := by decide +kernel
theorem wit_TwinEvents_other : PeerMessage waiting 1 (pairRec 1).hdr ∧ (pairRec 1).hdr.stnId ≠ waiting.dyn.nv.stnId :=
  ⟨peerMessage (by decide +kernel), by decide +kernel⟩
theorem wit_TwinEvents_priming : let s := waiting fun t => { t with outcome := 2 }
    Live s ∧ s.cfg.twin = true ∧ s.dyn.boot.stage = .locked ∧ s.dyn.twin.outcome = 2 ∧ s.dyn.unitB = false := by
  decide +kernel
theorem wit_TwinEvents_primingJoin : let s := twinMod 2 [] fun d => { d with twin := { d.twin with lockFn := some (d.frameNow + 1) } }
    Live s ∧ s.cfg.twin = true ∧ s.dyn.twin.lockFn = some (s.dyn.frameNow + 1) := by decide +kernel
def twinFrame (n : Nat) (unitB : Bool) (f : Twin → Twin) : State :=
  twinMod 2 [(F.SLC_STATUS_PHASE, n), (F.MOD_UNIT_UNIT, b2n unitB), (F.SHL_STATUS_LOCKSTEP, 1)] fun d =>
    { d with slc := { d.slc with framing := true }, twin := f d.twin }
theorem wit_TwinEvents_slot : let s := twinFrame 1 false id
    Live s ∧ s.cfg.twin = true ∧ s.dyn.slc.framing = true ∧ s.dyn.phase = 1 := by decide +kernel
theorem wit_TwinEvents_laterSlot : let s := twinFrame 2 false id
    (15#4) ≠ 0 ∧ s.dyn.slc.framing = true ∧ s.dyn.phase = 2 ∧ s.dyn.get F.SLC_STATUS_SLOT < (15#4).toNat := by decide +kernel
theorem wit_TwinEvents_verdictStays : later 1 (twinFrame 4 false id).dyn.fn = true := by decide +kernel
theorem wit_TwinEvents_verdictLone : ∀ x ∈ [(1, some (0, (⟨0, 0, some false⟩ : Sig))), (0, none)],
    let s := twinMod 2 [(F.SLC_STATUS_PHASE, 4), (F.SHL_STATUS_LOCKSTEP, x.1)] fun d => { d with
      slc := { d.slc with framing := true }, twin := { d.twin with mismatch := some (0, 0), burstOk := true, peerSig := x.2 } }
    Live s ∧ s.dyn.slc.framing = true ∧ s.dyn.phase = 4 ∧ s.dyn.twin.burstOk = true ∧ (s.dyn.lockstep = false ∨
      (s.dyn.twin.peerSig.any fun y => y.1 == s.dyn.fn && y.2.verdict == some false) = true) := by decide +kernel
theorem wit_TwinEvents_verdict : ∀ b ∈ [(true, true), (true, false), (false, false)],
    let s := twinFrame 4 b.2 fun t => { t with mismatch := some (0, 0), burstOk := b.1 }
    Live s ∧ s.cfg.twin = true ∧ s.dyn.slc.framing = true ∧ s.dyn.phase = 4 ∧ s.dyn.twin.mismatch = some (0, 0) ∧
      later 0 s.dyn.fn = false ∧ s.dyn.twin.burstOk = b.1 ∧ s.dyn.twin.peerSig = none ∧ s.dyn.lockstep = true ∧
      s.dyn.unitB = b.2 := by decide +kernel
theorem wit_TwinEvents_lanes : let s := twinMod 2 [(laneFld false, 1)]
    Live s ∧ s.cfg.twin = true ∧ s.dyn.flag (laneFld false) = true ∧ s.dyn.flag (laneFld true) = false ∧
      sget 0 s.dyn.twin.crcFrame (b2n true) + (8#8).toNat ≤ 8 ∧ 8 < sget 0 s.dyn.twin.crcFrame (b2n true) + (9#8).toNat := by
  decide +kernel
theorem wit_TwinEvents_silence : let s := twinMod 3 [] fun d => { d with twin := { d.twin with hbGap := 3 } }
    Live s ∧ s.cfg.twin = true ∧ s.dyn.role = 3 ∧ 3 ≤ s.dyn.twin.hbGap := by decide +kernel
theorem wit_TwinEvents_verified : ∀ role ∈ [2, 6],
    let s := twinMod role [(F.SHL_XFER_STATE, 4)] fun d => { d with twin := { d.twin with matched := 64 } }
    Live s ∧ s.cfg.twin = true ∧ s.dyn.get F.SHL_XFER_STATE = 4 ∧ 64 ≤ s.dyn.twin.matched ∧ s.dyn.role = role := by
  decide +kernel
theorem wit_TwinEvents_late : ∀ x ∈ [(2, 1), (4, 3)], let s := twinMod x.1 [(F.SHL_XFER_STATE, x.2)] fun d => { d with clk := { d.clk with cycles := 5000000000 } }
    Live s ∧ s.cfg.twin = true ∧ 1 ≤ s.dyn.get F.SHL_XFER_STATE ∧ s.dyn.get F.SHL_XFER_STATE ≤ 3 ∧ s.dyn.role = x.1 ∧
      s.dyn.nearCycle s.cfg (s.dyn.twin.joinAt + 5000000000) := by
  decide +kernel
/-- A frame record of an empty program: its output image and releases are empty. -/
def emptyRec : JRec := { rec0 with outCrc := Config.digest (flatWords []), relDigest := Config.digest [] }
def catching : State := twinMod 4 [(F.SHL_XFER_STATE, 3)] fun d => { d with twin := { d.twin with recs := [(7, emptyRec)] } }
theorem wit_TwinEvents_catchUp : Live catching ∧ catching.cfg.twin = true ∧ catching.dyn.role = 4 ∧
    catching.dyn.get F.SHL_XFER_STATE = 3 ∧ catching.dyn.flag F.SHL_XFER_KIND = false ∧ (1 : Word) = catching.dyn.fn + 1 := by
  decide +kernel
theorem wit_TwinEvents_catchUp_record : catching.dyn.twin.recs.find? (fun x => x.2.fn == catching.dyn.fn + 1) = some (7, emptyRec) := rfl
theorem wit_TwinEvents_catchUp_signature : (catching.dyn.runFrame catching.cfg emptyRec).2.1 = emptyRec.outCrc := by
  unfold Dyn.runFrame; exact congrArg Config.digest (by decide +kernel)
theorem wit_TwinEvents_catchUp_digest : (catching.dyn.runFrame catching.cfg emptyRec).2.2 = emptyRec.relDigest := by
  unfold Dyn.runFrame; exact congrArg Config.digest (by decide +kernel)

theorem wit_TwinEvents_catchUp_before : 7 ≠ (catching.dyn.loadCheckpoint
    ((catching.dyn.runFrame catching.cfg emptyRec).1.joinCkpt catching.cfg)).frameNow := by decide +kernel

/-! Levee, loops, solver. -/

theorem wit_LeveeLoopsAndArray_used :
    let s := mod [] [reg [(F.AIO_CFG_MODE 31, 1)], reg [(F.AIO_CMP1_EN 31, 1)]]
    Live s ∧ s.dyn.lineLive s.cfg (159#8).toNat = true := by decide +kernel
theorem wit_LeveeLoopsAndArray_source : Live (mod []) ∧ (mod []).dyn.lineLive (mod []).cfg (160#8).toNat = false ∧ (mod []).dyn.lve.holding.getLsbD (63#6).toNat = false ∧
    (mod []).dyn.lve.testMode = 0 := by decide +kernel
theorem wit_LeveeLoopsAndArray_term : let s := mod [] [] fun d => { d.setHolding 63 true with lve := { (d.setHolding 63 true).lve with testMode := 1 } }
    Live s ∧ s.dyn.lve.holding.getLsbD (63#6).toNat = true ∧
      s.dyn.nearCycle s.cfg (sget 0 s.dyn.lve.since (63#6).toNat + s.cfg.get (F.LVE_HOLD_HOLD_US (63#6).toNat) * 500) ∧
      s.dyn.lve.testMode ≠ 0 ∧ s.dyn.nearCycle s.cfg (s.dyn.lve.testStart + s.cfg.get F.LVE_TEST_LIMIT_SECONDS * 500000000) := by
  decide +kernel
theorem wit_LeveeLoopsAndArray_loop : ∀ b ∈ [0, 1],
    let s := mod [(F.PLD_STATE_STATE 0, 2)] [reg [(F.LPE_AO_BOUND 127, b), (F.LPE_AO_CHAN 127, 31)]]
      fun d => d.setLoop 127 fun x => { x with issued := some (0, 0) }
    Live s ∧ s.cfg.primaryOf (127#7).toNat = none ∧ (s.dyn.loop (127#7).toNat).issued = some (0, 0) ∧
      s.dyn.mode (s.cfg.get (F.LPE_CFG_OWNER (127#7).toNat)) = 2 ∧
      s.cfg.flag (F.LPE_AO_BOUND (127#7).toNat) = decide (b = 1) := by decide +kernel
theorem wit_LeveeLoopsAndArray_stopped : let s := mod [] [] fun d => d.setLoop 127 fun x => { x with issued := some (0, 0) }
    Live s ∧ s.cfg.primaryOf (127#7).toNat = none ∧ (s.dyn.loop (127#7).toNat).issued = some (0, 0) ∧
      s.dyn.mode (s.cfg.get (F.LPE_CFG_OWNER (127#7).toNat)) ≠ 2 ∧ (s.dyn.loop (0#7).toNat).issued = none := by decide +kernel
theorem wit_LeveeLoopsAndArray_step : let s := mod [] [] fun d => d.setJob 7 fun x => { x with state := 2, stepEnd := some 9 }
    Live s ∧ (List.range 8).find? (fun j => (s.dyn.slot j).job.stepEnd.isSome) = some 7 ∧ (s.dyn.slot 7).job.stepEnd = some 9 ∧
      s.dyn.role ≠ 7 ∧ s.dyn.modState ≠ 3 ∧ ∀ j < 8, ((mod []).dyn.slot j).job.stepEnd = none := by decide +kernel
/-! ## Single steps, with results worked out from the spec's words -/

/-- What `f` shows of the next state. -/
def shows (o : Out) (f : State → Nat) : Option Nat := match o with | .next s => some (f s) | _ => none
def la (s : State) : Nat := match (s.dyn.polder 0).tasks with | (_, t) :: _ => b2n t.la | [] => 9
def wa (s : State) : Nat := match (s.dyn.polder 0).tasks with | (_, t) :: _ => t.wa.toNat | [] => 0
def pc (s : State) : Nat := match (s.dyn.polder 0).tasks with | (_, t) :: _ => t.pc | [] => 0
def fieldOf (f : Fld) (s : State) : Nat := s.dyn.get f
def holding (w : Word) : State := task { ctx with wa := w } [] [] fun d => { d with wordMem := [((task ctx).cfg.wordKey 0 9, 2)] }

/-- R140: LDN loads the negation; an unwritten bit is 0. -/
theorem test_ldn : shows (exec (.ldn 0 0 9) (task ctx)) la = some 1 := by decide +kernel
/-- R140: AND with a 0 bit. -/
theorem test_and : shows (exec (.and 0 0 9) (task ctx)) la = some 0 := by decide +kernel
/-- R140: XOR with a 0 bit leaves LA. -/
theorem test_xor : shows (exec (.xor 0 0 9) (task ctx)) la = some 1 := by decide +kernel
/-- R140: ST stores LA in bit memory. -/
theorem test_st : shows (exec (.st 0 0 9) (task ctx)) (fun s => b2n (s.dyn.mbit s.cfg 0 9)) = some 1 := by decide +kernel
/-- R131: the bit after the window is MEM_BOUNDS. -/
theorem test_st_bounds : shows (exec (.st 0 0 512) (task ctx)) (fieldOf (F.PLD_ERR_CAUSE 0)) = some 0x12 := by decide +kernel
/-- R139: a 17th PUSH is STACK. -/
theorem test_push_full : shows (exec (.push 0 0 0) (task full)) (fieldOf (F.PLD_ERR_CAUSE 0)) = some 0x10 := by decide +kernel
/-- R144: EDR with the edge bit 0 and LA 1 sees a rising edge. -/
theorem test_edr : shows (exec (.edr 0 3 (2 * 2 ^ 22)) (task ctx)) la = some 1 := by decide +kernel
/-- R141: 2^31 − 1 + 2 is held at 2^31 − 1. -/
theorem test_add_saturates : shows (exec (.add 0 0 9) (holding 0x7FFFFFFF)) wa = some 0x7FFFFFFF := by decide +kernel
/-- R141: −2^31 − 2 is held at −2^31. -/
theorem test_sub_saturates : shows (exec (.sub 0 0 9) (holding 0x80000000)) wa = some 0x80000000 := by decide +kernel
/-- R140: −7 / 2 is −3, toward zero. -/
theorem test_div : shows (exec (.div 0 0 9) (holding (-7))) wa = some 0xFFFFFFFD := by decide +kernel
/-- R141: −7 / 0 is −2^31. -/
theorem test_div_by_zero : shows (exec (.div 0 0 8) (holding (-7))) wa = some 0x80000000 := by decide +kernel
/-- R140: SHR with the arithmetic bit keeps the sign. -/
theorem test_shr_arithmetic : shows (exec (.shr 0 0 33) (holding (-8))) wa = some 0xFFFFFFFC := by decide +kernel
/-- R140: the comparison is signed. -/
theorem test_cmplt : shows (exec (.cmplt 0 0 9) (holding (-1))) la = some 1 := by decide +kernel
/-- R140, R139: JMP goes to its target; one at the segment's end is JUMP_BOUNDS. -/
theorem test_jmp : shows (exec (.jmp 0 0 99) (task ctx)) pc = some 99 := by decide +kernel
theorem test_jmp_bounds : shows (exec (.jmp 0 0 100) (task ctx)) (fieldOf (F.PLD_ERR_CAUSE 0)) = some 0x15 := by decide +kernel
/-- R143: UP counts a rising LA; CV 1 has not reached WA 5. -/
theorem test_cnt_up : shows (exec (.cnt 0 3 (2 ^ 22)) (task ctx)) (fun s => (s.dyn.counter (s.cfg.cntKey 0 0)).cv.toNat) = some 1 := by
  decide +kernel
/-- R150: QMUL of 1.5 and 1.5 in Q16.16 is 2.25. -/
theorem test_qmul : shows (exec (.qmul 0) (svc [0x18000, 0x18000])) wa = some 0x24000 := by decide +kernel
/-- R371: 2000-03-01 is 60 days after 2000-01-01, and 2100-02-29 is CAL_INVALID (8). -/
theorem test_leap_day : okIs (CalTime.mk 2000 3 1 0 0 0).toSeconds (60 * 86400) = true ∧
    errIs (CalTime.mk 2100 2 29 0 0 0).toSeconds 8 = true := by decide +kernel
/-- R298: the classes of a wire-break current at their limits. -/
theorem test_wire_break : shows (exec (.wireBreakTestEnd 95 349 false) (inMod [(F.DIO_STATUS_WB_ACTIVE 95, 1)] [] id))
    (fieldOf (F.DIO_WB_RESULT 95)) = some 3 := by decide +kernel
/-- R52: a write after the lock is counted and changes nothing. -/
theorem test_locked_write : shows (exec (.registerWrite .firmware (BitVec.ofNat 32 Reg.SLC_PERIOD) 7) (afterLock true))
    (fun s => fieldOf F.BOOT_PV_COUNT_COUNT s * 16 + (s.cfg.rd Reg.SLC_PERIOD).toNat) = some 16 := by decide +kernel
/-- R10: reading an RC register returns its value and clears it. -/
theorem test_read_clear : shows (exec (.readClear (.client 15) (BitVec.ofNat 32 Reg.MOD_ACC_ERR)) (mod [(F.MOD_ACC_ERR_COUNT, 3)]))
    (fun s => s.dyn.readData.toNat * 16 + fieldOf F.MOD_ACC_ERR_COUNT s) = some 48 := by decide +kernel
/-- R465: the loss of a supply input clears its bit and is counted. -/
theorem test_supply_loss : shows (exec (.supplyInputLoss true 90) (mod [(F.MOD_PWR_STATUS_PSB_OK, 1)]))
    (fun s => fieldOf F.MOD_PWR_STATUS_PSB_OK s * 16 + fieldOf F.MOD_PWR_EVCNT_PSB_LOSS s) = some 1 := by decide +kernel
/-- R263: a GIVEUP of the peer leaves an ACTIVE unit ACTIVE, and its cause in SHL_GIVEUP. -/
theorem test_giveup : shows (exec (.giveupMessage hdr0 0x25) (twinMod 2)) (fieldOf F.SHL_GIVEUP_PEER) = some 0x25 := by decide +kernel
/-- R440: recovery leaves both counters 0. -/
theorem test_recovery : shows (exec (.busOffRecovery 3) (canMod 2 255 fun x => { x with counting := true }))
    (fieldOf (F.CAN_STATUS_TEC 3)) = some 0 := by decide +kernel

end Sys2Proof.Tests
end

section
/-! SUPPORT. What a command can do to the locked configuration, and what keeps its canonical form (R9, R10, R49–R52). -/

namespace Sys2Proof.Machine

/-! ## The canonical form of the LK registers -/

theorem mem_sput {α : Type} [DecidableEq α] {d v : α} {m : List (Nat × α)} {k : Nat} {e : Nat × α}
    (h : e ∈ sput d m k v) : (e = (k, v) ∧ v ≠ d) ∨ e ∈ m := by
  have mem_of_mem_sdel : e ∈ sdel m k → e ∈ m := fun h => (List.mem_filter.1 h).1
  unfold sput at h
  split at h
  · exact .inr (mem_of_mem_sdel h)
  · next hv => exact (mem_sins h).imp (fun h => ⟨h, hv⟩) mem_of_mem_sdel

theorem mem_or_sget_eq {α : Type} {d : α} (m : List (Nat × α)) (k : Nat) : (k, sget d m k) ∈ m ∨ sget d m k = d := by
  induction m with
  | nil => exact .inr rfl
  | cons e m ih =>
    by_cases hk : e.1 = k
    · subst hk
      simp [sget]
    · simp only [sget, if_neg hk]
      exact ih.imp (List.mem_cons_of_mem _) id

/-- `ConfigWf` speaks of the LK registers alone. -/
theorem ConfigWf.of_lk_eq {c c' : Cfg} (h : ConfigWf c) (e : c'.lk = c.lk) : ConfigWf c' :=
  ⟨e ▸ h.canonical, e ▸ h.rows, e ▸ h.reserved⟩

theorem configWf_of_lk_nil {c : Cfg} (h : c.lk = []) : ConfigWf c :=
  ⟨h ▸ sparseWf_nil, fun e he => by simp [h] at he, fun e he => by simp [h] at he⟩

/-- Writing an LK register with its reserved bits zero keeps the form; so does clearing any register. -/
theorem ConfigWf.put {c : Cfg} (h : ConfigWf c) {a : Nat} {v : Word}
    (hv : v ≠ 0 → ∃ r, regRow a = some r ∧ r.acc = .lk ∧ v &&& ~~~r.mask = 0) :
    ConfigWf { c with lk := sput 0 c.lk a v } where
  canonical := sput_wf h.canonical a v
  rows e he := by
    rcases mem_sput he with ⟨rfl, hne⟩ | he
    · obtain ⟨r, hr, hacc, -⟩ := hv hne
      simp [isLk, hr, hacc]
    · exact h.rows e he
  reserved e he := by
    rcases mem_sput he with ⟨rfl, hne⟩ | he
    · obtain ⟨r, hr, -, hres⟩ := hv hne
      intro r' hr'
      rwa [Option.some.inj (hr'.symm.trans hr)]
    · exact h.reserved e he

theorem ConfigWf.clear {c : Cfg} (h : ConfigWf c) (a : Nat) : ConfigWf { c with lk := sput 0 c.lk a 0 } :=
  h.put fun h0 => absurd rfl h0

/-- A sequence of changes that each keep the form keeps it. -/
theorem ConfigWf.foldl {β : Type} {g : SMap Word → β → SMap Word} {l : List β} {c : Cfg} (h : ConfigWf c)
    (hg : ∀ c, ConfigWf c → ∀ e ∈ l, ConfigWf { c with lk := g c.lk e }) :
    ConfigWf { c with lk := l.foldl g c.lk } := by
  induction l generalizing c with
  | nil => exact h
  | cons e l ih =>
    exact ih (c := { c with lk := g c.lk e }) (hg c h e List.mem_cons_self)
      fun c hc e' he' => hg c hc e' (List.mem_cons_of_mem _ he')

/-- What an LK register reads as has its reserved bits zero. -/
theorem ConfigWf.sget_reserved {c : Cfg} (h : ConfigWf c) {a : Nat} {r : RegRow} (hr : regRow a = some r) :
    sget 0 c.lk a &&& ~~~r.mask = 0 := by
  rcases mem_or_sget_eq (d := 0) c.lk a with hm | h0
  · exact h.reserved _ hm r hr
  · rw [h0]; exact BitVec.zero_and

theorem and_mask_reserved (v m : Word) : v &&& m &&& ~~~m = 0 := by
  rw [BitVec.and_assoc, BitVec.and_not_self]; exact BitVec.and_zero

/-! ## The configuration that an image describes -/

/-- The field lies in an LK register, and all its bits are writable there. -/
def fieldInLk (f : Fld) : Bool :=
  (regRow f.addr).any fun r => r.acc == .lk && BitVec.ofNat 32 ((2 ^ f.width - 1) <<< f.lo) &&& ~~~r.mask == 0

/-- Setting a field whose bits are all writable leaves the reserved bits zero. -/
theorem setField_reserved {w mask : Word} {lo n : Nat} (v : Nat) (hw : w &&& ~~~mask = 0)
    (hf : BitVec.ofNat 32 ((2 ^ n - 1) <<< lo) &&& ~~~mask = 0) : w.setField lo n v &&& ~~~mask = 0 := by
  have hand : ∀ x y z : Word, x &&& y &&& z = x &&& z &&& y := fun x y z => by
    rw [BitVec.and_assoc, BitVec.and_comm y z, ← BitVec.and_assoc]
  unfold Word.setField
  rw [BitVec.and_or_distrib_right, hand, hw, BitVec.and_assoc, hf]
  simp

theorem fieldInLk_wdDio : ∀ n < 96, fieldInLk (F.DIO_OCFG_WD_TIMEOUT n) = true := by decide +kernel
theorem fieldInLk_wdAio : ∀ m < 32, fieldInLk (F.AIO_OCFG_WD_TIMEOUT m) = true := by decide +kernel
theorem fieldInLk_spillLimit : ∀ p < 16, fieldInLk (F.PLD_CFG_SPILL_LIMIT p) = true := by decide +kernel
theorem fieldInLk_can : ∀ k < 4, ∀ f ∈ [F.CAN_CFG_COLL_LIMIT k, F.CAN_CFG_RXB_LOCK_MS k], fieldInLk f = true := by
  decide +kernel
theorem fieldInLk_station : ∀ f ∈ [F.SLC_OFFSET_UNITS, F.SHL_CFG_PAIR_WAIT, ⟨Reg.SHL_MRG 20, 16, 4⟩, F.TSU_CFG_STEP_THRESH,
    F.TSU_PTP_CFG_CLOCK_CLASS, F.NET_CFG_MAX_LAT, F.JRN_CFG_PRE_S, F.JRN_CFG_POST_S, F.MOD_PWR_CFG_TEMP_WARN],
    fieldInLk f = true := by decide +kernel

/-- Every field that the boot code fills in where the image gives no value is writable and lies in an LK register. -/
theorem fieldInLk_of_mem_defaults {c : Cfg} {e : Fld × Nat} (he : e ∈ c.defaults) : fieldInLk e.1 = true := by
  simp only [Cfg.defaults, List.mem_append] at he
  rcases he with (((he | he) | he) | he) | he
  · exact fieldInLk_station _ (List.mem_map_of_mem (f := Prod.fst) he)
  · obtain ⟨p, hp, rfl⟩ := List.mem_map.1 he
    exact fieldInLk_spillLimit p (List.mem_range.1 (List.mem_filter.1 hp).1)
  · obtain ⟨k, hk, he⟩ := List.mem_flatMap.1 he
    exact fieldInLk_can k (List.mem_range.1 (List.mem_filter.1 hk).1) _ (List.mem_map_of_mem (f := Prod.fst) he)
  · obtain ⟨n, hn, rfl⟩ := List.mem_map.1 he
    exact fieldInLk_wdDio n (List.mem_range.1 (List.mem_filter.1 hn).1)
  · obtain ⟨m, hm, rfl⟩ := List.mem_map.1 he
    exact fieldInLk_wdAio m (List.mem_range.1 (List.mem_filter.1 hm).1)

/-- The values that an image lists are written in the canonical form. -/
theorem configWf_lkMap (l : List (Nat × Word)) (data : ImageData) : ConfigWf ⟨false, lkMap l, data⟩ := by
  refine (configWf_of_lk_nil (c := ⟨false, [], data⟩) rfl).foldl fun c hc e _ => ?_
  split
  next r hr =>
    split
    next hlk =>
      simp only [Bool.and_eq_true, beq_iff_eq] at hlk
      obtain ⟨hacc, -⟩ := hlk
      exact hc.put fun _ => ⟨r, hr, hacc, and_mask_reserved e.2 r.mask⟩
    next => exact hc
  next => exact hc

/-- Setting such a field keeps the form. -/
theorem ConfigWf.setField {c : Cfg} (h : ConfigWf c) {f : Fld} (v : Nat) (hf : fieldInLk f = true) :
    ConfigWf { c with lk := sput 0 c.lk f.addr ((sget 0 c.lk f.addr).setField f.lo f.width v) } := by
  simp only [fieldInLk, Option.any_eq_true, Bool.and_eq_true, beq_iff_eq] at hf
  obtain ⟨r, hr, hacc, hmask⟩ := hf
  exact h.put fun _ => ⟨r, hr, hacc, setField_reserved v (h.sget_reserved hr) hmask⟩

/-- The protection set-up that an image describes is in the canonical form (R49). -/
theorem configWf_imageCfg (x : Image) : ConfigWf (imageCfg x) :=
  (configWf_lkMap x.lk _).foldl fun _ hc _ he => hc.setField _ (fieldInLk_of_mem_defaults (List.mem_filter.1 he).1)

/-! ## The configuration after start-up -/

theorem configWf_startHold (d : Dyn) (cause : Nat) : ConfigWf (startHold d cause).1 := configWf_of_lk_nil rfl

theorem configWf_acceptImage (d : Dyn) (x : Image) (i pending : Bool) (rejected : Option Nat) :
    ConfigWf (acceptImage d x i pending rejected).1 := configWf_imageCfg x

/-- Steps 4 to 8 of R40 end in the start-up hold or with an accepted image. -/
theorem configWf_readKey (d : Dyn) (k : Key) : ConfigWf (d.readKey k).1 := by
  unfold Dyn.readKey
  split
  · exact configWf_startHold ..
  extract_lets d
  split
  · exact configWf_startHold ..
  extract_lets dir d active x
  have hactive : ∀ d rejected, ConfigWf (active d rejected).1 := by
    intro d rejected
    unfold active
    extract_lets d x
    split
    · exact configWf_startHold ..
    split
    · exact configWf_acceptImage ..
    · exact configWf_startHold ..
  split
  · exact hactive ..
  split
  · exact configWf_acceptImage ..
  · exact configWf_startHold ..
  · exact hactive ..

theorem configWf_startUp (d : Dyn) : ConfigWf d.startUp.1 := by
  unfold Dyn.startUp
  split
  extract_lets d
  split
  · exact configWf_of_lk_nil rfl
  extract_lets d₁ d₂ d₃
  split
  · exact configWf_of_lk_nil rfl
  split
  · exact configWf_startHold ..
  · exact configWf_readKey ..

/-! ## What a command can do to the configuration -/

/-- The configurations that command `i` can leave where it finds `c`: the release of reset starts anew (R40); before the
lock, BOOT_LOCK locks (R50), the watchdog halts the boot code (R51) and the boot code writes an LK register (R49); a service
authorisation erases the image's data, no LK register (R60). -/
inductive CfgAfter (c : Cfg) : Instr → Cfg → Prop
  | kept {i : Instr} : CfgAfter c i c
  | started {unitB : Bool} {stnId : BitVec 5} {jumper : Bool} (d : Dyn) :
      CfgAfter c (.powerOnReset unitB stnId jumper) d.startUp.1
  | locked {i : Instr} (unlocked : c.locked = false) : CfgAfter c i { c with locked := true }
  | lockedForReplay {i : Instr} (unlocked : c.locked = false) :
      CfgAfter c i { c with locked := true, lk := replayMap c.lk }
  | halted {i : Instr} (unlocked : c.locked = false) : CfgAfter c i { Cfg.init with locked := true }
  | written {i : Instr} (unlocked : c.locked = false) {a : Nat} (lk : isLk a = true) (v : Word) :
      CfgAfter c i { c with lk := sput 0 c.lk a (v &&& ((regRow a).map (·.mask)).getD 0) }
  | erased {i : Instr} : CfgAfter c i { c with img := ImageData.empty }

/-- A meaning of the shape of `State.upd` keeps the configuration. Stated with what it answers in place of the function, so
that a command's meaning unfolds to it. -/
theorem cfg_eq_of_upd {held : Bool} {s t : State} {d : Dyn}
    (h : (.next (if held then s else { s with dyn := d }) : Out) = .next t) : t.cfg = s.cfg := by
  cases held <;> cases h <;> rfl

/-- The same, for a meaning that acts in reset too (the shape of `State.always`). -/
theorem cfg_eq_of_always {s t : State} {d : Dyn} (h : (.next { s with dyn := d } : Out) = .next t) : t.cfg = s.cfg := by
  cases h; rfl

theorem CfgAfter.of_eq {c c' : Cfg} {i : Instr} (h : c' = c) : CfgAfter c i c' := h ▸ .kept

theorem execBootLock_cfg {i : Instr} {w : Word} {s t : State} (h : execBootLock w s = .next t) :
    CfgAfter s.cfg i t.cfg := by
  unfold execBootLock at h
  split at h
  · cases h; exact .kept
  next hg =>
    simp only [Bool.or_eq_true, not_or, Bool.not_eq_true] at hg
    obtain ⟨⟨⟨-, hopen⟩, -⟩, -⟩ := hg
    split at h
    · cases h; exact .lockedForReplay hopen
    · cases h; exact .locked hopen

theorem execBootWatchdogExpiry_cfg {i : Instr} {s t : State} (h : execBootWatchdogExpiry s = .next t) :
    CfgAfter s.cfg i t.cfg := by
  unfold execBootWatchdogExpiry at h
  split at h
  · cases h; exact .kept
  next hg =>
    simp only [Bool.or_eq_true, not_or, Bool.not_eq_true] at hg
    obtain ⟨⟨-, hopen⟩, -⟩ := hg
    cases h; exact .halted hopen

theorem execServiceAuthorisation_cfg {i : Instr} {auth : ServiceAuth} {s t : State}
    (h : execServiceAuthorisation auth s = .next t) : CfgAfter s.cfg i t.cfg := by
  unfold execServiceAuthorisation at h
  split at h
  · cases h; exact .kept
  · split at h
    · cases h; exact .kept
    · cases h; exact .erased

theorem execRegisterWrite_cfg {i : Instr} {who : Requester} {addr v : Word} {s t : State}
    (h : execRegisterWrite who addr v s = .next t) : CfgAfter s.cfg i t.cfg := by
  unfold execRegisterWrite at h
  dsimp only at h
  split at h
  next hg =>
    simp only [Bool.and_eq_true, Bool.not_eq_true'] at hg
    obtain ⟨⟨⟨⟨⟨-, hopen⟩, -⟩, -⟩, -⟩, hlk⟩ := hg
    split at h
    · exact execBootLock_cfg h
    · cases h; exact .written hopen hlk v
  next => exact .of_eq (State.upd_next h).1

/-- All that a command can do to the configuration. -/
theorem exec_cfg {i : Instr} {s t : State} (h : exec i s = .next t) : CfgAfter s.cfg i t.cfg := by
  cases i with
  | powerOnReset unitB stnId jumper => cases h; exact .started _
  | bootLock word => exact execBootLock_cfg h
  | bootWatchdogExpiry => exact execBootWatchdogExpiry_cfg h
  | serviceAuthorisation auth => exact execServiceAuthorisation_cfg h
  | registerWrite who addr v => exact execRegisterWrite_cfg h
  | keyInserted k => exact .of_eq (cfg_eq_of_upd (s := { s with dyn := s.dyn.setKey k }) h)
  | keyRemoved =>
    exact .of_eq (cfg_eq_of_upd (s := { s with dyn := { s.dyn with nv := { s.dyn.nv with key := none } } }) h)
  | join from_ => cases from_ <;> exact .of_eq (cfg_eq_of_upd h)
  | fieldWatchdogExpiry _ | jumperRemoved | backupSwitchOver | timeLost => exact .of_eq (cfg_eq_of_always h)
  | _ => exact .of_eq (cfg_eq_of_upd h)

/-- All that a step can do to the configuration. -/
theorem step_cfg {s t : State} (h : step s = .next t) :
    t.cfg = s.cfg ∨ ∃ i rest, s.pending = i :: rest ∧ CfgAfter s.cfg i t.cfg := by
  unfold step at h
  split at h
  · cases h; exact .inl rfl
  next i rest hp => exact .inr ⟨i, rest, hp, exec_cfg (s := { s with pending := rest }) h⟩

/-! ## The lock and the canonical form -/

/-- A locked configuration stays locked with its LK registers, whatever the command, but for the release of reset. -/
theorem CfgAfter.locked_stands {c c' : Cfg} {i : Instr} (h : CfgAfter c i c') (hl : c.locked = true)
    (hi : ∀ u n j, i ≠ .powerOnReset u n j) : c'.locked = true ∧ c'.lk = c.lk := by
  cases h with
  | kept | erased => exact ⟨hl, rfl⟩
  | started => exact absurd rfl (hi _ _ _)
  | locked hopen | lockedForReplay hopen | halted hopen | written hopen => simp [hopen] at hl

/-- Unmapping the levee terms for a replay keeps the form: it only clears registers. -/
theorem ConfigWf.replayMap {c : Cfg} (h : ConfigWf c) : ConfigWf { c with lk := replayMap c.lk } :=
  h.foldl fun _ hc _ _ => (((hc.clear _).clear _).clear _).clear _

/-- Every command keeps the canonical form. -/
theorem CfgAfter.configWf {c c' : Cfg} {i : Instr} (h : CfgAfter c i c') (hc : ConfigWf c) : ConfigWf c' := by
  cases h with
  | kept => exact hc
  | started d => exact configWf_startUp d
  | locked | erased => exact hc.of_lk_eq rfl
  | lockedForReplay => exact hc.replayMap.of_lk_eq rfl
  | halted => exact configWf_of_lk_nil rfl
  | @written _ _ a hlk v =>
    obtain ⟨r, hr, hacc⟩ := (Option.any_eq_true _ _).1 hlk
    refine hc.put fun _ => ⟨r, hr, by simpa using hacc, ?_⟩
    simp only [hr, Option.map_some, Option.getD_some, and_mask_reserved]

/-- Settles O5: of all that a step can do to the configuration, only the release of reset changes a locked one. -/
theorem lockedConfigurationStands : Obligations.LockedConfigurationStands := by
  intro s t hl hreset h
  rcases step_cfg h with hcfg | ⟨i, rest, hp, hi⟩
  · rw [hcfg]; exact ⟨hl, rfl⟩
  · refine hi.locked_stands hl fun u n j hij => hreset ⟨u, n, j, rest, ?_⟩
    rw [hp, hij]

/-- Settles O6, by the cases of what a step can do to the configuration. -/
theorem safeKept : Obligations.SafeKept := by
  intro s t hs h
  rcases step_cfg h with hcfg | ⟨i, rest, -, hi⟩
  · exact hs.of_lk_eq (congrArg Cfg.lk hcfg)
  · exact hi.configWf hs

/-- Settles O7: at reset no LK register is listed. -/
theorem safeAtReset : Obligations.SafeAtReset := configWf_of_lk_nil rfl

end Sys2Proof.Machine
end

section
/-! SUPPORT. What a read and a write of a register do, by its access type, and an access that reaches none (R10, R24). -/

namespace Sys2Proof.Machine

section
variable {c : Cfg} {d : Dyn} {who : Requester} {addr : Word}

/-! ## Access errors -/

theorem Dyn.accErr_count (d : Dyn) (addr : Word) : (d.accErr addr).get F.MOD_ACC_ERR_COUNT =
    min (d.get F.MOD_ACC_ERR_COUNT + 1) (2 ^ F.MOD_ACC_ERR_COUNT.width - 1) := by
  have hw : 0 < 2 ^ F.MOD_ACC_ERR_COUNT.width := Nat.two_pow_pos _
  rw [Dyn.accErr, Dyn.get_wr_ne _ _ (by decide), Dyn.bump, Dyn.get_put_same _ _ _ (by decide)]
  exact Nat.mod_eq_of_lt (by omega)

@[simp] theorem Dyn.accErr_addr (d : Dyn) (addr : Word) : (d.accErr addr).rd Reg.MOD_ACC_ADDR = addr :=
  Dyn.rd_wr_same ..

theorem Dyn.accErr_rd_ne (d : Dyn) (addr : Word) {b : Nat} (he : b ≠ Reg.MOD_ACC_ERR) (ha : b ≠ Reg.MOD_ACC_ADDR) :
    (d.accErr addr).rd b = d.rd b :=
  (Dyn.rd_wr_ne _ _ ha).trans (Dyn.rd_put_ne _ _ he)

@[simp] theorem Dyn.accErr_readData (d : Dyn) (addr : Word) : (d.accErr addr).readData = d.readData := rfl

/-! ## Accesses that reach a register, and others -/

theorem Dyn.reaches_of_granted {r : RegRow} {write : Bool} (hal : addr.toNat % 4 = 0) (hr : regRow addr.toNat = some r)
    (hm : d.mayAccess c who addr.toNat write = true) : d.reaches c who addr write = true := by
  simp [Dyn.reaches, hal, hr, hm]

theorem Dyn.not_reaches {write : Bool} (h : addr.toNat % 4 ≠ 0 ∨ regRow addr.toNat = none) :
    d.reaches c who addr write = false := by
  rcases h with h | h <;> simp [Dyn.reaches, h]

/-- A read that reaches no register. -/
theorem Dyn.reads_unreached (hs : d.portServed who = true) (h : addr.toNat % 4 ≠ 0 ∨ regRow addr.toNat = none) :
    d.reads c who addr = { d.accErr addr with readData := 0 } := by
  simp [Dyn.reads, Dyn.busRead, hs, Dyn.not_reaches h]

/-- A write that reaches no register; it is no violation of the lock either. -/
theorem Dyn.busWrite_unreached (v : Word) (hs : d.portServed who = true)
    (h : addr.toNat % 4 ≠ 0 ∨ regRow addr.toNat = none) : d.busWrite c who addr v = d.accErr addr := by
  have hlk : (addr.toNat % 4 == 0 && isLk addr.toNat) = false := by
    rcases h with h | h <;> simp [h, isLk]
  simp [Dyn.busWrite, hs, hlk, Dyn.not_reaches h]

/-- A granted read of an RC register (R10). -/
theorem Dyn.reads_rc {r : RegRow} (hs : d.portServed who = true) (hal : addr.toNat % 4 = 0)
    (hr : regRow addr.toNat = some r) (hacc : r.acc = .rc) (hm : d.mayAccess c who addr.toNat false = true) :
    d.reads c who addr =
      { d.wr addr.toNat (d.afterRead addr.toNat) with readData := d.regValue c addr.toNat } := by
  simp [Dyn.reads, Dyn.busRead, hs, Dyn.reaches_of_granted hal hr hm, hr, hacc]

/-- A granted read of an LT register (R10). -/
theorem Dyn.reads_lt {r : RegRow} (hs : d.portServed who = true) (hal : addr.toNat % 4 = 0)
    (hr : regRow addr.toNat = some r) (hacc : r.acc = .lt) (hm : d.mayAccess c who addr.toNat false = true) :
    d.reads c who addr = { d.latchFor addr.toNat with readData := d.regValue c addr.toNat } := by
  simp [Dyn.reads, Dyn.busRead, hs, Dyn.reaches_of_granted hal hr hm, hr, hacc]

/-- Outside the block of the queues a register read and cleared holds zero. -/
theorem Dyn.afterRead_eq_zero {a : Nat} (h : a < 0xE0000 ∨ 0xE1000 ≤ a) : d.afterRead a = 0 := by
  refine if_neg ?_
  simp only [Bool.and_eq_true, decide_eq_true_eq]
  omega

/-- A granted write of a W1C register (R10): the bits written as 1 are cleared, the writer is noted. -/
theorem Dyn.busWrite_w1c {r : RegRow} (v : Word) (hs : d.portServed who = true) (hal : addr.toNat % 4 = 0)
    (hr : regRow addr.toNat = some r) (hacc : r.acc = .w1c) (hm : d.mayAccess c who addr.toNat true = true) :
    d.busWrite c who addr v = (d.by_ who).wr addr.toNat (d.rd addr.toNat &&& ~~~(v &&& r.mask)) := by
  have hlk : isLk addr.toNat = false := by simp [isLk, hr, hacc]
  simp only [Dyn.busWrite, hlk, hs, Dyn.reaches_of_granted hal hr hm, hr, hacc, Bool.and_false, Bool.false_and,
    Bool.not_true, Bool.false_eq_true, if_false]
  rfl

/-- The boot code's write of an LK register while it writes the protection set-up (R10, R49). -/
theorem execRegisterWrite_setup {s : State} {r : RegRow} (v : Word) (hlive : Live s) (hopen : s.cfg.locked = false)
    (hstage : s.dyn.boot.stage = .setup) (hal : addr.toNat % 4 = 0) (hr : regRow addr.toNat = some r) (hacc : r.acc = .lk)
    (hne : addr.toNat ≠ Reg.BOOT_LOCK) : execRegisterWrite .boot addr v s =
      .next { s with cfg := { s.cfg with lk := sput 0 s.cfg.lk addr.toNat (v &&& r.mask) } } := by
  have hlk : isLk addr.toNat = true := by simp [isLk, hr, hacc]
  simp [execRegisterWrite, hopen, hstage, hlive, hal, hlk, hne, hr]

/-- An access that is narrow, misaligned or unoccupied, over a port that is served (R24). -/
theorem execUnoccupiedAccess_unreached {s : State} {narrow : Bool} (write : Bool) (v : Word) (hlive : Live s)
    (hs : s.dyn.portServed who = true) (h : narrow = true ∨ addr.toNat % 4 ≠ 0 ∨ regRow addr.toNat = none) :
    execUnoccupiedAccess who addr write narrow v s = .next (s.withDyn
      (if write then s.dyn.accErr addr else { s.dyn.accErr addr with readData := 0 })) := by
  rw [execUnoccupiedAccess, State.upd_eq hlive]
  cases narrow with
  | true => simp [hs, State.withDyn]
  | false =>
    have hun := h.resolve_left Bool.false_ne_true
    simp [hs, State.withDyn, Dyn.busWrite_unreached v hs hun, Dyn.reads_unreached hs hun]

end

/-- Settles O47, by what a read and a write do in each access type. -/
theorem registerAccesses : Obligations.RegisterAccesses := by
  intro s who addr v r hlive a ok
  refine ⟨?lk, ?w1c, ?reads, ?unreached⟩
  case lk =>
    rintro ⟨hal, hr⟩ rfl hopen hstage hacc hne
    exact execRegisterWrite_setup v hlive hopen hstage hal hr hacc hne
  case w1c =>
    rintro ⟨hal, hr⟩ hacc ⟨hs, hm⟩
    have hw := s.upd_eq hlive fun c d => d.busWrite c who addr v
    rw [Dyn.busWrite_w1c v hs hal hr hacc hm] at hw
    exact ⟨_, hw, rfl, Dyn.rd_wr_same .., fun b hb => Dyn.rd_wr_ne _ _ hb⟩
  case reads =>
    rintro ⟨hs, hm⟩
    have hread := s.upd_eq hlive fun c d => d.reads c who addr
    constructor
    · rintro ⟨hal, hr⟩ hacc
      rw [Dyn.reads_rc hs hal hr hacc hm] at hread
      exact ⟨hread, Dyn.afterRead_eq_zero⟩
    · rintro ⟨hal, hr⟩ hacc
      rw [Dyn.reads_lt hs hal hr hacc hm] at hread
      exact hread
  case unreached =>
    intro write narrow hs h
    refine ⟨_, execUnoccupiedAccess_unreached write v hlive hs h, rfl, rfl, ?_⟩
    cases write
    · exact ⟨s.dyn.accErr_count addr, s.dyn.accErr_addr addr, fun _ => rfl, nofun, fun b => s.dyn.accErr_rd_ne addr⟩
    · exact ⟨s.dyn.accErr_count addr, s.dyn.accErr_addr addr, nofun, fun _ => rfl, fun b => s.dyn.accErr_rd_ne addr⟩

end Sys2Proof.Machine
end

section
/-! SUPPORT. What a held module does (R57, R274, R467). -/

namespace Sys2Proof.Machine

/-- A meaning of the shape of `State.upd` does nothing in reset. Stated with what it answers in place of the function, so that a
command's meaning unfolds to it. -/
theorem next_eq_of_held {s : State} (h : s.dyn.boot.held = true) (d : Dyn) :
    (.next (if s.dyn.boot.held then s else { s with dyn := d }) : Out) = .next s := by rw [if_pos h]

theorem execBootLock_held {s : State} (h : s.dyn.boot.held = true) (w : Word) : execBootLock w s = .next s := by
  simp [execBootLock, h]

theorem execBootWatchdogExpiry_held {s : State} (h : s.dyn.boot.held = true) :
    execBootWatchdogExpiry s = .next s := by
  simp [execBootWatchdogExpiry, h]

theorem execServiceAuthorisation_held {s : State} (h : s.dyn.boot.held = true) (a : ServiceAuth) :
    execServiceAuthorisation a s = .next s := by
  simp [execServiceAuthorisation, Dyn.authServed, h]

/-- In reset no write is the boot code's of its protection set-up. -/
theorem execRegisterWrite_held {s : State} (h : s.dyn.boot.held = true) (who : Requester) (addr v : Word) :
    execRegisterWrite who addr v s = .next s := by
  simp [execRegisterWrite, State.upd_held, h]

/-- Settles O4, by the commands: all but those named have the shape of `State.upd`, or check for the stay in reset
themselves (log entries 39, 51). -/
theorem heldModuleIsInert : Obligations.HeldModuleIsInert := by
  intro c s h hc
  cases c with
  | powerOnReset | fieldWatchdogExpiry | backupSwitchOver | timeLost | jumperRemoved | keyRemoved | keyInserted =>
    exact hc.elim
  | bootLock w => exact execBootLock_held h w
  | bootWatchdogExpiry => exact execBootWatchdogExpiry_held h
  | serviceAuthorisation a => exact execServiceAuthorisation_held h a
  | registerWrite who addr v => exact execRegisterWrite_held h who addr v
  | join from_ => cases from_ <;> exact next_eq_of_held h _
  | _ => exact next_eq_of_held h _

/-! ## The update commands (R32, R68, R71) -/

/-- A command register's write that is served and granted. -/
theorem Dyn.gated_granted {s : State} {who : Requester} {addr : Nat} (h : MayWrite s who addr) (f : Dyn → Dyn) :
    s.dyn.gated s.cfg who addr f = f (s.dyn.by_ who) := by
  obtain ⟨hport, hmay⟩ := h
  simp [Dyn.gated, hport, hmay, Dyn.by_]

section
variable {d : Dyn} {code : Nat} {bank : Bool}

/-- The update service accepts a listed transition (R71). -/
theorem Dyn.bootWrite_listed (hserved : d.bootServed = true) (hbusy : d.bootBusy = false)
    (hkey : bank = true ∨ d.keyUsable.isSome = true) (hok : d.bootAllowed code bank = true) :
    d.bootWrite code bank = (({ d with boot := { d.boot with target := bank } } : Dyn).put F.BOOT_CMD_STAT_LAST code).put
      F.BOOT_CMD_STAT_STATUS 1 := by
  have hneed : (!bank && d.keyUsable.isNone) = false := by rcases hkey with h | h <;> simp [h]
  simp [Dyn.bootWrite, Dyn.bootStat, hserved, hbusy, hneed, hok]

theorem Dyn.bootWrite_notListed (hserved : d.bootServed = true) (hbusy : d.bootBusy = false)
    (hkey : bank = true ∨ d.keyUsable.isSome = true) (hno : d.bootAllowed code bank = false) :
    d.bootWrite code bank = d.put F.BOOT_CMD_STAT_STATUS 3 := by
  have hneed : (!bank && d.keyUsable.isNone) = false := by rcases hkey with h | h <;> simp [h]
  simp [Dyn.bootWrite, Dyn.bootStat, hserved, hbusy, hneed, hno]

theorem Dyn.bootWrite_keyLost (hserved : d.bootServed = true) (hbusy : d.bootBusy = false) (hkey : d.keyUsable = none)
    (hcode : 1 ≤ code ∧ code ≤ 6) :
    d.bootWrite code false = (d.put F.BOOT_CMD_STAT_LAST code).put F.BOOT_CMD_STAT_STATUS 4 := by
  simp [Dyn.bootWrite, Dyn.bootStat, hserved, hbusy, hkey, hcode]

end

/-- The six update commands write their code to BOOT_CMD. -/
theorem exec_updateCommand {who : Requester} {bank : Bool} {k : Nat} {c : Instr}
    (h : (k, c) ∈ [(1, .updWrite who bank), (2, .updDone who bank), (3, .verifyPending who bank),
      (4, .requestActivate who bank), (5, .cancelActivate who bank), (6, .erasePending who bank)]) (s : State) :
    exec c s = bootCommand who k bank s ∧ 1 ≤ k ∧ k ≤ 6 := by
  simp only [List.mem_cons, Prod.mk.injEq, List.not_mem_nil, or_false] at h
  rcases h with ⟨rfl, rfl⟩ | ⟨rfl, rfl⟩ | ⟨rfl, rfl⟩ | ⟨rfl, rfl⟩ | ⟨rfl, rfl⟩ | ⟨rfl, rfl⟩ <;>
    exact ⟨rfl, by decide⟩

/-- Settles O29, by what a write of BOOT_CMD does when the service answers (log entry 46). -/
theorem updateCommandsRun : Obligations.UpdateCommandsRun := by
  intro s who bank k c hc hlive hmay hserved hbusy d
  obtain ⟨hexec, hcode⟩ := exec_updateCommand hc s
  have hwrite : exec c s = .next (s.withDyn (d.bootWrite k bank)) := by
    rw [hexec, bootCommand, State.upd_eq hlive, Dyn.gated_granted hmay]
    rfl
  rw [hwrite]
  refine ⟨fun hkey hok => ?listed, fun hkey hno => ?refused, fun hb hkey => ?keyLost⟩
  case listed => rw [Dyn.bootWrite_listed (d := d) hserved hbusy hkey hok]
  case refused => rw [Dyn.bootWrite_notListed (d := d) hserved hbusy hkey hno]
  case keyLost => rw [hb, Dyn.bootWrite_keyLost (d := d) hserved hbusy hkey hcode]

end Sys2Proof.Machine
end

section
/-! SUPPORT. The registers that show the secure store and the firmware banks, the module's state, and the lock violation: what
writes them, and what it leaves (R52, R57–R66, R70, R72). -/

namespace Sys2Proof.Machine

/-! ## What another dynamic part leaves. Stated for any part: with a large one in its place, `rfl` would compare it. -/

@[simp] theorem State.withDyn_cfg (s : State) (d : Dyn) : (s.withDyn d).cfg = s.cfg := rfl
@[simp] theorem State.withDyn_pending (s : State) (d : Dyn) : (s.withDyn d).pending = s.pending := rfl
@[simp] theorem State.withDyn_dyn (s : State) (d : Dyn) : (s.withDyn d).dyn = d := rfl

/-! ## Fields across writes -/

theorem Dyn.flag_put_ne (d : Dyn) {f g : Fld} (v : Nat) (h : g.addr ≠ f.addr) : (d.put f v).flag g = d.flag g := by
  simp only [Dyn.flag, d.get_put_ne v h]

theorem Dyn.flag_put_disjoint (d : Dyn) {f g : Fld} (v : Nat) (ha : g.addr = f.addr) (h : f.lo + f.width ≤ 32)
    (hd : g.lo + g.width ≤ f.lo ∨ f.lo + f.width ≤ g.lo) : (d.put f v).flag g = d.flag g := by
  simp only [Dyn.flag, d.get_put_disjoint v ha h hd]

theorem Dyn.flag_wr_ne (d : Dyn) {a : Nat} {g : Fld} (v : Word) (h : g.addr ≠ a) : (d.wr a v).flag g = d.flag g := by
  simp only [Dyn.flag, d.get_wr_ne v h]

/-- A field reads alike where its register does. -/
theorem Dyn.get_congr {d d' : Dyn} {f : Fld} (h : d'.rd f.addr = d.rd f.addr) : d'.get f = d.get f := by
  simp only [Dyn.get, h]

theorem Dyn.flag_congr {d d' : Dyn} {f : Fld} (h : d'.rd f.addr = d.rd f.addr) : d'.flag f = d.flag f := by
  simp only [Dyn.flag, Dyn.get_congr h]

/-- Registers are all that a read sees. -/
theorem Dyn.rd_congr {d d' : Dyn} (h : d'.regs = d.regs) (a : Nat) : d'.rd a = d.rd a := congrArg (sget 0 · a) h

/-! ## The secure store's registers (R72) -/

@[simp] theorem Dyn.secRegs_boot (d : Dyn) : d.secRegs.boot = d.boot := rfl
@[simp] theorem Dyn.secRegs_nv (d : Dyn) : d.secRegs.nv = d.nv := rfl
@[simp] theorem Dyn.secRegs_slc (d : Dyn) : d.secRegs.slc = d.slc := rfl
@[simp] theorem Dyn.secRegs_clk (d : Dyn) : d.secRegs.clk = d.clk := rfl

theorem Dyn.rd_secRegs (d : Dyn) {a : Nat} (h : a < 0x120000) : d.secRegs.rd a = d.rd a := by
  have ne : ∀ b, 0x120000 ≤ b → a ≠ b := by omega
  simp (disch := exact ne _ (by decide)) only [Dyn.secRegs, Dyn.setFlag, Dyn.rd_put_ne, Dyn.rd_wr_ne]

theorem Dyn.secRegs_opened (d : Dyn) : d.secRegs.flag F.SEC_STATUS_OPENED = d.nv.opened := by
  simp (disch := decide) only [Dyn.secRegs, Dyn.flag_put_ne, Dyn.flag_wr_ne, Dyn.flag_setFlag_disjoint,
    Dyn.flag_setFlag_same]

/-- DEBUG_LIVE is the port's, not the secure store's. -/
theorem Dyn.secRegs_debugLive (d : Dyn) : d.secRegs.flag F.SEC_STATUS_DEBUG_LIVE = d.flag F.SEC_STATUS_DEBUG_LIVE := by
  simp (disch := decide) only [Dyn.secRegs, Dyn.flag_put_ne, Dyn.flag_wr_ne, Dyn.flag_setFlag_disjoint]

theorem Dyn.secRegs_provCount (d : Dyn) : d.secRegs.get F.SEC_PROV_COUNT_COUNT = d.nv.provCount % 2 ^ 16 := by
  unfold Dyn.secRegs
  rw [Dyn.get_put_ne _ _ (by decide), Dyn.get_put_same _ _ _ (by decide)]
  rfl

/-! ## The module's state -/

@[simp] theorem Dyn.enter_nv (d : Dyn) (st cause : Nat) : (d.enter st cause).nv = d.nv := rfl
@[simp] theorem Dyn.enter_slc (d : Dyn) (st cause : Nat) : (d.enter st cause).slc = d.slc := rfl
@[simp] theorem Dyn.enter_stage (d : Dyn) (st cause : Nat) : (d.enter st cause).boot.stage = d.boot.stage := rfl
@[simp] theorem Dyn.enter_held (d : Dyn) (st cause : Nat) : (d.enter st cause).boot.held = d.boot.held := rfl

theorem Dyn.rd_enter (d : Dyn) (st cause : Nat) {a : Nat} (h : a ≠ Reg.MOD_STATE) : (d.enter st cause).rd a = d.rd a := by
  unfold Dyn.enter
  rw [Dyn.rd_put_ne _ _ h, Dyn.rd_put_ne _ _ h]
  rfl

theorem Dyn.enter_modState (d : Dyn) {st : Nat} (cause : Nat) (h : st < 8) : (d.enter st cause).modState = st := by
  simp only [Dyn.modState, Dyn.enter]
  rw [Dyn.get_put_disjoint _ _ (by decide) (by decide) (by decide), Dyn.get_put_same _ _ _ (by decide)]
  exact Nat.mod_eq_of_lt h

theorem Dyn.enter_cause (d : Dyn) (st : Nat) {cause : Nat} (h : cause < 256) :
    (d.enter st cause).get F.MOD_STATE_CAUSE = cause := by
  simp only [Dyn.enter]
  rw [Dyn.get_put_same _ _ _ (by decide)]
  exact Nat.mod_eq_of_lt h

@[simp] theorem Dyn.stay_nv (d : Dyn) (stage : BootStage) (st cause : Nat) : (d.stay stage st cause).nv = d.nv := rfl
@[simp] theorem Dyn.stay_slc (d : Dyn) (stage : BootStage) (st cause : Nat) : (d.stay stage st cause).slc = d.slc := rfl
@[simp] theorem Dyn.stay_stage (d : Dyn) (stage : BootStage) (st cause : Nat) :
    (d.stay stage st cause).boot.stage = stage := rfl
@[simp] theorem Dyn.stay_held (d : Dyn) (stage : BootStage) (st cause : Nat) :
    (d.stay stage st cause).boot.held = d.boot.held := rfl

theorem Dyn.rd_stay (d : Dyn) (stage : BootStage) (st cause : Nat) {a : Nat} (h : a ≠ Reg.MOD_STATE) :
    (d.stay stage st cause).rd a = d.rd a := Dyn.rd_enter _ st cause h

theorem Dyn.stay_modState (d : Dyn) (stage : BootStage) {st : Nat} (cause : Nat) (h : st < 8) :
    (d.stay stage st cause).modState = st := Dyn.enter_modState _ cause h

theorem Dyn.stay_cause (d : Dyn) (stage : BootStage) (st : Nat) {cause : Nat} (h : cause < 256) :
    (d.stay stage st cause).get F.MOD_STATE_CAUSE = cause := Dyn.enter_cause _ st h

/-! ## Provisioning (R57) -/

/-- The store with the package installed (R57). -/
def NonVol.installed (n : NonVol) (x : ProvPackage) : NonVol :=
  { n with stationKey := some x.stationKey, imageKey := some x.imageKey, verificationKey := some x.verificationKey,
           provCount := min (n.provCount + 1) 0xFFFF, opened := false }

/-- The module with the package in its store and the registers that show it. -/
def Dyn.installed (d : Dyn) (x : ProvPackage) : Dyn := ({ d with nv := d.nv.installed x } : Dyn).secRegs

/-- The module in reset. -/
def Dyn.inReset (d : Dyn) : Dyn := { d with boot := { d.boot with held := true } }

@[simp] theorem Dyn.inReset_nv (d : Dyn) : d.inReset.nv = d.nv := rfl
theorem Dyn.rd_inReset (d : Dyn) (a : Nat) : d.inReset.rd a = d.rd a := Dyn.rd_congr rfl a

theorem NonVol.installed_provCount (n : NonVol) (x : ProvPackage) :
    (n.installed x).provCount = min (n.provCount + 1) 0xFFFF := rfl

@[simp] theorem Dyn.installed_nv (d : Dyn) (x : ProvPackage) : (d.installed x).nv = d.nv.installed x := rfl

theorem Dyn.installed_provCount (d : Dyn) (x : ProvPackage) :
    (d.installed x).get F.SEC_PROV_COUNT_COUNT = min (d.nv.provCount + 1) 0xFFFF := by
  rw [Dyn.installed, Dyn.secRegs_provCount, NonVol.installed_provCount]
  exact Nat.mod_eq_of_lt (by omega)

theorem Dyn.installed_opened (d : Dyn) (x : ProvPackage) : (d.installed x).flag F.SEC_STATUS_OPENED = false :=
  Dyn.secRegs_opened _

theorem Dyn.rd_installed (d : Dyn) (x : ProvPackage) {a : Nat} (h : a < 0x120000) : (d.installed x).rd a = d.rd a :=
  Dyn.rd_secRegs _ h

theorem execProvisioningPackage_ok {s : State} {x : ProvPackage} (hlive : Live s) (hservice : s.dyn.modState = 5)
    (hok : s.dyn.nv.packageOk x = true) :
    execProvisioningPackage x s = .next (s.withDyn (s.dyn.installed x).inReset) := by
  rw [execProvisioningPackage, State.upd_eq hlive, if_pos (by simp [hservice, hok])]
  rfl

/-- Settles O45: the store takes the package's keys, and of the registers only those that show the store change. The
restart is the stay in reset (log entry 51). -/
theorem provisioningPackage : Obligations.ProvisioningPackage := by
  intro s x hlive hservice hok
  have hrd (a : Nat) : (s.dyn.installed x).inReset.rd a = (s.dyn.installed x).rd a := Dyn.rd_inReset _ a
  have hnv : (s.dyn.installed x).inReset.nv = s.dyn.nv.installed x := by simp
  exact ⟨_, execProvisioningPackage_ok hlive hservice hok, s.withDyn_cfg _, s.withDyn_pending _, hnv,
    (Dyn.get_congr (hrd _)).trans (Dyn.installed_provCount ..), (Dyn.flag_congr (hrd _)).trans (Dyn.installed_opened ..), rfl,
    fun a ha => (hrd a).trans (Dyn.rd_installed _ _ ha)⟩

/-! ## Writes after the lock (R52) -/

theorem Dyn.violation_count (d : Dyn) (who : Requester) (addr : Word) :
    (d.violation who addr).get F.BOOT_PV_COUNT_COUNT =
      min (d.get F.BOOT_PV_COUNT_COUNT + 1) (2 ^ F.BOOT_PV_COUNT_COUNT.width - 1) := by
  have hw : 0 < 2 ^ F.BOOT_PV_COUNT_COUNT.width := Nat.two_pow_pos _
  rw [Dyn.violation, Dyn.get_wr_ne _ _ (by decide), Dyn.get_wr_ne _ _ (by decide), Dyn.bump,
    Dyn.get_put_same _ _ _ (by decide)]
  exact Nat.mod_eq_of_lt (by omega)

theorem Dyn.violation_addr (d : Dyn) (who : Requester) (addr : Word) :
    (d.violation who addr).rd Reg.BOOT_PV_ADDR = addr :=
  (Dyn.rd_wr_ne _ _ (by decide)).trans (Dyn.rd_wr_same ..)

theorem Dyn.violation_src (d : Dyn) (who : Requester) (addr : Word) :
    (d.violation who addr).rd Reg.BOOT_PV_SRC = pvSrc who := Dyn.rd_wr_same ..

theorem Dyn.rd_violation (d : Dyn) (who : Requester) (addr : Word) {a : Nat} (hc : a ≠ Reg.BOOT_PV_COUNT)
    (ha : a ≠ Reg.BOOT_PV_ADDR) (hs : a ≠ Reg.BOOT_PV_SRC) : (d.violation who addr).rd a = d.rd a :=
  (Dyn.rd_wr_ne _ _ hs).trans ((Dyn.rd_wr_ne _ _ ha).trans (Dyn.rd_put_ne _ _ hc))

/-- What a violation records is no part of the rights. -/
theorem Dyn.violation_mayAccess (c : Cfg) (d : Dyn) (who who' : Requester) (addr : Word) (a : Nat) (write : Bool) :
    (d.violation who addr).mayAccess c who' a write = d.mayAccess c who' a write := by
  have hstate : (d.violation who addr).modState = d.modState :=
    Dyn.get_congr (d.rd_violation who addr (by decide) (by decide) (by decide))
  simp only [Dyn.mayAccess, hstate]

/-- A write to an LK register after the lock is a violation; one that the rights deny is an access error as well (R24). -/
theorem Dyn.busWrite_locked {c : Cfg} {d : Dyn} {who : Requester} {addr : Word} (v : Word)
    (hserved : d.portServed who = true) (hlocked : c.locked = true) (hal : addr.toNat % 4 = 0)
    (hlk : isLk addr.toNat = true) : d.busWrite c who addr v =
      if d.mayAccess c who addr.toNat true then (d.violation who addr).by_ who else (d.violation who addr).accErr addr := by
  obtain ⟨r, hr, hacc⟩ := (Option.any_eq_true _ _).1 hlk
  have hacc : r.acc = .lk := by simpa using hacc
  have hserved' : (d.violation who addr).portServed who = true := hserved
  have hreach : (d.violation who addr).reaches c who addr true = d.mayAccess c who addr.toNat true := by
    simp [Dyn.reaches, hal, hr, Dyn.violation_mayAccess]
  simp only [Dyn.busWrite, hal, hlk, hserved, hserved', hlocked, hreach, hr, hacc, beq_self_eq_true, Bool.and_self,
    Bool.not_true, Bool.false_eq_true, if_true, if_false]
  cases d.mayAccess c who addr.toNat true <;> rfl

theorem execRegisterWrite_locked {s : State} (hlive : Live s) (hlocked : s.cfg.locked = true) (who : Requester)
    (addr v : Word) :
    execRegisterWrite who addr v s = .next (s.withDyn (s.dyn.busWrite s.cfg who addr v)) := by
  simp only [execRegisterWrite, hlocked, Bool.not_true, Bool.and_false, Bool.false_and, Bool.false_eq_true, if_false,
    State.upd_eq hlive, State.withDyn]

/-- Settles O46, by what a locked write does to the bus, granted or denied; the writer is shown as log entry 43 has it. -/
theorem lockedWriteIsCounted : Obligations.LockedWriteIsCounted := by
  intro s who addr v hlive hlocked hserved hal hlk
  refine ⟨_, execRegisterWrite_locked hlive hlocked who addr v, s.withDyn_cfg _, s.withDyn_pending _, ?_⟩
  rw [Dyn.busWrite_locked v hserved hlocked hal hlk]
  cases hmay : s.dyn.mayAccess s.cfg who addr.toNat true with
  | true =>
    refine ⟨s.dyn.violation_count who addr, s.dyn.violation_addr who addr, (s.dyn.violation_src who addr).trans ?src, nofun,
      fun _ => ⟨?err, ?at_⟩, fun a hc ha hs _ _ => s.dyn.rd_violation who addr hc ha hs, rfl⟩
    case src => cases who <;> rfl
    all_goals exact s.dyn.rd_violation who addr (by decide) (by decide) (by decide)
  | false =>
    have hbefore {a : Nat} (he : a ≠ Reg.MOD_ACC_ERR) (ha : a ≠ Reg.MOD_ACC_ADDR) :=
      (s.dyn.violation who addr).accErr_rd_ne addr he ha
    refine ⟨(Dyn.get_congr (hbefore (by decide) (by decide))).trans (s.dyn.violation_count who addr),
      (hbefore (by decide) (by decide)).trans (s.dyn.violation_addr who addr),
      (hbefore (by decide) (by decide)).trans ((s.dyn.violation_src who addr).trans ?src),
      fun _ => ⟨?count, Dyn.accErr_addr _ addr⟩, nofun,
      fun a hc ha hs he hat => (hbefore he hat).trans (s.dyn.rd_violation who addr hc ha hs), rfl⟩
    case src => cases who <;> rfl
    case count =>
      have hcount : (s.dyn.violation who addr).get F.MOD_ACC_ERR_COUNT = s.dyn.get F.MOD_ACC_ERR_COUNT :=
        Dyn.get_congr (s.dyn.rd_violation who addr (by decide) (by decide) (by decide))
      exact hcount ▸ Dyn.accErr_count _ addr

end Sys2Proof.Machine
end

section
/-! SUPPORT. The key during operation, the service debug port and the commit of a trial bank (R34, R35, R59–R66). -/

namespace Sys2Proof.Machine

/-! ## The key (R34, R35) -/

/-- The module with its key taken out. -/
def Dyn.withoutKey (d : Dyn) : Dyn := { d with nv := { d.nv with key := none } }

theorem execKeyInserted_live {s : State} (hlive : Live s) (k : Key) :
    execKeyInserted k s = .next (s.withDyn ((s.dyn.setKey k).setFlag F.BOOT_STATUS_KEY_PRESENT true)) :=
  State.upd_eq (s := s.withDyn (s.dyn.setKey k)) hlive fun _ d => d.setFlag F.BOOT_STATUS_KEY_PRESENT true

/-- What KEY_REMOVED does to a module whose key, with serial number `serial`, has just been taken out. -/
def Dyn.keyGone (serial : Option (BitVec 64)) (c : Cfg) (d : Dyn) : Dyn :=
  if !d.flag F.BOOT_STATUS_KEY_PRESENT then d
  else
    let d := d.setFlag F.BOOT_STATUS_KEY_PRESENT false
    let d := if d.bootBusy && !d.boot.target then
        (if d.get F.BOOT_CMD_STAT_LAST = 1 then
          ({ d with boot := { d.boot with wrote := serial } } : Dyn).put F.BOOT_PEND_STATE 1 else d).bootStat 4
      else d
    if d.boot.stage == .running then d.alarm c 0x0101 0 0 0 else d

theorem execKeyRemoved_live {s : State} (hlive : Live s) :
    execKeyRemoved s = .next (s.withDyn (s.dyn.withoutKey.keyGone (s.dyn.nv.key.map (·.serial)) s.cfg)) := by
  have he : execKeyRemoved s = (s.withDyn s.dyn.withoutKey).upd (Dyn.keyGone (s.dyn.nv.key.map (·.serial))) := rfl
  rw [he, State.upd_eq (s := s.withDyn s.dyn.withoutKey) hlive]
  rfl

/-- The removal of a key that was not seen. -/
theorem Dyn.keyGone_unseen {d : Dyn} (h : d.flag F.BOOT_STATUS_KEY_PRESENT = false) (serial : Option (BitVec 64)) (c : Cfg) :
    d.keyGone serial c = d := by
  simp [Dyn.keyGone, h]

/-- The removal of a key: a BUSY command on it ends with KEY_LOST, UPD_WRITE leaves its slot in WRITING (R35), and while
frames run it is an alarm (R34, log entry 48). -/
theorem Dyn.keyGone_seen {d₀ : Dyn} (h : d₀.flag F.BOOT_STATUS_KEY_PRESENT = true) (serial : Option (BitVec 64)) (c : Cfg) :
    let d := d₀.setFlag F.BOOT_STATUS_KEY_PRESENT false
    let e := if d₀.bootBusy = true ∧ d₀.boot.target = false then
        (if d₀.get F.BOOT_CMD_STAT_LAST = 1 then
          ({ d with boot := { d.boot with wrote := serial } } : Dyn).put F.BOOT_PEND_STATE 1
        else d).bootStat 4
      else d
    d₀.keyGone serial c = if d₀.boot.stage = .running then e.alarm c 0x0101 0 0 0 else e := by
  intro d e
  have hcmd (f : Fld) (hf : f.addr ≠ Reg.BOOT_STATUS) : d.get f = d₀.get f := Dyn.get_put_ne _ _ hf
  have hlast : d.get F.BOOT_CMD_STAT_LAST = d₀.get F.BOOT_CMD_STAT_LAST := hcmd _ (by decide)
  have hbusy : d.bootBusy = d₀.bootBusy := by rw [Dyn.bootBusy, hcmd _ (by decide), Dyn.bootBusy]
  have htarget : d.boot.target = d₀.boot.target := rfl
  have he : (if d.bootBusy && !d.boot.target then
      (if d.get F.BOOT_CMD_STAT_LAST = 1 then
        ({ d with boot := { d.boot with wrote := serial } } : Dyn).put F.BOOT_PEND_STATE 1 else d).bootStat 4
      else d) = e := by
    simp only [hlast, hbusy, htarget, Bool.and_eq_true, Bool.not_eq_true', e]
  have hstage : e.boot.stage = d₀.boot.stage := by
    simp only [e]
    split_ifs <;> rfl
  simp only [Dyn.keyGone, h, Bool.not_true, Bool.false_eq_true, if_false, beq_iff_eq]
  rw [he, hstage]

/-! ## The service debug port (R59–R64) -/

/-! ### The nonce -/

theorem Dyn.newNonce_eq (d : Dyn) : d.newNonce =
    (((d.wrFresh (Reg.SEC_NONCE 0)).wrFresh (Reg.SEC_NONCE 1)).wrFresh (Reg.SEC_NONCE 2)).wrFresh (Reg.SEC_NONCE 3) := rfl

@[simp] theorem Dyn.newNonce_nv (d : Dyn) : d.newNonce.nv = d.nv := rfl
@[simp] theorem Dyn.newNonce_boot (d : Dyn) : d.newNonce.boot = d.boot := rfl
@[simp] theorem Dyn.newNonce_slc (d : Dyn) : d.newNonce.slc = d.slc := rfl

theorem Dyn.rd_newNonce (d : Dyn) {a : Nat} (h : a < 0x120020) : d.newNonce.rd a = d.rd a := by
  have ne : ∀ i, a ≠ Reg.SEC_NONCE i := fun i => by unfold Reg.SEC_NONCE; omega
  have hfresh : ∀ (d : Dyn) i, (d.wrFresh (Reg.SEC_NONCE i)).rd a = d.rd a := fun d i => Dyn.rd_wr_ne _ _ (ne i)
  rw [Dyn.newNonce_eq, hfresh, hfresh, hfresh, hfresh]

/-! ### The authorisation -/

theorem execServiceAuthorisation_refused {s : State} {a : ServiceAuth} {r : Nat} (hserved : s.dyn.authServed = true)
    (h : s.dyn.authCause a = some r) : execServiceAuthorisation a s =
      .next (s.withDyn (s.dyn.newNonce.put F.SEC_AUTH_STAT_RESULT r)) := by
  simp only [execServiceAuthorisation, hserved, h, Bool.not_true, Bool.false_eq_true, if_false, State.withDyn]

theorem execServiceAuthorisation_accepted {s : State} {a : ServiceAuth} (hserved : s.dyn.authServed = true)
    (h : s.dyn.authCause a = none) : execServiceAuthorisation a s =
      .next { s with cfg := { s.cfg with img := ImageData.empty }, dyn := s.dyn.newNonce.eraseImage.openPort a } := by
  simp only [execServiceAuthorisation, hserved, h, Bool.not_true, Bool.false_eq_true, if_false]

/-- What the port erases of the verification key. -/
def NonVol.withoutVk (n : NonVol) (a : ServiceAuth) : NonVol :=
  { n with verificationKey := if a.clearVk then none else n.verificationKey }

theorem NonVol.withoutVk_openCount (n : NonVol) (a : ServiceAuth) : (n.withoutVk a).openCount = n.openCount := rfl
theorem NonVol.erased_openCount (n : NonVol) : n.erased.openCount = min (n.openCount + 1) 0xFFFF := rfl

theorem Dyn.rd_withSlc (d : Dyn) (z : Sluice) (x : Nat) : ({ d with slc := z } : Dyn).rd x = d.rd x := Dyn.rd_congr rfl x

/-- The module in SERVICE with its keys erased and the port live (R60). -/
def Dyn.portOpened (d : Dyn) (a : ServiceAuth) : Dyn :=
  (({ d with nv := (d.nv.withoutVk a).erased } : Dyn).secRegs.put F.SEC_AUTH_STAT_RESULT 1).setFlag
    F.SEC_STATUS_DEBUG_LIVE true

section
variable {d : Dyn} {a : ServiceAuth}

/-- An erase that the read-back confirms (R60). -/
theorem Dyn.openPort_erased (h : a.eraseOk = true) :
    d.openPort a = { (d.portOpened a).stay .service 5 0x1C with slc := { (d.portOpened a).slc with framing := false } } := by
  simp only [Dyn.openPort, h, Bool.not_true, Bool.false_eq_true, if_false]
  rfl

theorem Dyn.openPort_erased_nv (h : a.eraseOk = true) : (d.openPort a).nv = (d.nv.withoutVk a).erased := by
  rw [Dyn.openPort_erased h]
  rfl

/-- One that it does not: ERASE_PEND is set, and the port stays as it is (log entry 49). -/
theorem Dyn.openPort_failed (h : a.eraseOk = false) : d.openPort a =
    ({ d with nv := { d.nv.withoutVk a with stationKey := none, imageKey := none, erasePend := true } } : Dyn).secRegs.put
      F.SEC_AUTH_STAT_RESULT 7 := by
  simp only [Dyn.openPort, h, Bool.not_false, if_true]
  rfl

/-- Either way the keys are gone. -/
theorem Dyn.openPort_keys : (d.openPort a).nv.stationKey = none ∧ (d.openPort a).nv.imageKey = none ∧
    (d.openPort a).nv.verificationKey = if a.clearVk then none else d.nv.verificationKey := by
  cases h : a.eraseOk with
  | true =>
    rw [Dyn.openPort_erased_nv h]
    exact ⟨rfl, rfl, rfl⟩
  | false =>
    rw [Dyn.openPort_failed h]
    exact ⟨rfl, rfl, rfl⟩

/-- After a confirmed erase the port is live and the module in SERVICE with cause 0x1C. -/
theorem Dyn.openPort_erased_shows (h : a.eraseOk = true) :
    (d.openPort a).get F.SEC_AUTH_STAT_RESULT = 1 ∧ (d.openPort a).flag F.SEC_STATUS_DEBUG_LIVE = true ∧
      (d.openPort a).flag F.SEC_STATUS_OPENED = true ∧ (d.openPort a).nv.openCount = min (d.nv.openCount + 1) 0xFFFF ∧
      (d.openPort a).modState = 5 ∧ (d.openPort a).get F.MOD_STATE_CAUSE = 0x1C := by
  have hregs (x : Nat) : (d.openPort a).rd x = ((d.portOpened a).stay .service 5 0x1C).rd x := by
    rw [Dyn.openPort_erased h, Dyn.rd_withSlc]
  have hrd {x : Nat} (hx : x ≠ Reg.MOD_STATE) : (d.openPort a).rd x = (d.portOpened a).rd x :=
    (hregs x).trans (Dyn.rd_stay _ _ _ _ hx)
  refine ⟨?result, ?live, ?opened, ?count, ?state, ?cause⟩
  case result =>
    rw [Dyn.get_congr (hrd (by decide)), Dyn.portOpened, Dyn.setFlag, Dyn.get_put_ne _ _ (by decide)]
    exact Dyn.get_put_same _ _ _ (by decide)
  case live =>
    rw [Dyn.flag_congr (hrd (by decide))]
    exact Dyn.flag_setFlag_same _ _ _ (by decide) (by decide)
  case opened =>
    rw [Dyn.flag_congr (hrd (by decide)), Dyn.portOpened, Dyn.flag_setFlag_disjoint _ _ (by decide) (by decide) (by decide),
      Dyn.flag_put_ne _ _ (by decide)]
    exact Dyn.secRegs_opened _
  case count => rw [Dyn.openPort_erased_nv h, NonVol.erased_openCount, NonVol.withoutVk_openCount]
  case state => exact (Dyn.get_congr (hregs _)).trans (Dyn.stay_modState _ _ _ (by decide))
  case cause => exact (Dyn.get_congr (hregs _)).trans (Dyn.stay_cause _ _ _ (by decide))

/-- After one that failed the port is as it was. -/
theorem Dyn.openPort_failed_shows (h : a.eraseOk = false) :
    (d.openPort a).get F.SEC_AUTH_STAT_RESULT = 7 ∧ (d.openPort a).nv.erasePend = true ∧
      (d.openPort a).flag F.SEC_STATUS_DEBUG_LIVE = d.flag F.SEC_STATUS_DEBUG_LIVE := by
  rw [Dyn.openPort_failed h]
  refine ⟨Dyn.get_put_same _ _ _ (by decide), rfl, ?live⟩
  case live =>
    rw [Dyn.flag_put_ne _ _ (by decide), Dyn.secRegs_debugLive]
    rfl

end

/-- The erase of the image (R60) touches neither the secure store nor a register. -/
@[simp] theorem Dyn.eraseImage_nv (d : Dyn) : d.eraseImage.nv = d.nv := rfl
@[simp] theorem Dyn.eraseImage_regs (d : Dyn) : d.eraseImage.regs = d.regs := rfl

/-! ### The jumper (R62) -/

def Dyn.withoutJumper (d : Dyn) : Dyn :=
  (({ d with nv := { d.nv with jumper := false } } : Dyn).setFlag F.SEC_STATUS_JUMPER false).setFlag
    F.SEC_STATUS_DEBUG_LIVE false

theorem execJumperRemoved_eq (s : State) : execJumperRemoved s = .next (s.withDyn s.dyn.withoutJumper) := rfl

theorem Dyn.withoutJumper_live (d : Dyn) : d.withoutJumper.flag F.SEC_STATUS_DEBUG_LIVE = false :=
  Dyn.flag_setFlag_same _ _ _ (by decide) (by decide)

theorem Dyn.withoutJumper_jumper (d : Dyn) : d.withoutJumper.flag F.SEC_STATUS_JUMPER = false := by
  rw [Dyn.withoutJumper, Dyn.flag_setFlag_disjoint _ _ (by decide) (by decide) (by decide)]
  exact Dyn.flag_setFlag_same _ _ _ (by decide) (by decide)

theorem Dyn.rd_withoutJumper (d : Dyn) {a : Nat} (h : a ≠ Reg.SEC_STATUS) : d.withoutJumper.rd a = d.rd a :=
  (Dyn.rd_put_ne _ _ h).trans ((Dyn.rd_put_ne _ _ h).trans (Dyn.rd_congr rfl a))

/-! ## The firmware banks' registers, and the commit of a trial bank (R65, R66) -/

@[simp] theorem Dyn.bankShown_boot (d : Dyn) : d.bankShown.boot = d.boot := rfl
@[simp] theorem Dyn.bankShown_nv (d : Dyn) : d.bankShown.nv = d.nv := rfl
@[simp] theorem Dyn.bankShown_slc (d : Dyn) : d.bankShown.slc = d.slc := rfl
@[simp] theorem Dyn.bankRegs_boot (d : Dyn) : d.bankRegs.boot = d.boot := rfl
@[simp] theorem Dyn.bankRegs_nv (d : Dyn) : d.bankRegs.nv = d.nv := rfl
@[simp] theorem Dyn.bankRegs_slc (d : Dyn) : d.bankRegs.slc = d.slc := rfl

theorem Dyn.rd_bankShown (d : Dyn) {a : Nat} (hs : a ≠ Reg.BOOT_STATUS) (hf : a ≠ Reg.BOOT_FW) :
    d.bankShown.rd a = d.rd a := by
  simp (disch := assumption) only [Dyn.bankShown, Dyn.rd_put_ne, F.BOOT_STATUS_IDLE_STATE, F.BOOT_FW_B0_MAJOR,
    F.BOOT_FW_B0_MINOR, F.BOOT_FW_B1_MAJOR, F.BOOT_FW_B1_MINOR]

theorem Dyn.rd_bankRegs (d : Dyn) {a : Nat} (hs : a ≠ Reg.BOOT_STATUS) (hf : a ≠ Reg.BOOT_FW) (hr : a ≠ Reg.MOD_FW_REV) :
    d.bankRegs.rd a = d.rd a :=
  (Dyn.rd_bankShown _ hs hf).trans ((Dyn.rd_put_ne _ _ hr).trans ((Dyn.rd_put_ne _ _ hr).trans (Dyn.rd_put_ne _ _ hs)))

theorem Dyn.bankRegs_trial (d : Dyn) : d.bankRegs.flag F.BOOT_STATUS_BANK_TRIAL = ((d.nv.bank d.bankNow).state == 3) := by
  simp (disch := decide) only [Dyn.bankRegs, Dyn.bankShown, Dyn.flag_put_ne, Dyn.flag_put_disjoint, Dyn.flag_setFlag_same]

/-- The running bank committed, and SEC_FW_SVN raised to its version (R66). -/
def NonVol.commitBank (n : NonVol) (i : Bool) : NonVol :=
  { n.setBank i { n.bank i with state := 4 } with fwSvn := max n.fwSvn (n.bank i).svn }

theorem NonVol.commitBank_state (n : NonVol) (i : Bool) : ((n.commitBank i).bank i).state = 4 := by cases i <;> rfl

theorem NonVol.commitBank_fwSvn (n : NonVol) (i : Bool) : (n.commitBank i).fwSvn = max n.fwSvn (n.bank i).svn := rfl

def Dyn.trialCommitted (d : Dyn) : Dyn := ({ d with nv := d.nv.commitBank d.bankNow } : Dyn).bankRegs.secRegs

theorem Dyn.trialCommitted_nv (d : Dyn) : d.trialCommitted.nv = d.nv.commitBank d.bankNow := rfl

theorem Dyn.trialCommitted_trial (d : Dyn) : d.trialCommitted.flag F.BOOT_STATUS_BANK_TRIAL = false := by
  rw [Dyn.trialCommitted, Dyn.flag_congr (Dyn.rd_secRegs _ (by decide)), Dyn.bankRegs_trial]
  exact beq_eq_false_iff_ne.2 ((NonVol.commitBank_state d.nv d.bankNow).symm ▸ by decide)

theorem execTrialBankCommit_due {s : State} (hlive : Live s) (htrial : s.dyn.flag F.BOOT_STATUS_BANK_TRIAL = true)
    (hrun : s.dyn.modState = 1) (hsince : s.dyn.boot.runAt.isSome = true) :
    ∃ n, execTrialBankCommit s = .next (s.withDyn (s.dyn.ticks n).trialCommitted) := by
  obtain ⟨since, hat⟩ := Option.isSome_iff_exists.1 hsince
  refine ⟨since + 300000000000 - s.dyn.clk.cycles, ?_⟩
  rw [execTrialBankCommit, State.upd_eq hlive]
  simp only [hat, htrial, hrun, beq_self_eq_true, Bool.and_self, if_true]
  rfl

/-- Settles O44, clause by clause: the key (log entry 48), the authorisation (log entries 49, 50, 100), the jumper and the trial
bank. -/
theorem keyAndServicePort : Obligations.KeyAndServicePort := by
  intro s hlive
  refine ⟨execKeyInserted_live hlive, ⟨?seen, ?unseen⟩, fun a hserved => ⟨?refused, ?accepted⟩, ?jumper, ?trial⟩
  case seen =>
    intro h
    exact (execKeyRemoved_live hlive).trans (by rw [Dyn.keyGone_seen (d₀ := s.dyn.withoutKey) h]; rfl)
  case unseen =>
    intro h
    exact (execKeyRemoved_live hlive).trans (by rw [Dyn.keyGone_unseen (d := s.dyn.withoutKey) h]; rfl)
  case refused => exact fun r h => execServiceAuthorisation_refused hserved h
  case accepted =>
    intro h
    obtain ⟨hsk, hik, hvk⟩ := Dyn.openPort_keys (d := s.dyn.newNonce.eraseImage) (a := a)
    refine ⟨_, execServiceAuthorisation_accepted hserved h, hsk, hik, rfl, hvk, Dyn.openPort_erased_shows, fun hfail => ?failed⟩
    obtain ⟨hresult, hpend, hport⟩ := Dyn.openPort_failed_shows (d := s.dyn.newNonce.eraseImage) hfail
    have hbefore : s.dyn.newNonce.eraseImage.flag F.SEC_STATUS_DEBUG_LIVE = s.dyn.flag F.SEC_STATUS_DEBUG_LIVE :=
      Dyn.flag_congr ((Dyn.rd_congr (Dyn.eraseImage_regs _) _).trans (Dyn.rd_newNonce _ (by decide)))
    exact ⟨hresult, hpend, hport.trans hbefore⟩
  case jumper =>
    exact ⟨_, execJumperRemoved_eq s, Dyn.withoutJumper_live _, Dyn.withoutJumper_jumper _,
      Dyn.get_congr (Dyn.rd_withoutJumper _ (by decide)), fun a h => Dyn.rd_withoutJumper _ h⟩
  case trial =>
    intro htrial hrun hsince
    obtain ⟨n, hexec⟩ := execTrialBankCommit_due hlive htrial hrun hsince
    have hbank : (s.dyn.ticks n).bankNow = s.dyn.bankNow := Dyn.flag_ticks _ _ (by decide)
    have hnv : (s.dyn.ticks n).trialCommitted.nv = s.dyn.nv.commitBank s.dyn.bankNow := by
      rw [Dyn.trialCommitted_nv, hbank, Dyn.ticks_nv]
    refine ⟨_, hexec, ?_, ?_, Dyn.trialCommitted_trial _⟩
    · rw [State.withDyn_dyn, hnv, NonVol.commitBank_state]
    · rw [State.withDyn_dyn, hnv, NonVol.commitBank_fwSvn]

end Sys2Proof.Machine
end

section
/-! SUPPORT. What the release of power-on reset leaves: the slot coding, no frames, and the end of start-up's steps 1 to 8 (R40–R49,
R65). -/

namespace Sys2Proof.Machine

/-! ## The stores at the release of reset -/

/-- The stores with the slot coding and the jumper as sensed. -/
def NonVol.coded (n : NonVol) (unitB : Bool) (stn : BitVec 5) (jumper : Bool) : NonVol :=
  { n with unit := unitB, stnId := stn, jumper := jumper }

/-- The banks as ROM finds them, and the trial bank it boots first (R65). -/
def NonVol.settled (n : NonVol) : NonVol := { n with bank0 := n.bank0.settle, bank1 := n.bank1.settle }
def NonVol.trialBank (n : NonVol) : Option Bool :=
  [false, true].find? fun i => (n.bank i).state == 3 && (n.bank i).candidate n.fwSvn
def NonVol.committedBank (n : NonVol) : Option Bool :=
  let done := fun (i : Bool) => (n.bank i).state == 4 && (n.bank i).candidate n.fwSvn
  if done false && done true then some (decide (n.bank0.version < n.bank1.version)) else [false, true].find? done

theorem NonVol.romBank_trial {n : NonVol} {i : Bool} (h : n.settled.trialBank = some i) :
    n.romBank = (some i, n.settled.setBank i { n.settled.bank i with tried := true }) := by
  unfold NonVol.romBank
  extract_lets m trial done
  split
  · next j hj =>
    obtain rfl : j = i := Option.some.inj (hj.symm.trans h)
    rfl
  · next hno => cases hno.symm.trans h

theorem NonVol.romBank_noTrial {n : NonVol} (h : n.settled.trialBank = none) :
    n.romBank = (n.settled.committedBank, n.settled) := by
  unfold NonVol.romBank
  extract_lets m trial done
  split
  · next j hj => cases hj.symm.trans h
  · have hdone : n.settled.committedBank =
      if done false && done true then some (decide (m.bank0.version < m.bank1.version)) else [false, true].find? done := rfl
    rw [hdone]
    split_ifs <;> rfl

/-- ROM does not look at what is sensed. -/
theorem NonVol.romBank_coded (n : NonVol) (unitB : Bool) (stn : BitVec 5) (jumper : Bool) :
    (n.coded unitB stn jumper).romBank = (n.romBank.1, n.romBank.2.coded unitB stn jumper) := by
  have hcoded : (n.coded unitB stn jumper).settled.trialBank = n.settled.trialBank := rfl
  cases h : n.settled.trialBank with
  | some i =>
    rw [NonVol.romBank_trial h, NonVol.romBank_trial (hcoded.trans h)]
    cases i <;> rfl
  | none =>
    rw [NonVol.romBank_noTrial h, NonVol.romBank_noTrial (hcoded.trans h)]
    rfl

/-- ROM leaves the key alone. -/
theorem NonVol.romBank_key (n : NonVol) : n.romBank.2.key = n.key := by
  cases h : n.settled.trialBank with
  | some i =>
    rw [NonVol.romBank_trial h]
    cases i <;> rfl
  | none =>
    rw [NonVol.romBank_noTrial h]
    rfl

/-! ## The state at the release of reset -/

/-- `d'` differs from `d` in its registers alone, and in the free values taken. -/
def Dyn.RegsOnly (d d' : Dyn) : Prop := ∃ m n, d' = { d with regs := m, free := n }

namespace Dyn.RegsOnly
variable {d d' : Dyn}

theorem refl : d.RegsOnly d := ⟨_, _, rfl⟩
theorem boot (h : d.RegsOnly d') : d'.boot = d.boot := by obtain ⟨m, n, rfl⟩ := h; rfl
theorem slc (h : d.RegsOnly d') : d'.slc = d.slc := by obtain ⟨m, n, rfl⟩ := h; rfl
theorem nv (h : d.RegsOnly d') : d'.nv = d.nv := by obtain ⟨m, n, rfl⟩ := h; rfl

theorem wr (h : d.RegsOnly d') (a : Nat) (v : Word) : d.RegsOnly (d'.wr a v) := by
  obtain ⟨m, n, rfl⟩ := h
  exact ⟨_, _, rfl⟩

theorem put (h : d.RegsOnly d') (f : Fld) (v : Nat) : d.RegsOnly (d'.put f v) := h.wr ..
theorem setFlag (h : d.RegsOnly d') (f : Fld) (b : Bool) : d.RegsOnly (d'.setFlag f b) := h.put ..

theorem wrFresh (h : d.RegsOnly d') (a : Nat) : d.RegsOnly (d'.wrFresh a) := by
  obtain ⟨m, n, rfl⟩ := h
  exact ⟨_, _, rfl⟩

theorem newNonce (h : d.RegsOnly d') : d.RegsOnly d'.newNonce :=
  d'.newNonce_eq ▸ (((h.wrFresh _).wrFresh _).wrFresh _).wrFresh _

theorem foldl {β : Type} {f : Dyn → β → Dyn} (hf : ∀ d' x, d.RegsOnly d' → d.RegsOnly (f d' x)) (l : List β)
    (h : d.RegsOnly d') : d.RegsOnly (l.foldl f d') := by
  induction l generalizing d' with
  | nil => exact h
  | cons x l ih => exact ih (hf d' x h)

end Dyn.RegsOnly

theorem Dyn.rd_foldl_wr {β : Type} {l : List β} {g : β → Nat} (v : β → Word) {a : Nat} (h : ∀ i ∈ l, a ≠ g i) (d : Dyn) :
    (l.foldl (fun x i => x.wr (g i) (v i)) d).rd a = d.rd a := by
  induction l generalizing d with
  | nil => rfl
  | cons i l ih =>
    have hl : ∀ j ∈ l, a ≠ g j := fun j hj => h j (List.mem_cons_of_mem _ hj)
    exact (ih hl _).trans (Dyn.rd_wr_ne _ _ (h i List.mem_cons_self))

@[simp] theorem Dyn.rtcStart_nv (d : Dyn) : d.rtcStart.nv = d.nv := by
  simp only [Dyn.rtcStart]
  split_ifs
  · simp only [Dyn.wr_nv, Dyn.setFlag_nv]
  · simp only [Dyn.wr_nv, Dyn.setFlag_nv]

@[simp] theorem Dyn.rtcStart_slc (d : Dyn) : d.rtcStart.slc = d.slc := by
  simp only [Dyn.rtcStart]
  split_ifs
  · simp only [Dyn.wr_slc, Dyn.setFlag_slc]
  · simp only [Dyn.wr_slc, Dyn.setFlag_slc]

section
variable (d : Dyn) (unitB : Bool) (stn : BitVec 5) (jumper : Bool)

/-- Over the reset values stand the stores with the slot coding, and start-up has not run; the rest is registers. -/
theorem Dyn.afterReset_regsOnly : ∃ x : Dyn, x.nv = d.nv.coded unitB stn jumper ∧ x.slc = Sluice.init ∧
    x.boot = { Boot.init with tick := d.rtc.tick } ∧ x.RegsOnly (d.afterReset unitB stn jumper) := by
  unfold Dyn.afterReset
  extract_lets _ _ nv init _ _ x₀ _ x₁ x₂ x₃ x₄ x₅ pub x₆ stored x₇
  have h₂ : x₁.RegsOnly x₂ := (Dyn.RegsOnly.refl.setFlag ..).put ..
  have h₅ : x₁.RegsOnly x₅ := ((((h₂.wr ..).wr ..).wr ..).put ..).wr ..
  have h₆ : x₁.RegsOnly x₆ := h₅.foldl (fun _ _ h => h.wr ..) _
  have h₇ : x₁.RegsOnly x₇ := (h₆.setFlag ..).put ..
  have h₈ := ((((h₇.put F.MOD_CLK_K32_OK 1).put F.MOD_CLK_TCXO_OK 1).put F.MOD_CLK_CAN_LOCK 1).put F.MOD_CLK_PLL_LOCK 1
    |>.setFlag F.BOOT_STATUS_KEY_PRESENT nv.key.isSome).newNonce
  exact ⟨x₁, x₀.rtcStart_nv, x₀.rtcStart_slc, rfl, h₈⟩

theorem Dyn.afterReset_nv : (d.afterReset unitB stn jumper).nv = d.nv.coded unitB stn jumper := by
  obtain ⟨x, hnv, -, -, h⟩ := d.afterReset_regsOnly unitB stn jumper
  rw [h.nv, hnv]

theorem Dyn.afterReset_held : (d.afterReset unitB stn jumper).boot.held = false := by
  obtain ⟨x, -, -, hboot, h⟩ := d.afterReset_regsOnly unitB stn jumper
  rw [h.boot, hboot]
  rfl

theorem Dyn.afterReset_framing : (d.afterReset unitB stn jumper).slc.framing = false := by
  obtain ⟨x, -, hslc, -, h⟩ := d.afterReset_regsOnly unitB stn jumper
  rw [h.slc, hslc]
  rfl

/-- The slot coding is in MOD_UNIT, which nothing else of the reset writes. -/
theorem Dyn.rd_afterReset_unit : ∃ x : Dyn, (d.afterReset unitB stn jumper).rd Reg.MOD_UNIT =
    ((x.setFlag F.MOD_UNIT_UNIT unitB).put F.MOD_UNIT_STN_ID stn.toNat).rd Reg.MOD_UNIT := by
  have hpub : ∀ i ∈ List.range 16, Reg.MOD_UNIT ≠ Reg.SEC_DEVPUB i := by decide
  unfold Dyn.afterReset
  extract_lets _ _ nv init _ _ x₀ _ x₁ x₂ x₃ x₄ x₅ pub x₆ stored x₇
  refine ⟨x₁, ?_⟩
  simp (disch := decide) only [Dyn.rd_newNonce, Dyn.setFlag, Dyn.rd_put_ne, Dyn.rd_wr_ne, Dyn.rd_foldl_wr _ hpub, x₇, x₆,
    x₅, x₄, x₃, x₂]

end

/-! ## What start-up keeps -/

/-- Start-up neither holds the module in reset, nor starts frames, nor changes the slot coding. -/
structure Dyn.SameSlot (d d' : Dyn) : Prop where
  held : d'.boot.held = d.boot.held
  framing : d'.slc.framing = d.slc.framing
  unit : d'.rd Reg.MOD_UNIT = d.rd Reg.MOD_UNIT

namespace Dyn.SameSlot
variable {d d' : Dyn}

theorem refl : d.SameSlot d := ⟨rfl, rfl, rfl⟩

theorem wr (h : d.SameSlot d') {a : Nat} (v : Word) (ha : Reg.MOD_UNIT ≠ a := by decide) : d.SameSlot (d'.wr a v) :=
  ⟨h.held, h.framing, (Dyn.rd_wr_ne _ _ ha).trans h.unit⟩

theorem put (h : d.SameSlot d') {f : Fld} (v : Nat) (hf : Reg.MOD_UNIT ≠ f.addr := by decide) : d.SameSlot (d'.put f v) :=
  h.wr _ hf

theorem setFlag (h : d.SameSlot d') {f : Fld} (b : Bool) (hf : Reg.MOD_UNIT ≠ f.addr := by decide) :
    d.SameSlot (d'.setFlag f b) := h.put _ hf

theorem withNv (h : d.SameSlot d') (n : NonVol) : d.SameSlot { d' with nv := n } := ⟨h.held, h.framing, h.unit⟩

theorem withBoot (h : d.SameSlot d') {b : Boot} (hb : b.held = d'.boot.held) : d.SameSlot { d' with boot := b } :=
  ⟨hb.trans h.held, h.framing, h.unit⟩

theorem stay (h : d.SameSlot d') (stage : BootStage) (st cause : Nat) : d.SameSlot (d'.stay stage st cause) :=
  ⟨h.held, h.framing, (Dyn.rd_stay _ _ _ _ (by decide)).trans h.unit⟩

theorem bankShown (h : d.SameSlot d') : d.SameSlot d'.bankShown :=
  ⟨h.held, h.framing, (Dyn.rd_bankShown _ (by decide) (by decide)).trans h.unit⟩

theorem bankRegs (h : d.SameSlot d') : d.SameSlot d'.bankRegs :=
  ⟨h.held, h.framing, (Dyn.rd_bankRegs _ (by decide) (by decide) (by decide)).trans h.unit⟩

theorem secRegs (h : d.SameSlot d') : d.SameSlot d'.secRegs :=
  ⟨h.held, h.framing, (Dyn.rd_secRegs _ (by decide)).trans h.unit⟩

theorem setWindow (h : d.SameSlot d') (i : Nat) (w : Option Window) : d.SameSlot (d'.setWindow i w) :=
  ((h.withNv _).setFlag _).put _

theorem takeArmed (h : d.SameSlot d') : d.SameSlot d'.takeArmed := by
  unfold Dyn.takeArmed
  split
  · exact (h.setWindow _ _).withBoot rfl
  · exact h

end Dyn.SameSlot

/-- Start-up from `d` may end in `r`: the lock is set in the start-up hold and nowhere else (log entry 50). -/
structure StartUpEnd (d : Dyn) (r : Cfg × Dyn) : Prop where
  same : d.SameSlot r.2
  lock : r.1.locked = true ↔ r.2.boot.stage = .hold

section
variable {d d' : Dyn}

theorem startUpEnd_stay (h : d.SameSlot d') {stage : BootStage} (hs : stage ≠ .hold) (st cause : Nat) :
    StartUpEnd d (Cfg.init, d'.stay stage st cause) :=
  ⟨h.stay .., iff_of_false Bool.false_ne_true hs⟩

theorem startUpEnd_startHold (h : d.SameSlot d') (cause : Nat) : StartUpEnd d (startHold d' cause) :=
  ⟨((h.stay ..).setFlag _).setFlag _, iff_of_true rfl rfl⟩

theorem startUpEnd_acceptImage (h : d.SameSlot d') (x : Image) (i pending : Bool) (rejected : Option Nat) :
    StartUpEnd d (acceptImage d' x i pending rejected) :=
  ⟨(h.withBoot (b := { d'.boot with stage := .setup, fromPending := pending, rejected := rejected }) rfl).setFlag _,
    iff_of_false Bool.false_ne_true BootStage.noConfusion⟩

/-- Steps 4 to 8 of R40. -/
theorem startUpEnd_readKey (h : d.SameSlot d') (k : Key) : StartUpEnd d (d'.readKey k) := by
  unfold Dyn.readKey
  split
  · exact startUpEnd_startHold h _
  extract_lets d₁
  have h₁ : d.SameSlot d₁ := (h.wr _).wr _
  split
  · exact startUpEnd_startHold h₁ _
  extract_lets dir d₂ active x
  have h₂ : d.SameSlot d₂ := (h₁.put _).put _
  have hactive : ∀ rejected, StartUpEnd d (active d₂ rejected) := by
    intro rejected
    unfold active
    extract_lets _ d₃ x
    have h₃ : d.SameSlot d₃ := h₂.withBoot rfl
    split
    · exact startUpEnd_startHold h₃ _
    split
    · exact startUpEnd_acceptImage h₃ ..
    · exact startUpEnd_startHold h₃ _
  split
  · exact hactive _
  split
  · exact startUpEnd_acceptImage h₂ ..
  · exact startUpEnd_startHold h₂ _
  · exact hactive _

end

/-! ## Steps 1 to 3 of R40 -/

/-- ROM has booted bank `i`: an erase that was pending is made good, and the arming of a window taken. -/
def Dyn.romBooted (d : Dyn) (i : Bool) : Dyn :=
  let d := (({ d with nv := d.nv.romBank.2 } : Dyn).setFlag F.BOOT_STATUS_BANK i).bankRegs
  let d : Dyn := if d.nv.erasePend then { d with nv := d.nv.erased } else d
  d.secRegs.takeArmed

theorem Dyn.romBooted_sameSlot (d : Dyn) (i : Bool) : d.SameSlot (d.romBooted i) := by
  have h := ((Dyn.SameSlot.refl (d := d).withNv d.nv.romBank.2).setFlag (f := F.BOOT_STATUS_BANK) i).bankRegs
  unfold Dyn.romBooted
  extract_lets d₁ d₂
  have h₂ : d.SameSlot d₂ := by
    unfold d₂
    split
    · exact h.withNv _
    · exact h
  exact h₂.secRegs.takeArmed

/-- A store whose erase was interrupted, erased (R61). -/
def NonVol.madeGood (n : NonVol) : NonVol := if n.erasePend then n.erased else n

/-- The store that ROM leaves. -/
def NonVol.afterRom (n : NonVol) : NonVol := n.romBank.2.madeGood

theorem NonVol.afterRom_key (n : NonVol) : n.afterRom.key = n.key := by
  unfold NonVol.afterRom NonVol.madeGood
  split
  · exact n.romBank_key
  · exact n.romBank_key

/-- The arming of a window is no part of the secrets or the key. -/
theorem Dyn.takeArmed_nv (d : Dyn) : ∃ ws, d.takeArmed.nv = { d.nv with windows := ws } := by
  unfold Dyn.takeArmed
  split
  · exact ⟨_, rfl⟩
  · exact ⟨_, rfl⟩

theorem Dyn.romBooted_nv (d : Dyn) (i : Bool) : ∃ ws, (d.romBooted i).nv = { d.nv.afterRom with windows := ws } := by
  unfold Dyn.romBooted
  extract_lets d₁ d₂
  have h : d₂.secRegs.nv = d.nv.afterRom := by
    have h₁ : d₁.nv = d.nv.romBank.2 := Dyn.bankRegs_nv _
    unfold d₂ NonVol.afterRom NonVol.madeGood
    rw [Dyn.secRegs_nv, h₁]
    split_ifs
    · rfl
    · exact h₁
  obtain ⟨ws, hws⟩ := d₂.secRegs.takeArmed_nv
  exact ⟨ws, by rw [hws, h]⟩

theorem Dyn.startUp_noBank {d : Dyn} (h : d.nv.romBank.1 = none) :
    d.startUp = (Cfg.init, ((({ d with nv := d.nv.romBank.2 } : Dyn).stay .rom 0 0x1D).bankShown.secRegs)) := by
  unfold Dyn.startUp
  split
  next run nv hr =>
    rw [hr] at h ⊢
    subst h
    rfl

theorem Dyn.startUp_bank {d : Dyn} {i : Bool} (h : d.nv.romBank.1 = some i) :
    d.startUp = if !(d.romBooted i).nv.provisioned then (Cfg.init, (d.romBooted i).stay .service 5 0x1B)
      else match (d.romBooted i).nv.key with
        | none => startHold (d.romBooted i) 0x10
        | some k => (d.romBooted i).readKey k := by
  unfold Dyn.startUp Dyn.romBooted
  split
  next run nv hr =>
    rw [hr] at h ⊢
    subst h
    rfl

theorem startUpEnd_startUp (d : Dyn) : StartUpEnd d d.startUp := by
  cases h : d.nv.romBank.1 with
  | none =>
    rw [Dyn.startUp_noBank h]
    have hrom := startUpEnd_stay ((Dyn.SameSlot.refl (d := d)).withNv d.nv.romBank.2) (stage := .rom) nofun 0 0x1D
    exact ⟨hrom.same.bankShown.secRegs, hrom.lock⟩
  | some i =>
    rw [Dyn.startUp_bank h]
    have hbooted := d.romBooted_sameSlot i
    split
    · exact startUpEnd_stay hbooted (stage := .service) nofun _ _
    split
    · exact startUpEnd_startHold hbooted _
    · exact startUpEnd_readKey hbooted _

/-! ## The stays at the end of start-up -/

/-- Start-up has ended in a stay: its stage, state and cause, with every LK register at its reset value. -/
structure EndsIn (r : Cfg × Dyn) (stage : BootStage) (st cause : Nat) : Prop where
  stage : r.2.boot.stage = stage
  state : r.2.modState = st
  cause : r.2.get F.MOD_STATE_CAUSE = cause
  lk : r.1.lk = []

theorem endsIn_stay (d : Dyn) (stage : BootStage) {st cause : Nat} (hst : st < 8) (hcause : cause < 256) :
    EndsIn (Cfg.init, d.stay stage st cause) stage st cause :=
  ⟨rfl, d.stay_modState stage cause hst, d.stay_cause stage st hcause, rfl⟩

/-- What is written after a stay to other registers leaves it. -/
theorem EndsIn.of_rd {c c' : Cfg} {d d' : Dyn} {stage : BootStage} {st cause : Nat} (h : EndsIn (c, d) stage st cause)
    (hc : c'.lk = c.lk) (hb : d'.boot = d.boot) (hr : d'.rd Reg.MOD_STATE = d.rd Reg.MOD_STATE) :
    EndsIn (c', d') stage st cause :=
  ⟨(congrArg Boot.stage hb).trans h.stage, (Dyn.get_congr hr).trans h.state, (Dyn.get_congr hr).trans h.cause, hc.trans h.lk⟩

theorem endsIn_startHold (d : Dyn) {cause : Nat} (h : cause < 256) : EndsIn (startHold d cause) .hold 0 cause :=
  (endsIn_stay d .hold (by decide) h).of_rd rfl ((Dyn.setFlag_boot ..).trans (Dyn.setFlag_boot ..)) ((Dyn.rd_put_ne _ _ (by decide)).trans (Dyn.rd_put_ne _ _ (by decide)))

theorem endsIn_startUp_noBank {d : Dyn} (h : d.nv.romBank.1 = none) : EndsIn d.startUp .rom 0 0x1D := by
  rw [Dyn.startUp_noBank h]
  exact (endsIn_stay _ .rom (by decide) (by decide)).of_rd rfl ((Dyn.secRegs_boot _).trans (Dyn.bankShown_boot _))
    ((Dyn.rd_secRegs _ (by decide)).trans (Dyn.rd_bankShown _ (by decide) (by decide)))

theorem endsIn_startUp_unprovisioned {d : Dyn} {i : Bool} (h : d.nv.romBank.1 = some i)
    (hp : d.nv.afterRom.provisioned = false) : EndsIn d.startUp .service 5 0x1B := by
  obtain ⟨ws, hws⟩ := d.romBooted_nv i
  have hno : (d.romBooted i).nv.provisioned = false := by rw [hws]; exact hp
  rw [Dyn.startUp_bank h, hno]
  exact endsIn_stay _ .service (by decide) (by decide)

theorem endsIn_startUp_noKey {d : Dyn} {i : Bool} (h : d.nv.romBank.1 = some i) (hp : d.nv.afterRom.provisioned = true)
    (hk : d.nv.key = none) : EndsIn d.startUp .hold 0 0x10 := by
  obtain ⟨ws, hws⟩ := d.romBooted_nv i
  have hyes : (d.romBooted i).nv.provisioned = true := by rw [hws]; exact hp
  have hkey : (d.romBooted i).nv.key = none := by rw [hws]; exact d.nv.afterRom_key.trans hk
  rw [Dyn.startUp_bank h, hyes, hkey]
  exact endsIn_startHold _ (by decide)

/-- What is sensed does not decide whether the module is provisioned. -/
theorem NonVol.afterRom_coded_provisioned (n : NonVol) (unitB : Bool) (stn : BitVec 5) (jumper : Bool) :
    (n.coded unitB stn jumper).afterRom.provisioned = n.afterRom.provisioned := by
  have hpend : (n.romBank.2.coded unitB stn jumper).erasePend = n.romBank.2.erasePend := rfl
  rw [NonVol.afterRom, NonVol.romBank_coded, NonVol.afterRom, NonVol.madeGood, hpend, NonVol.madeGood]
  split_ifs <;> rfl

/-- The state in which start-up ends with `r`. -/
def State.restarted (s : State) (r : Cfg × Dyn) : State := { s with cfg := r.1, dyn := r.2 }

@[simp] theorem State.restarted_pending (s : State) (r : Cfg × Dyn) : (s.restarted r).pending = s.pending := rfl

theorem execPowerOnReset_eq (unitB : Bool) (stn : BitVec 5) (jumper : Bool) (s : State) :
    execPowerOnReset unitB stn jumper s = .next (s.restarted (s.dyn.afterReset unitB stn jumper).startUp) := rfl

/-- Settles O42: the reset, then steps 1 to 8 of R40; the lock in the start-up hold alone is log entry 50. -/
theorem powerOnReset : Obligations.PowerOnReset := by
  intro s unitB stn jumper nv started
  let d := s.dyn.afterReset unitB stn jumper
  have hnv : d.nv = s.dyn.nv.coded unitB stn jumper := s.dyn.afterReset_nv unitB stn jumper
  have hrom : d.nv.romBank.1 = s.dyn.nv.romBank.1 := by rw [hnv, NonVol.romBank_coded]
  have hprov : d.nv.afterRom.provisioned = started := by rw [hnv, NonVol.afterRom_coded_provisioned]; rfl
  have hkey : d.nv.key = s.dyn.nv.key := by rw [hnv]; rfl
  have hheld : d.boot.held = false := s.dyn.afterReset_held unitB stn jumper
  have hframing : d.slc.framing = false := s.dyn.afterReset_framing unitB stn jumper
  obtain ⟨x, hunit⟩ : ∃ x : Dyn, d.rd Reg.MOD_UNIT = _ := s.dyn.rd_afterReset_unit unitB stn jumper
  have hexec : execPowerOnReset unitB stn jumper s = .next (s.restarted d.startUp) := execPowerOnReset_eq ..
  clear_value d
  obtain ⟨hsame, hlock⟩ := startUpEnd_startUp d
  have hcoding := hsame.unit.trans hunit
  refine ⟨_, hexec, s.restarted_pending _, hsame.held.trans hheld, hsame.framing.trans hframing, hlock,
    ?unit, ?station, fun h => ?rom, fun h hp => ?service, fun h hp hk => ?hold⟩
  case unit =>
    rw [Dyn.flag_congr hcoding, Dyn.flag_put_disjoint _ _ (by decide) (by decide) (by decide)]
    exact Dyn.flag_setFlag_same _ _ _ (by decide) (by decide)
  case station =>
    rw [Dyn.get_congr hcoding, Dyn.get_put_same _ _ _ (by decide)]
    exact Nat.mod_eq_of_lt stn.isLt
  case rom =>
    obtain ⟨hstage, hstate, hcause, hlk⟩ := endsIn_startUp_noBank (d := d) (hrom.trans h)
    exact ⟨hstage, hstate, hcause, hlk⟩
  case service =>
    obtain ⟨i, hi⟩ := Option.isSome_iff_exists.1 h
    obtain ⟨hstage, hstate, hcause, hlk⟩ := endsIn_startUp_unprovisioned (d := d) (hrom.trans hi) (hprov.trans hp)
    exact ⟨hstage, hstate, hcause, hlk⟩
  case hold =>
    obtain ⟨i, hi⟩ := Option.isSome_iff_exists.1 h
    obtain ⟨hstage, hstate, hcause, hlk⟩ := endsIn_startUp_noKey (d := d) (hrom.trans hi) (hprov.trans hp) (hkey.trans hk)
    exact ⟨hstage, hstate, hcause, hlk⟩

end Sys2Proof.Machine
end

section
/-! SUPPORT. What start-up does from the lock on, and what FN 0 starts (R50, R51, R74): none of it touches where start-up stands,
whether frames run, or BOOT_STATUS, MOD_STATE and SLC_FN, but for the steps that are there to do so. -/

namespace Sys2Proof.Machine

/-- The registers that show where start-up stands. -/
def startRegs : List Nat := [Reg.BOOT_STATUS, Reg.MOD_STATE, Reg.SLC_FN]

theorem not_mem_startRegs {a : Nat} : a ∉ startRegs ↔ a ≠ 0x110000 ∧ a ≠ 0x1001c ∧ a ≠ 0x2000c := by
  simp [startRegs, Reg.BOOT_STATUS, Reg.MOD_STATE, Reg.SLC_FN]

theorem dioStatus_not_mem (n : Nat) : Reg.DIO_STATUS n ∉ startRegs := by
  rw [not_mem_startRegs, Reg.DIO_STATUS]
  omega

theorem dioGstatus_not_mem (g : Nat) : Reg.DIO_GSTATUS g ∉ startRegs := by
  rw [not_mem_startRegs, Reg.DIO_GSTATUS]
  omega

theorem aioStatus_not_mem (m : Nat) : Reg.AIO_STATUS m ∉ startRegs := by
  rw [not_mem_startRegs, Reg.AIO_STATUS]
  omega

theorem aioStage_not_mem (m : Nat) : Reg.AIO_STAGE m ∉ startRegs := by
  rw [not_mem_startRegs, Reg.AIO_STAGE]
  omega

theorem aioCal_not_mem (m : Nat) : Reg.AIO_CAL_G m ∉ startRegs ∧ Reg.AIO_CAL_O m ∉ startRegs ∧ Reg.AIO_CAL_INFO m ∉ startRegs := by
  simp only [not_mem_startRegs, Reg.AIO_CAL_G, Reg.AIO_CAL_O, Reg.AIO_CAL_INFO]
  omega

theorem aioGstatus_not_mem {g : Nat} (h : g < 4) : Reg.AIO_GSTATUS g ∉ startRegs := by
  rw [not_mem_startRegs, Reg.AIO_GSTATUS]
  omega

theorem pldState_not_mem (p : Nat) : Reg.PLD_STATE p ∉ startRegs := by
  rw [not_mem_startRegs, Reg.PLD_STATE]
  omega

theorem netRsStatus_not_mem (s : Nat) : Reg.NET_RS_STATUS s ∉ startRegs := by
  rw [not_mem_startRegs, Reg.NET_RS_STATUS]
  omega

theorem tsuCmp_not_mem (u : Nat) : Reg.TSU_CMP_TGT u ∉ startRegs ∧ Reg.TSU_CMP_STAT u ∉ startRegs := by
  simp only [not_mem_startRegs, Reg.TSU_CMP_TGT, Reg.TSU_CMP_STAT]
  omega

/-- Start-up stands in `d'` where it stands in `d`. -/
structure Dyn.SameStart (d d' : Dyn) : Prop where
  stage : d'.boot.stage = d.boot.stage
  framing : d'.slc.framing = d.slc.framing
  rd : ∀ a ∈ startRegs, d'.rd a = d.rd a

namespace Dyn.SameStart
variable {c : Cfg} {d d' : Dyn}

/-! ## Single changes -/

theorem refl : d.SameStart d := ⟨rfl, rfl, fun _ _ => rfl⟩

theorem wr (h : d.SameStart d') {a : Nat} (v : Word) (ha : a ∉ startRegs := by decide) : d.SameStart (d'.wr a v) :=
  ⟨h.stage, h.framing, fun b hb => (Dyn.rd_wr_ne _ _ (ne_of_mem_of_not_mem hb ha)).trans (h.rd b hb)⟩

theorem put (h : d.SameStart d') {f : Fld} (v : Nat) (hf : f.addr ∉ startRegs := by decide) : d.SameStart (d'.put f v) :=
  h.wr _ hf

theorem setFlag (h : d.SameStart d') {f : Fld} (b : Bool) (hf : f.addr ∉ startRegs := by decide) :
    d.SameStart (d'.setFlag f b) := h.put _ hf

theorem foldl {β : Type} {f : Dyn → β → Dyn} {l : List β} (hf : ∀ d', ∀ x ∈ l, d.SameStart d' → d.SameStart (f d' x))
    (h : d.SameStart d') : d.SameStart (l.foldl f d') := by
  induction l generalizing d' with
  | nil => exact h
  | cons x l ih =>
    exact ih (fun d' y hy => hf d' y (List.mem_cons_of_mem _ hy)) (hf d' x List.mem_cons_self h)

theorem ite {p : Prop} [Decidable p] {a b : Dyn} (ha : d.SameStart a) (hb : d.SameStart b) :
    d.SameStart (if p then a else b) := by
  split
  · exact ha
  · exact hb

theorem withLve (h : d.SameStart d') (x : Levee) : d.SameStart { d' with lve := x } := ⟨h.stage, h.framing, h.rd⟩
theorem withNv (h : d.SameStart d') (x : NonVol) : d.SameStart { d' with nv := x } := ⟨h.stage, h.framing, h.rd⟩
theorem withJrn (h : d.SameStart d') (x : Journal) : d.SameStart { d' with jrn := x } := ⟨h.stage, h.framing, h.rd⟩
theorem withTsu (h : d.SameStart d') (x : Tsu) : d.SameStart { d' with tsu := x } := ⟨h.stage, h.framing, h.rd⟩
theorem withTwin (h : d.SameStart d') (x : Twin) : d.SameStart { d' with twin := x } := ⟨h.stage, h.framing, h.rd⟩
theorem withRtc (h : d.SameStart d') (x : Rtc) : d.SameStart { d' with rtc := x } := ⟨h.stage, h.framing, h.rd⟩
theorem withAlarms (h : d.SameStart d') (x : List AlarmRec) : d.SameStart { d' with alarms := x } := ⟨h.stage, h.framing, h.rd⟩
theorem send (h : d.SameStart d') (m : Sent) : d.SameStart (d'.send m) := ⟨h.stage, h.framing, h.rd⟩
theorem setDig (h : d.SameStart d') (n : Nat) (f : Dio → Dio) : d.SameStart (d'.setDig n f) := ⟨h.stage, h.framing, h.rd⟩
theorem setAna (h : d.SameStart d') (m : Nat) (f : Aio → Aio) : d.SameStart (d'.setAna m f) := ⟨h.stage, h.framing, h.rd⟩

theorem withBoot (h : d.SameStart d') {b : Boot} (hb : b.stage = d'.boot.stage) : d.SameStart { d' with boot := b } :=
  ⟨hb.trans h.stage, h.framing, h.rd⟩

/-! ## The levee matrix -/

theorem setPairBit (h : d.SameStart d') {r₀ r₁ : Nat} (t : Nat) (b : Bool) (h₀ : r₀ ∉ startRegs := by decide)
    (h₁ : r₁ ∉ startRegs := by decide) : d.SameStart (d'.setPairBit r₀ r₁ t b) := by
  refine h.wr _ ?_
  split
  · exact h₀
  · exact h₁

theorem clearTerm (h : d.SameStart d') (t : Nat) : d.SameStart (d'.clearTerm t) :=
  ((h.setPairBit t false).setPairBit t false).withLve _

theorem evalTerm (h : d.SameStart d') (t : Nat) : d.SameStart (d'.evalTerm c t) := by
  unfold Dyn.evalTerm
  extract_lets raw rst edge d₁ latching d₂ d₃ d₄
  have h₂ : d.SameStart d₂ := (h.withLve _).setPairBit t raw
  split
  · have h₃ : d.SameStart d₃ := ite h₂ ((h₂.withLve _).withLve _)
    have h₄ : d.SameStart d₄ := ite (h₃.setPairBit t true) h₃
    exact h₄.setPairBit t true
  · exact ite (h₂.clearTerm t) (ite h₂ (ite (ite ((h₂.setPairBit t false).setPairBit t false) h₂) (h₂.setPairBit t false)))

theorem driveGates (h : d.SameStart d') : d.SameStart (d'.driveGates c) :=
  (((h.wr _).wr _).wr _).wr _

theorem fixDio (h : d.SameStart d') (n : Nat) : d.SameStart (d'.fixDio c n) :=
  have hn := dioStatus_not_mem n
  (((h.setFlag _ hn).setFlag _ hn).setFlag _ hn).setFlag _ hn

theorem turnOn (h : d.SameStart d') (n : Nat) : d.SameStart (d'.turnOn c n) := by
  unfold Dyn.turnOn
  split
  · exact ite ((h.setFlag _ (dioStatus_not_mem n)).setDig ..) h
  · exact h

theorem dropConds (h : d.SameStart d') (n : Nat) : d.SameStart (d'.dropConds c n) := by
  have hn := dioStatus_not_mem n
  unfold Dyn.dropConds
  extract_lets d₀ on clr off d₁ d₂ d₃ hot d₄ d₅ d₆
  have hclr {x : Dyn} (hx : d.SameStart x) (b : Bool) {f : Fld} (hf : f.addr ∉ startRegs) : d.SameStart (clr x b f) :=
    ite (hx.setFlag _ hf) hx
  have h₃ : d.SameStart d₃ := hclr (hclr (hclr (h.turnOn n) _ hn) _ hn) _ hn
  have h₆ : d.SameStart d₆ := hclr (hclr (hclr h₃ _ hn) _ hn) _ hn
  exact h₆.fixDio n

theorem tripStatus (h : d.SameStart d') : d.SameStart (d'.tripStatus c) := by
  refine h.foldl fun x n _ hx => ?_
  have hn := dioStatus_not_mem n
  refine ite (ite ?_ ?_) hx
  · exact ((hx.withLve _).setFlag _ hn).dropConds n
  · have h₁ := hx.setFlag (f := F.DIO_STATUS_TRIPPED n) false hn
    exact ite (((h₁.wr _ hn).setDig ..).fixDio n) (h₁.dropConds n)

theorem testStatus (h : d.SameStart d') : d.SameStart (d'.testStatus c) :=
  (((h.setFlag _).setFlag _).setFlag _).put _

theorem levee (h : d.SameStart d') : d.SameStart (d'.levee c) :=
  ite ((h.foldl fun _ t _ hx => hx.evalTerm t).driveGates.tripStatus.testStatus) h

theorem setP0Flags (h : d.SameStart d') (v : BitVec 16) : d.SameStart (d'.setP0Flags c v) := (h.withLve _).levee

/-! ## The field cells -/

theorem stageConds (h : d.SameStart d') (m : Nat) : d.SameStart (d'.stageConds c m) := by
  have hm := aioStatus_not_mem m
  have h₁ := ite (p := d'.stageDiag c m = true) h
    ((h.setFlag (f := F.AIO_STATUS_COMPLIANCE m) false hm).setFlag (f := F.AIO_STATUS_OPEN m) false hm)
  exact ite h₁ (h₁.setFlag false hm)

theorem fixAio (h : d.SameStart d') (m : Nat) : d.SameStart (d'.fixAio c m) := by
  have hm := aioStatus_not_mem m
  unfold Dyn.fixAio
  extract_lets d₁ fl common inv d₂ d₃ v
  have h₃ : d.SameStart d₃ := (h.stageConds m |>.setFlag inv hm).put _ hm
  exact (h₃.wr v (aioStage_not_mem m)).setAna ..

theorem fieldCells (h : d.SameStart d') : d.SameStart (d'.fieldCells c) := by
  refine foldl (fun x n _ hx => hx.fixDio n) (foldl (fun x m _ hx => ?_) h)
  obtain ⟨hg, ho, hi⟩ := aioCal_not_mem m
  have h₁ := (((hx.wr (x.nv.calOf m).1 hg).wr (x.nv.calOf m).2.1 ho).wr (x.nv.calOf m).2.2 hi).setAna m
    fun s => { s with gain := (x.nv.calOf m).1, offs := (x.nv.calOf m).2.1 }
  exact ite h₁ (h₁.fixAio m)

theorem startWb (h : d.SameStart d') (n : Nat) : d.SameStart (d'.startWb c n) :=
  ((h.setDig ..).setFlag _ (dioStatus_not_mem n)).fixDio n

theorem startTests (h : d.SameStart d') : d.SameStart (d'.startTests c) :=
  h.foldl fun _ n _ hx => ite (hx.startWb n) hx

/-! ## What derives from the image -/

theorem derive (h : d.SameStart d') : d.SameStart (d'.derive c) := by
  unfold Dyn.derive
  extract_lets x₁ x₂ x₃ x₄ used x₅ loops slots x₆ ram x₇ x₈ x₉
  have h₃ : d.SameStart x₃ := (((((h.put _).put _).put _).put _).put _).wr _
  have h₄ : d.SameStart x₄ := foldl (fun x p _ hx =>
    ite ((hx.put _ (pldState_not_mem p)).put _ (pldState_not_mem p)) hx) h₃
  have h₇ : d.SameStart x₇ := (((h₄.put _).put _).put _).put _
  have h₈ : d.SameStart x₈ := foldl (fun x g _ hx => hx.setFlag _ (dioGstatus_not_mem g)) h₇
  have h₉ : d.SameStart x₉ := foldl (fun x g hg hx => hx.setFlag _ (aioGstatus_not_mem (List.mem_range.mp hg))) h₈
  exact foldl (fun x n _ hx => ite (hx.setFlag _ (dioStatus_not_mem n)) hx) h₉

theorem rtcDefaults (h : d.SameStart d') : d.SameStart (d'.rtcDefaults c) :=
  ite ((h.wr _).withRtc _) h

theorem setWindow (h : d.SameStart d') (i : Nat) (w : Option Window) : d.SameStart (d'.setWindow i w) :=
  ((h.withNv _).setFlag _).put _

theorem storePower (h : d.SameStart d') : d.SameStart (d'.storePower c) := by
  unfold Dyn.storePower
  split
  · exact (h.setWindow ..).withJrn _
  · exact h

/-! ## The start of the runtime -/

theorem ptpStart (h : d.SameStart d') : d.SameStart (d'.ptpStart c) := by
  unfold Dyn.ptpStart
  split
  · exact h
  · exact h.put _
  · exact h.put _

theorem setServo (h : d.SameStart d') (v : Nat) : d.SameStart (d'.setServo c v) := by
  have h₁ := h.put (f := F.TSU_STATUS_SERVO) v
  have h₂ := h₁.setFlag (f := F.RTC_CALSTATE_TAI_SRC) false
  exact ite h₁ (ite (h₂.withTsu _) h₂)

theorem fresh (h : d.SameStart d') : d.SameStart d'.fresh.2 := ⟨h.stage, h.framing, h.rd⟩

theorem netStart (h : d.SameStart d') : d.SameStart (d'.netStart c) := by
  have hf := h.fresh
  unfold Dyn.netStart
  extract_lets e _
  generalize d'.fresh = p at hf ⊢
  split
  extract_lets _ x₁ x₂
  have h₁ : d.SameStart x₁ := ⟨hf.stage, hf.framing, hf.rd⟩
  exact foldl (fun x s _ hx => ite (hx.wr _ (netRsStatus_not_mem s)) hx) (h₁.wr _)

theorem stnState (h : d.SameStart d') : d.SameStart (d'.stnState c) := by
  unfold Dyn.stnState
  extract_lets st x
  split
  exact (((((h.put _).put _).put _).put _).put _).setFlag _

theorem leaveLock (h : d.SameStart d') : d.SameStart (d'.leaveLock c) := by
  have h₁ := h.put (f := F.TSU_STATUS_TWIN) 0
  exact ite h (ite ((h₁.setServo _).put _) h₁)

theorem setRole (h : d.SameStart d') (r : Nat) : d.SameStart (d'.setRole c r) :=
  have h₁ := h.put (f := F.SHL_STATUS_ROLE) r
  (ite h₁.leaveLock h₁).stnState

theorem sendShl (h : d.SameStart d') (kind : Nat) (m : Sent) : d.SameStart (d'.sendShl kind m) :=
  have h₁ := (h.withTwin _).send m
  ite (h₁.withTwin _) h₁

theorem sendPair (h : d.SameStart d') : d.SameStart (d'.sendPair c) := by
  unfold Dyn.sendPair
  extract_lets _ x
  have h₁ : d.SameStart x := h.withTwin _
  exact h₁.sendShl ..

theorem runtime (h : d.SameStart d') : d.SameStart (d'.runtime c) := by
  unfold Dyn.runtime
  extract_lets x₁ x₂ x₃
  have h₂ : d.SameStart x₂ := ite (h.ptpStart.setServo _) h.ptpStart
  have h₃ : d.SameStart x₃ := h₂.netStart
  exact ite ((h₃.withTwin _).stnState.sendPair) (h₃.setRole 2)

/-! ## The records of an alarm -/

theorem pushAlarm (h : d.SameStart d') (code source : Nat) (v v2 : Word) : d.SameStart (d'.pushAlarm code source v v2) := by
  unfold Dyn.pushAlarm
  split
  exact (h.withAlarms _).put _

theorem triggerItem (h : d.SameStart d') (cause source : Nat) : d.SameStart (d'.triggerItem cause source) :=
  (h.withJrn _).withJrn _

theorem secondary (h : d.SameStart d') : d.SameStart d'.secondary := by
  unfold Dyn.secondary
  split
  · exact h.withJrn _
  · exact h

theorem journalAlarm (h : d.SameStart d') (code source : Nat) (v v2 : Word) :
    d.SameStart (d'.journalAlarm c code source v v2) :=
  have h₁ := h.pushAlarm code source v v2
  ite (h₁.triggerItem ..).secondary h₁

theorem freeze (h : d.SameStart d') (cause source : Nat) (frame : Word) :
    d.SameStart (d'.freeze c cause source frame) := by
  have h₁ := h.triggerItem cause source
  unfold Dyn.freeze
  extract_lets x₁ want last before oldest fn0 within w pl x₂ _ x₃ x₄ x₅
  split
  · exact h₁.secondary
  · have h₂ : d.SameStart x₂ := by
      clear_value pl
      cases pl with
      | some p => exact h₁.setWindow ..
      | none => exact h₁
    have h₅ : d.SameStart x₅ := ((h₂.withJrn _).setFlag _).journalAlarm ..
    exact ite (h₅.journalAlarm ..) h₅

theorem alarm (h : d.SameStart d') (code source : Nat) (v v2 : Word) : d.SameStart (d'.alarm c code source v v2) :=
  have h₁ := h.pushAlarm code source v v2
  ite (h₁.freeze ..) h₁

/-! ## The end of the start of frames -/

theorem takeTime (h : d.SameStart d') : d.SameStart (d'.takeTime c) := by
  unfold Dyn.takeTime
  extract_lets f x₁ x₂
  have h₁ : d.SameStart x₁ := h.put _
  have h₂ : d.SameStart x₂ := ite ((h₁.setServo _).put _).ptpStart h₁
  exact ite h (ite (h₂.put _) h₂)

theorem startCompare (h : d.SameStart d') (e : Nat) : d.SameStart (d'.startCompare c e) := by
  refine h.foldl fun x u _ hx => ?_
  obtain ⟨htgt, hstat⟩ := tsuCmp_not_mem u
  split
  · exact (hx.wr _ htgt).setFlag _ hstat
  · exact ((hx.withTsu _).wr _ htgt).setFlag _ hstat
  · exact hx

theorem installKey (h : d.SameStart d') (k : Key) : d.SameStart ((d'.setKey k).pendRegs k) :=
  ((h.withNv _).put _).put _

theorem directoryAfterStart (h : d.SameStart d') : d.SameStart (d'.directoryAfterStart c) := by
  unfold Dyn.directoryAfterStart
  extract_lets was x
  have h₁ : d.SameStart x := h.withBoot rfl
  split
  · exact h₁
  · split
    · exact h₁
    · refine ite (h₁.installKey _) ?_
      split
      · exact (h₁.installKey _).alarm ..
      · exact h₁

theorem powerRestored (h : d.SameStart d') : d.SameStart (d'.powerRestored c) := by
  unfold Dyn.powerRestored
  split
  · exact h
  · exact (h.withNv _).alarm ..

end Dyn.SameStart
end Sys2Proof.Machine
end

section
/-! SUPPORT. The lock word, the boot watchdog and FN 0 (R50, R51, R74). -/

namespace Sys2Proof.Machine

/-! ## The lock -/

/-- Start-up stands behind the lock, which shows. -/
def Dyn.locked (d : Dyn) : Dyn :=
  (({ d with boot := { d.boot with stage := .locked } } : Dyn).setFlag F.BOOT_STATUS_LOCKED true).setFlag F.LVE_STATUS_LIVE true

theorem Dyn.sameStart_lockUp (c : Cfg) (d : Dyn) : d.locked.SameStart (d.lockUp c) := by
  unfold Dyn.lockUp
  extract_lets _ x₁ x₂ x₃ x₄ x₅ x₆
  have h₃ : d.locked.SameStart x₃ := (Dyn.SameStart.refl.setP0Flags _).fieldCells
  have h₄ : d.locked.SameStart x₄ := h₃.startTests.derive
  have h₆ : d.locked.SameStart x₆ := ((h₄.put _).wr _).wr _
  exact h₆.rtcDefaults.storePower

theorem Dyn.flag_locked (d : Dyn) : d.locked.flag F.BOOT_STATUS_LOCKED = true :=
  (Dyn.flag_setFlag_ne _ _ (by decide)).trans (Dyn.flag_setFlag_same _ _ _ (by decide) (by decide))

/-- The lock word locks the set-up as it stands. -/
theorem exec_bootLock {s : State} (hheld : s.dyn.boot.held = false) (hstage : s.dyn.boot.stage = .setup)
    (hlk : s.cfg.locked = false) (hplay : s.dyn.toReplay = none) :
    let c := { s.cfg with locked := true }
    exec (.bootLock 0x4C4F434B) s = .next { s with cfg := c, dyn := (s.dyn.lockUp c).runtime c } := by
  show execBootLock _ s = _
  simp [execBootLock, hheld, hstage, hlk, hplay]

theorem exec_bootLock_other {w : Word} (h : w ≠ 0x4C4F434B) (s : State) : exec (.bootLock w) s = .next s := by
  show execBootLock w s = _
  rw [execBootLock, if_pos]
  rw [decide_eq_true h, Bool.or_true]

/-! ## The watchdog -/

theorem exec_bootWatchdogExpiry {s : State} (hheld : s.dyn.boot.held = false) (hstage : s.dyn.boot.stage = .setup)
    (hlk : s.cfg.locked = false) : exec .bootWatchdogExpiry s = .next { s with
      cfg := { Cfg.init with locked := true },
      dyn := (((s.dyn.ticks (1000000000 - s.dyn.clk.cycles)).stay .halted 0 0x11).setFlag F.BOOT_STATUS_LOCKED true).setFlag
        F.LVE_STATUS_LIVE true } := by
  show execBootWatchdogExpiry s = _
  simp [execBootWatchdogExpiry, hheld, hstage, hlk]

/-! ## FN 0 -/

/-- In a simplex module the frames start in RUN, or in STOP, with FN 0, and what follows leaves that so. -/
theorem exec_frameZeroStart {s : State} (hheld : s.dyn.boot.held = false) (htwin : s.cfg.twin = false)
    (hmay : s.cfg.mayStart s.dyn = true) :
    ∃ x z : Dyn, x.boot.stage = .running ∧ x.slc.framing = true ∧ exec .frameZeroStart s = .next (s.withDyn z) ∧
      ((x.wr Reg.SLC_FN 0).enter (if s.cfg.img.startStopped then 2 else 1) 0).SameStart z := by
  have hexec : exec .frameZeroStart s = execFrameZeroStart s := rfl
  rw [hexec, execFrameZeroStart, State.upd_eq hheld, if_neg (by simp [hmay])]
  extract_lets together x₁ x₂ x₃ _ _ x₄ x₅ x₆ _ x₇ x₈ x₉
  have hsimplex : together = false := by simp [together, htwin]
  have h₇ : x₅.SameStart x₇ := by
    rw [show x₇ = x₆ from if_neg (by simp [hsimplex])]
    exact Dyn.SameStart.refl.setRole 2
  have h₉ : x₅.SameStart x₉ := (h₇.takeTime.startCompare 0).wr _
  exact ⟨x₄, _, rfl, rfl, rfl, h₉.directoryAfterStart.powerRestored⟩

/-- Settles O43: what follows the lock, and the start of the frames, leaves where start-up stands as it is (`Dyn.SameStart`). -/
theorem lockWatchdogAndFrameZero : Obligations.LockWatchdogAndFrameZero := by
  intro s hheld
  refine ⟨fun hstage hlk => ⟨fun hplay => ?lock, fun w hw => exec_bootLock_other hw s, ?watchdog⟩, fun htwin hmay => ?start⟩
  case lock =>
    have h := (s.dyn.sameStart_lockUp { s.cfg with locked := true }).runtime (c := { s.cfg with locked := true })
    refine ⟨_, exec_bootLock hheld hstage hlk hplay, rfl, h.stage, ?_⟩
    exact (Dyn.flag_congr (h.rd _ (by decide))).trans s.dyn.flag_locked
  case watchdog =>
    refine ⟨_, exec_bootWatchdogExpiry hheld hstage hlk, rfl, rfl, ?_⟩
    generalize s.dyn.ticks _ = d
    refine ⟨?state, ?cause, ?locked⟩
    case state =>
      rw [Dyn.modState, Dyn.setFlag, Dyn.setFlag, Dyn.get_put_ne _ _ (by decide), Dyn.get_put_ne _ _ (by decide)]
      exact d.stay_modState .halted 0x11 (by decide)
    case cause =>
      rw [Dyn.setFlag, Dyn.setFlag, Dyn.get_put_ne _ _ (by decide), Dyn.get_put_ne _ _ (by decide)]
      exact d.stay_cause .halted 0 (by decide)
    case locked =>
      rw [Dyn.flag_setFlag_ne _ _ (by decide), Dyn.flag_setFlag_same _ _ _ (by decide) (by decide)]
  case start =>
    obtain ⟨x, z, hrun, hframing, hexec, h⟩ := exec_frameZeroStart hheld htwin hmay
    refine ⟨_, hexec, s.withDyn_cfg z, h.framing.trans hframing, ?fn, h.stage.trans hrun, ?state⟩
    case fn =>
      rw [s.withDyn_dyn, Dyn.fn, h.rd _ (by decide), Dyn.rd_enter _ _ _ (by decide)]
      exact Dyn.rd_wr_same ..
    case state =>
      exact (Dyn.get_congr (h.rd _ (by decide))).trans (Dyn.enter_modState _ 0 (by split <;> decide))

end Sys2Proof.Machine
end

section
/-! SUPPORT. What stops a polder: faults, the end of its segment, the debugger and its budget (R87, R88, R139, R149, R155, R156). -/

namespace Sys2Proof.Machine

/-- While the module is not in reset, a meaning answers the state with another dynamic part. -/
theorem State.upd_withDyn {s : State} (h : Live s) (f : Cfg → Dyn → Dyn) :
    s.upd f = .next (s.withDyn (f s.cfg s.dyn)) := s.upd_eq h f

section
variable {s : State} {p : BitVec 4} {n k : Nat} {t : TaskCtx}

/-- A word that is no instruction issues, and faults. -/
theorem Issues.exec_illegalOpcode (h : Issues s p n k t) {w : Word} (hw : effectOf w = none) (hn : costOf w t = n) :
    exec (.illegalOpcode p w) s =
      .next (s.withDyn ((s.dyn.issued p.toNat n).programFault s.cfg p.toNat k 0x13 t.pc)) :=
  h.issue_error (cost := fun _ _ => costOf w) hn (by rw [hw])

theorem exec_runPastEnd (hlive : Live s) (hready : s.dyn.ready s.cfg p.toNat = some (k, t))
    (hend : s.cfg.get (F.LGE_SEG_LEN_VALUE p.toNat) ≤ t.pc) :
    exec (.runPastEnd p) s = .next (s.withDyn
      (s.dyn.programFault s.cfg p.toNat k 0x15 (s.cfg.get (F.LGE_SEG_LEN_VALUE p.toNat)))) := by
  show execRunPastEnd p s = _
  rw [execRunPastEnd, State.upd_withDyn hlive, Dyn.pastEnd]
  simp [hready, hend]

theorem exec_breakpointHit (hlive : Live s) (hready : s.dyn.ready s.cfg p.toNat = some (k, t))
    (hrun : s.dyn.mode p.toNat = 2) (hskip : (s.dyn.polder p.toNat).skipBp = false)
    (hbreak : s.dyn.breakAt p.toNat t.pc = true) :
    exec (.breakpointHit p) s = .next (s.withDyn (s.dyn.setMode s.cfg p.toNat 3)) := by
  show execBreakpointHit p s = _
  rw [execBreakpointHit, State.upd_withDyn hlive]
  simp [hready, hrun, hskip, hbreak]

theorem exec_stepComplete (hlive : Live s) (hrun : s.dyn.mode p.toNat = 2)
    (hsteps : (s.dyn.polder p.toNat).steps = some 0) :
    exec (.stepComplete p) s = .next (s.withDyn
      ((s.dyn.setPolder p.toNat fun x => { x with steps := none }).setMode s.cfg p.toNat 3)) := by
  show execStepComplete p s = _
  rw [execStepComplete, State.upd_withDyn hlive, Dyn.stepsDone]
  simp [hrun, hsteps]

theorem exec_budgetExhaustion (hlive : Live s) (hready : s.dyn.ready s.cfg p.toNat = some (k, t)) {cost : BitVec 8}
    (hcost : (s.dyn.polder p.toNat).bLogic < cost.toNat) :
    exec (.budgetExhaustion p cost) s = .next (s.withDyn (s.dyn.spill s.cfg p.toNat 1)) := by
  show execBudgetExhaustion p cost s = _
  rw [execBudgetExhaustion, State.upd_withDyn hlive]
  simp [hready, hcost]

end

/-- Settles O19, stop by stop. -/
theorem polderStops : Obligations.PolderStops := by
  intro s p k t hlive
  exact ⟨fun w n h => h.exec_illegalOpcode, exec_runPastEnd hlive, exec_breakpointHit hlive, exec_stepComplete hlive,
    fun _ h => exec_budgetExhaustion hlive h⟩

end Sys2Proof.Machine
end

section
/-! SUPPORT. The instants of the frame, and a planned role that the role field cannot hold (R73–R85, R98, R162, R244, R254, R258). -/

namespace Sys2Proof.Machine

section
variable {s : State}

/-! ## The phase, and the pre-wake (R75, R76) -/

/-- A step of the frame acts in its phase, while the module runs, and leaves the next one. -/
theorem Dyn.inPhase_running {d : Dyn} {n : Nat} (hframing : d.slc.framing = true) (hphase : d.phase = n)
    (hrun : d.running = true) (next : Nat) (f : Dyn → Dyn) : d.inPhase n next f = (f d).put F.SLC_STATUS_PHASE next := by
  simp [Dyn.inPhase, hframing, hphase, hrun]

theorem Dyn.phase_put_phase (d : Dyn) {n : Nat} (h : n < 8) : (d.put F.SLC_STATUS_PHASE n).phase = n :=
  (d.get_put_same _ n (by decide)).trans (Nat.mod_eq_of_lt h)

theorem exec_preWake (hlive : Live s) (meas : List Measure) :
    let d := if s.dyn.slc.framing ∧ s.dyn.slc.first = false then s.dyn.advTo (s.dyn.atT
      (s.cfg.period - if s.dyn.flag F.TSU_STATUS_DEEP then 62000 else 2000)) else s.dyn
    exec (.preWake meas) s = .next (s.withDyn
      (meas.foldl (Dyn.measure s.cfg) (((d.finishRecord s.cfg).dozeTo false).setFlag F.TSU_STATUS_DEEP false))) := by
  show execPreWake meas s = _
  rw [execPreWake, State.upd_withDyn hlive]
  simp

/-! ## The agreement (R254, R258) -/

theorem Dyn.advTo_twin (d : Dyn) (w : Word) : (d.advTo w).twin = d.twin := d.ticks_twin _
theorem Dyn.advTo_unitB (d : Dyn) (w : Word) : (d.advTo w).unitB = d.unitB := d.flag_ticks _ (by decide)
theorem Dyn.advTo_agreeing (d : Dyn) (w : Word) : (d.advTo w).agreeing = d.agreeing := by
  rw [Dyn.agreeing, Dyn.advTo_twin, Dyn.lockstep, Dyn.advTo, Dyn.flag_ticks _ _ (by decide)]
  rfl

/-- The agreement is no longer due. -/
def Dyn.agreeDone (d : Dyn) : Dyn := { d with twin := { d.twin with agreeDue := false } }

/-- The decision of an agreement that is due. -/
theorem Dyn.decideAgreement_due {c : Cfg} {d : Dyn} (hdue : d.twin.agreeDue = true) : d.decideAgreement c =
    if d.agreementHeld c && d.agreeing then
      d.agreeDone.agreeLanes.takeVector c true
        (if d.unitB then c.mergeAll d.twin.mirror d.twin.ownC else c.mergeAll d.twin.ownC d.twin.mirror)
    else (if d.agreeing then (d.agreeDone.bump F.SHL_AGREE_MISS_COUNT).linkFail c else d.agreeDone).ownVector c := by
  have hunit : d.agreeDone.unitB = d.unitB := rfl
  have hag : d.agreeDone.agreeing = d.agreeing := rfl
  unfold Dyn.agreeDone at *
  simp only [Dyn.decideAgreement, hdue, hunit, hag]
  cases d.unitB <;> rfl

theorem exec_agreementDeadline (hlive : Live s) (hdue : s.dyn.twin.agreeDue = true) :
    exec .agreementDeadline s = .next (s.withDyn ((s.dyn.advTo (s.dyn.atT 7000)).decideAgreement s.cfg)) := by
  show execAgreementDeadline s = _
  rw [execAgreementDeadline, State.upd_withDyn hlive, if_pos hdue]

/-! ## Event slots (R84, R85) -/

theorem exec_eventSlotBoundary (hlive : Live s) {n : BitVec 4} (hn : n ≠ 0) (hframing : s.dyn.slc.framing = true)
    (hphase : s.dyn.phase = 2) : exec (.eventSlotBoundary n) s =
      .next (s.withDyn ((s.dyn.advTo (s.dyn.slotAt s.cfg n.toNat)).collectSlot s.cfg n.toNat)) := by
  have hphase : s.dyn.get F.SLC_STATUS_PHASE = 2 := hphase
  show execEventSlotBoundary n s = _
  have hacts : (s.dyn.slc.framing && s.dyn.get F.SLC_STATUS_PHASE == 2 && n != 0) = true := by
    rw [hframing, hphase, bne_iff_ne.2 hn]
    rfl
  rw [execEventSlotBoundary, State.upd_withDyn hlive, if_pos hacts]

/-- A sequence of changes that each leave the registers leaves them. -/
theorem foldl_regs {β : Type} {f : Dyn → β → Dyn} (hf : ∀ d x, (f d x).regs = d.regs) (l : List β) (d : Dyn) :
    (l.foldl f d).regs = d.regs := by
  induction l generalizing d with
  | nil => rfl
  | cons x l ih => exact (ih _).trans (hf d x)

/-- The start of tasks writes no register. -/
theorem Dyn.eventStarts_regs (c : Cfg) (d : Dyn) (p : Nat) : (d.eventStarts c p).regs = d.regs := by
  unfold Dyn.eventStarts
  split
  · rfl
  · exact foldl_regs (fun d k => by dsimp only; split <;> rfl) _ _

theorem Dyn.eachPolder_regs {f : Dyn → Nat → Dyn} (hf : ∀ d p, (f d p).regs = d.regs) (c : Cfg) (d : Dyn) :
    (d.eachPolder c f).regs = d.regs := by
  refine foldl_regs (fun d p => ?_) _ _
  split
  · exact hf d p
  · rfl

/-- Every polder starts its event tasks at the dispatch point of a later slot (R147). -/
def Dyn.slotStarts (c : Cfg) (d : Dyn) : Dyn :=
  d.eachPolder c fun d p => (d.setPolder p fun s => { s with carried := [] }).eventStarts c p

theorem Dyn.slotStarts_regs (c : Cfg) (d : Dyn) : (d.slotStarts c).regs = d.regs := by
  rw [Dyn.slotStarts]
  exact Dyn.eachPolder_regs (fun _ _ => (Dyn.eventStarts_regs ..).trans (Dyn.setPolder_regs ..)) c d

theorem exec_eventSlotDispatch (hlive : Live s) {n : BitVec 4} (hframing : s.dyn.slc.framing = true)
    (hphase : s.dyn.phase = 2) (hslot : s.dyn.get F.SLC_STATUS_SLOT < n.toNat) (hrun : s.dyn.running = true) :
    exec (.eventSlotDispatch n) s = .next (s.withDyn
      (((((s.dyn.advTo (s.dyn.slotAt s.cfg n.toNat + 2000)).dispatchSlot s.cfg n.toNat).put F.SLC_STATUS_SLOT
        n.toNat).slotStarts s.cfg).put F.SLC_STATUS_PHASE 2)) := by
  show execEventSlotDispatch n s = _
  rw [execEventSlotDispatch, State.upd_withDyn hlive, if_pos hslot, Dyn.inPhase_running hframing hphase hrun,
    Dyn.slotStarts]

/-! ## The signature and the stored copy (R98, R162) -/

theorem exec_executionClose (hlive : Live s) (hframing : s.dyn.slc.framing = true) (hphase : s.dyn.phase = 3)
    (hrun : s.dyn.running = true) :
    let d := (s.dyn.advTo (s.dyn.atT (s.cfg.offset - 4000))).evalAll s.cfg
    let x := d.asCommitted s.cfg (polders.filter (d.commits s.cfg))
    exec .executionClose s = .next (s.withDyn (({ d with jrn := { d.jrn with
      outCrc := Config.digest (flatWords x.outC),
      relDigest := Config.digest (s.cfg.releases.flatMap
        (x.releaseWords s.cfg (polders.filter (d.commits s.cfg)))) } } : Dyn).put F.SLC_STATUS_PHASE 4)) := by
  show execExecutionClose s = _
  rw [execExecutionClose, State.upd_withDyn hlive, Dyn.inPhase_running hframing hphase hrun]

theorem exec_mramCopyDone (hlive : Live s) {recs : List (Nat × PolderRec)} (hcopy : s.dyn.life.copying = some recs) :
    exec .mramCopyDone s = .next (s.withDyn (
      if s.dyn.life.copyAgain then (s.dyn.endCopy recs).startCopy s.cfg else s.dyn.endCopy recs)) := by
  show execMramCopyDone s = _
  rw [execMramCopyDone, State.upd_withDyn hlive]
  simp [hcopy]

end

/-- Settles O49, instant by instant. -/
theorem frameInstants : Obligations.FrameInstants := by
  intro s hlive
  refine ⟨exec_preWake hlive, fun hdue => ?agreement, fun n hn hframing hphase => ⟨?boundary, fun hslot hrun => ?dispatch⟩,
    fun hframing hphase hrun => ?signature, fun recs => exec_mramCopyDone hlive⟩
  case agreement =>
    have hexec := exec_agreementDeadline hlive hdue
    have htwin := s.dyn.advTo_twin (s.dyn.atT 7000)
    have hunit := s.dyn.advTo_unitB (s.dyn.atT 7000)
    have hag := s.dyn.advTo_agreeing (s.dyn.atT 7000)
    have hdue : (s.dyn.advTo (s.dyn.atT 7000)).twin.agreeDue = true := htwin ▸ hdue
    have hdecide := Dyn.decideAgreement_due (c := s.cfg) hdue
    rw [hag, hunit, htwin] at hdecide
    refine ⟨fun h => ?alone, fun h hheld => ?held, fun h hheld => ?missed⟩
    case alone => rw [hexec, hdecide, h, Bool.and_false, if_neg Bool.false_ne_true, if_neg Bool.false_ne_true, Dyn.agreeDone]
    case held => rw [hexec, hdecide, h, hheld, Bool.and_self, if_pos rfl, Dyn.agreeDone]
    case missed => rw [hexec, hdecide, h, hheld, Bool.false_and, if_neg Bool.false_ne_true, if_pos rfl, Dyn.agreeDone]
  case boundary => exact exec_eventSlotBoundary hlive hn hframing hphase
  case dispatch =>
    refine ⟨_, exec_eventSlotDispatch hlive hframing hphase hslot hrun, Dyn.phase_put_phase _ (by decide), ?_⟩
    rw [s.withDyn_dyn, Dyn.get_put_disjoint _ _ (by decide) (by decide) (by decide),
      Dyn.get_congr (Dyn.rd_congr (Dyn.slotStarts_regs ..) _), Dyn.get_put_same _ _ _ (by decide)]
  case signature => exact ⟨_, exec_executionClose hlive hframing hphase hrun, rfl⟩

/-! ## The phases of the frame (R75, R76) -/

/-- A unit of a twin between two frames, whose next role is 12. A role is a field of three bits: it reads 4, the role of a
unit that joins. -/
def plannedRole12 : State :=
  let d := Dyn.init NonVol.init
  { State.reset with
    cfg := { Cfg.init with lk := [(F.SLC_CTRL_TWIN.addr, 1)] }
    dyn := { d with regs := [], slc := { d.slc with framing := true }, twin := { d.twin with nextRole := some 12 } } }

/-- The phase that a command leaves. -/
def phaseAfter : Out → Option Nat
  | .next u => some u.dyn.phase
  | _ => none

/-- The input latch takes up role 12, which reads 4: the phase stays as it is. -/
theorem plannedRole12_latch : phaseAfter (exec .inputLatch plannedRole12) = some 0 := by decide +kernel

/-- Refutes O48: the role planned for the next frame is a number of any size, and one that the three bits of the role field
reduce to 4 makes the unit a joining one at its input latch, which begins no frame. The statement excludes 4 alone. -/
theorem not_framePhases : ¬ Obligations.FramePhases := by
  intro h
  obtain ⟨-, hlatch, -⟩ := h plannedRole12 false (by decide +kernel) (by decide +kernel)
  obtain ⟨u, hu, -, -, hphase⟩ := hlatch (by decide +kernel) (by decide +kernel) (by decide +kernel)
  have hzero := plannedRole12_latch
  rw [hu, phaseAfter, hphase] at hzero
  exact absurd hzero (by decide)

end Sys2Proof.Machine
end

section
/-! SUPPORT. What an evaluation of the levee matrix, and giving up, leave as it is of a plane mismatch, a term test and a fault of
the array; and that a hardware fault stops the commits (R117–R127, R242, R263, R264). -/

namespace Sys2Proof.Machine

/-- What shows a plane mismatch, a term test and a fault of the array, what the other plane asserts, and whether commits have
stopped. -/
structure Standing where
  lveStatus : Word
  testStat : Word
  slvStatus : Word
  commitOff : Bool
  testMode : Nat
  planeGate : BitVec 96
  planeFlag : BitVec 16

def Dyn.standing (d : Dyn) : Standing :=
  ⟨d.rd Reg.LVE_STATUS, d.rd Reg.LVE_TEST_STAT, d.rd Reg.SLV_GSTATUS, d.slc.commitOff, d.lve.testMode, d.lve.planeGate,
    d.lve.planeFlag⟩

/-- The registers of `Standing`. -/
def standingRegs : List Nat := [Reg.LVE_STATUS, Reg.LVE_TEST_STAT, Reg.SLV_GSTATUS]

theorem not_mem_standingRegs {a : Nat} : a ∉ standingRegs ↔ a ≠ 0x41000 ∧ a ≠ 0x41024 ∧ a ≠ 0x74000 := by
  simp [standingRegs, Reg.LVE_STATUS, Reg.LVE_TEST_STAT, Reg.SLV_GSTATUS]

theorem dioStatus_not_standing (n : Nat) : Reg.DIO_STATUS n ∉ standingRegs := by
  rw [not_mem_standingRegs, Reg.DIO_STATUS]
  omega

theorem aioStatus_not_standing (m : Nat) : Reg.AIO_STATUS m ∉ standingRegs := by
  rw [not_mem_standingRegs, Reg.AIO_STATUS]
  omega

theorem aioStage_not_standing (m : Nat) : Reg.AIO_STAGE m ∉ standingRegs := by
  rw [not_mem_standingRegs, Reg.AIO_STAGE]
  omega

namespace Dyn
variable (c : Cfg) (d : Dyn)

/-! ## Single changes

Those of a part that `Standing` does not read are stated for any state: with a large one in its place, `rfl` would compute
it. -/

theorem standing_wr {a : Nat} (v : Word) (h : a ∉ standingRegs) : (d.wr a v).standing = d.standing := by
  have hrd (b : Nat) (hb : b ∈ standingRegs) : (d.wr a v).rd b = d.rd b := d.rd_wr_ne v (ne_of_mem_of_not_mem hb h)
  simp only [standing, hrd Reg.LVE_STATUS (by decide), hrd Reg.LVE_TEST_STAT (by decide),
    hrd Reg.SLV_GSTATUS (by decide), wr_slc, wr_lve]

theorem standing_put {f : Fld} (v : Nat) (h : f.addr ∉ standingRegs) : (d.put f v).standing = d.standing :=
  d.standing_wr _ h

theorem standing_setFlag {f : Fld} (b : Bool) (h : f.addr ∉ standingRegs) : (d.setFlag f b).standing = d.standing :=
  d.standing_put _ h

theorem standing_setDig (n : Nat) (f : Dio → Dio) : (d.setDig n f).standing = d.standing := rfl
theorem standing_setAna (m : Nat) (f : Aio → Aio) : (d.setAna m f).standing = d.standing := rfl
theorem standing_withTwin (x : Twin) : ({ d with twin := x } : Dyn).standing = d.standing := rfl
theorem standing_send (m : Sent) : (d.send m).standing = d.standing := rfl
theorem standing_setHolding (t : Nat) (b : Bool) : (d.setHolding t b).standing = d.standing := rfl
theorem standing_setRstPrev (t : Nat) (b : Bool) : (d.setRstPrev t b).standing = d.standing := rfl
theorem standing_activate (t : Nat) : (d.activate c t).standing = d.standing := rfl

theorem standing_ite {p : Prop} [Decidable p] {a b : Dyn} (ha : a.standing = d.standing) (hb : b.standing = d.standing) :
    (if p then a else b).standing = d.standing := by
  split
  · exact ha
  · exact hb

theorem standing_foldl {β : Type} {f : Dyn → β → Dyn} (hf : ∀ d x, (f d x).standing = d.standing) (l : List β) (d : Dyn) :
    (l.foldl f d).standing = d.standing := by
  induction l generalizing d with
  | nil => rfl
  | cons x l ih => exact (ih _).trans (hf d x)

/-! ## The levee matrix -/

theorem standing_setPairBit {r₀ r₁ : Nat} (t : Nat) (b : Bool) (h₀ : r₀ ∉ standingRegs) (h₁ : r₁ ∉ standingRegs) :
    (d.setPairBit r₀ r₁ t b).standing = d.standing := by
  refine d.standing_wr _ ?_
  split
  · exact h₀
  · exact h₁

theorem standing_clearTerm (t : Nat) : (d.clearTerm t).standing = d.standing := by
  simp (disch := decide) only [clearTerm, standing_setHolding, standing_setPairBit]

theorem standing_evalTerm (t : Nat) : (d.evalTerm c t).standing = d.standing := by
  simp (disch := decide) only [evalTerm, apply_ite standing, standing_setPairBit, standing_setRstPrev, standing_activate,
    standing_clearTerm, ite_self]

theorem standing_driveGates : (d.driveGates c).standing = d.standing := by
  simp (disch := decide) only [driveGates, standing_wr]

theorem standing_fixDio (n : Nat) : (d.fixDio c n).standing = d.standing := by
  have hn := dioStatus_not_standing n
  exact (standing_setFlag _ _ hn).trans ((standing_setFlag _ _ hn).trans ((standing_setFlag _ _ hn).trans
    (d.standing_setFlag _ hn)))

theorem standing_turnOn (n : Nat) : (d.turnOn c n).standing = d.standing := by
  unfold turnOn
  split
  · exact standing_ite _ (d.standing_setFlag false (dioStatus_not_standing n)) rfl
  · rfl

theorem standing_dropConds (n : Nat) : (d.dropConds c n).standing = d.standing := by
  have hn := dioStatus_not_standing n
  unfold dropConds
  extract_lets d₀ on clr off d₁ d₂ d₃ hot d₄ d₅ d₆
  have hclr (x : Dyn) (b : Bool) {f : Fld} (hf : f.addr ∉ standingRegs) : (clr x b f).standing = x.standing :=
    standing_ite _ (x.standing_setFlag _ hf) rfl
  calc (d₆.fixDio c n).standing = d₆.standing := d₆.standing_fixDio c n
    _ = d₃.standing := (hclr d₅ _ hn).trans ((hclr d₄ _ hn).trans (hclr d₃ _ hn))
    _ = d₀.standing := (hclr d₂ _ hn).trans ((hclr d₁ _ hn).trans (hclr d₀ _ hn))
    _ = d.standing := d.standing_turnOn c n

theorem standing_tripStatus : (d.tripStatus c).standing = d.standing := by
  refine standing_foldl (fun d n => ?_) _ d
  have hn := dioStatus_not_standing n
  refine standing_ite d (standing_ite d ?tripped ?ended) rfl
  case tripped => exact (standing_dropConds ..).trans (standing_setFlag _ _ hn)
  case ended =>
    have h := d.standing_setFlag (f := F.DIO_STATUS_TRIPPED n) false hn
    refine standing_ite d ?_ ((standing_dropConds ..).trans h)
    exact (standing_fixDio ..).trans ((standing_setDig ..).trans ((standing_wr _ _ hn).trans h))

/-- All that an evaluation of the matrix does to what `Standing` reads is to write the status of the test. -/
theorem levee_eq : ∃ m : Dyn, m.standing = d.standing ∧
    d.levee c = if d.flag F.LVE_STATUS_LIVE then m.testStatus c else d :=
  ⟨_, (standing_tripStatus ..).trans ((standing_driveGates ..).trans (standing_foldl (fun d t => d.standing_evalTerm c t) ..)),
    rfl⟩

theorem testStatus_planeMismatch :
    (d.testStatus c).flag F.LVE_STATUS_PLANE_MISMATCH = d.flag F.LVE_STATUS_PLANE_MISMATCH := by
  simp (disch := decide) only [testStatus, flag_put_ne, flag_setFlag_ne, flag_setFlag_disjoint]

theorem testStatus_state : (d.testStatus c).get F.LVE_TEST_STAT_STATE = d.get F.LVE_TEST_STAT_STATE := by
  simp (disch := decide) only [testStatus, setFlag, get_put_disjoint, get_put_ne]

theorem levee_planeMismatch : (d.levee c).flag F.LVE_STATUS_PLANE_MISMATCH = d.flag F.LVE_STATUS_PLANE_MISMATCH := by
  obtain ⟨m, hm, he⟩ := d.levee_eq c
  rw [he]
  split
  · exact (m.testStatus_planeMismatch c).trans (flag_congr (congrArg Standing.lveStatus hm))
  · rfl

theorem levee_testState : (d.levee c).get F.LVE_TEST_STAT_STATE = d.get F.LVE_TEST_STAT_STATE := by
  obtain ⟨m, hm, he⟩ := d.levee_eq c
  rw [he]
  split
  · exact (m.testStatus_state c).trans (get_congr (congrArg Standing.testStat hm))
  · rfl

theorem levee_test_and_planes : (d.levee c).lve.testMode = d.lve.testMode ∧
    (d.levee c).lve.planeGate = d.lve.planeGate ∧ (d.levee c).lve.planeFlag = d.lve.planeFlag := by
  obtain ⟨m, hm, he⟩ := d.levee_eq c
  rw [he]
  split
  · exact ⟨congrArg Standing.testMode hm, congrArg Standing.planeGate hm, congrArg Standing.planeFlag hm⟩
  · exact ⟨rfl, rfl, rfl⟩

/-! ## Plane mismatches and term tests (R120, R126) -/

/-- The planes disagree by these gate commands and flags, and the matrix follows. -/
def mismatched (gates : BitVec 96) (flags : BitVec 16) : Dyn :=
  (({ d with lve := { d.lve with planeGate := gates, planeFlag := flags } } : Dyn).setFlag F.LVE_STATUS_PLANE_MISMATCH
    true).levee c

theorem mismatched_shows (gates : BitVec 96) (flags : BitVec 16) :
    (d.mismatched c gates flags).flag F.LVE_STATUS_PLANE_MISMATCH = true ∧
      (d.mismatched c gates flags).lve.planeGate = gates ∧ (d.mismatched c gates flags).lve.planeFlag = flags ∧
      (d.mismatched c gates flags).modState = d.modState := by
  obtain ⟨-, hgate, hflag⟩ := levee_test_and_planes c
    (({ d with lve := { d.lve with planeGate := gates, planeFlag := flags } } : Dyn).setFlag F.LVE_STATUS_PLANE_MISMATCH true)
  have hstart : d.SameStart (d.mismatched c gates flags) := ((SameStart.refl.withLve _).setFlag true).levee
  exact ⟨(levee_planeMismatch ..).trans (flag_setFlag_same _ _ _ (by decide) (by decide)), hgate, hflag,
    get_congr (hstart.rd _ (by decide))⟩

theorem closeTest_testMode (st : Nat) : (d.closeTest st).lve.testMode = 0 := by
  unfold closeTest
  extract_lets t inhibit _ d₁ d₂
  show d₂.lve.testMode = 0
  simp only [d₂]
  split <;> rfl

theorem endTest_shows {st : Nat} (h : st < 4) :
    (d.endTest c st).lve.testMode = 0 ∧ (d.endTest c st).get F.LVE_TEST_STAT_STATE = st := by
  obtain ⟨hmode, -⟩ := (d.closeTest st).levee_test_and_planes c
  exact ⟨hmode.trans (d.closeTest_testMode st),
    (levee_testState ..).trans ((get_put_same _ _ _ (by decide)).trans (Nat.mod_eq_of_lt h))⟩

/-! ## Giving up (R264) -/

theorem standing_stageConds (m : Nat) : (d.stageConds c m).standing = d.standing := by
  have hm := aioStatus_not_standing m
  have h := standing_ite (p := d.stageDiag c m = true) d rfl ((standing_setFlag (f := F.AIO_STATUS_OPEN m) _ false hm).trans
    (d.standing_setFlag (f := F.AIO_STATUS_COMPLIANCE m) false hm))
  exact standing_ite d h ((standing_setFlag _ false hm).trans h)

theorem standing_fixAio (m : Nat) : (d.fixAio c m).standing = d.standing := by
  have hm := aioStatus_not_standing m
  unfold fixAio
  extract_lets d₁ fl common inv d₂ d₃ v
  calc ((d₃.wr (Reg.AIO_STAGE m) v).setAna m _).standing = (d₃.wr (Reg.AIO_STAGE m) v).standing := standing_setAna ..
    _ = d₃.standing := d₃.standing_wr v (aioStage_not_standing m)
    _ = d₂.standing := d₂.standing_put _ hm
    _ = d₁.standing := d₁.standing_setFlag inv hm
    _ = d.standing := d.standing_stageConds c m

theorem standing_canDrop : d.canDrop.standing = d.standing := by
  unfold canDrop
  refine (standing_foldl (fun d q => ?_) ..).trans (standing_foldl (fun d k => ?_) ..)
  · exact standing_ite d rfl rfl
  · rfl

theorem standing_sendWords (kind : Nat) (ws : List Word) : (d.sendWords kind ws).standing = d.standing := by
  have h := (standing_send _ (.shucel kind d.fn ws)).trans (d.standing_withTwin (d.nextSeq kind).2.twin)
  exact standing_ite d ((standing_withTwin ..).trans h) h

theorem standing_stnState : (d.stnState c).standing = d.standing := by
  simp (disch := decide) only [stnState, standing_setFlag, standing_put]

theorem standing_setServo (v : Nat) : (d.setServo c v).standing = d.standing := by
  have h₁ := d.standing_put (f := F.TSU_STATUS_SERVO) v (by decide)
  have h₂ := (standing_setFlag _ (f := F.RTC_CALSTATE_TAI_SRC) false (by decide)).trans h₁
  exact standing_ite d h₁ (standing_ite d h₂ h₂)

theorem standing_leaveLock : (d.leaveLock c).standing = d.standing := by
  have h := d.standing_put (f := F.TSU_STATUS_TWIN) 0 (by decide)
  exact standing_ite d rfl (standing_ite d ((standing_put _ _ (by decide)).trans ((standing_setServo ..).trans h)) h)

theorem standing_setRole (r : Nat) : (d.setRole c r).standing = d.standing := by
  have h := d.standing_put (f := F.SHL_STATUS_ROLE) r (by decide)
  exact (standing_stnState ..).trans (standing_ite d ((standing_leaveLock ..).trans h) h)

theorem standing_setLockstep (b : Bool) : (d.setLockstep c b).standing = d.standing :=
  (standing_stnState ..).trans (d.standing_setFlag b (by decide))

theorem standing_pairsTo (on ao : Bool) : (d.pairsTo c on ao).standing = d.standing := by
  refine standing_ite d ?_ rfl
  exact (standing_foldl (fun d n => standing_ite d (d.standing_dropConds c n) rfl) ..).trans
    (standing_foldl (fun d m => standing_ite d (d.standing_fixAio c m) rfl) ..)

theorem standing_allSafe (b : Bool) : (d.allSafe c b).standing = d.standing := by
  unfold allSafe
  extract_lets d₁
  refine (standing_foldl (fun d m => standing_ite d ?stage rfl) _ d₁).trans
    (standing_foldl (fun d n => standing_ite d ?output rfl) _ d)
  case stage =>
    exact (standing_fixAio ..).trans ((standing_setFlag _ _ (aioStatus_not_standing m)).trans (standing_ite d rfl rfl))
  case output => exact (standing_dropConds ..).trans (d.standing_setFlag _ (dioStatus_not_standing n))

theorem standing_enter (st cause : Nat) : (d.enter st cause).standing = d.standing :=
  (standing_put _ _ (by decide)).trans (standing_put _ _ (by decide))

theorem standing_pushAlarm (code source : Nat) (v v2 : Word) : (d.pushAlarm code source v v2).standing = d.standing := by
  unfold pushAlarm
  split
  exact standing_put _ _ (by decide)

theorem standing_secondary : d.secondary.standing = d.standing := by
  unfold secondary
  split <;> rfl

theorem standing_journalAlarm (code source : Nat) (v v2 : Word) :
    (d.journalAlarm c code source v v2).standing = d.standing :=
  have h := d.standing_pushAlarm code source v v2
  standing_ite d ((standing_secondary _).trans h) h

theorem standing_setWindow (i : Nat) (w : Option Window) : (d.setWindow i w).standing = d.standing :=
  (standing_put _ _ (by decide)).trans (standing_setFlag _ _ (by decide))

theorem standing_freeze (cause source : Nat) (frame : Word) : (d.freeze c cause source frame).standing = d.standing := by
  unfold freeze
  extract_lets d₁ want last before oldest fn0 within w pl d₂ _ d₃ d₄ d₅
  split
  · exact standing_secondary _
  · have h₂ : d₂.standing = d.standing := by
      clear_value pl
      cases pl with
      | some p => exact standing_setWindow ..
      | none => rfl
    have h₅ : d₅.standing = d.standing :=
      (standing_journalAlarm ..).trans ((standing_setFlag _ true (by decide)).trans h₂)
    exact standing_ite d ((standing_journalAlarm ..).trans h₅) h₅

/-- A unit that gives up enters FAULT, and its commits stop. -/
theorem giveUp_stops (cause : Nat) : ∃ x : Dyn, (x.enter 3 cause).SameStart (d.giveUp c cause) ∧
    (d.giveUp c cause).standing = { d.standing with commitOff := true } := by
  unfold giveUp
  extract_lets _ d₁ d₂ d₃ _ d₄ d₅ d₆ d₇
  refine ⟨d₆, SameStart.refl.freeze .., ?_⟩
  calc (d₇.freeze c 6 cause d₇.fn).standing = d₇.standing := d₇.standing_freeze ..
    _ = d₆.standing := d₆.standing_enter ..
    _ = d₅.standing := d₅.standing_allSafe ..
    _ = d₄.standing := (standing_pairsTo ..).trans ((standing_setRole ..).trans (d₄.standing_setLockstep ..))
    _ = d₃.standing := d₃.standing_withTwin _
    _ = d₂.standing := d₂.standing_put cause (by decide)
    _ = d₁.standing := d₁.standing_sendWords ..
    _ = { d.standing with commitOff := true } := standing_canDrop _

/-- A hardware fault of a unit in service puts it into FAULT with the cause and stops its commits, in a twin and alone (R263). -/
theorem hardwareFault_stops {cause : Nat} (hrole : d.role ≠ 7) (hstate : d.modState ≠ 3) (hcause : cause < 256) :
    (d.hardwareFault c cause).modState = 3 ∧ (d.hardwareFault c cause).get F.MOD_STATE_CAUSE = cause ∧
      (d.hardwareFault c cause).standing = { d.standing with commitOff := true } := by
  have hends : ∃ x : Dyn, (x.enter 3 cause).SameStart (d.hardwareFault c cause) ∧
      (d.hardwareFault c cause).standing = { d.standing with commitOff := true } := by
    rw [hardwareFault, if_neg (by simp [hrole, hstate])]
    split
    · exact d.giveUp_stops c cause
    · exact ⟨_, SameStart.refl, (standing_enter ..).trans (standing_canDrop _)⟩
  obtain ⟨x, hstart, hstanding⟩ := hends
  have hshown := hstart.rd Reg.MOD_STATE (by decide)
  exact ⟨(get_congr hshown).trans (x.enter_modState cause (by decide)), (get_congr hshown).trans (x.enter_cause 3 hcause),
    hstanding⟩

end Dyn
end Sys2Proof.Machine
end

section
/-! SUPPORT. What the evaluation of an issued loop does, with its primary before it (R188, R194, R201). -/

namespace Sys2Proof.Machine

theorem pldState_ne_lpeArith (p : Nat) : Reg.PLD_STATE p ≠ Reg.LPE_ARITH := by
  rw [Reg.PLD_STATE, Reg.LPE_ARITH]
  omega

/-- `u` is `d` after an evaluation of context `k` that leaves it as `l`. -/
structure Dyn.Evaluated (c : Cfg) (k : Nat) (l : Loop) (d u : Dyn) : Prop where
  issued : l.issued = none
  evalFn : l.evalFn = d.fn
  loops : u.loops = (d.setLoop k fun _ => l).loops
  outW : u.outW = if c.flag (F.LPE_AO_BOUND k) then sput 0 d.outW (0x200 + c.get (F.LPE_AO_CHAN k)) l.u else d.outW
  rd : ∀ a, a ≠ Reg.LPE_ARITH → u.rd a = d.rd a

theorem Dyn.Evaluated.loop_same {c : Cfg} {k : Nat} {l : Loop} {d u : Dyn} (h : d.Evaluated c k l u) : u.loop k = l := by
  rw [Dyn.loop, h.loops]
  exact sget_sput_same ..

theorem Dyn.Evaluated.loop_ne {c : Cfg} {k j : Nat} {l : Loop} {d u : Dyn} (h : d.Evaluated c k l u) (hj : j ≠ k) :
    u.loop j = d.loop j := by
  rw [Dyn.loop, h.loops]
  exact sget_sput_ne hj

/-- In `u` context `k` is no longer issued; the other contexts of `d`, and its registers but LPE_ARITH, stand as they were. -/
structure Dyn.OnlyLoop (k : Nat) (d u : Dyn) : Prop where
  issued : (u.loop k).issued = none
  loop : ∀ j, j ≠ k → u.loop j = d.loop j
  rd : ∀ a, a ≠ Reg.LPE_ARITH → u.rd a = d.rd a

namespace Dyn
variable (c : Cfg) (d : Dyn)

/-! ## One evaluation -/

/-- An event that is posted waits in a polder. -/
theorem post_eq (p kind task source : Nat) (ft value : Word) :
    ∃ ps, d.post c p kind task source ft value = { d with pol := ps } := by
  unfold post
  split
  · exact ⟨_, rfl⟩
  · exact ⟨_, rfl⟩

theorem foldl_pol {β : Type} {f : Dyn → β → Dyn} (hf : ∀ d x, ∃ ps, f d x = { d with pol := ps }) (l : List β) (d : Dyn) :
    ∃ ps, l.foldl f d = { d with pol := ps } := by
  induction l generalizing d with
  | nil => exact ⟨_, rfl⟩
  | cons x l ih =>
    obtain ⟨ps, h⟩ := hf d x
    rw [List.foldl_cons, h]
    exact ih _

theorem evalLoop_evaluated (k : Nat) (kept : Word) : ∃ l, d.Evaluated c k l (d.evalLoop c k kept) := by
  unfold evalLoop
  extract_lets p g x old
  split
  extract_lets supervised l d₁ _ d₂ d₃ d₄ up
  have hbound : d₃.regs = d.regs ∧ d₃.loops = d₁.loops ∧ d₃.outW =
      if c.flag (F.LPE_AO_BOUND k) then sput 0 d.outW (0x200 + c.get (F.LPE_AO_CHAN k)) l.u else d.outW := by
    simp only [d₃]
    split <;> exact ⟨rfl, rfl, rfl⟩
  have hcounted : d₄.loops = d₃.loops ∧ d₄.outW = d₃.outW ∧ ∀ a, a ≠ Reg.LPE_ARITH → d₄.rd a = d₃.rd a := by
    simp only [d₄]
    split
    · exact ⟨rfl, rfl, fun a ha => d₃.rd_put_ne _ ha⟩
    · exact ⟨rfl, rfl, fun _ _ => rfl⟩
  have hposted : ∃ ps, [(7, 1), (8, 2), (11, 3), (12, 4)].foldl (fun (d : Dyn) (b : Nat × Nat) =>
      if up b.1 then d.post c p 0x12 (c.get (F.LPE_CFG_EVT_TASK k)) k d.slc.tFt (BitVec.ofNat 32 b.2) else d) d₄ =
        { d₄ with pol := ps } := by
    refine foldl_pol (fun d b => ?_) _ d₄
    split
    · exact d.post_eq ..
    · exact ⟨_, rfl⟩
  obtain ⟨hregs, hloops, houtW⟩ := hbound
  obtain ⟨hloops₄, houtW₄, hrd₄⟩ := hcounted
  obtain ⟨ps, hposted⟩ := hposted
  rw [hposted]
  exact ⟨l, rfl, rfl, hloops₄.trans hloops, houtW₄.trans houtW, fun a ha => (hrd₄ a ha).trans (rd_congr hregs a)⟩

/-! ## A context that LOOP_EVALUATION names -/

/-- What becomes of one context: issued, it is evaluated while its polder is in RUN, and is issued no longer. -/
def evalOne (k : Nat) : Dyn :=
  match (d.loop k).issued with
  | some (_, w) =>
    if d.mode (c.get (F.LPE_CFG_OWNER k)) = 2 then d.evalLoop c k w else d.setLoop k fun l => { l with issued := none }
  | none => d

theorem evalIssued_alone {k : Nat} (h : c.primaryOf k = none) : d.evalIssued c k = d.evalOne c k := by
  rw [evalIssued, h]
  rfl

theorem evalIssued_secondary {k j : Nat} (h : c.primaryOf k = some j) : d.evalIssued c k = (d.evalOne c j).evalOne c k := by
  rw [evalIssued, h]
  rfl

theorem evalOne_unissued {k : Nat} (h : (d.loop k).issued = none) : d.evalOne c k = d := by
  rw [evalOne, h]

theorem evalOne_running {k n : Nat} {w : Word} (h : (d.loop k).issued = some (n, w))
    (hrun : d.mode (c.get (F.LPE_CFG_OWNER k)) = 2) : d.evalOne c k = d.evalLoop c k w := by
  rw [evalOne, h]
  exact if_pos hrun

theorem evalOne_stopped {k n : Nat} {w : Word} (h : (d.loop k).issued = some (n, w))
    (hstop : d.mode (c.get (F.LPE_CFG_OWNER k)) ≠ 2) :
    d.evalOne c k = d.setLoop k fun l => { l with issued := none } := by
  rw [evalOne, h]
  exact if_neg hstop

theorem evalOne_onlyLoop (k : Nat) : d.OnlyLoop k (d.evalOne c k) := by
  cases h : (d.loop k).issued with
  | none =>
    rw [d.evalOne_unissued c h]
    exact ⟨h, fun _ _ => rfl, fun _ _ => rfl⟩
  | some x =>
    by_cases hrun : d.mode (c.get (F.LPE_CFG_OWNER k)) = 2
    · obtain ⟨l, hl⟩ := d.evalLoop_evaluated c k x.2
      rw [d.evalOne_running c h hrun]
      exact ⟨(congrArg Loop.issued hl.loop_same).trans hl.issued, fun j hj => hl.loop_ne hj, hl.rd⟩
    · rw [d.evalOne_stopped c h hrun]
      exact ⟨congrArg Loop.issued (sget_sput_same ..), fun j hj => sget_sput_ne hj, fun _ _ => rfl⟩

/-- The context is evaluated last, on a state in which its primary alone may have changed. One that the image makes its own
primary is not issued any longer when its second turn comes. -/
theorem evalIssued_after_primary (k : Nat) : ∃ e : Dyn, d.evalIssued c k = e.evalOne c k ∧
    (∀ j, c.primaryOf k ≠ some j ∨ j = k → e.loop j = d.loop j) ∧ ∀ a, a ≠ Reg.LPE_ARITH → e.rd a = d.rd a := by
  cases h : c.primaryOf k with
  | none => exact ⟨d, d.evalIssued_alone c h, fun _ _ => rfl, fun _ _ => rfl⟩
  | some i =>
    have hi := d.evalOne_onlyLoop c i
    rw [d.evalIssued_secondary c h]
    by_cases hik : i = k
    · subst hik
      exact ⟨d, evalOne_unissued _ _ hi.issued, fun _ _ => rfl, fun _ _ => rfl⟩
    · refine ⟨_, rfl, fun j hj => hi.loop j ?_, hi.rd⟩
      rintro rfl
      exact hj.elim (fun hne => hne rfl) hik

end Dyn
end Sys2Proof.Machine
end

section
/-! SUPPORT. What the end of a step of the array can change, and how the jobs stand at the berm (R220, R222, R233–R238). -/

namespace Sys2Proof.Machine

theorem Dyn.slot_setSlot_same (d : Dyn) (k : Nat) (f : SlvSlot → SlvSlot) : (d.setSlot k f).slot k = f (d.slot k) :=
  sget_sput_same ..

/-- `d'` has the other slots of `d`, and its registers but the count of slot `k`'s saturations. -/
structure Dyn.OnlySlot (k : Nat) (d d' : Dyn) : Prop where
  slot : ∀ j, j ≠ k → d'.slot j = d.slot j
  rd : ∀ a, a ≠ Reg.SLV_OVF k → d'.rd a = d.rd a

namespace Dyn.OnlySlot
variable {c : Cfg} {d d' : Dyn} {k : Nat}

theorem refl : d.OnlySlot k d := ⟨fun _ _ => rfl, fun _ _ => rfl⟩

theorem ite {p : Prop} [Decidable p] {a b : Dyn} (ha : d.OnlySlot k a) (hb : d.OnlySlot k b) :
    d.OnlySlot k (if p then a else b) := by
  split
  · exact ha
  · exact hb

theorem setSlot (h : d.OnlySlot k d') (f : SlvSlot → SlvSlot) : d.OnlySlot k (d'.setSlot k f) :=
  ⟨fun j hj => (sget_sput_ne hj).trans (h.slot j hj), h.rd⟩

theorem setJob (h : d.OnlySlot k d') (f : Job → Job) : d.OnlySlot k (d'.setJob k f) := h.setSlot _

theorem overflowed (h : d.OnlySlot k d') (n : Nat) : d.OnlySlot k (d'.overflowed k n) := by
  have hjob := h.setJob fun j => { j with ovf := true }
  exact ite h ⟨hjob.slot, fun a ha => (Dyn.rd_put_ne _ _ ha).trans (h.rd a ha)⟩

theorem finish (h : d.OnlySlot k d') (status : Nat) : d.OnlySlot k (d'.finish c k status) := h.setJob _

theorem endJob (h : d.OnlySlot k d') : d.OnlySlot k (d'.endJob c k) := by
  unfold Dyn.endJob
  extract_lets stale j
  split
  exact (h.overflowed _).setSlot _

theorem startSolve (h : d.OnlySlot k d') : d.OnlySlot k (d'.startSolve c k) := by
  unfold Dyn.startSolve
  extract_lets j cls f tp n rows eps run
  refine ite ?_ ?_
  · split
    exact (h.setJob _).overflowed _
  · split
    exact (h.setJob _).overflowed _

theorem qpIterate (h : d.OnlySlot k d') : d.OnlySlot k (d'.qpIterate c k) := by
  unfold Dyn.qpIterate
  extract_lets j f n rows run
  split
  exact (h.setJob _).overflowed _

theorem columnDone (h : d.OnlySlot k d') : d.OnlySlot k (d'.columnDone c k) := by
  unfold Dyn.columnDone
  extract_lets j n f cls eps reg q m b pd d₁
  refine setJob (ite (h.setJob _) ?_) _
  split
  split
  exact (h.setJob _).overflowed _

theorem stageDone (h : d.OnlySlot k d') : d.OnlySlot k (d'.stageDone c k) := by
  unfold Dyn.stageDone
  extract_lets j t rest late f
  split
  · split
    · exact (h.finish 6).setJob _
    · exact h.setJob _
  · split
    extract_lets d₁
    have h₁ : d.OnlySlot k d₁ := (h.setJob _).overflowed _
    exact ite h₁.startSolve h₁
  · exact h.startSolve
  · exact h.setJob _
  · refine ite (h.qpIterate.setJob _) ?_
    split
    exact ((h.overflowed _).setJob _).finish _
  · exact h.endJob
  · exact h

theorem stepDone (h : d.OnlySlot k d') : d.OnlySlot k (d'.stepDone c k) := by
  unfold Dyn.stepDone
  extract_lets j d₁ d₂
  have h₁ : d.OnlySlot k d₁ := h.setJob _
  have h₂ : d.OnlySlot k d₂ := ite h₁ ((ite (h₁.setJob _) (h₁.finish 7)).setJob _)
  exact ite h₂ (ite h₂.columnDone (ite h₂.stageDone h₂))

end Dyn.OnlySlot

namespace Dyn
variable (c : Cfg) (d : Dyn)

/-! ## The berm -/

/-- What the berm does to slot `k`: a step under way ends, and the job waits. -/
def bermStep (k : Nat) : Dyn :=
  (if (d.slot k).job.stepEnd.isSome then d.stepDone c k else d).setJob k fun j =>
    { j with state := if j.state = 2 then 3 else j.state }

/-- What it does to the first `n` slots. -/
def bermSteps (n : Nat) : Dyn := (List.range n).foldl (bermStep c) d

/-- The array at the berm. -/
def atBerm : Dyn := (d.advTo (d.atT (c.period * 95 / 100))).bermSteps c 8

/-- The array at the berm after a failed test factorisation. -/
def bermFault : Dyn := (d.atBerm c).setFlag F.SLV_GSTATUS_ARRAY_FAULT true

theorem bermStep_onlySlot (k : Nat) : d.OnlySlot k (d.bermStep c k) :=
  (OnlySlot.ite OnlySlot.refl.stepDone OnlySlot.refl).setJob _

theorem bermStep_state (k : Nat) : ((d.bermStep c k).slot k).job.state ≠ 2 := by
  rw [bermStep, setJob, slot_setSlot_same]
  generalize (if (d.slot k).job.stepEnd.isSome then d.stepDone c k else d).slot k = x
  by_cases h : x.job.state = 2 <;> simp [h]

theorem bermSteps_succ (n : Nat) : d.bermSteps c (n + 1) = (d.bermSteps c n).bermStep c n := by
  simp only [bermSteps, List.range_succ, List.foldl_append, List.foldl_cons, List.foldl_nil]

theorem bermSteps_state (n : Nat) : ∀ k < n, ((d.bermSteps c n).slot k).job.state ≠ 2 := by
  induction n with
  | zero => exact fun k hk => absurd hk k.not_lt_zero
  | succ n ih =>
    intro k hk
    rw [d.bermSteps_succ]
    rcases Nat.lt_succ_iff_lt_or_eq.1 hk with hk | rfl
    · rw [((d.bermSteps c n).bermStep_onlySlot c n).slot k hk.ne]
      exact ih k hk
    · exact (d.bermSteps c k).bermStep_state c k

theorem rd_bermSteps {a : Nat} (h : ∀ k, a ≠ Reg.SLV_OVF k) (n : Nat) : (d.bermSteps c n).rd a = d.rd a := by
  induction n with
  | zero => rfl
  | succ n ih => rw [d.bermSteps_succ, ((d.bermSteps c n).bermStep_onlySlot c n).rd a (h n), ih]

theorem atBerm_state : ∀ k < 8, ((d.atBerm c).slot k).job.state ≠ 2 := by
  rw [atBerm]
  exact bermSteps_state c _ 8

theorem rd_bermFault {a : Nat} (hg : a ≠ Reg.SLV_GSTATUS) (ht : a ≠ Reg.TSU_STATUS) (ho : ∀ k, a ≠ Reg.SLV_OVF k) :
    (d.bermFault c).rd a = d.rd a :=
  (rd_put_ne _ _ hg).trans ((rd_bermSteps _ _ ho 8).trans (d.rd_ticks _ ht))

theorem bermFault_role : (d.bermFault c).role = d.role := by
  refine get_congr (d.rd_bermFault c (by decide) (by decide) fun k => ?_)
  show Reg.SHL_STATUS ≠ _
  rw [Reg.SHL_STATUS, Reg.SLV_OVF]
  omega

theorem bermFault_modState : (d.bermFault c).modState = d.modState := by
  refine get_congr (d.rd_bermFault c (by decide) (by decide) fun k => ?_)
  show Reg.MOD_STATE ≠ _
  rw [Reg.MOD_STATE, Reg.SLV_OVF]
  omega

end Dyn
end Sys2Proof.Machine
end

section
/-! SUPPORT. The commands of the levee matrix, of the loop engine and of the array, each by what it answers (R107, R111, R120,
R126, R200, R201, R220, R242). -/

namespace Sys2Proof.Machine

section
variable {s : State}

/-! ## The levee matrix -/

theorem Dyn.dueCycle_lve (d : Dyn) (n : Nat) : (d.dueCycle n).lve = d.lve := by
  unfold Dyn.dueCycle
  split
  · rfl
  · exact d.ticks_lve _

theorem exec_sourceChange (hlive : Live s) (src : BitVec 8) (level : Bool) :
    exec (.sourceChange src level) s = .next (s.withDyn
      (if s.dyn.lineLive s.cfg src.toNat then (s.dyn.setSource src.toNat level).levee s.cfg else s.dyn)) := by
  show execSourceChange src level s = _
  rw [execSourceChange, State.upd_withDyn hlive]
  rfl

theorem exec_termHoldElapsed (hlive : Live s) {t : BitVec 6} {n : Nat}
    (hn : n = sget 0 s.dyn.lve.since t.toNat + s.cfg.get (F.LVE_HOLD_HOLD_US t.toNat) * 500)
    (hhold : s.dyn.lve.holding.getLsbD t.toNat = true) (hnear : s.dyn.nearCycle s.cfg n) :
    exec (.termHoldElapsed t) s = .next (s.withDyn (((s.dyn.dueCycle n).setHolding t.toNat false).levee s.cfg)) := by
  show execTermHoldElapsed t s = _
  subst hn
  rw [execTermHoldElapsed, State.upd_withDyn hlive]
  simp only [hhold, if_true, Dyn.whenCycle_near hnear]

theorem exec_termHoldElapsed_unheld (hlive : Live s) {t : BitVec 6} (hhold : s.dyn.lve.holding.getLsbD t.toNat = false) :
    exec (.termHoldElapsed t) s = .next s := by
  show execTermHoldElapsed t s = _
  rw [execTermHoldElapsed, State.upd_withDyn hlive]
  simp only [hhold, Bool.false_eq_true, if_false]
  rfl

theorem exec_planeMismatch (hlive : Live s) (gates : BitVec 96) (flags : BitVec 16) :
    let e := s.dyn.mismatched s.cfg gates flags
    exec (.planeMismatch gates flags) s = .next (s.withDyn (
      if s.dyn.flag F.LVE_STATUS_PLANE_MISMATCH then e
      else if s.cfg.twin then (e.alarm s.cfg 0x0301 0 0 0).hardwareFault s.cfg 0x23
      else e.alarm s.cfg 0x0301 0 0 0)) := by
  show execPlaneMismatch gates flags s = _
  rw [execPlaneMismatch, State.upd_withDyn hlive]
  rfl

theorem exec_testExpired (hlive : Live s) {n : Nat}
    (hn : n = s.dyn.lve.testStart + s.cfg.get F.LVE_TEST_LIMIT_SECONDS * 500000000)
    (htest : s.dyn.lve.testMode ≠ 0) (hnear : s.dyn.nearCycle s.cfg n) :
    exec .testExpired s = .next (s.withDyn
      (((s.dyn.dueCycle n).endTest s.cfg 3).alarm s.cfg 0x0302 s.dyn.lve.testTerm 0 0)) := by
  show execTestExpired s = _
  subst hn
  rw [execTestExpired, State.upd_withDyn hlive]
  simp only [htest, if_false, Dyn.whenCycle_near hnear, Dyn.dueCycle_lve]

theorem exec_testExpired_none (hlive : Live s) (htest : s.dyn.lve.testMode = 0) : exec .testExpired s = .next s := by
  show execTestExpired s = _
  rw [execTestExpired, State.upd_withDyn hlive]
  simp only [htest, if_true]
  rfl

/-! ## Loops -/

theorem exec_loopEvaluation (hlive : Live s) (k : BitVec 7) :
    exec (.loopEvaluation k) s = .next (s.withDyn (s.dyn.evalIssued s.cfg k.toNat)) := by
  show execLoopEvaluation k s = _
  rw [execLoopEvaluation, State.upd_withDyn hlive]

/-- The context is evaluated as it was issued, whatever its primary's evaluation before it did. -/
theorem exec_loopEvaluation_running (hlive : Live s) {k : BitVec 7} {n : Nat} {w : Word}
    (hissued : (s.dyn.loop k.toNat).issued = some (n, w)) (hrun : s.dyn.mode (s.cfg.get (F.LPE_CFG_OWNER k.toNat)) = 2) :
    ∃ u, exec (.loopEvaluation k) s = .next u ∧ u.cfg = s.cfg ∧ (u.dyn.loop k.toNat).issued = none ∧
      (u.dyn.loop k.toNat).evalFn = s.dyn.fn ∧
      (s.cfg.flag (F.LPE_AO_BOUND k.toNat) = true →
        sget 0 u.dyn.outW (0x200 + s.cfg.get (F.LPE_AO_CHAN k.toNat)) = (u.dyn.loop k.toNat).u) ∧
      ∀ j, j ≠ k.toNat → s.cfg.primaryOf k.toNat ≠ some j → u.dyn.loop j = s.dyn.loop j := by
  obtain ⟨e, he, hloop, hrd⟩ := s.dyn.evalIssued_after_primary s.cfg k.toNat
  have hissued : (e.loop k.toNat).issued = some (n, w) := (congrArg Loop.issued (hloop _ (.inr rfl))).trans hissued
  have hrun : e.mode (s.cfg.get (F.LPE_CFG_OWNER k.toNat)) = 2 :=
    (Dyn.get_congr (hrd _ (pldState_ne_lpeArith _))).trans hrun
  obtain ⟨l, hl⟩ := e.evalLoop_evaluated s.cfg k.toNat w
  refine ⟨_, exec_loopEvaluation hlive k, rfl, ?_⟩
  rw [s.withDyn_dyn, he, e.evalOne_running s.cfg hissued hrun, hl.loop_same]
  refine ⟨hl.issued, hl.evalFn.trans (hrd _ (by decide)), fun hbound => ?_, fun j hj hprimary => ?_⟩
  · rw [hl.outW, if_pos hbound]
    exact sget_sput_same ..
  · exact (hl.loop_ne hj).trans (hloop j (.inl hprimary))

/-! ## The array -/

theorem exec_arrayTick (hlive : Live s) :
    let r := s.dyn.sinceT % 1000
    exec .arrayTick s = .next (s.withDyn
      ((if r = 0 then s.dyn else s.dyn.advTo (s.dyn.ft + BitVec.ofNat 32 (1000 - r))).takeArray s.cfg)) := by
  show execArrayTick s = _
  rw [execArrayTick, State.upd_withDyn hlive]

theorem exec_solverStep_ends (hlive : Live s) {k t : Nat}
    (hk : (List.range 8).find? (fun j => (s.dyn.slot j).job.stepEnd.isSome) = some k)
    (ht : (s.dyn.slot k).job.stepEnd = some t) :
    exec .solverStep s = .next (s.withDyn (((s.dyn.advTo (BitVec.ofNat 32 t)).stepDone s.cfg k).takeArray s.cfg)) := by
  show execSolverStep s = _
  rw [execSolverStep, State.upd_withDyn hlive, hk]
  simp only [ht]

theorem exec_solverStep_free (hlive : Live s) (hfree : ∀ j < 8, (s.dyn.slot j).job.stepEnd = none) :
    exec .solverStep s = .next (s.withDyn (s.dyn.takeArray s.cfg)) := by
  have hnone : (List.range 8).find? (fun j => (s.dyn.slot j).job.stepEnd.isSome) = none :=
    List.find?_eq_none.2 fun j hj => by simp [hfree j (List.mem_range.1 hj)]
  show execSolverStep s = _
  rw [execSolverStep, State.upd_withDyn hlive, hnone]

theorem exec_arrayBerm (hlive : Live s) (ok : Bool) : exec (.arrayBerm ok) s = .next (s.withDyn
    (if ok then s.dyn.atBerm s.cfg else (s.dyn.bermFault s.cfg).hardwareFault s.cfg 0x22)) := by
  show execArrayBerm ok s = _
  rw [execArrayBerm, State.upd_withDyn hlive]
  rfl

theorem exec_arrayBerm_passed (hlive : Live s) :
    ∃ u, exec (.arrayBerm true) s = .next u ∧ u.cfg = s.cfg ∧ ∀ k < 8, (u.dyn.slot k).job.state ≠ 2 := by
  have hexec := exec_arrayBerm hlive true
  rw [if_pos rfl] at hexec
  refine ⟨_, hexec, s.withDyn_cfg _, ?_⟩
  rw [s.withDyn_dyn]
  exact s.dyn.atBerm_state s.cfg

theorem exec_arrayBerm_failed (hlive : Live s) (hrole : s.dyn.role ≠ 7) (hstate : s.dyn.modState ≠ 3) :
    ∃ u, exec (.arrayBerm false) s = .next u ∧ u.dyn.flag F.SLV_GSTATUS_ARRAY_FAULT = true ∧ u.dyn.modState = 3 ∧
      u.dyn.get F.MOD_STATE_CAUSE = 0x22 ∧ u.dyn.slc.commitOff = true := by
  have hexec := exec_arrayBerm hlive false
  rw [if_neg Bool.false_ne_true] at hexec
  obtain ⟨hstopped, hcause, hstanding⟩ := (s.dyn.bermFault s.cfg).hardwareFault_stops s.cfg (cause := 0x22)
    (by rwa [Dyn.bermFault_role]) (by rwa [Dyn.bermFault_modState]) (by decide)
  have hshown : ((s.dyn.bermFault s.cfg).hardwareFault s.cfg 0x22).rd Reg.SLV_GSTATUS =
      (s.dyn.bermFault s.cfg).rd Reg.SLV_GSTATUS := congrArg Standing.slvStatus hstanding
  exact ⟨_, hexec, (Dyn.flag_congr hshown).trans (Dyn.flag_setFlag_same _ _ _ (by decide) (by decide)), hstopped, hcause,
    congrArg Standing.commitOff hstanding⟩

end

/-- Settles O60, command by command. -/
theorem leveeLoopsAndArray : Obligations.LeveeLoopsAndArray := by
  intro s hlive
  refine ⟨exec_sourceChange hlive, fun t => ⟨exec_termHoldElapsed hlive rfl, exec_termHoldElapsed_unheld hlive⟩,
    fun gates flags => ?mismatch, ⟨fun htest hnear => ?expired, exec_testExpired_none hlive⟩,
    fun k n w hissued => ⟨exec_loopEvaluation_running hlive hissued, fun hstop hprimary => ?stopped⟩,
    fun k hissued hprimary => ?unissued, exec_arrayTick hlive, fun k t => exec_solverStep_ends hlive,
    exec_solverStep_free hlive, exec_arrayBerm_passed hlive, exec_arrayBerm_failed hlive⟩
  case mismatch =>
    exact ⟨_, s.dyn.mismatched s.cfg gates flags, exec_planeMismatch hlive gates flags, rfl, rfl,
      s.dyn.mismatched_shows s.cfg gates flags⟩
  case expired =>
    exact ⟨_, _, exec_testExpired hlive rfl htest hnear, rfl, rfl, Dyn.endTest_shows _ _ (by decide)⟩
  case stopped => rw [exec_loopEvaluation hlive, Dyn.evalIssued_alone _ _ hprimary, Dyn.evalOne_stopped _ _ hissued hstop]
  case unissued =>
    rw [exec_loopEvaluation hlive, Dyn.evalIssued_alone _ _ hprimary, Dyn.evalOne_unissued _ _ hissued]
    rfl

end Sys2Proof.Machine
end

section
/-! SUPPORT. What charging an instruction leaves as it was, beside the operands (R82, R87). -/

namespace Sys2Proof.Machine

@[simp] theorem Dyn.issued_clk (d : Dyn) (p n : Nat) : (d.issued p n).clk = d.clk := rfl
@[simp] theorem Dyn.issued_timer (d : Dyn) (p n k : Nat) : (d.issued p n).timer k = d.timer k := rfl
@[simp] theorem Dyn.issued_counter (d : Dyn) (p n k : Nat) : (d.issued p n).counter k = d.counter k := rfl

@[simp] theorem Dyn.issued_evq (d : Dyn) (p n : Nat) : ((d.issued p n).polder p).evq = (d.polder p).evq := by
  rw [Dyn.issued_polder]

@[simp] theorem Dyn.issued_causes (d : Dyn) (p n : Nat) : ((d.issued p n).polder p).causes = (d.polder p).causes := by
  rw [Dyn.issued_polder]

@[simp] theorem Dyn.issued_recoveringView (c : Cfg) (d : Dyn) (p n q m : Nat) :
    (d.issued p n).recoveringView c q m = d.recoveringView c q m := by
  simp only [Dyn.recoveringView, Dyn.issued_viewWord]

end Sys2Proof.Machine
end

section
/-! SUPPORT. The operand forms of the logic engine's instructions: the fields of ADDR, and the operand that a short address
names (R131, R132, R139). -/

namespace Sys2Proof.Machine

/-- A step of an effect that answers goes on with its answer; one that faults ends it. -/
@[simp] theorem ok_bind {α β : Type} (x : α) (f : α → Except Nat β) : (Except.ok x >>= f) = f x := rfl
@[simp] theorem error_bind {α β : Type} (e : Nat) (f : α → Except Nat β) : (Except.error e >>= f) = .error e := rfl

/-! ## Fields of ADDR -/

/-- The low field is all of an address that fits it. -/
theorem af_low {a hi : Nat} (h : a < 2 ^ (hi + 1)) : af a hi 0 = a := by
  simpa [af] using Nat.mod_eq_of_lt h

/-- A field above an address is zero. -/
theorem af_high {a lo : Nat} (hi : Nat) (h : a < 2 ^ lo) : af a hi lo = 0 := by
  simp [af, Nat.shiftRight_eq_div_pow, Nat.div_eq_of_lt h]

/-! ## Short addresses -/

theorem bitForm_mem {a : Nat} (h : a < 131072) : bitForm 0 a = .ok (.mem a) := by
  simp [bitForm, af_high 23 (lo := 17) h, af_low (hi := 16) h, Opd.plain]

theorem bitForm_out {a : Nat} (h : a < 131072) : bitForm 2 a = .ok (.out a) := by
  simp [bitForm, af_high 23 (lo := 17) h, af_low (hi := 16) h, Opd.plain]

theorem storeForm_mem {a : Nat} (h : a < 2 ^ 18) : storeForm 0 a = .ok (.mem a) := by
  have hx : a.testBit 23 = false := Nat.testBit_lt_two_pow (h.trans (by decide))
  simp [storeForm, wordForm, loadForm, af_high 22 (lo := 18) h, af_low (hi := 17) h, hx]

theorem storeForm_out {a : Nat} (h : a < 4096) : storeForm 2 a = .ok (.out a) := by
  have hx : a.testBit 23 = false := Nat.testBit_lt_two_pow (h.trans (by decide))
  simp [storeForm, wordForm, loadForm, af_high 22 (lo := 12) h, af_low (hi := 11) h, hx, Opd.plain]

theorem storeForm_cnt {a i : Nat} (h : a = 2 ^ 22 + i) (hi : i < 1024) : storeForm 3 a = .ok (.cnt i) := by
  have hspace : af a 23 22 = 1 := by simp only [af, Nat.shiftRight_eq_div_pow]; omega
  have hzero : af a 21 12 = 0 := by simp only [af, Nat.shiftRight_eq_div_pow]; omega
  have hindex : af a 11 0 = i := by simp only [af, Nat.shiftRight_eq_div_pow]; omega
  simp [storeForm, wordForm, loadForm, hspace, hzero, hindex]

/-- The target of a flow instruction (R140). -/
theorem targetOf_short {a : BitVec 24} (h : a.toNat < 2 ^ 19) : targetOf 0 a = .ok a.toNat := by
  simp [targetOf, af_high 23 (lo := 19) h, af_low (hi := 18) h]

end Sys2Proof.Machine
end

section
/-! SUPPORT. The instructions that read a bit, and those that work on LA and the nesting stack (R139, R140). -/

namespace Sys2Proof.Machine

section
variable {s : State} {p : BitVec 4} {n k : Nat} {t : TaskCtx}

/-- A bit read combines LA with what its operand reads as, and changes nothing else. -/
theorem Issues.bitOp_ok (h : Issues s p n k t) {sp : BitVec 2} {a : BitVec 24} {o : Opd} {m : Bool}
    (hform : bitForm sp.toNat a.toNat = .ok o) (hread : s.dyn.readBit s.cfg p.toNat o = .ok m)
    (g : Bool → Bool → Bool) :
    logic p n (bitOp g sp a) s = .next (s.ran p n k id (some { t with la := g t.la m, pc := t.pc + 1 })) := by
  refine h.logic_ok id ?_
  rw [bitOp, hform, ok_bind, Dyn.issued_readBit, hread]
  rfl

end

/-- Settles O8: the seven reads are one operation with seven functions of LA and M. -/
theorem bitReadsSetLa : Obligations.BitReadsSetLa := by
  intro s p sp a k t o m h hform hread
  have hread := fun g => h.bitOp_ok hform hread g
  exact ⟨hread _, hread _, hread _, hread _, hread _, hread _, hread _⟩

end Sys2Proof.Machine
end

section
/-! SUPPORT. The instructions that work on LA and the nesting stack alone (R139, R140, R149). -/

namespace Sys2Proof.Machine

/-- An instruction without operand, with SPACE and ADDR zero. -/
@[simp] theorem bare_zero (f : Effect) : bare 0 0 f = f := rfl

section
variable {s : State} {p : BitVec 4} {k : Nat} {t : TaskCtx}

theorem Issues.exec_not (h : Issues s p 1 k t) :
    exec (.not p 0 0) s = .next (s.ran p 1 k id (some { t with la := !t.la, pc := t.pc + 1 })) :=
  h.logic_ok id rfl

theorem Issues.exec_push (h : Issues s p 1 k t) (hroom : t.stack.length < 16) :
    exec (.push p 0 0) s = .next (s.ran p 1 k id (some { t with stack := t.la :: t.stack, pc := t.pc + 1 })) :=
  h.logic_ok (f := opPush 0 0) id (by rw [opPush, bare_zero, if_neg (Nat.not_le.2 hroom)]; rfl)

theorem Issues.exec_push_full (h : Issues s p 1 k t) (hfull : 16 ≤ t.stack.length) :
    exec (.push p 0 0) s = .next (s.withDyn ((s.dyn.issued p.toNat 1).programFault s.cfg p.toNat k 0x10 t.pc)) :=
  h.logic_error (f := opPush 0 0) (by rw [opPush, bare_zero, if_pos hfull])

/-- A pop combines the newest entry with LA. -/
theorem Issues.popOp_ok (h : Issues s p 1 k t) {b : Bool} {l : List Bool} (hstack : t.stack = b :: l)
    (g : Bool → Bool → Bool) :
    logic p 1 (popOp g 0 0) s = .next (s.ran p 1 k id (some { t with stack := l, la := g b t.la, pc := t.pc + 1 })) :=
  h.logic_ok id (by rw [popOp, bare_zero, hstack]; rfl)

theorem Issues.popOp_empty (h : Issues s p 1 k t) (hstack : t.stack = []) (g : Bool → Bool → Bool) :
    logic p 1 (popOp g 0 0) s =
      .next (s.withDyn ((s.dyn.issued p.toNat 1).programFault s.cfg p.toNat k 0x10 t.pc)) :=
  h.logic_error (by rw [popOp, bare_zero, hstack])

end

/-- Settles O9, instruction by instruction; the two pops are one operation. -/
theorem stackInstructions : Obligations.StackInstructions := by
  intro s p k t h
  exact ⟨h.exec_not, h.exec_push, h.exec_push_full,
    fun b l hstack => ⟨h.popOp_ok hstack _, h.popOp_ok hstack _⟩,
    fun hstack => ⟨h.popOp_empty hstack _, h.popOp_empty hstack _⟩⟩

end Sys2Proof.Machine
end

section
/-! SUPPORT. The instructions that write a bit, and what a store leaves as it was (R131, R132, R135, R136, R139, R140). -/

namespace Sys2Proof.Machine

/-- A store of one bit, where one is given. -/
def storing (f : Dyn → Bool → Dyn) (v : Option Bool) (d : Dyn) : Dyn :=
  match v with
  | some b => f d b
  | none => d

/-- One bit of the working output image. -/
def Dyn.setOut (d : Dyn) (i : Nat) (b : Bool) : Dyn :=
  { d with outW := sput 0 d.outW (i / 32) ((sget 0 d.outW (i / 32)).setBit (i % 32) b) }

section
variable {c : Cfg} {d : Dyn} {p i : Nat}

/-- A write within the polder's bit memory. -/
theorem Dyn.writeBit_mem (h : i < c.bits p) (v : Option Bool) :
    d.writeBit c p (.mem i) v = .ok (storing (Dyn.setMbit c · p i) v d) := by
  simp only [Dyn.writeBit, inRange_lt h]
  rfl

/-- A write of an output bit that the polder owns and no loop drives (R135, R136). -/
theorem Dyn.writeBit_owned (hi : i < 131072) (howner : (c.outRes i).2 = some p) (hloop : c.loopBound (i / 32) = false)
    (v : Option Bool) : d.writeBit c p (.out i) v = .ok (storing (Dyn.setOut · i) v d) := by
  simp only [Dyn.writeBit, inRange_lt hi, ok_bind, howner, hloop, beq_self_eq_true, Bool.not_false, Bool.and_self, if_true]
  rfl

theorem Dyn.writeBit_denied (hi : i < 131072) (h : ¬ ((c.outRes i).2 = some p ∧ c.loopBound (i / 32) = false))
    (v : Option Bool) : d.writeBit c p (.out i) v = .error 0x14 := by
  have hcheck : ¬ ((c.outRes i).2 == some p && !c.loopBound (i / 32)) = true := by simpa using h
  simp only [Dyn.writeBit, inRange_lt hi, ok_bind, if_neg hcheck]

end

section
variable {s : State} {p : BitVec 4} {k : Nat} {t : TaskCtx}

/-- A bit write that its operand permits. -/
theorem Issues.bitStore_ok (h : Issues s p 1 k t) {sp : BitVec 2} {a : BitVec 24} {o : Opd} {f : Dyn → Bool → Dyn}
    (hform : bitWriteForm sp.toNat a.toNat = .ok o)
    (hwrite : ∀ v, (s.dyn.issued p.toNat 1).writeBit s.cfg p.toNat o v = .ok (storing f v (s.dyn.issued p.toNat 1)))
    (g : Bool → Option Bool) :
    logic p 1 (bitStore g sp a) s = .next (s.ran p 1 k (storing f (g t.la)) (some { t with pc := t.pc + 1 })) := by
  refine h.logic_ok (storing f (g t.la)) ?_
  rw [bitStore, hform, ok_bind, hwrite]
  rfl

theorem Issues.bitStore_error (h : Issues s p 1 k t) {sp : BitVec 2} {a : BitVec 24} {o : Opd} {code : Nat}
    (hform : bitWriteForm sp.toNat a.toNat = .ok o)
    (hwrite : ∀ v, (s.dyn.issued p.toNat 1).writeBit s.cfg p.toNat o v = .error code) (g : Bool → Option Bool) :
    logic p 1 (bitStore g sp a) s =
      .next (s.withDyn ((s.dyn.issued p.toNat 1).programFault s.cfg p.toNat k code t.pc)) := by
  refine h.logic_error ?_
  rw [bitStore, hform, ok_bind, hwrite]
  rfl

/-- SET and RST store their bit when LA is set. -/
theorem storing_ite (f : Dyn → Bool → Dyn) (la b : Bool) :
    storing f (if la then some b else none) = fun d => if la then f d b else d := by
  cases la <;> rfl

/-- ST, STN, SET and RST where a bit may be stored. -/
theorem Issues.exec_stores (h : Issues s p 1 k t) {sp : BitVec 2} {a : BitVec 24} {o : Opd} {f : Dyn → Bool → Dyn}
    (hform : bitWriteForm sp.toNat a.toNat = .ok o)
    (hwrite : ∀ v, (s.dyn.issued p.toNat 1).writeBit s.cfg p.toNat o v = .ok (storing f v (s.dyn.issued p.toNat 1))) :
    let goes : (Dyn → Dyn) → Out := fun x => .next (s.ran p 1 k x (some { t with pc := t.pc + 1 }))
    exec (.st p sp a) s = goes (f · t.la) ∧
    exec (.stn p sp a) s = goes (f · !t.la) ∧
    exec (.set p sp a) s = goes (fun d => if t.la then f d true else d) ∧
    exec (.rst p sp a) s = goes (fun d => if t.la then f d false else d) := by
  intro goes
  refine ⟨h.bitStore_ok hform hwrite _, h.bitStore_ok hform hwrite _, ?set, ?rst⟩
  case set => rw [← storing_ite f t.la true]; exact h.bitStore_ok hform hwrite _
  case rst => rw [← storing_ite f t.la false]; exact h.bitStore_ok hform hwrite _

end

theorem bitWriteForm_mem {a : BitVec 24} (h : a.toNat < 131072) :
    bitWriteForm (0 : BitVec 2).toNat a.toNat = .ok (.mem a.toNat) := bitForm_mem h
theorem bitWriteForm_out {a : BitVec 24} (h : a.toNat < 131072) :
    bitWriteForm (2 : BitVec 2).toNat a.toNat = .ok (.out a.toNat) := bitForm_out h

/-- Settles O10, by what a bit write does at each kind of operand. -/
theorem bitStores : Obligations.BitStores := by
  intro s p a k t h ha set out goes owned
  refine ⟨fun hin => ?memory, fun ⟨howner, hloop⟩ => ?owned, fun hno => ?denied⟩
  case memory => exact h.exec_stores (bitWriteForm_mem ha) (Dyn.writeBit_mem hin)
  case owned => exact h.exec_stores (bitWriteForm_out ha) (Dyn.writeBit_owned ha howner hloop)
  case denied => exact h.bitStore_error (bitWriteForm_out ha) (Dyn.writeBit_denied ha hno) _

/-! ## The frame of a store -/

section
variable (s : State) (p : BitVec 4) (n k : Nat) (f : Dyn → Dyn) (t : Option TaskCtx)

@[simp] theorem State.ran_dyn :
    (s.ran p n k f t).dyn = (f (s.dyn.issued p.toNat n)).setPolder p.toNat fun x => x.setTask k t := rfl
@[simp] theorem State.ran_cfg : (s.ran p n k f t).cfg = s.cfg := rfl
@[simp] theorem State.ran_pending : (s.ran p n k f t).pending = s.pending := rfl

end

/-- What no store changes stands as it was, whether or not a bit is given. -/
theorem storing_frame {β : Type} (view : Dyn → β) {f : Dyn → Bool → Dyn} (hf : ∀ d b, view (f d b) = view d)
    (v : Option Bool) (d : Dyn) : view (storing f v d) = view d := by
  cases v with
  | none => rfl
  | some b => exact hf d b

/-- Each of the four stores stores some bit or none. -/
theorem Issues.exec_store {s u : State} {p : BitVec 4} {k : Nat} {t : TaskCtx} (h : Issues s p 1 k t) {a : BitVec 24}
    (ha : a.toNat < 131072) (hin : a.toNat < s.cfg.bits p.toNat)
    (hu : exec (.st p 0 a) s = .next u ∨ exec (.stn p 0 a) s = .next u ∨ exec (.set p 0 a) s = .next u ∨
      exec (.rst p 0 a) s = .next u) :
    ∃ v, u = s.ran p 1 k (storing (Dyn.setMbit s.cfg · p.toNat a.toNat) v) (some { t with pc := t.pc + 1 }) := by
  have hok := h.bitStore_ok (a := a) (bitWriteForm_mem ha) (Dyn.writeBit_mem hin)
  rcases hu with hu | hu | hu | hu <;>
    exact ⟨_, Host.Outcome.next.inj (hu.symm.trans (hok _))⟩

/-- Settles O11: a store changes one bit, issuing changes no memory, and the task's context is the polder's own. -/
theorem bitStoreFrame : Obligations.BitStoreFrame := by
  intro s p a k t u h ha hin hu
  obtain ⟨v, rfl⟩ := h.exec_store ha hin hu
  have same {β : Type} (view : Dyn → β) (hview : ∀ d b, view (Dyn.setMbit s.cfg d p.toNat a.toNat b) = view d) :
      view (storing (Dyn.setMbit s.cfg · p.toNat a.toNat) v (s.dyn.issued p.toNat 1)) = view (s.dyn.issued p.toNat 1) :=
    storing_frame view hview v _
  have hbits {j : Nat} (hj : j ≠ s.cfg.bitKey p.toNat a.toNat) := same (sget false ·.bitMem j) fun _ _ => sget_sput_ne hj
  have hpolder {q : Nat} (hq : q ≠ p.toNat) :=
    (same (·.polder q) fun _ _ => rfl).trans (s.dyn.issued_polder_ne p.toNat 1 hq)
  have hwords := same (·.wordMem) fun _ _ => rfl
  have htimers := same (·.timers) fun _ _ => rfl
  have hcounters := same (·.counters) fun _ _ => rfl
  have hedges := same (·.edges) fun _ _ => rfl
  have houtW := same (·.outW) fun _ _ => rfl
  have houtC := same (·.outC) fun _ _ => rfl
  have hregs := same (·.regs) fun _ _ => rfl
  have hclk := same (·.clk) fun _ _ => rfl
  refine ⟨fun j hj => ?bits, ?_, ?_, ?_, ?_, ?_, ?_, ?_, ?_, rfl, rfl, fun q hq => ?polder⟩
  case bits => simpa using hbits hj
  case polder => exact (Dyn.polder_setPolder_ne _ _ hq).trans (hpolder hq)
  all_goals simp [hwords, htimers, hcounters, hedges, houtW, houtC, hregs, hclk]

end Sys2Proof.Machine
end

section
/-! SUPPORT. The edge bits: what EDR and EDF do, and that a cold restart clears them (R144, R165). -/

namespace Sys2Proof.Machine

/-! ## Restarts -/

/-- A key of a cleared range reads as an unlisted one. -/
theorem sget_sclear {α : Type} {d : α} {m : List (Nat × α)} {lo hi k : Nat} (hlo : lo ≤ k) (hhi : k < hi) :
    sget d (sclear m lo hi) k = d :=
  sget_of_not_mem fun e he hk => by simpa [hk, hlo, hhi] using (List.mem_filter.1 he).2

/-- Repeated changes that leave the edge bits alone leave them alone together. -/
theorem Dyn.edges_foldl {β : Type} {f : Dyn → β → Dyn} (hf : ∀ d x, (f d x).edges = d.edges) (l : List β) (d : Dyn) :
    (l.foldl f d).edges = d.edges := by
  induction l generalizing d with
  | nil => rfl
  | cons x l ih => rw [List.foldl_cons, ih, hf]

theorem Dyn.coldLoop_edges (c : Cfg) (d : Dyn) (k : Nat) : (d.coldLoop c k).edges = d.edges := by
  unfold Dyn.coldLoop
  split <;> rfl

theorem Dyn.emptySlots_edges (c : Cfg) (d : Dyn) (p : Nat) : (d.emptySlots c p).edges = d.edges :=
  Dyn.edges_foldl (f := fun d s => d.setSlot s fun _ => SlvSlot.init) (fun _ _ => rfl) _ d

/-- A restart clears the polder's edge bits; the image's initial values name none (R165). -/
theorem Dyn.clearPolder_edges (c : Cfg) (d : Dyn) (p : Nat) :
    (d.clearPolder c p).edges =
      sclear (d.abandon c p).edges (c.edgeKey p 0) (c.edgeKey p (c.get (F.LGE_EDGE_COUNT p))) := by
  simp only [Dyn.clearPolder, Dyn.setPolder_edges, Dyn.wr_edges, Dyn.put_edges]
  rw [Dyn.edges_foldl (fun d q => d.setQueue_edges q _), Dyn.emptySlots_edges,
    Dyn.edges_foldl fun d k => d.coldLoop_edges c k]
  split
  · rw [Dyn.edges_foldl fun _ _ => ?_, Dyn.edges_foldl fun d (e : Nat × Word) => Dyn.setMword_edges c d p e.1 e.2,
      Dyn.edges_foldl fun d (e : Nat × Bool) => Dyn.setMbit_edges c d p e.1 e.2]
    rfl
  · rfl

theorem Dyn.clearForces_edges (d : Dyn) (p : Nat) : (d.clearForces p).edges = d.edges := rfl

theorem Dyn.rstReport_edges (d : Dyn) (p kind reason mtch kept init drop : Nat) :
    (d.rstReport p kind reason mtch kept init drop).edges = d.edges := rfl

theorem Dyn.coldRestart_edges (c : Cfg) (d : Dyn) (p reason : Nat) :
    (d.coldRestart c p reason).edges = (d.clearPolder c p).edges :=
  (Dyn.rstReport_edges ..).trans ((Dyn.setPolder_edges ..).trans (Dyn.clearForces_edges ..))

/-! ## EDR and EDF -/

section
variable {s : State} {p : BitVec 4} {k e : Nat} {t : TaskCtx} {a : BitVec 24}

/-- The edge bit is replaced by LA, and LA by a function of both (R144). -/
theorem Issues.edgeOp_ok (h : Issues s p 1 k t) (hform : edgeForm 3 a.toNat = .ok e)
    (hin : e < s.cfg.get (F.LGE_EDGE_COUNT p.toNat)) (g : Bool → Bool → Bool) :
    logic p 1 (edgeOp g 3 a) s = .next (s.ran p 1 k
      (fun d => { d with edges := sput false d.edges (s.cfg.edgeKey p.toNat e) t.la })
      (some { t with la := g (sget false s.dyn.edges (s.cfg.edgeKey p.toNat e)) t.la, pc := t.pc + 1 })) := by
  have hform : edgeForm (3 : BitVec 2).toNat a.toNat = .ok e := hform
  refine h.logic_ok (fun d => { d with edges := sput false d.edges (s.cfg.edgeKey p.toNat e) t.la }) ?_
  rw [edgeOp, hform, ok_bind, inRange_lt hin]
  rfl

theorem Issues.edgeOp_outside (h : Issues s p 1 k t) (hform : edgeForm 3 a.toNat = .ok e)
    (hout : s.cfg.get (F.LGE_EDGE_COUNT p.toNat) ≤ e) (g : Bool → Bool → Bool) :
    logic p 1 (edgeOp g 3 a) s =
      .next (s.withDyn ((s.dyn.issued p.toNat 1).programFault s.cfg p.toNat k 0x12 t.pc)) := by
  have hform : edgeForm (3 : BitVec 2).toNat a.toNat = .ok e := hform
  refine h.logic_error ?_
  rw [edgeOp, hform, ok_bind, inRange_ge hout]
  rfl

end

/-- Settles O12: the cold restart by the range it clears, the two instructions as one operation. -/
theorem edgesDetect : Obligations.EdgesDetect := by
  refine ⟨fun c d p reason i hi => ?restart, fun s p a k t e h hform => ⟨fun hout => ?outside, fun hin => ?inside⟩⟩
  case restart =>
    rw [Dyn.coldRestart_edges, Dyn.clearPolder_edges]
    exact sget_sclear (Nat.add_le_add_left (Nat.zero_le i) _) (Nat.add_lt_add_left hi _)
  case outside => exact ⟨h.edgeOp_outside hform hout _, h.edgeOp_outside hform hout _⟩
  case inside => exact ⟨h.edgeOp_ok hform hin _, h.edgeOp_ok hform hin _⟩

end Sys2Proof.Machine
end


section
/-! SUPPORT. The timers: one evaluation in each of the three functions, and TMR (R139, R142). -/

namespace Sys2Proof.Machine

theorem resUs_eq (code : Nat) : resUs code = if code = 0 then 1 else if code = 1 then 1000 else 1000000 := by
  match code with
  | 0 | 1 | _ + 2 => rfl

section
variable (x : Timer) {res pUs pt dt : Nat} {fn wa : Word} (la : Bool)
  (hpt : min (wa.toNat * res) (2 ^ 48 - 1) = pt) (hdt : (fn - x.lastFn).toNat * pUs = dt)
include hpt hdt

/-- TON: the time counts while LA stays set, and Q follows it at the preset. -/
theorem Timer.eval_ton :
    x.eval 0 res pUs fn la wa =
      let acc := if la && x.prevIn then min (x.acc + dt) pt else 0
      ⟨acc, fn, la, la && decide (pt ≤ acc), res⟩ := by
  subst hpt hdt
  rfl

/-- TOF: Q is set with LA, and the time counts after it is clear. -/
theorem Timer.eval_tof :
    x.eval 1 res pUs fn la wa =
      if la then ⟨0, fn, la, true, res⟩
      else if x.prevIn then ⟨0, fn, la, x.q, res⟩
      else if x.q then ⟨min (x.acc + dt) pt, fn, la, decide (min (x.acc + dt) pt < pt), res⟩
      else ⟨x.acc, fn, la, x.q, res⟩ := by
  subst hpt hdt
  simp only [Timer.eval]
  cases la <;> cases x.prevIn <;> cases x.q <;> rfl

/-- TP: a rising LA starts a pulse, which lasts for the preset. -/
theorem Timer.eval_tp :
    x.eval 2 res pUs fn la wa =
      if la && !x.prevIn && !x.q then ⟨0, fn, la, true, res⟩
      else if x.q then
        if min (x.acc + dt) pt < pt then ⟨min (x.acc + dt) pt, fn, la, true, res⟩
        else ⟨if la then min (x.acc + dt) pt else 0, fn, la, false, res⟩
      else ⟨if la then x.acc else 0, fn, la, false, res⟩ := by
  subst hdt
  obtain ⟨acc, last, prev, q, _⟩ := x
  unfold Timer.eval
  rw [hpt]
  cases q
  case false => cases la <;> cases prev <;> rfl
  case true =>
    by_cases hend : min (acc + (fn - last).toNat * pUs) pt < pt <;> cases la <;> cases prev <;>
      simp only [hend, Bool.not_true, Bool.not_false, Bool.and_true, Bool.and_false, Bool.false_eq_true, if_true, if_false,
        decide_true, decide_false]

end

section
variable {c : Cfg} {d : Dyn} {p : Nat} {t : TaskCtx} {a : BitVec 24}

/-- TMR on a timer of the polder's allocation. -/
theorem opTmr_ok (hspace : af a.toNat 23 22 = 0) (hfnc : af a.toNat 21 20 ≠ 3) (hres : af a.toNat 19 18 ≠ 3)
    (hzero : af a.toNat 17 10 = 0) (hin : af a.toNat 9 0 < c.get (F.LGE_TMR_COUNT p)) {y : Timer}
    (hy : (d.timer (c.tmrKey p (af a.toNat 9 0))).eval (af a.toNat 21 20) (resUs (af a.toNat 19 18)) c.periodUs
      (d.viewWord p 0x250) t.la t.wa = y) :
    opTmr 3 a c d p t =
      .ok (d.setTimer (c.tmrKey p (af a.toNat 9 0)) y, some { t with la := y.q, pc := t.pc + 1 }) := by
  subst hy
  simp [opTmr, hspace, hfnc, hres, hzero, inRange_lt hin, TaskCtx.next, TaskCtx.setLa]

end

section
variable {s : State} {p : BitVec 4} {k : Nat} {t : TaskCtx} {a : BitVec 24}

/-- TMR evaluates the timer it names, and LA takes its Q. -/
theorem Issues.exec_tmr (h : Issues s p 1 k t) (hspace : af a.toNat 23 22 = 0) (hfnc : af a.toNat 21 20 ≠ 3)
    (hres : af a.toNat 19 18 ≠ 3) (hzero : af a.toNat 17 10 = 0)
    (hin : af a.toNat 9 0 < s.cfg.get (F.LGE_TMR_COUNT p.toNat)) {y : Timer}
    (hy : (s.dyn.timer (s.cfg.tmrKey p.toNat (af a.toNat 9 0))).eval (af a.toNat 21 20) (resUs (af a.toNat 19 18))
      s.cfg.periodUs (s.dyn.viewWord p.toNat 0x250) t.la t.wa = y) :
    exec (.tmr p 3 a) s = .next (s.ran p 1 k (fun d => d.setTimer (s.cfg.tmrKey p.toNat (af a.toNat 9 0)) y)
      (some { t with la := y.q, pc := t.pc + 1 })) := by
  refine h.logic_ok (f := opTmr 3 a) (fun d => d.setTimer _ y) (opTmr_ok hspace hfnc hres hzero hin ?_)
  rw [Dyn.issued_timer, Dyn.issued_viewWord, hy]

end

/-- Settles O13, by what an evaluation is in each of the three functions. -/
theorem timersEvaluate : Obligations.TimersEvaluate := by
  intro s p a k t h hspace hres hzero hin key x res fn pt d done
  have hrun {fnc : Nat} (hfnc : af a.toNat 21 20 = fnc) (hne : fnc ≠ 3) {y : Timer}
      (hy : x.eval fnc res s.cfg.periodUs fn t.la t.wa = y) : exec (.tmr p 3 a) s =
        .next (s.ran p 1 k (fun d => d.setTimer key y) (some { t with la := y.q, pc := t.pc + 1 })) :=
    h.exec_tmr hspace (hfnc ▸ hne) hres hzero hin (by rw [hfnc, resUs_eq]; exact hy)
  refine ⟨fun hfnc => ?ton, fun hfnc => ?tof, fun hfnc => ?tp⟩
  case ton => exact hrun hfnc (by decide) (Timer.eval_ton (pt := pt) (dt := d) x _ rfl rfl)
  case tof =>
    rw [hrun hfnc (by decide) (Timer.eval_tof (pt := pt) (dt := d) x _ rfl rfl)]
    split_ifs <;> rfl
  case tp =>
    rw [hrun hfnc (by decide) (Timer.eval_tp (pt := pt) (dt := d) x _ rfl rfl)]
    dsimp only
    split_ifs <;> rfl

end Sys2Proof.Machine
end

section
/-! SUPPORT. Saturation, and the counters (R139, R141, R143). -/

namespace Sys2Proof.Machine

/-! ## Saturation (R141) -/

theorem satWord_above {v : Int} (h : v > 2 ^ 31 - 1) : satWord v = (0x7FFFFFFF, true) := if_pos h

theorem satWord_below {v : Int} (h : v < -2 ^ 31) : satWord v = (0x80000000, true) := by
  rw [satWord, if_neg (by omega), if_pos (by omega)]

theorem satWord_within {v : Int} (hlo : -2 ^ 31 ≤ v) (hhi : v ≤ 2 ^ 31 - 1) : satWord v = (BitVec.ofInt 32 v, false) := by
  rw [satWord, if_neg (by omega), if_neg (by omega)]

/-- The second part of a saturation: the exact value was beyond the range. -/
theorem satWord_snd (v : Int) : (satWord v).2 = decide (v > 2 ^ 31 - 1 ∨ v < -2 ^ 31) := by
  by_cases habove : v > 2 ^ 31 - 1
  · rw [satWord_above habove, decide_eq_true (.inl habove)]
  by_cases hbelow : v < -2 ^ 31
  · rw [satWord_below hbelow, decide_eq_true (.inr hbelow)]
  · rw [satWord_within (not_lt.1 hbelow) (not_lt.1 habove), decide_eq_false (not_or.2 ⟨habove, hbelow⟩)]

/-- A count up stays at the end of the range. -/
theorem satWord_succ (w : Word) :
    satWord (w.toInt + 1) = if w = 0x7FFFFFFF then (0x7FFFFFFF, true) else (w + 1, false) := by
  split
  case isTrue hend => subst hend; decide
  case isFalse hend =>
    have hlt := BitVec.toInt_lt (x := w)
    have hge := BitVec.le_toInt w
    have hne : w.toInt ≠ 0x7FFFFFFF := fun h => hend (BitVec.eq_of_toInt_eq h)
    rw [satWord_within (by omega) (by omega), BitVec.ofInt_add, BitVec.ofInt_toInt]
    rfl

/-- A count down as well. -/
theorem satWord_pred (w : Word) :
    satWord (w.toInt - 1) = if w = 0x80000000 then (0x80000000, true) else (w - 1, false) := by
  split
  case isTrue hend => subst hend; decide
  case isFalse hend =>
    have hlt := BitVec.toInt_lt (x := w)
    have hge := BitVec.le_toInt w
    have hne : w.toInt ≠ -0x80000000 := fun h => hend (BitVec.eq_of_toInt_eq h)
    rw [satWord_within (by omega) (by omega), Int.sub_eq_add_neg, BitVec.ofInt_add, BitVec.ofInt_toInt,
      BitVec.sub_eq_add_neg]
    rfl

/-! ## Evaluation (R143) -/

section
variable (x : Counter) (la : Bool) (wa : Word)

/-- UP: a rising LA counts, and CV is compared with WA. -/
theorem Counter.eval_up :
    x.eval 0 la wa =
      if la && !x.prevUp then
        if x.cv = 0x7FFFFFFF then ({ x with prevUp := true, q := true }, true, true)
        else ({ x with cv := x.cv + 1, prevUp := true, q := wa.sle (x.cv + 1) }, wa.sle (x.cv + 1), false)
      else ({ x with prevUp := la, q := wa.sle x.cv }, wa.sle x.cv, false) := by
  have hmax : decide (wa.toInt ≤ (0x7FFFFFFF : Word).toInt) = true :=
    decide_eq_true (Int.le_of_lt_add_one (BitVec.toInt_lt (x := wa)))
  simp only [Counter.eval, satWord_succ]
  split
  case isTrue hrise =>
    obtain ⟨rfl, -⟩ := Bool.and_eq_true_iff.1 hrise
    split
    case isTrue hend => simp only [hmax, hend]
    case isFalse => rfl
  case isFalse => rfl

/-- DOWN: a rising LA counts down, and CV is compared with 0. -/
theorem Counter.eval_down :
    x.eval 1 la wa =
      if la && !x.prevDn then
        if x.cv = 0x80000000 then ({ x with prevDn := true, q := true }, true, true)
        else ({ x with cv := x.cv - 1, prevDn := true, q := (x.cv - 1).sle 0 }, (x.cv - 1).sle 0, false)
      else ({ x with prevDn := la, q := x.cv.sle 0 }, x.cv.sle 0, false) := by
  have hmin : decide ((0x80000000 : Word).toInt ≤ 0) = true := by decide
  simp only [Counter.eval, satWord_pred]
  split
  case isTrue hrise =>
    obtain ⟨rfl, -⟩ := Bool.and_eq_true_iff.1 hrise
    split
    case isTrue hend => simp only [hmin, hend]
    case isFalse => rfl
  case isFalse => rfl

end

/-! ## CNT -/

/-- CNT on a counter of the polder's allocation. -/
theorem opCnt_ok {c : Cfg} {d : Dyn} {p : Nat} {t : TaskCtx} {a : BitVec 24} (hspace : af a.toNat 23 22 = 1)
    (hzero : af a.toNat 19 10 = 0) (hin : af a.toNat 9 0 < c.get (F.LGE_CNT_COUNT p)) {y : Counter} {la sat : Bool}
    (hy : (d.counter (c.cntKey p (af a.toNat 9 0))).eval (af a.toNat 21 20) t.la t.wa = (y, la, sat)) :
    opCnt 3 a c d p t = .ok
      (if sat then (d.setCounter (c.cntKey p (af a.toNat 9 0)) y).setSat p
        else d.setCounter (c.cntKey p (af a.toNat 9 0)) y, some { t with la := la, pc := t.pc + 1 }) := by
  simp [opCnt, hspace, hzero, inRange_lt hin, hy, TaskCtx.next, TaskCtx.setLa]

/-- CNT evaluates the counter it names, and LA takes its answer. -/
theorem Issues.exec_cnt {s : State} {p : BitVec 4} {k : Nat} {t : TaskCtx} (h : Issues s p 1 k t) {a : BitVec 24}
    (hspace : af a.toNat 23 22 = 1) (hzero : af a.toNat 19 10 = 0)
    (hin : af a.toNat 9 0 < s.cfg.get (F.LGE_CNT_COUNT p.toNat)) {y : Counter} {la sat : Bool}
    (hy : (s.dyn.counter (s.cfg.cntKey p.toNat (af a.toNat 9 0))).eval (af a.toNat 21 20) t.la t.wa = (y, la, sat)) :
    exec (.cnt p 3 a) s = .next (s.ran p 1 k
      (fun d => if sat then (d.setCounter (s.cfg.cntKey p.toNat (af a.toNat 9 0)) y).setSat p.toNat
        else d.setCounter (s.cfg.cntKey p.toNat (af a.toNat 9 0)) y)
      (some { t with la := la, pc := t.pc + 1 })) :=
  h.logic_ok (f := opCnt 3 a) (fun d => if sat then (d.setCounter _ y).setSat p.toNat else d.setCounter _ y)
    (opCnt_ok hspace hzero hin (by rw [Dyn.issued_counter, hy]))

/-- Settles O14, by what an evaluation is in each of the four functions. -/
theorem countersEvaluate : Obligations.CountersEvaluate := by
  intro s p a k t h hspace hzero hin key x done
  have hrun {fnc : Nat} (hfnc : af a.toNat 21 20 = fnc) {y : Counter} {la sat : Bool}
      (hy : x.eval fnc t.la t.wa = (y, la, sat)) : exec (.cnt p 3 a) s = .next (done y la sat) :=
    h.exec_cnt hspace hzero hin (by rw [hfnc]; exact hy)
  refine ⟨fun hfnc => ?up, fun hfnc => ?down, fun hfnc => hrun hfnc rfl, fun hfnc => hrun hfnc rfl⟩
  case up =>
    have hx := Counter.eval_up x t.la t.wa
    split_ifs at hx ⊢ <;> exact hrun hfnc hx
  case down =>
    have hx := Counter.eval_down x t.la t.wa
    split_ifs at hx ⊢ <;> exact hrun hfnc hx

end Sys2Proof.Machine
end

section
/-! SUPPORT. The word instructions: moves, arithmetic, logic, limits, shifts and comparisons (R139–R141). -/

namespace Sys2Proof.Machine

section
variable {s : State} {p : BitVec 4} {n k : Nat} {t : TaskCtx} {sp : BitVec 2} {a : BitVec 24}

/-! ## Moves -/

/-- LDW: the operand, moved by WA when X is set. -/
theorem Issues.exec_ldw (h : Issues s p 1 k t) {o : Opd} {x : Bool} {w : Word}
    (hform : loadForm sp.toNat a.toNat = .ok (o, x))
    (hread : s.dyn.readWord s.cfg p.toNat (if x then o.move t.wa.toInt else o) = .ok w) :
    exec (.ldw p sp a) s = .next (s.ran p 1 k id (some { t with wa := w, pc := t.pc + 1 })) := by
  refine h.logic_ok (f := opLdw sp a) id ?_
  simp only [opLdw, hform, ok_bind, Dyn.issued_readWord, hread]
  rfl

/-- LDK: the constant at ADDR + WA. -/
theorem Issues.exec_ldk (h : Issues s p 1 k t) (ha : a.toNat < 4096) {i : Nat} (hi : (a.toNat : Int) + t.wa.toInt = i)
    (hin : i < s.cfg.get (F.LGE_CTRL_KSIZE p.toNat)) :
    exec (.ldk p 0 a) s =
      .next (s.ran p 1 k id (some { t with wa := s.dyn.konst s.cfg p.toNat i, pc := t.pc + 1 })) := by
  have hread : s.dyn.readWord s.cfg p.toNat (.konst i) = .ok (s.dyn.konst s.cfg p.toNat i) := by
    simp only [Dyn.readWord, inRange_lt hin, ok_bind]
    rfl
  refine h.logic_ok (f := opLdk 0 a) id ?_
  simp only [opLdk, af_high 23 (lo := 12) ha, af_low (hi := 11) ha, hi, Dyn.issued_readWord, hread, ok_bind]
  rfl

/-- A word write that its operand permits. -/
theorem Issues.exec_stw (h : Issues s p 1 k t) {o : Opd} {f : Dyn → Dyn}
    (hform : storeForm sp.toNat a.toNat = .ok o)
    (hwrite : (s.dyn.issued p.toNat 1).writeWord s.cfg p.toNat o t.wa = .ok (f (s.dyn.issued p.toNat 1))) :
    exec (.stw p sp a) s = .next (s.ran p 1 k f (some { t with pc := t.pc + 1 })) := by
  refine h.logic_ok (f := opStw sp a) f ?_
  simp only [opStw, hform, ok_bind, hwrite]
  rfl

end

section
variable {c : Cfg} {d : Dyn} {p i : Nat}

theorem Dyn.writeWord_mem (h : i < c.words p) (w : Word) : d.writeWord c p (.mem i) w = .ok (d.setMword c p i w) := by
  simp only [Dyn.writeWord, inRange_lt h, ok_bind]
  rfl

/-- An output word that packs no bits of several resources, owned as a whole (R135, R136). -/
theorem Dyn.writeWord_owned (hi : i < 4096) (hwhole : outPacked i = false) (howner : (c.outRes (32 * i)).2 = some p)
    (hloop : c.loopBound i = false) (w : Word) :
    d.writeWord c p (.out i) w = .ok { d with outW := sput 0 d.outW i w } := by
  have hmask : c.ownMask p i = -1 := by simp [Cfg.ownMask, hwhole, howner]
  have hstored : (sget 0 d.outW i &&& ~~~(-1)) ||| (w &&& -1) = w := by
    rw [show (-1 : Word) = BitVec.allOnes 32 by decide, BitVec.not_allOnes, BitVec.and_zero, BitVec.and_allOnes,
      BitVec.zero_or]
  simp only [Dyn.writeWord, inRange_lt hi, ok_bind, hwhole, hmask, hloop, hstored]
  rfl

theorem Dyn.writeWord_cnt (h : i < c.get (F.LGE_CNT_COUNT p)) (w : Word) :
    d.writeWord c p (.cnt i) w = .ok (d.setCounter (c.cntKey p i) { d.counter (c.cntKey p i) with cv := w }) := by
  simp only [Dyn.writeWord, inRange_lt h, ok_bind]
  rfl

end

/-- Settles O15, move by move. -/
theorem wordMoves : Obligations.WordMoves := by
  intro s p sp a k t h
  refine ⟨fun o x w => h.exec_ldw, fun i hsp ha hi hin => ?ldk, fun hsp ha hin => ?memory,
    fun hsp ha hwhole howner hloop => ?output, fun i hsp ha hi hin => ?counter⟩ <;> subst hsp
  case ldk => exact h.exec_ldk ha hi hin
  case memory => exact h.exec_stw (storeForm_mem ha) (Dyn.writeWord_mem hin t.wa)
  case output =>
    exact h.exec_stw (f := fun d => { d with outW := sput 0 d.outW a.toNat t.wa }) (storeForm_out ha)
      (Dyn.writeWord_owned ha hwhole howner hloop t.wa)
  case counter =>
    exact h.exec_stw (f := fun d => d.setCounter _ _) (storeForm_cnt ha hi)
      (by rw [Dyn.writeWord_cnt hin, Dyn.issued_counter])

/-! ## Arithmetic (R141) -/

section
variable {s : State} {p : BitVec 4} {n k : Nat} {t : TaskCtx} {sp : BitVec 2} {a : BitVec 24} {o : Opd} {m : Word}

/-- A word operation whose operand reads as `m`. -/
theorem Issues.wordOp_ok (h : Issues s p n k t) (hform : wordForm sp.toNat a.toNat = .ok o)
    (hread : s.dyn.readWord s.cfg p.toNat o = .ok m) {g : Dyn → Nat → Word → Word → Word × Dyn} {w : Word}
    (f : Dyn → Dyn) (hg : g (s.dyn.issued p.toNat n) p.toNat t.wa m = (w, f (s.dyn.issued p.toNat n))) :
    logic p n (wordOp g sp a) s = .next (s.ran p n k f (some { t with wa := w, pc := t.pc + 1 })) := by
  refine h.logic_ok f ?_
  simp only [wordOp, hform, ok_bind, Dyn.issued_readWord, hread, hg]
  rfl

/-- A word operation whose exact result is `v`: saturated, and SAT set when it was beyond the range. -/
theorem Issues.wordOp_arith (h : Issues s p n k t) (hform : wordForm sp.toNat a.toNat = .ok o)
    (hread : s.dyn.readWord s.cfg p.toNat o = .ok m) {g : Dyn → Nat → Word → Word → Word × Dyn} {v : Int}
    (hg : ∀ d : Dyn, g d p.toNat t.wa m = d.arith p.toNat v) :
    logic p n (wordOp g sp a) s = .next (
      if v > 2 ^ 31 - 1 then s.ran p n k (fun d => d.setSat p.toNat) (some { t with wa := 0x7FFFFFFF, pc := t.pc + 1 })
      else if v < -2 ^ 31 then
        s.ran p n k (fun d => d.setSat p.toNat) (some { t with wa := 0x80000000, pc := t.pc + 1 })
      else s.ran p n k id (some { t with wa := BitVec.ofInt 32 v, pc := t.pc + 1 })) := by
  split_ifs with habove hbelow
  · exact h.wordOp_ok hform hread (·.setSat p.toNat) (by rw [hg, Dyn.arith, satWord_above habove]; rfl)
  · exact h.wordOp_ok hform hread (·.setSat p.toNat) (by rw [hg, Dyn.arith, satWord_below hbelow]; rfl)
  · exact h.wordOp_ok hform hread id (by rw [hg, Dyn.arith, satWord_within (not_lt.1 hbelow) (not_lt.1 habove)]; rfl)

end

/-- Settles O16: the four operations differ in their exact result alone, but for the division by zero. -/
theorem wordArithmeticSaturates : Obligations.WordArithmeticSaturates := by
  intro s p sp a n k t o m h hform hread done
  refine ⟨fun hn => ?addSub, fun hn => ?mul, fun hn hm => ?div, fun hn hm => ?divZero⟩ <;> subst hn
  case addSub => exact ⟨h.wordOp_arith hform hread fun _ => rfl, h.wordOp_arith hform hread fun _ => rfl⟩
  case mul => exact h.wordOp_arith hform hread fun _ => rfl
  case div => exact h.wordOp_arith hform hread fun _ => if_neg hm
  case divZero => exact h.wordOp_ok hform hread (·.setDivz p.toNat) (if_pos hm)

/-! ## Logic, limits, shifts and comparisons -/

section
variable {s : State} {p : BitVec 4} {k : Nat} {t : TaskCtx} {sp : BitVec 2} {a : BitVec 24} {o : Opd}

/-- A comparison whose operand reads as `m`. -/
theorem Issues.cmpOp_ok (h : Issues s p 1 k t) (hform : wordForm sp.toNat a.toNat = .ok o) {m : Word}
    (hread : s.dyn.readWord s.cfg p.toNat o = .ok m) {g : Int → Int → Bool} {b : Bool} (hg : g t.wa.toInt m.toInt = b) :
    logic p 1 (cmpOp g sp a) s = .next (s.ran p 1 k id (some { t with la := b, pc := t.pc + 1 })) := by
  subst hg
  refine h.logic_ok id ?_
  simp only [cmpOp, hform, ok_bind, Dyn.issued_readWord, hread]
  rfl

/-- LIM: the lower limit wins over the upper one. -/
theorem Issues.exec_lim (h : Issues s p 1 k t) (hform : limForm sp.toNat a.toNat = .ok o) {lo hi : Word}
    (hlo : s.dyn.readWord s.cfg p.toNat o = .ok lo) (hhi : s.dyn.readWord s.cfg p.toNat (o.move 1) = .ok hi) :
    exec (.lim p sp a) s = .next (s.ran p 1 k id (some { t with
      wa := if hi.slt lo then lo else if t.wa.slt lo then lo else if hi.slt t.wa then hi else t.wa, pc := t.pc + 1 })) := by
  refine h.logic_ok (f := opLim sp a) id ?_
  simp only [opLim, hform, ok_bind, Dyn.issued_readWord, hlo, hhi, BitVec.slt_iff_toInt_lt]
  rfl

theorem Issues.exec_shl (h : Issues s p 1 k t) (ha : a.toNat < 32) :
    exec (.shl p 0 a) s = .next (s.ran p 1 k id (some { t with wa := t.wa <<< a.toNat, pc := t.pc + 1 })) := by
  refine h.logic_ok (f := opShl 0 a) id ?_
  simp only [opShl, af_high 23 (lo := 5) ha, af_low (hi := 4) ha]
  rfl

theorem Issues.exec_shr (h : Issues s p 1 k t) (ha : a.toNat < 32) :
    exec (.shr p 0 a) s = .next (s.ran p 1 k id (some { t with wa := t.wa >>> a.toNat, pc := t.pc + 1 })) := by
  have hlogical : a.toNat.testBit 5 = false := Nat.testBit_lt_two_pow ha
  refine h.logic_ok (f := opShr 0 a) id ?_
  simp only [opShr, af_high 23 (lo := 6) (ha.trans (by decide)), af_low (hi := 4) ha, hlogical]
  rfl

/-- SHR with ADDR bit 5 set keeps the sign. -/
theorem Issues.exec_shr_signed (h : Issues s p 1 k t) {i : Nat} (ha : a.toNat = 32 + i) (hi : i < 32) :
    exec (.shr p 0 a) s = .next (s.ran p 1 k id (some { t with wa := t.wa.sshiftRight i, pc := t.pc + 1 })) := by
  have hsigned : a.toNat.testBit 5 = true := by
    rw [ha]
    exact (Nat.testBit_two_pow_add_eq i 5).trans (by rw [Nat.testBit_lt_two_pow hi]; rfl)
  have hcount : af a.toNat 4 0 = i := by simp only [af, ha, Nat.shiftRight_zero]; omega
  refine h.logic_ok (f := opShr 0 a) id ?_
  simp only [opShr, af_high 23 (lo := 6) (a := a.toNat) (by omega), hcount, hsigned]
  rfl

end

/-- Settles O17; the comparisons are one operation with six orders. -/
theorem wordLogicAndComparisons : Obligations.WordLogicAndComparisons := by
  intro s p sp a k t h wa la
  refine ⟨fun o m hform hread => ?operand, fun o lo hi hform hlo hhi => h.exec_lim hform hlo hhi,
    fun hsp ha => ?shifts, fun i hsp ha hi => ?signed⟩
  case operand =>
    have hword {g : Dyn → Nat → Word → Word → Word × Dyn} {w : Word}
        (hg : ∀ d : Dyn, g d p.toNat t.wa m = (w, d)) : logic p 1 (wordOp g sp a) s = wa w :=
      h.wordOp_ok hform hread id (hg _)
    have hcmp {g : Int → Int → Bool} {b : Bool} (hg : g t.wa.toInt m.toInt = b) : logic p 1 (cmpOp g sp a) s = la b :=
      h.cmpOp_ok hform hread hg
    simp only [BitVec.sle_iff_toInt_le]
    have heq : (t.wa.toInt == m.toInt) = decide (t.wa = m) := decide_eq_decide.2 BitVec.toInt_inj
    have hne : (t.wa.toInt != m.toInt) = decide (t.wa ≠ m) := by rw [decide_not, ← heq]; rfl
    exact ⟨hword fun _ => rfl, hword fun _ => rfl, hword fun _ => rfl, hword fun _ => rfl, hcmp heq, hcmp hne,
      hcmp rfl, hcmp rfl, hcmp rfl, hcmp rfl⟩
  case shifts => subst hsp; exact ⟨h.exec_shl ha, h.exec_shr ha⟩
  case signed => subst hsp; exact h.exec_shr_signed ha hi

end Sys2Proof.Machine
end

section
/-! SUPPORT. The flow instructions (R129, R140, R148). -/

namespace Sys2Proof.Machine

/-- A transfer of control: to `x` within the segment, else JUMP_BOUNDS. -/
theorem jumpTo_eq (c : Cfg) (d : Dyn) (p : Nat) (t : TaskCtx) (x : Nat) :
    jumpTo c d p t x =
      if x < c.get (F.LGE_SEG_LEN_VALUE p) then .ok (d, some { t with pc := x }) else .error 0x15 := rfl

section
variable {s : State} {p : BitVec 4} {n k : Nat} {t : TaskCtx} {a : BitVec 24}

/-- An instruction that issues and transfers control to `x` as `t'`. -/
theorem Issues.issue_jump (h : Issues s p n k t) {cost : Cfg → Dyn → TaskCtx → Nat} (hcost : cost s.cfg s.dyn t = n)
    {f : Effect} {t' : TaskCtx} {x : Nat}
    (hf : f s.cfg (s.dyn.issued p.toNat n) p.toNat t = jumpTo s.cfg (s.dyn.issued p.toNat n) p.toNat t' x) :
    (s.upd fun c d => d.issue c p.toNat (cost c) f) =
      if x < s.cfg.get (F.LGE_SEG_LEN_VALUE p.toNat) then .next (s.ran p n k id (some { t' with pc := x }))
      else .next (s.withDyn ((s.dyn.issued p.toNat n).programFault s.cfg p.toNat k 0x15 t.pc)) := by
  rw [jumpTo_eq] at hf
  split_ifs at hf ⊢
  · exact h.issue_ok hcost hf
  · exact h.issue_error hcost hf

/-- A branch that is taken, and one that is not. -/
theorem branch_taken {g : Bool → Bool} (ha : a.toNat < 2 ^ 19) (hg : g t.la = true) (c : Cfg) (d : Dyn) (q : Nat) :
    branch g 0 a c d q t = jumpTo c d q t a.toNat := by
  rw [branch, targetOf_short ha, ok_bind, if_pos hg]

theorem branch_passed {g : Bool → Bool} (ha : a.toNat < 2 ^ 19) (hg : g t.la = false) (c : Cfg) (d : Dyn) (q : Nat) :
    branch g 0 a c d q t = .ok (d, some { t with pc := t.pc + 1 }) := by
  rw [branch, targetOf_short ha, ok_bind, if_neg (hg ▸ Bool.false_ne_true)]
  rfl

/-- JC and JNC cost 2 cycles when they transfer control and 1 otherwise (R140). -/
theorem Issues.branch_jumps (h : Issues s p 2 k t) (ha : a.toNat < 2 ^ 19) {g : Bool → Bool} (hg : g t.la = true) :
    (s.upd fun c d => d.issue c p.toNat (fun _ t => branchCost g t) (branch g 0 a)) =
      if a.toNat < s.cfg.get (F.LGE_SEG_LEN_VALUE p.toNat) then .next (s.ran p 2 k id (some { t with pc := a.toNat }))
      else .next (s.withDyn ((s.dyn.issued p.toNat 2).programFault s.cfg p.toNat k 0x15 t.pc)) :=
  h.issue_jump (cost := fun _ _ t => branchCost g t) (if_pos hg) (branch_taken ha hg ..)

theorem Issues.branch_goesOn (h : Issues s p 1 k t) (ha : a.toNat < 2 ^ 19) {g : Bool → Bool} (hg : g t.la = false) :
    (s.upd fun c d => d.issue c p.toNat (fun _ t => branchCost g t) (branch g 0 a)) =
      .next (s.ran p 1 k id (some { t with pc := t.pc + 1 })) :=
  h.issue_ok (cost := fun _ _ t => branchCost g t) (if_neg (hg ▸ Bool.false_ne_true)) (branch_passed ha hg ..)

theorem Issues.exec_jmp (h : Issues s p 2 k t) (ha : a.toNat < 2 ^ 19) :
    exec (.jmp p 0 a) s =
      if a.toNat < s.cfg.get (F.LGE_SEG_LEN_VALUE p.toNat) then .next (s.ran p 2 k id (some { t with pc := a.toNat }))
      else .next (s.withDyn ((s.dyn.issued p.toNat 2).programFault s.cfg p.toNat k 0x15 t.pc)) :=
  h.issue_jump (cost := fun _ _ _ => 2) (f := opJmp 0 a) rfl (branch_taken ha rfl ..)

/-- CALL pushes the return address, when there is room for it (R140). -/
theorem Issues.exec_call (h : Issues s p 2 k t) (ha : a.toNat < 2 ^ 19) :
    exec (.call p 0 a) s =
      if 32 ≤ t.calls.length then
        .next (s.withDyn ((s.dyn.issued p.toNat 2).programFault s.cfg p.toNat k 0x11 t.pc))
      else if a.toNat < s.cfg.get (F.LGE_SEG_LEN_VALUE p.toNat) then
        .next (s.ran p 2 k id (some { t with calls := (t.pc + 1) :: t.calls, pc := a.toNat }))
      else .next (s.withDyn ((s.dyn.issued p.toNat 2).programFault s.cfg p.toNat k 0x15 t.pc)) := by
  split
  case isTrue hfull =>
    exact h.logic_error (f := opCall 0 a) (by rw [opCall, targetOf_short ha, ok_bind, if_pos hfull])
  case isFalse hroom =>
    exact h.issue_jump (cost := fun _ _ _ => 2) (f := opCall 0 a) (t' := { t with calls := (t.pc + 1) :: t.calls }) rfl
      (by rw [opCall, targetOf_short ha, ok_bind, if_neg hroom])

theorem Issues.exec_ret (h : Issues s p 2 k t) {x : Nat} {l : List Nat} (hcalls : t.calls = x :: l) :
    exec (.ret p 0 0) s =
      if x < s.cfg.get (F.LGE_SEG_LEN_VALUE p.toNat) then .next (s.ran p 2 k id (some { t with calls := l, pc := x }))
      else .next (s.withDyn ((s.dyn.issued p.toNat 2).programFault s.cfg p.toNat k 0x15 t.pc)) :=
  h.issue_jump (cost := fun _ _ _ => 2) (f := opRet 0 0) (t' := { t with calls := l }) rfl
    (by rw [opRet, bare_zero, hcalls])

theorem Issues.exec_ret_empty (h : Issues s p 2 k t) (hcalls : t.calls = []) :
    exec (.ret p 0 0) s = .next (s.withDyn ((s.dyn.issued p.toNat 2).programFault s.cfg p.toNat k 0x11 t.pc)) :=
  h.logic_error (f := opRet 0 0) (by rw [opRet, bare_zero, hcalls])

/-- END ends the task that issues it, which is the current one. -/
theorem Issues.exec_endTask (h : Issues s p 1 k t) :
    exec (.endTask p 0 0) s = .next (s.ran p 1 k (fun d => d.taskEnded s.cfg p.toNat k) none) := by
  refine h.logic_ok (f := opEnd 0 0) (fun d => d.taskEnded s.cfg p.toNat k) ?_
  rw [opEnd, bare_zero, Dyn.issued_current, h.current]

end

/-- Settles O18, instruction by instruction. -/
theorem flowInstructions : Obligations.FlowInstructions := by
  intro s p a n k t h ha len jumps fault
  refine ⟨fun hn => ?jmp, fun hla hn => ?jc, fun hla hn => ?jcPassed, fun hla hn => ?jnc, fun hla hn => ?jncPassed,
    fun hn => ?call, fun hn => ?ret, fun hn => ?endTask⟩ <;> subst hn
  case jmp => exact h.exec_jmp ha
  case jc => exact h.branch_jumps ha hla
  case jcPassed => exact h.branch_goesOn ha hla
  case jnc => exact h.branch_jumps (g := fun la => !la) ha (by rw [hla]; rfl)
  case jncPassed => exact h.branch_goesOn (g := fun la => !la) ha (by rw [hla]; rfl)
  case call => exact h.exec_call ha
  case ret =>
    split
    case h_1 hcalls => exact h.exec_ret_empty hcalls
    case h_2 x l hcalls => exact h.exec_ret hcalls
  case endTask => exact h.exec_endTask

end Sys2Proof.Machine
end

section
/-! SUPPORT. The call of a system service, a block outside the window, and the basic services (R146, R148–R150). -/

namespace Sys2Proof.Machine

/-! ## The call (R150) -/

section
variable {s : State} {p : BitVec 4} {n k q m : Nat} {t : TaskCtx} {f : Service}

/-- A service that answers a result. -/
theorem Issues.service_ok (h : Issues s p n k t) (hs : serviceOf q = some (m, f))
    (hc : sysCost q s.cfg s.dyn p.toNat t = n) (hb : m = 0 ∨ BlockAt s p t m) (g : Dyn → Dyn) {w : Word}
    (hf : f s.cfg (s.dyn.issued p.toNat n) p.toNat k t.wa t.wa.toInt.toNat
      ((s.dyn.issued p.toNat n).block s.cfg p.toNat t.wa.toInt.toNat m) = (g (s.dyn.issued p.toNat n), .ok w)) :
    sysCall p q s = .next (s.served p n k t g w) := h.service hs hc hb g hf

/-- A service that fails and changes nothing. -/
theorem Issues.service_failed (h : Issues s p n k t) (hs : serviceOf q = some (m, f))
    (hc : sysCost q s.cfg s.dyn p.toNat t = n) (hb : m = 0 ∨ BlockAt s p t m) {e : Nat}
    (hf : f s.cfg (s.dyn.issued p.toNat n) p.toNat k t.wa t.wa.toInt.toNat
      ((s.dyn.issued p.toNat n).block s.cfg p.toNat t.wa.toInt.toNat m) = (s.dyn.issued p.toNat n, .error e)) :
    sysCall p q s = .next (s.failed p n k t (BitVec.ofNat 32 e)) := h.service hs hc hb id hf

/-- Word `i` of the block that a service reads, charged already. -/
theorem State.issued_arg (s : State) (p : BitVec 4) (t : TaskCtx) {n m i : Nat} (h : i < m) :
    arg ((s.dyn.issued p.toNat n).block s.cfg p.toNat t.wa.toInt.toNat m) i = s.blockWord p t i := s.issued_blockWord p t h

/-- An unlisted number costs 1 cycle. -/
theorem sysCost_unlisted (hq : serviceOf q = none) (c : Cfg) (d : Dyn) (p : Nat) : sysCost q c d p t = 1 := by
  unfold sysCost
  split
  case h_13 => simp [hq]
  all_goals cases hq

theorem Issues.exec_sysInvalid (h : Issues s p 1 k t) {q : BitVec 16} (hq : serviceOf q.toNat = none) :
    exec (.sysInvalid p q) s =
      .next (s.withDyn ((s.dyn.issued p.toNat 1).programFault s.cfg p.toNat k 0x16 t.pc)) := by
  refine h.issue_error (cost := fun c d t => sysCost q.toNat c d p.toNat t) (sysCost_unlisted hq ..)
    (f := sysEffect q.toNat) ?_
  rw [sysEffect, hq]

end

/-- The services with a block of fixed length: number, block words and cycles in the table (R150). -/
theorem exec_blockService {p : BitVec 4} {m n : Nat} {c : Instr}
    (h : (c, m, n) ∈ [(.evqPop p, 4, 4), (.qmul p, 2, 3), (.stx p, 3, 3), (.loopWrite p, 3, 4), (.loopRead p, 2, 4),
      (.loopBank p, 2, 4), (.slvSubmit p, 2, 12), (.slvCancel p, 1, 4), (.qFill p, 1, 3), (.chanDiag p, 2, 4),
      (.chanTest p, 1, 4), (.jrnFreeze p, 1, 4), (.regRead p, 2, 4), (.regWrite p, 2, 4), (.calFromPtp p, 8, 40),
      (.calToPtp p, 8, 40)]) (s : State) :
    ∃ q f, exec c s = sysCall p q s ∧ serviceOf q = some (m, f) ∧ m ≠ 0 ∧
      ∀ t, sysCost q s.cfg s.dyn p.toNat t = n := by
  simp only [List.mem_cons, Prod.mk.injEq, List.not_mem_nil, or_false] at h
  rcases h with ⟨rfl, rfl, rfl⟩ | ⟨rfl, rfl, rfl⟩ | ⟨rfl, rfl, rfl⟩ | ⟨rfl, rfl, rfl⟩ |
    ⟨rfl, rfl, rfl⟩ | ⟨rfl, rfl, rfl⟩ | ⟨rfl, rfl, rfl⟩ | ⟨rfl, rfl, rfl⟩ |
    ⟨rfl, rfl, rfl⟩ | ⟨rfl, rfl, rfl⟩ | ⟨rfl, rfl, rfl⟩ | ⟨rfl, rfl, rfl⟩ |
    ⟨rfl, rfl, rfl⟩ | ⟨rfl, rfl, rfl⟩ | ⟨rfl, rfl, rfl⟩ | ⟨rfl, rfl, rfl⟩ <;>
    exact ⟨_, _, rfl, rfl, by decide, fun _ => rfl⟩

/-- Settles O20, by the services' entries in the table. -/
theorem serviceBlockOutsideWindow : Obligations.ServiceBlockOutsideWindow := by
  intro s p k t m n c hc h hb
  obtain ⟨q, f, hexec, hs, hm, hcost⟩ := exec_blockService hc s
  rw [hexec]
  exact h.service_outside hs (hcost t) hm hb

/-! ## The basic services (R146, R148–R150) -/

section
variable {s : State} {p : BitVec 4} {n k : Nat} {t : TaskCtx}

/-- The entries of its polder's event queue that task `k` pops (R148). -/
abbrev popsEntry (k : Nat) (e : EvEntry) : Bool :=
  if k = 0 then e.task == 15 else if k ≤ 8 then e.task == k - 1 else false

theorem Issues.exec_evqPop_empty (h : Issues s p 4 k t) (hb : BlockAt s p t 4)
    (hnone : (s.dyn.polder p.toNat).evq.find? (popsEntry k) = none) :
    exec (.evqPop p) s = .next (s.failed p 4 k t 4) := by
  refine h.service_failed (q := 0x01) rfl rfl (.inr hb) (e := 4) ?_
  simp only [svcEvqPop, Dyn.issued_evq, hnone]

theorem Issues.exec_evqPop (h : Issues s p 4 k t) (hb : BlockAt s p t 4) {e : EvEntry}
    (hsome : (s.dyn.polder p.toNat).evq.find? (popsEntry k) = some e) :
    exec (.evqPop p) s = .next (s.served p 4 k t (fun d =>
      (d.setPolder p.toNat fun y => { y with evq := y.evq.eraseP (popsEntry k) }).store s.cfg p.toNat t.wa.toInt.toNat
        [BitVec.ofNat 32 (e.kind * 2 ^ 24 + e.slot * 2 ^ 20 + e.task * 2 ^ 16 + e.source), e.ft, e.value, e.fn]) 0) := by
  refine h.service_ok (q := 0x01) rfl rfl (.inr hb) (fun d => Dyn.store _ (d.setPolder _ _) _ _ _) ?_
  simp only [svcEvqPop, Dyn.issued_evq, hsome]

/-- The error task takes its next cause (R148). -/
theorem Issues.exec_errInfo (h : Issues s p 2 9 t) {x : Nat} {l : List Nat}
    (hcauses : (s.dyn.polder p.toNat).causes = x :: l) :
    exec (.errInfo p) s = .next (s.served p 2 9 t (fun d => d.setPolder p.toNat fun z => { z with causes := l })
      (BitVec.ofNat 32 x)) := by
  refine h.service_ok (q := 0x02) rfl rfl (.inl rfl) (fun d => d.setPolder _ _) ?_
  simp only [svcErrInfo, Dyn.issued_causes, hcauses]

theorem Issues.exec_errInfo_empty (h : Issues s p 2 k t) (hno : (s.dyn.polder p.toNat).causes = [] ∨ k ≠ 9) :
    exec (.errInfo p) s = .next (s.failed p 2 k t 4) := by
  refine h.service_failed (q := 0x02) rfl rfl (.inl rfl) (e := 4) ?_
  simp only [svcErrInfo, Dyn.issued_causes]
  split
  case h_1 hcauses => rcases hno with hno | hno <;> simp_all
  case h_2 => rfl

theorem Issues.exec_flags (h : Issues s p 2 k t) :
    exec (.flags p) s = .next (s.served p 2 k t
      (fun d => d.setPolder p.toNat fun y => { y with sat := false, divz := false })
      (BitVec.ofNat 32 (b2n (s.dyn.polder p.toNat).sat + 2 * b2n (s.dyn.polder p.toNat).divz))) := by
  refine h.service_ok (q := 0x03) rfl rfl (.inl rfl) (fun d => d.setPolder _ _) ?_
  simp only [svcFlags, Dyn.issued_polder]

/-- BUDGET answers what its own charge has left. -/
theorem Issues.exec_budget (h : Issues s p 2 k t) :
    exec (.budget p) s = .next (s.served p 2 k t id (BitVec.ofNat 32 ((s.dyn.polder p.toNat).bLogic - 2))) := by
  refine h.service_ok (q := 0x06) rfl rfl (.inl rfl) id ?_
  simp only [svcBudget, Dyn.issued_polder, id]

/-- QMUL saturates as the word arithmetic does. -/
theorem Issues.exec_qmul (h : Issues s p 3 k t) (hb : BlockAt s p t 2) {v : Int}
    (hv : rnd ((s.blockWord p t 0).toInt * (s.blockWord p t 1).toInt) (2 ^ 16) = v) :
    exec (.qmul p) s = .next (s.served p 3 k t
      (fun d => if v > 2 ^ 31 - 1 ∨ v < -2 ^ 31 then d.setSat p.toNat else d) (satWord v).1) := by
  refine h.service_ok (q := 0x04) rfl rfl (.inr hb) (fun d => if v > 2 ^ 31 - 1 ∨ v < -2 ^ 31 then d.setSat _ else d) ?_
  simp only [svcQmul, s.issued_arg p t (show 0 < 2 by decide), s.issued_arg p t (show 1 < 2 by decide), hv, Dyn.arith,
    satWord_snd, decide_eq_true_eq]

theorem Issues.exec_stx (h : Issues s p 3 k t) (hb : BlockAt s p t 3) {i : Int}
    (hi : (s.blockWord p t 0).toInt + (s.blockWord p t 1).toInt = i) :
    exec (.stx p) s = .next (if s.cfg.inWindow p.toNat i 1 then
        s.served p 3 k t (fun d => d.setMword s.cfg p.toNat i.toNat (s.blockWord p t 2)) 0
      else s.failed p 3 k t 6) := by
  have hword {j : Nat} (hj : j < 3) := s.issued_arg p t (n := 3) hj
  split
  case isTrue hin =>
    refine h.service_ok (q := 0x05) rfl rfl (.inr hb) (fun d => d.setMword _ _ _ _) ?_
    simp only [svcStx, hword (show 0 < 3 by decide), hword (show 1 < 3 by decide), hword (show 2 < 3 by decide), hi, hin,
      if_true]
  case isFalse hout =>
    refine h.service_failed (q := 0x05) rfl rfl (.inr hb) (e := 6) ?_
    simp only [svcStx, hword (show 0 < 3 by decide), hword (show 1 < 3 by decide), hi, Bool.eq_false_iff.2 hout, Bool.false_eq_true,
      if_false]

end

/-- Settles O21, service by service. -/
theorem basicServices : Obligations.BasicServices := by
  intro s p n k t h x a mine
  refine ⟨fun hn hb => ?evqPop, fun hn => ⟨?errInfo, ?flags, ?budget⟩, fun hn hb => ?qmul, fun hn hb => ?stx,
    fun q hn hq => ?invalid⟩ <;> subst hn
  case evqPop =>
    split
    case h_1 e hsome => exact h.exec_evqPop hb hsome
    case h_2 hnone => exact h.exec_evqPop_empty hb hnone
  case errInfo =>
    split
    case h_1 y l hcauses =>
      split
      case isTrue hk => subst hk; exact h.exec_errInfo hcauses
      case isFalse hk => exact h.exec_errInfo_empty (.inr hk)
    case h_2 hcauses => exact h.exec_errInfo_empty (.inl hcauses)
  case flags => exact h.exec_flags
  case budget => exact h.exec_budget
  case qmul => exact h.exec_qmul hb rfl
  case stx => exact h.exec_stx hb rfl
  case invalid => exact h.exec_sysInvalid hq

end Sys2Proof.Machine
end

section
/-! SUPPORT. The services of channels, journal and registers (R152, R299, R313, R450). -/

namespace Sys2Proof.Machine

/-! ## What each service answers -/

section
variable {c : Cfg} {d : Dyn} {p k a : Nat} {w : Word} {b : List Word}

/-- The diagnostic word of a digital channel that `p` may read (R313). -/
theorem svcChanDiag_digital (hkind : (arg b 0).toNat = 0) {n : Nat} (hn : (arg b 1).toNat = n) (hdig : n < 96)
    (hread : c.inClass p (32 * (8 + n)) = 1) :
    svcChanDiag c d p k w a b = (d, .ok
      ((c.rd (Reg.DIO_CFG n) &&& 0x07FFC000) |||
        BitVec.ofNat 32 (c.get (F.DIO_OCFG_SAFE n) * 256 + b2n (c.pairDo n) * 128) |||
        (d.viewWord p (8 + n) &&& 0x80000000))) := by
  have hlisted : ¬ 95 < n := by omega
  simp only [svcChanDiag, hkind, hn, if_neg hlisted, hread, ne_eq, not_true, if_false]

/-- A wire-break test of an owned input (R299): BUSY while one is requested or runs, and in a recovery (log entry 106). -/
theorem svcChanTest_owned {n : Nat} (hn : (arg b 0).toNat = n) (hdig : n < 96) (howner : c.digOwner n = some p)
    (hin : c.isOut n = false) (hwb : c.flag (F.DIO_CFG_WB_EN n) = true) :
    svcChanTest c d p k w a b =
      if (d.dig n).wb = true ∨ (d.viewWord p (8 + n)).bit (F.DIO_STATUS_WB_ACTIVE n).lo = true ∨
          d.recoveringView c p n = true then (d, .error 3)
      else (d.setDig n fun s => { s with wb := true }, .ok 0) := by
  simp only [svcChanTest, hn]
  simp [hdig, howner, hin, hwb, or_assoc]

theorem svcJrnFreeze_ok {n : Nat} (hn : (arg b 0).toNat = n) (hcause : n ≤ 65535) :
    svcJrnFreeze c d p k w a b = ({ d with jrn := { d.jrn with requests := d.jrn.requests ++ [(p, n)] } }, .ok 0) := by
  have hfits : ¬ 65535 < n := by omega
  simp only [svcJrnFreeze, hn, if_neg hfits]

/-- A granted LK register that is none of those shown by the view or by P0. -/
theorem svcRegRead_lk {n : Nat} (hn : (arg b 0).toNat = n) (hal : n % 4 = 0) (hgrant : c.granted p n false = true)
    (hlk : isLk n = true) (hp0 : p0Register n = false) (hlatched : latchedWord n = none) :
    svcRegRead c d p k w a b = (d.setMword c p (a + 1) (c.rd n), .ok (c.rd n)) := by
  simp only [svcRegRead, hn]
  simp [hal, hgrant, hlk, hp0, hlatched]

/-- The registers that P0 may write are in the register tables (R127). -/
theorem p0Register_row {n : Nat} (h : p0Register n = true) : ∃ r, regRow n = some r := by
  rw [← Option.isSome_iff_exists]
  simp only [p0Register, Bool.or_eq_true, beq_iff_eq] at h
  rcases h with (rfl | rfl) | rfl <;> decide +kernel

/-- A granted write of one of the three by P0: it waits for the commit, reserved bits dropped. -/
theorem svcRegWrite_p0 {n : Nat} (hn : (arg b 0).toNat = n) (hal : n % 4 = 0) (hgrant : c.granted 0 n true = true)
    (hp0 : p0Register n = true) {r : RegRow} (hrow : regRow n = some r) {v : Word} (hv : arg b 1 = v) :
    svcRegWrite c d 0 k w a b = (d.p0Write n (v &&& r.mask), .ok 0) := by
  simp only [svcRegWrite, hn, hv]
  simp [hal, hgrant, hp0, hrow]

end

/-! ## Their commands -/

section
variable {s : State} {p : BitVec 4} {k : Nat} {t : TaskCtx}

theorem Issues.exec_chanTest (h : Issues s p 4 k t) (hb : BlockAt s p t 1) {x : Nat}
    (hx : (s.blockWord p t 0).toNat = x) (hdig : x < 96) (howner : s.cfg.digOwner x = some p.toNat)
    (hin : s.cfg.isOut x = false) (hwb : s.cfg.flag (F.DIO_CFG_WB_EN x) = true) :
    exec (.chanTest p) s = .next (
      if (s.dyn.dig x).wb = true ∨ (s.dyn.viewWord p.toNat (8 + x)).bit (F.DIO_STATUS_WB_ACTIVE x).lo = true ∨
          s.dyn.recoveringView s.cfg p.toNat x = true then s.failed p 4 k t 3
      else s.served p 4 k t (fun d => d.setDig x fun z => { z with wb := true }) 0) := by
  have hsvc := svcChanTest_owned (d := s.dyn.issued p.toNat 4) (k := k) (w := t.wa) (a := t.wa.toInt.toNat)
    (b := (s.dyn.issued p.toNat 4).block s.cfg p.toNat t.wa.toInt.toNat 1)
    (by rw [s.issued_arg p t (show 0 < 1 by decide), hx]) hdig howner hin hwb
  simp only [Dyn.issued_dig, Dyn.issued_viewWord, Dyn.issued_recoveringView] at hsvc
  split_ifs at hsvc ⊢
  · exact h.service_failed (q := 0x41) rfl rfl (.inr hb) (e := 3) hsvc
  · exact h.service_ok (q := 0x41) rfl rfl (.inr hb) (fun d => d.setDig _ _) hsvc

end

/-- Settles O25, service by service; the BUSY of CHAN_TEST is log entry 106. -/
theorem channelAndRegisterServices : Obligations.ChannelAndRegisterServices := by
  intro s p k t h x y
  have hword {i m : Nat} (hi : i < m) := s.issued_arg p t (n := 4) hi
  have hx {m : Nat} (hm : 0 < m) := congrArg BitVec.toNat (hword hm)
  refine ⟨fun hb hkind hdig hread => ?chanDiag, fun hb => h.exec_chanTest hb rfl, fun hb hcause => ?jrnFreeze,
    fun hb hal hgrant hlk hp0 hlatched => ?regRead, fun hb hal hgrant hp hp0 => ?regWrite⟩
  case chanDiag =>
    refine h.service_ok (q := 0x40) rfl rfl (.inr hb) id ?_
    have hy := congrArg BitVec.toNat (hword (show 1 < 2 by decide))
    rw [svcChanDiag_digital ((hx (by decide)).trans hkind) hy hdig hread, Dyn.issued_viewWord]
    rfl
  case jrnFreeze =>
    exact h.service_ok (q := 0x42) rfl rfl (.inr hb) (fun d => { d with jrn := { d.jrn with requests := _ ++ _ } })
      (svcJrnFreeze_ok (hx (by decide)) hcause)
  case regRead =>
    exact h.service_ok (q := 0x60) rfl rfl (.inr hb) (fun d => d.setMword _ _ _ _)
      (svcRegRead_lk (hx (by decide)) hal hgrant hlk hp0 hlatched)
  case regWrite =>
    subst hp
    obtain ⟨r, hrow⟩ := p0Register_row hp0
    exact ⟨r.mask, congrArg (Option.map (·.mask)) hrow,
      h.service_ok (q := 0x61) rfl rfl (.inr hb) (fun d => d.p0Write _ _)
        (svcRegWrite_p0 (hx (by decide)) hal hgrant hp0 hrow (hword (by decide)))⟩

end Sys2Proof.Machine
end

section
/-! SUPPORT. The commands of LGE_CMD (R155, R156). -/

namespace Sys2Proof.Machine

section
variable {d : Dyn} {code p bp : Nat}

/-- The fields of a word written to LGE_CMD. -/
theorem lgeWord_fields (hcode : code < 16) (hp : p < 16) (hbp : bp < 16) {w : Word}
    (hw : w = BitVec.ofNat 32 (code + p * 2 ^ 16 + bp * 2 ^ 20)) :
    w.field 0 4 = code ∧ w.field 16 4 = p ∧ w.field 20 4 = bp := by
  subst hw
  simp only [Word.field, BitVec.toNat_ofNat, Nat.shiftRight_eq_div_pow]
  omega

/-- A write of LGE_CMD while none is PENDING. -/
theorem Dyn.lgeWrite_free (h : d.get F.LGE_CMD_STAT_STATUS ≠ 1) (hcode : code < 16) (hp : p < 16) (hbp : bp < 16) :
    d.lgeWrite (BitVec.ofNat 32 (code + p * 2 ^ 16 + bp * 2 ^ 20)) =
      (d.lgeStat code 1).stage_ Reg.LGE_CMD
        (BitVec.ofNat 32 (code + p * 16 + bp * 256 + d.get F.LGE_CMD_ARG_ARG * 4096)) := by
  obtain ⟨hc, hq, hb⟩ := lgeWord_fields hcode hp hbp rfl
  simp only [Dyn.lgeWrite, if_neg h, hc, hq, hb]

theorem Dyn.lgeWrite_pending (h : d.get F.LGE_CMD_STAT_STATUS = 1) (w : Word) : d.lgeWrite w = d := if_pos h

end

section
variable {s : State} {who : Requester}

/-- LGE_CMD_ARG is loaded before LGE_CMD is written, where the command has one. -/
def Dyn.lgeArg (d : Dyn) (arg : Option (BitVec 19)) : Dyn :=
  match arg with
  | some x => d.put F.LGE_CMD_ARG_ARG x.toNat
  | none => d

theorem Dyn.lgeArg_status (d : Dyn) (arg : Option (BitVec 19)) :
    (d.lgeArg arg).get F.LGE_CMD_STAT_STATUS = d.get F.LGE_CMD_STAT_STATUS := by
  cases arg with
  | none => rfl
  | some x => exact d.get_put_ne _ (by decide)

theorem Dyn.lgeArg_some (d : Dyn) (x : BitVec 19) : (d.lgeArg (some x)).get F.LGE_CMD_ARG_ARG = x.toNat :=
  (d.get_put_same _ _ (by decide)).trans (Nat.mod_eq_of_lt x.isLt)

/-- A granted command, by LGE_CMD_STAT. -/
theorem lgeCommand_eq (hlive : Live s) (hmay : MayWrite s who Reg.LGE_CMD) (code p bp : Nat) (arg : Option (BitVec 19)) :
    lgeCommand who code p bp (arg.map BitVec.toNat) s =
      .next (s.withDyn (((s.dyn.by_ who).lgeArg arg).lgeWrite (BitVec.ofNat 32 (code + p * 2 ^ 16 + bp * 2 ^ 20)))) := by
  rw [lgeCommand, State.upd_withDyn hlive, Dyn.gated_granted hmay]
  cases arg <;> rfl

theorem lgeCommand_free (hlive : Live s) (hmay : MayWrite s who Reg.LGE_CMD)
    (hfree : s.dyn.get F.LGE_CMD_STAT_STATUS ≠ 1) {code : Nat} (hcode : code < 16) (p bp : BitVec 4)
    (arg : Option (BitVec 19)) :
    lgeCommand who code p.toNat bp.toNat (arg.map BitVec.toNat) s =
      .next (s.withDyn ((((s.dyn.by_ who).lgeArg arg).lgeStat code 1).stage_ Reg.LGE_CMD (BitVec.ofNat 32
        (code + p.toNat * 16 + bp.toNat * 256 + ((s.dyn.by_ who).lgeArg arg).get F.LGE_CMD_ARG_ARG * 4096)))) := by
  rw [lgeCommand_eq hlive hmay, Dyn.lgeWrite_free _ hcode p.isLt bp.isLt]
  rwa [Dyn.lgeArg_status]

theorem lgeCommand_pending (hlive : Live s) (hmay : MayWrite s who Reg.LGE_CMD)
    (hpending : s.dyn.get F.LGE_CMD_STAT_STATUS = 1) (code p bp : Nat) (arg : Option (BitVec 19)) :
    lgeCommand who code p bp (arg.map BitVec.toNat) s = .next (s.withDyn ((s.dyn.by_ who).lgeArg arg)) := by
  rw [lgeCommand_eq hlive hmay, Dyn.lgeWrite_pending]
  rwa [Dyn.lgeArg_status]

end

/-- Settles O27: the eight commands differ in their code, breakpoint and argument alone. -/
theorem logicEngineCommands : Obligations.LogicEngineCommands := by
  intro s who p b x hlive hmay d goes arg
  refine ⟨fun hfree => ?free, fun hpending => ?pending⟩
  case free =>
    have hplain {code : Nat} (hcode : code < 16) (bp : BitVec 4) :
        lgeCommand who code p.toNat bp.toNat none s = goes d code bp.toNat arg :=
      lgeCommand_free hlive hmay hfree hcode p bp none
    have harg {code : Nat} (hcode : code < 16) (bp : BitVec 4) :
        lgeCommand who code p.toNat bp.toNat (some x.toNat) s =
          goes (d.put F.LGE_CMD_ARG_ARG x.toNat) code bp.toNat x.toNat := by
      have hrun := lgeCommand_free hlive hmay hfree hcode p bp (some x)
      rw [Dyn.lgeArg_some] at hrun
      exact hrun
    exact ⟨hplain (by decide) 0, hplain (by decide) 0, hplain (by decide) 0, hplain (by decide) 0, harg (by decide) 0,
      hplain (by decide) 0, harg (by decide) b, hplain (by decide) b⟩
  case pending =>
    have hrun (code bp : Nat) (arg : Option (BitVec 19)) :
        lgeCommand who code p.toNat bp (arg.map BitVec.toNat) s = .next (s.withDyn (d.lgeArg arg)) :=
      lgeCommand_pending hlive hmay hpending code p.toNat bp arg
    exact ⟨hrun _ _ none, hrun _ _ none, hrun _ _ none, hrun _ _ none, hrun _ _ none, hrun _ _ none, hrun _ _ (some x),
      hrun _ _ (some x)⟩

end Sys2Proof.Machine
end

section
/-! SUPPORT. The commands of STN_PL_CMD and STN_TWIN_CMD (R171, R274). -/

namespace Sys2Proof.Machine

/-- The code in a word written to STN_PL_CMD or, with nothing above it, to STN_TWIN_CMD. -/
theorem cmdWord_code {code : Nat} (hcode : code < 16) (q : Nat) :
    Word.field (BitVec.ofNat 32 (code + q * 2 ^ 16)) 0 4 = code := by
  simp only [Word.field, BitVec.toNat_ofNat, Nat.shiftRight_zero]
  omega

section
variable {d : Dyn} {code : Nat}

/-- A write of STN_PL_CMD while none is PENDING. -/
theorem Dyn.plWrite_free (h : d.get F.STN_PL_STAT_STATUS ≠ 1) (hcode : code < 16) (q : Nat) :
    d.plWrite (BitVec.ofNat 32 (code + q * 2 ^ 16)) =
      (d.plStat code 1 0).stage_ Reg.STN_PL_CMD (BitVec.ofNat 32 (code + q * 2 ^ 16)) := by
  simp only [Dyn.plWrite, if_neg h, cmdWord_code hcode]

/-- A write of STN_TWIN_CMD while none is PENDING. -/
theorem Dyn.twinWrite_free (h : d.get F.STN_TWIN_STAT_STATUS ≠ 1) (hcode : code < 16) :
    d.twinWrite (BitVec.ofNat 32 code) = (d.twinStat code 1).stage_ Reg.STN_TWIN_CMD (BitVec.ofNat 32 code) := by
  have hw : Word.field (BitVec.ofNat 32 code) 0 4 = code := by simpa using cmdWord_code hcode 0
  simp only [Dyn.twinWrite, if_neg h, hw]

end

section
variable (d : Dyn)

/-- A message to the peer changes no register. -/
theorem Dyn.sendShl_regs (kind : Nat) (m : Sent) : (d.sendShl kind m).regs = d.regs := by
  unfold Dyn.sendShl
  split_ifs <;> rfl

/-- A write that waits for the latch changes no register yet, forwarded to the peer or not (R256). -/
theorem Dyn.stage_regs (addr : Nat) (v : Word) : (d.stage_ addr v).regs = d.regs := by
  unfold Dyn.stage_
  extract_lets n w d'
  split_ifs
  · exact Dyn.sendShl_regs ..
  · rfl

theorem Dyn.get_stage (addr : Nat) (v : Word) (f : Fld) : (d.stage_ addr v).get f = d.get f := by
  simp only [Dyn.get, Dyn.rd, Dyn.stage_regs]

/-- STN_TWIN_ARG is written before STN_TWIN_CMD, where the command has one. -/
def Dyn.twinArgStaged (arg : Option Word) : Dyn :=
  match arg with
  | some a => d.stage_ Reg.STN_TWIN_ARG a
  | none => d

theorem Dyn.get_twinArgStaged (arg : Option Word) (f : Fld) : (d.twinArgStaged arg).get f = d.get f := by
  cases arg with
  | none => rfl
  | some a => exact d.get_stage ..

end

section
variable {s : State} {who : Requester} {code : Nat}

theorem plCommand_free (hlive : Live s) (hmay : MayWrite s who Reg.STN_PL_CMD)
    (hfree : s.dyn.get F.STN_PL_STAT_STATUS ≠ 1) (hcode : code < 16) (q : Nat) :
    plCommand who code q s = .next (s.withDyn (((s.dyn.by_ who).plStat code 1 0).stage_ Reg.STN_PL_CMD
      (BitVec.ofNat 32 (code + q * 2 ^ 16)))) := by
  rw [plCommand, State.upd_withDyn hlive, Dyn.gated_granted hmay, Dyn.plWrite_free (d := s.dyn.by_ who) hfree hcode]

/-- A granted command with its argument, by STN_TWIN_STAT. -/
theorem twinCommand_eq (hlive : Live s) (hmay : MayWrite s who Reg.STN_TWIN_CMD) (arg : Option Word) :
    twinCommand who code arg s =
      .next (s.withDyn (((s.dyn.by_ who).twinArgStaged arg).twinWrite (BitVec.ofNat 32 code))) := by
  rw [twinCommand, State.upd_withDyn hlive, Dyn.gated_granted hmay]
  cases arg <;> rfl

theorem twinCommand_free (hlive : Live s) (hmay : MayWrite s who Reg.STN_TWIN_CMD)
    (hfree : s.dyn.get F.STN_TWIN_STAT_STATUS ≠ 1) (hcode : code < 16) (arg : Option Word) :
    twinCommand who code arg s = .next (s.withDyn
      ((((s.dyn.by_ who).twinArgStaged arg).twinStat code 1).stage_ Reg.STN_TWIN_CMD (BitVec.ofNat 32 code))) := by
  rw [twinCommand_eq hlive hmay, Dyn.twinWrite_free _ hcode]
  rwa [Dyn.get_twinArgStaged]

end

/-- Settles O28: the commands of a register differ in their code, polder and argument alone, and the argument's write
leaves STN_TWIN_STAT alone. -/
theorem programLifeAndTwinCommands : Obligations.ProgramLifeAndTwinCommands := by
  intro s who p unitB restart hlive d
  refine ⟨?programLife, ?twin⟩
  case programLife =>
    intro hmay hfree goes
    have hrun {code : Nat} (hcode : code < 16) (q : Nat) : plCommand who code q s = goes code q :=
      plCommand_free hlive hmay hfree hcode q
    exact ⟨hrun (by decide) _, hrun (by decide) _, hrun (by decide) _, hrun (by decide) 0, hrun (by decide) 0,
      hrun (by decide) _⟩
  case twin =>
    intro hmay hfree goes arg
    have hplain {code : Nat} (hcode : code < 16) : twinCommand who code none s = goes d code :=
      twinCommand_free hlive hmay hfree hcode none
    have harg {code : Nat} (hcode : code < 16) :
        twinCommand who code (some (twinArg unitB restart)) s = goes arg code :=
      twinCommand_free hlive hmay hfree hcode (some _)
    exact ⟨hplain (by decide), harg (by decide), harg (by decide), hplain (by decide)⟩

end Sys2Proof.Machine
end

section
/-! SUPPORT. The services of the loop contexts (R202, R207–R209). -/

namespace Sys2Proof.Machine

/-- A window that holds a block holds its beginning. -/
theorem BlockAt.shorter {s : State} {p : BitVec 4} {t : TaskCtx} {m n : Nat} (h : BlockAt s p t n) (hm : m ≤ n) :
    BlockAt s p t m := by
  simp only [BlockAt, Cfg.inWindow, decide_eq_true_eq] at h ⊢
  omega

/-- The low bit of a bank number, 0 or 1, tells bank B. -/
theorem Word.bit_zero_of_lt_two {w : Word} {n : Nat} (hw : w.toNat = n) (h : n < 2) : w.bit 0 = decide (n = 1) := by
  subst hw
  rw [Word.bit, BitVec.getLsbD, Nat.testBit_zero, decide_eq_decide]
  omega

/-! ## What each service answers -/

section
variable {c : Cfg} {d : Dyn} {p k a n code : Nat} {w : Word} {b : List Word}

/-- A write that R208 does not refuse takes the place of an earlier one of its item (R209). -/
theorem svcLoopWrite_accepted (hn : (arg b 0).toNat = n) (hcode : (arg b 1).toNat = code) {v : Word} (hv : arg b 2 = v)
    (howner : c.ownsLoop p n = true) (hitem : writableItems.contains code = true)
    (hbank : ¬ (bankBase (d.loop n).bankB ≤ code ∧ code ≤ bankBase (d.loop n).bankB + 4))
    (hok : c.loopOk n code (fun x => if x = code then v.toInt else ((d.loop n).latest x).toInt) = true) :
    svcLoopWrite c d p k w a b = (d.setLoop n fun y =>
      { y with writes := y.writes.filter (fun w => w.1 != code) ++ [(code, v)] }, .ok 0) := by
  have hinactive :
      (decide (bankBase (d.loop n).bankB ≤ code) && decide (code ≤ bankBase (d.loop n).bankB + 4)) = false := by
    rw [← Bool.decide_and, decide_eq_false hbank]
  simp only [svcLoopWrite, hn, hcode, hv, howner, hitem, hinactive, hok, Bool.not_true, Bool.false_eq_true,
    if_false, if_true]

theorem svcLoopRead_item (hn : (arg b 0).toNat = n) (hcode : (arg b 1).toNat = code) (howner : c.ownsLoop p n = true)
    {v : Word} (hitem : (d.loop n).readItem code = some v) : svcLoopRead c d p k w a b = (d, .ok v) := by
  simp only [svcLoopRead, hn, hcode, howner, hitem, Bool.not_true, Bool.false_eq_true, if_false]

theorem svcLoopRead_unknown (hn : (arg b 0).toNat = n) (hcode : (arg b 1).toNat = code) (howner : c.ownsLoop p n = true)
    (hitem : (d.loop n).readItem code = none) : svcLoopRead c d p k w a b = (d, .error 2) := by
  simp only [svcLoopRead, hn, hcode, howner, hitem, Bool.not_true, Bool.false_eq_true, if_false]

/-- A request for bank 0 or 1: a swap waits unless that bank is the active one (R202). -/
theorem svcLoopBank_request (hn : (arg b 0).toNat = n) (hcode : (arg b 1).toNat = code) (howner : c.ownsLoop p n = true)
    (hbank : code < 2) :
    svcLoopBank c d p k w a b =
      (d.setLoop n fun y => { y with swap := decide (code = 1) != (d.loop n).bankB }, .ok 0) := by
  have hlisted : ¬ 1 < code := by omega
  simp only [svcLoopBank, hn, hcode, howner, Word.bit_zero_of_lt_two hcode hbank, if_neg hlisted, Bool.not_true,
    Bool.false_eq_true, if_false]
  rfl

/-- The ownership is the first that each of the three looks at (R208). -/
theorem loopService_notOwned {f : Service} (hf : f ∈ [svcLoopWrite, svcLoopRead, svcLoopBank])
    (hn : (arg b 0).toNat = n) (hother : c.ownsLoop p n = false) : f c d p k w a b = (d, .error 1) := by
  simp only [List.mem_cons, List.not_mem_nil, or_false] at hf
  rcases hf with rfl | rfl | rfl
  · simp only [svcLoopWrite, hn, hother, Bool.not_false, if_true]
  · simp only [svcLoopRead, hn, hother, Bool.not_false, if_true]
  · simp only [svcLoopBank, hn, hother, Bool.not_false, if_true]

end

/-! ## Their commands -/

section
variable {s : State} {p : BitVec 4} {k n code : Nat} {t : TaskCtx}

theorem Issues.exec_loopWrite (h : Issues s p 4 k t) (hb : BlockAt s p t 3) (hn : (s.blockWord p t 0).toNat = n)
    (hcode : (s.blockWord p t 1).toNat = code) (howner : s.cfg.ownsLoop p.toNat n = true)
    (hitem : writableItems.contains code = true)
    (hbank : ¬ (bankBase (s.dyn.loop n).bankB ≤ code ∧ code ≤ bankBase (s.dyn.loop n).bankB + 4))
    (hok : s.cfg.loopOk n code (fun x => if x = code then (s.blockWord p t 2).toInt
      else ((s.dyn.loop n).latest x).toInt) = true) :
    exec (.loopWrite p) s = .next (s.served p 4 k t (fun d => d.setLoop n fun y =>
      { y with writes := y.writes.filter (fun w => w.1 != code) ++ [(code, s.blockWord p t 2)] }) 0) := by
  have hword {i : Nat} (hi : i < 3) := s.issued_arg p t (n := 4) hi
  refine h.service_ok (q := 0x10) rfl rfl (.inr hb) (fun d => d.setLoop _ _) ?_
  exact svcLoopWrite_accepted (d := s.dyn.issued p.toNat 4) (by rw [hword (by decide), hn])
    (by rw [hword (by decide), hcode]) (hword (by decide)) howner hitem hbank hok

theorem Issues.exec_loopRead (h : Issues s p 4 k t) (hb : BlockAt s p t 2) (hn : (s.blockWord p t 0).toNat = n)
    (hcode : (s.blockWord p t 1).toNat = code) (howner : s.cfg.ownsLoop p.toNat n = true) :
    exec (.loopRead p) s = .next (match (s.dyn.loop n).readItem code with
      | some w => s.served p 4 k t id w
      | none => s.failed p 4 k t 2) := by
  have hword {i : Nat} (hi : i < 2) := s.issued_arg p t (n := 4) hi
  have hn' := (congrArg BitVec.toNat (hword (show 0 < 2 by decide))).trans hn
  have hcode' := (congrArg BitVec.toNat (hword (show 1 < 2 by decide))).trans hcode
  split
  case h_1 w hitem =>
    exact h.service_ok (q := 0x11) rfl rfl (.inr hb) id (svcLoopRead_item hn' hcode' howner hitem)
  case h_2 hitem =>
    exact h.service_failed (q := 0x11) rfl rfl (.inr hb) (svcLoopRead_unknown hn' hcode' howner hitem)

theorem Issues.exec_loopBank (h : Issues s p 4 k t) (hb : BlockAt s p t 2) (hn : (s.blockWord p t 0).toNat = n)
    (hcode : (s.blockWord p t 1).toNat = code) (howner : s.cfg.ownsLoop p.toNat n = true) (hbank : code < 2) :
    exec (.loopBank p) s = .next (s.served p 4 k t (fun d => d.setLoop n fun y =>
      { y with swap := decide (code = 1) != (s.dyn.loop n).bankB }) 0) := by
  have hword {i : Nat} (hi : i < 2) := s.issued_arg p t (n := 4) hi
  refine h.service_ok (q := 0x12) rfl rfl (.inr hb) (fun d => d.setLoop _ _) ?_
  exact svcLoopBank_request (by rw [hword (by decide), hn]) (by rw [hword (by decide), hcode]) howner hbank

/-- A call of a loop service on a context of another polder, or on none. -/
theorem Issues.loopCall_notOwned (h : Issues s p 4 k t) {q m : Nat} {f : Service} (hs : serviceOf q = some (m, f))
    (hc : sysCost q s.cfg s.dyn p.toNat t = 4) (hf : f ∈ [svcLoopWrite, svcLoopRead, svcLoopBank]) (hm : 0 < m)
    (hb : BlockAt s p t m) (hother : s.cfg.ownsLoop p.toNat (s.blockWord p t 0).toNat = false) :
    sysCall p q s = .next (s.failed p 4 k t 1) :=
  h.service_failed hs hc (.inr hb) (loopService_notOwned hf (congrArg BitVec.toNat (s.issued_arg p t hm)) hother)

end

/-- Settles O22, service by service. -/
theorem loopServices : Obligations.LoopServices := by
  intro s p k t h c l code
  refine ⟨fun hb howner hitem hbank hok => ?write,
    fun hb howner => ⟨?read, fun hbank => ?bank⟩, fun hb hother => ⟨?writeOther, ?readOther, ?bankOther⟩⟩
  case write => exact h.exec_loopWrite hb rfl rfl howner hitem hbank hok
  case read => exact h.exec_loopRead hb rfl rfl howner
  case bank => exact h.exec_loopBank hb rfl rfl howner hbank
  case writeOther => exact h.loopCall_notOwned (q := 0x10) rfl rfl (by simp) (by decide) hb hother
  case readOther => exact h.loopCall_notOwned (q := 0x11) rfl rfl (by simp) (by decide) (hb.shorter (by decide)) hother
  case bankOther => exact h.loopCall_notOwned (q := 0x12) rfl rfl (by simp) (by decide) (hb.shorter (by decide)) hother

end Sys2Proof.Machine
end

section
/-! SUPPORT. The services of the solver slots (R150, R218, R222, R240). -/

namespace Sys2Proof.Machine

@[simp] theorem Dyn.issued_slot (d : Dyn) (p n m : Nat) : (d.issued p n).slot m = d.slot m := rfl

@[simp] theorem Dyn.issued_viewRec (c : Cfg) (d : Dyn) (p n q m : Nat) :
    (d.issued p n).viewRec c q m = d.viewRec c q m := by
  have hview : ((d.issued p n).polder q).slvView = (d.polder q).slvView := by
    rcases eq_or_ne q p with rfl | hq
    · rw [Dyn.issued_polder]
    · rw [d.issued_polder_ne p n hq]
  rw [Dyn.viewRec, hview, Dyn.viewRec]

/-- The charge by a count in a block word within the window (R150). -/
theorem wordCost_inWindow {c : Cfg} {d : Dyn} {p m i : Nat} {t : TaskCtx} (base : Nat)
    (hb : c.inWindow p t.wa.toInt m = true) (hi : i < m) :
    wordCost base i c d p t = base + ((d.mword c p (t.wa.toInt.toNat + i)).toNat + 3) / 4 := by
  simp only [Cfg.inWindow, decide_eq_true_eq] at hb
  have hin : c.inWindow p (t.wa.toInt + i) 1 = true := by
    simp only [Cfg.inWindow, decide_eq_true_eq]
    omega
  have haddr : (t.wa.toInt + i).toNat = t.wa.toInt.toNat + i := by omega
  simp only [wordCost, hin, haddr, if_true]

/-! ## What each service answers -/

/-- The words captured for the measurements `ms` of a job that `p` submits: from its view, or from its memory (R218). -/
def Dyn.captured (c : Cfg) (d : Dyn) (p : Nat) (ms : List Meas) : List Word :=
  ms.map fun m => if m.fromView then d.viewWord p m.index else d.mword c p m.index

@[simp] theorem Dyn.issued_captured (c : Cfg) (d : Dyn) (p n q : Nat) (ms : List Meas) :
    (d.issued p n).captured c q ms = d.captured c q ms := by
  simp only [Dyn.captured, Dyn.issued_viewWord, Dyn.issued_mword]

/-- Slot `q` with a job of `p` queued: the measurements `ws` and frame number `fn` captured, the deadline at T + `ofs`
(R218). -/
def Dyn.submitted (d : Dyn) (p q ofs : Nat) (ws : List Word) (fn : Word) : Dyn :=
  ((d.setJob q fun _ => { Job.init with
      state := 1, at_ := d.now - d.sinceT + d.laneNs p, meas := ws, fn := fn, frame := d.latches, offset := ofs,
      left := rangeCost ws.length }).put (F.SLV_JOB_CYC_CYCLES q) 0).wr (Reg.SLV_JOB_DL q)
    (d.slc.tFt + BitVec.ofNat 32 ofs)

section
variable {c : Cfg} {d : Dyn} {p k a q ofs cnt : Nat} {w : Word} {b : List Word}

/-- The owner's submission of a deadline that R218 allows, to a slot with no unfinished job. -/
theorem svcSlvSubmit_accepted (hq : (arg b 0).toNat = q) (hofs : (arg b 1).toNat = ofs) (howner : c.ownsSlot p q = true)
    (hlo : 1000 ≤ ofs) (hhi : ofs ≤ 10 ^ 9) (hfree : (d.slot q).job.busy = false) :
    svcSlvSubmit c d p k w a b =
      (d.submitted p q ofs (d.captured c p (c.template q).meas) (d.viewWord p 0x250), .ok (d.viewWord p 0x250)) := by
  have hrange : (decide (ofs < 1000) || decide (10 ^ 9 < ofs)) = false := by
    rw [decide_eq_false (by omega), decide_eq_false (by omega)]
    rfl
  simp only [svcSlvSubmit, hq, hofs, howner, hrange, hfree, Bool.not_true, Bool.false_eq_true, if_false, Dyn.submitted,
    Dyn.captured, List.length_map]
  rfl

/-- A read of `cnt` words of a readable record from word `ofs` on, to a destination within the window (R240). -/
theorem svcSlvRead_record (hq : (arg b 0).toNat = q) (hofs : (arg b 1).toNat = ofs) (hcnt : (arg b 2).toNat = cnt)
    {dst : Int} (hdst : (arg b 3).toInt = dst) (hslot : q < 8) (hused : c.slvUsed q = true)
    (hread : c.inClass p (32 * (0x284 + q)) = 1) (hpos : 0 < cnt) (hrec : ofs + cnt ≤ c.recLen q)
    (hwindow : c.inWindow p dst cnt = true) :
    svcSlvRead c d p k w a b =
      (d.store c p dst.toNat (((d.viewRec c p q).drop ofs).take cnt), .ok (recWord (d.viewRec c p q) 0)) := by
  have hsome : cnt ≠ 0 := by omega
  simp only [svcSlvRead, hq, hofs, hcnt, hdst]
  simp [hslot, hused, hread, hsome, hrec, hwindow]

/-- The owner's cancellation (R222). -/
theorem svcSlvCancel_owned (hq : (arg b 0).toNat = q) (howner : c.ownsSlot p q = true) :
    svcSlvCancel c d p k w a b = if (d.slot q).job.busy then (d.cancelJob c q, .ok 0) else (d, .error 4) := by
  cases hbusy : (d.slot q).job.busy <;>
    simp only [svcSlvCancel, hq, howner, hbusy, Bool.not_true, Bool.not_false, Bool.false_eq_true, if_true, if_false]

end

/-! ## Their commands -/

section
variable {s : State} {p : BitVec 4} {n k q ofs cnt : Nat} {t : TaskCtx}

theorem Issues.exec_slvSubmit (h : Issues s p 12 k t) (hb : BlockAt s p t 2) (hq : (s.blockWord p t 0).toNat = q)
    (hofs : (s.blockWord p t 1).toNat = ofs) (howner : s.cfg.ownsSlot p.toNat q = true) (hlo : 1000 ≤ ofs)
    (hhi : ofs ≤ 10 ^ 9) (hfree : (s.dyn.slot q).job.busy = false) :
    exec (.slvSubmit p) s = .next (s.served p 12 k t
      (fun d => d.submitted p.toNat q ofs (s.dyn.captured s.cfg p.toNat (s.cfg.template q).meas)
        (s.dyn.viewWord p.toNat 0x250))
      (s.dyn.viewWord p.toNat 0x250)) := by
  have hword {i : Nat} (hi : i < 2) := s.issued_arg p t (n := 12) hi
  refine h.service_ok (q := 0x20) rfl rfl (.inr hb) (fun d => d.submitted _ _ _ _ _) ?_
  rw [svcSlvSubmit_accepted (d := s.dyn.issued p.toNat 12) (by rw [hword (by decide), hq])
    (by rw [hword (by decide), hofs]) howner hlo hhi hfree, Dyn.issued_captured, Dyn.issued_viewWord]

theorem Issues.exec_slvRead (h : Issues s p n k t) (hb : BlockAt s p t 4) (hn : n = 8 + (cnt + 3) / 4)
    (hq : (s.blockWord p t 0).toNat = q) (hofs : (s.blockWord p t 1).toNat = ofs) (hcnt : (s.blockWord p t 2).toNat = cnt)
    (hslot : q < 8) (hused : s.cfg.slvUsed q = true) (hread : s.cfg.inClass p.toNat (32 * (0x284 + q)) = 1)
    (hpos : 0 < cnt) (hrec : ofs + cnt ≤ s.cfg.recLen q)
    (hwindow : s.cfg.inWindow p.toNat (s.blockWord p t 3).toInt cnt = true) :
    exec (.slvRead p) s = .next (s.served p n k t
      (fun d => d.store s.cfg p.toNat (s.blockWord p t 3).toInt.toNat
        (((s.dyn.viewRec s.cfg p.toNat q).drop ofs).take cnt))
      (recWord (s.dyn.viewRec s.cfg p.toNat q) 0)) := by
  have hword {i : Nat} (hi : i < 4) := s.issued_arg p t (n := n) hi
  have hcost : sysCost 0x21 s.cfg s.dyn p.toNat t = n :=
    calc wordCost 8 2 s.cfg s.dyn p.toNat t
      _ = 8 + ((s.blockWord p t 2).toNat + 3) / 4 := wordCost_inWindow 8 hb (by decide)
      _ = n := by rw [hcnt, hn]
  refine h.service_ok (q := 0x21) rfl hcost (.inr hb) (fun d => d.store _ _ _ _) ?_
  rw [svcSlvRead_record (by rw [hword (by decide), hq]) (by rw [hword (by decide), hofs]) (by rw [hword (by decide), hcnt])
    (by rw [hword (by decide)]) hslot hused hread hpos hrec hwindow, Dyn.issued_viewRec]

theorem Issues.exec_slvCancel (h : Issues s p 4 k t) (hb : BlockAt s p t 1) (hq : (s.blockWord p t 0).toNat = q)
    (howner : s.cfg.ownsSlot p.toNat q = true) :
    exec (.slvCancel p) s = .next (if (s.dyn.slot q).job.busy then
        s.served p 4 k t (fun d => d.cancelJob s.cfg q) 0
      else s.failed p 4 k t 4) := by
  have hsvc := svcSlvCancel_owned (d := s.dyn.issued p.toNat 4) (k := k) (w := t.wa) (a := t.wa.toInt.toNat)
    ((congrArg BitVec.toNat (s.issued_arg p t (n := 4) (show 0 < 1 by decide))).trans hq) howner
  rw [Dyn.issued_slot] at hsvc
  split_ifs at hsvc ⊢
  · exact h.service_ok (q := 0x22) rfl rfl (.inr hb) (fun d => d.cancelJob _ _) hsvc
  · exact h.service_failed (q := 0x22) rfl rfl (.inr hb) (e := 4) hsvc

end

/-- Settles O23, service by service. -/
theorem solverServices : Obligations.SolverServices := by
  intro s p n k t h q ofs v
  refine ⟨fun hn hb howner hlo hhi hfree => ?submit,
    fun cnt hcnt hn hb hslot hused hread hpos hrec hwindow => ?read, fun hn hb howner => ?cancel⟩
  case submit =>
    subst hn
    simpa only [Dyn.submitted, Dyn.captured, List.length_map] using h.exec_slvSubmit hb rfl rfl howner hlo hhi hfree
  case read => exact h.exec_slvRead hb hn rfl rfl hcnt hslot hused hread hpos hrec hwindow
  case cancel =>
    subst hn
    exact h.exec_slvCancel hb rfl howner

end Sys2Proof.Machine
end

section
/-! SUPPORT. Fields of one register beside one another, the passing of time up to a message or an instant, and what the outputs
and the records of an alarm leave of the link between the units (R248, R249, R450). -/

namespace Sys2Proof

/-! ## Fields that share no bit -/

/-- Setting the first field leaves the second alone. -/
abbrev Fld.Apart (f g : Fld) : Prop := g.addr ≠ f.addr ∨ g.lo + g.width ≤ f.lo ∨ f.lo + f.width ≤ g.lo

/-- Setting any of the fields `ws` leaves `g` alone. -/
abbrev Fld.Clear (g : Fld) (ws : List Fld) : Prop := ∀ f ∈ ws, f.Apart g

/-- Setting a bit leaves a field without it alone. -/
theorem Word.field_setBit (w : Word) {lo n i : Nat} (b : Bool) (h : i < lo ∨ lo + n ≤ i) :
    (w.setBit i b).field lo n = w.field lo n := by
  apply Nat.eq_of_testBit_eq
  intro j
  rw [Word.field_testBit, Word.field_testBit]
  by_cases hj : j < n
  · have hbit : (BitVec.ofNat 32 (1 <<< i)).getLsbD (lo + j) = false := by
      rw [BitVec.getLsbD_ofNat, Nat.one_shiftLeft, Nat.testBit_two_pow_of_ne (by omega), Bool.and_false]
    cases b with
    | true => simp [Word.setBit, hbit]
    | false =>
      rw [Word.setBit, if_neg Bool.false_ne_true, BitVec.getLsbD_and, BitVec.getLsbD_not, hbit]
      cases hw : w.getLsbD (lo + j) with
      | true => simp [BitVec.lt_of_getLsbD hw]
      | false => simp
  · simp [hj]

end Sys2Proof

namespace Sys2Proof.Machine

/-! ## Registers and their fields -/

theorem Dyn.get_put_apart (d : Dyn) {f g : Fld} (v : Nat) (hf : f.lo + f.width ≤ 32) (h : f.Apart g) :
    (d.put f v).get g = d.get g := by
  by_cases ha : g.addr = f.addr
  · exact d.get_put_disjoint v ha hf (h.resolve_left fun hne => hne ha)
  · exact d.get_put_ne v ha

theorem Dyn.flag_put_apart (d : Dyn) {f g : Fld} (v : Nat) (hf : f.lo + f.width ≤ 32) (h : f.Apart g) :
    (d.put f v).flag g = d.flag g := by
  rw [Dyn.flag, d.get_put_apart v hf h, Dyn.flag]

theorem Dyn.flag_eq {d d' : Dyn} {f : Fld} (h : d'.get f = d.get f) : d'.flag f = d.flag f := by
  rw [Dyn.flag, h, Dyn.flag]

theorem Dyn.get_regs {d d' : Dyn} (h : d'.regs = d.regs) (f : Fld) : d'.get f = d.get f := Dyn.get_congr (Dyn.rd_congr h _)

/-- Registers that read alike in their one field of 32 bits read alike. -/
theorem Dyn.rd_of_get {d e : Dyn} {a : Nat} (h : e.get ⟨a, 0, 32⟩ = d.get ⟨a, 0, 32⟩) : e.rd a = d.rd a := by
  have hall (w : Word) : w.field 0 32 = w.toNat := Nat.mod_eq_of_lt w.isLt
  exact BitVec.eq_of_toNat_eq (((hall _).symm.trans h).trans (hall _))

/-- A value that fits its field. -/
theorem Dyn.get_put_fits (d : Dyn) {f : Fld} {v : Nat} (hf : f.lo + f.width ≤ 32) (hv : v < 2 ^ f.width) :
    (d.put f v).get f = v :=
  (d.get_put_same f v hf).trans (Nat.mod_eq_of_lt hv)

/-- A saturating count. -/
theorem Dyn.get_bumpBy (d : Dyn) {f : Fld} (n : Nat) (hf : f.lo + f.width ≤ 32) :
    (d.bumpBy f n).get f = min (d.get f + n) (2 ^ f.width - 1) := by
  have hw : 0 < 2 ^ f.width := Nat.two_pow_pos _
  exact d.get_put_fits hf (by omega)

/-- Changes that each leave what `view` shows of the state leave it together. -/
theorem foldl_view {α β : Type} (view : Dyn → α) {f : Dyn → β → Dyn} (hf : ∀ d x, view (f d x) = view d) (l : List β) (d : Dyn) :
    view (l.foldl f d) = view d := by
  induction l generalizing d with
  | nil => rfl
  | cons x l ih => exact (ih _).trans (hf d x)

/-! ## The passing of time -/

/-- Time that passes may set WRAP of TSU_STATUS, and no other field. -/
theorem Dyn.get_ticks_apart (d : Dyn) (n : Nat) {g : Fld} (h : F.TSU_STATUS_WRAP.Apart g) : (d.ticks n).get g = d.get g := by
  by_cases ha : g.addr = Reg.TSU_STATUS
  · have hbit : 12 < g.lo ∨ g.lo + g.width ≤ 12 := by
      rcases h with h | h | h
      · exact absurd ha h
      · exact .inr h
      · exact .inl h
    simp only [Dyn.ticks]
    generalize (if d.flag F.TSU_STATUS_DEEP then (n + 19) / 20 * 20 else n) = m
    by_cases hwrap : ((d.clk.run (d.rd Reg.TSU_INCR).toNat m).ft >>> 56 != d.clk.ft >>> 56) = true
    · rw [if_pos hwrap]
      show (((d.wr Reg.TSU_STATUS ((d.rd Reg.TSU_STATUS).setBit 12 true)).rd g.addr).field g.lo g.width) = _
      rw [ha, Dyn.rd_wr_same, Word.field_setBit _ _ hbit, Dyn.get, ha]
    · rw [if_neg hwrap]
      rfl
  · exact d.get_ticks n ha

/-- `e` is `d` at a later instant: time has passed, and a message may have been noted, and acknowledged. -/
structure Dyn.Later (d e : Dyn) : Prop where
  get : ∀ g : Fld, F.TSU_STATUS_WRAP.Apart g → e.get g = d.get g
  boot : e.boot = d.boot
  nv : e.nv = d.nv
  slc : e.slc = d.slc
  twin : ∃ q r, e.twin = { d.twin with seqIn := q, seqOut := r }

theorem Dyn.later_ticks (d : Dyn) (n : Nat) : d.Later (d.ticks n) :=
  ⟨fun _ h => d.get_ticks_apart n h, d.ticks_boot n, d.ticks_nv n, d.ticks_slc n, ⟨_, _, d.ticks_twin n⟩⟩

theorem Dyn.later_advTo (d : Dyn) (w : Word) : d.Later (d.advTo w) := d.later_ticks _

theorem Dyn.later_dueCycle (d : Dyn) (n : Nat) : d.Later (d.dueCycle n) := by
  unfold Dyn.dueCycle
  split
  · exact ⟨fun _ _ => rfl, rfl, rfl, rfl, ⟨_, _, rfl⟩⟩
  · exact d.later_ticks _

/-- The parts of the state that a message of no bulk kind to the peer touches. -/
theorem Dyn.sendWords_ctrl (d : Dyn) (ws : List Word) : ∃ r l, d.sendWords 9 ws =
    { d with twin := { d.twin with seqOut := r }, sent := l } := ⟨_, _, rfl⟩

theorem State.later_hears (s : State) (kind : Nat) (h : ShlHdr) : s.dyn.Later (s.hears kind h) := by
  have ⟨hget, hboot, hnv, hslc, q, r, htwin⟩ := s.dyn.later_advTo h.at_
  unfold State.hears Dyn.noteSeq
  exact ⟨hget, hboot, hnv, hslc, ⟨_, _, by rw [htwin]⟩⟩

theorem State.later_hearsBulk (s : State) (kind : Nat) (h : ShlHdr) : s.dyn.Later (s.hearsBulk kind h) := by
  have ⟨hget, hboot, hnv, hslc, q, r, htwin⟩ := s.dyn.later_advTo h.at_
  obtain ⟨r', l, hsent⟩ := (s.dyn.advTo h.at_).sendWords_ctrl [0, BitVec.ofNat 32 kind, h.seq]
  unfold State.hearsBulk Dyn.noteSeq
  rw [hsent]
  exact ⟨hget, hboot, hnv, hslc, ⟨_, _, by rw [htwin]⟩⟩

namespace Dyn.Later
variable {c : Cfg} {d e : Dyn}

theorem flag (h : d.Later e) {g : Fld} (hg : F.TSU_STATUS_WRAP.Apart g) : e.flag g = d.flag g := Dyn.flag_eq (h.get g hg)
theorem role (h : d.Later e) : e.role = d.role := h.get _ (by decide)
theorem peerRole (h : d.Later e) : e.peerRole = d.peerRole := h.get _ (by decide)
theorem unitB (h : d.Later e) : e.unitB = d.unitB := h.flag (by decide)
theorem lockstep (h : d.Later e) : e.lockstep = d.lockstep := h.flag (by decide)
theorem modState (h : d.Later e) : e.modState = d.modState := h.get _ (by decide)
theorem xferState (h : d.Later e) : e.get F.SHL_XFER_STATE = d.get F.SHL_XFER_STATE := h.get _ (by decide)
theorem follower (h : d.Later e) : e.follower = d.follower := by rw [Dyn.follower, h.get _ (by decide), Dyn.follower]
theorem joining (h : d.Later e) : e.joining = d.joining := by rw [Dyn.joining, h.xferState, Dyn.joining]

theorem rd (h : d.Later e) {a : Nat} (ha : a ≠ Reg.TSU_STATUS) : e.rd a = d.rd a := Dyn.rd_of_get (h.get ⟨a, 0, 32⟩ (.inl ha))

theorem fn (h : d.Later e) : e.fn = d.fn := h.rd (by decide)

theorem agreeing (h : d.Later e) : e.agreeing = d.agreeing := by
  obtain ⟨q, r, htwin⟩ := h.twin
  rw [Dyn.agreeing, h.lockstep, htwin, Dyn.agreeing]

theorem pairs (h : d.Later e) : c.pairs e = c.pairs d := by rw [Cfg.pairs, h.boot, h.role, Cfg.pairs]

end Dyn.Later

/-! ## What outputs and alarm records leave of the link -/

/-- A register that is no channel's, and that no record of an alarm or of the journal writes. -/
abbrev OfLink (a : Nat) : Prop := (a < 0x80000 ∨ 0xa0000 ≤ a) ∧ a ≠ Reg.JRN_STATUS ∧ a ≠ Reg.NET_ALM_EVN

theorem dioStatus_not_ofLink {n : Nat} (h : n < 96) : ¬ OfLink (Reg.DIO_STATUS n) := by
  rw [OfLink, Reg.DIO_STATUS]
  omega

theorem aioStatus_not_ofLink {m : Nat} (h : m < 32) : ¬ OfLink (Reg.AIO_STATUS m) := by
  rw [OfLink, Reg.AIO_STATUS]
  omega

theorem aioStage_not_ofLink {m : Nat} (h : m < 32) : ¬ OfLink (Reg.AIO_STAGE m) := by
  rw [OfLink, Reg.AIO_STAGE]
  omega

/-- `d'` is `d` but for parts that the link between the units does not rest on. -/
structure Dyn.Beside (d d' : Dyn) : Prop where
  twin : d'.twin = d.twin
  tsu : d'.tsu = d.tsu
  rd : ∀ a, OfLink a → d'.rd a = d.rd a

namespace Dyn.Beside
variable {c : Cfg} {d d' : Dyn}

theorem refl : d.Beside d := ⟨rfl, rfl, fun _ _ => rfl⟩

theorem get (h : d.Beside d') {g : Fld} (hg : OfLink g.addr) : d'.get g = d.get g := Dyn.get_congr (h.rd _ hg)

theorem wr (h : d.Beside d') {a : Nat} (v : Word) (ha : ¬ OfLink a) : d.Beside (d'.wr a v) :=
  ⟨h.twin, h.tsu, fun b hb => (Dyn.rd_wr_ne _ _ (ne_of_mem_of_not_mem (s := {x | OfLink x}) hb ha)).trans (h.rd b hb)⟩

theorem put (h : d.Beside d') {f : Fld} (v : Nat) (hf : ¬ OfLink f.addr := by decide) : d.Beside (d'.put f v) := h.wr _ hf

theorem setFlag (h : d.Beside d') {f : Fld} (b : Bool) (hf : ¬ OfLink f.addr := by decide) : d.Beside (d'.setFlag f b) :=
  h.put _ hf

theorem setDig (h : d.Beside d') (n : Nat) (f : Dio → Dio) : d.Beside (d'.setDig n f) := ⟨h.twin, h.tsu, h.rd⟩
theorem setAna (h : d.Beside d') (m : Nat) (f : Aio → Aio) : d.Beside (d'.setAna m f) := ⟨h.twin, h.tsu, h.rd⟩
theorem setQueue (h : d.Beside d') (q : Nat) (f : HQueue → HQueue) : d.Beside (d'.setQueue q f) := ⟨h.twin, h.tsu, h.rd⟩
theorem setPolder (h : d.Beside d') (p : Nat) (f : Polder → Polder) : d.Beside (d'.setPolder p f) := ⟨h.twin, h.tsu, h.rd⟩
theorem withCan (h : d.Beside d') (x : SMap Can) : d.Beside { d' with can := x } := ⟨h.twin, h.tsu, h.rd⟩
theorem withJrn (h : d.Beside d') (x : Journal) : d.Beside { d' with jrn := x } := ⟨h.twin, h.tsu, h.rd⟩
theorem withNv (h : d.Beside d') (x : NonVol) : d.Beside { d' with nv := x } := ⟨h.twin, h.tsu, h.rd⟩
theorem withSlc (h : d.Beside d') (x : Sluice) : d.Beside { d' with slc := x } := ⟨h.twin, h.tsu, h.rd⟩
theorem withAlarms (h : d.Beside d') (x : List AlarmRec) : d.Beside { d' with alarms := x } := ⟨h.twin, h.tsu, h.rd⟩

theorem ite {p : Prop} [Decidable p] {a b : Dyn} (ha : d.Beside a) (hb : d.Beside b) : d.Beside (if p then a else b) := by
  split
  · exact ha
  · exact hb

theorem foldl {β : Type} {f : Dyn → β → Dyn} {l : List β} (hf : ∀ d', ∀ x ∈ l, d.Beside d' → d.Beside (f d' x))
    (h : d.Beside d') : d.Beside (l.foldl f d') := by
  induction l generalizing d' with
  | nil => exact h
  | cons x l ih =>
    exact ih (fun d' y hy => hf d' y (List.mem_cons_of_mem _ hy)) (hf d' x List.mem_cons_self h)

/-! ### Outputs -/

theorem fixDio (h : d.Beside d') {n : Nat} (hn : n < 96) : d.Beside (d'.fixDio c n) :=
  have ha := dioStatus_not_ofLink hn
  (((h.setFlag _ ha).setFlag _ ha).setFlag _ ha).setFlag _ ha

theorem turnOn (h : d.Beside d') {n : Nat} (hn : n < 96) : d.Beside (d'.turnOn c n) := by
  unfold Dyn.turnOn
  split
  · exact ite ((h.setFlag _ (dioStatus_not_ofLink hn)).setDig ..) h
  · exact h

theorem dropConds (h : d.Beside d') {n : Nat} (hn : n < 96) : d.Beside (d'.dropConds c n) := by
  have ha := dioStatus_not_ofLink hn
  unfold Dyn.dropConds
  extract_lets d₀ on clr off d₁ d₂ d₃ hot d₄ d₅ d₆
  have hclr {x : Dyn} (hx : d.Beside x) (b : Bool) {f : Fld} (hf : ¬ OfLink f.addr) : d.Beside (clr x b f) :=
    ite (hx.setFlag _ hf) hx
  have h₃ : d.Beside d₃ := hclr (hclr (hclr (h.turnOn hn) _ ha) _ ha) _ ha
  have h₆ : d.Beside d₆ := hclr (hclr (hclr h₃ _ ha) _ ha) _ ha
  exact h₆.fixDio hn

theorem fixAio (h : d.Beside d') {m : Nat} (hm : m < 32) : d.Beside (d'.fixAio c m) := by
  have ha := aioStatus_not_ofLink hm
  have hconds : d.Beside (d'.stageConds c m) := by
    have h₁ := ite (p := d'.stageDiag c m = true) h
      ((h.setFlag (f := F.AIO_STATUS_COMPLIANCE m) false ha).setFlag (f := F.AIO_STATUS_OPEN m) false ha)
    exact ite h₁ (h₁.setFlag false ha)
  unfold Dyn.fixAio
  extract_lets d₁ fl common inv d₂ d₃ v
  exact (((hconds.setFlag inv ha).put _ ha).wr v (aioStage_not_ofLink hm)).setAna ..

/-- The pair outputs that follow a change of the sending unit (R277, R278). -/
theorem pairOutputs (h : d.Beside d') : d.Beside (digitals.foldl (fun d n => if c.pairDo n then d.dropConds c n else d)
    (analogues.foldl (fun d m => if c.pairAo m then d.fixAio c m else d) d')) :=
  foldl (fun _ _ hn hx => ite (hx.dropConds (List.mem_range.1 hn)) hx)
    (foldl (fun _ _ hm hx => ite (hx.fixAio (List.mem_range.1 hm)) hx) h)

theorem allSafe (h : d.Beside d') (failLevel : Bool) : d.Beside (d'.allSafe c failLevel) := by
  refine foldl (fun x m hm hx => ite ?stage hx) (foldl (fun x n hn hx => ite ?output hx) h)
  case stage =>
    have hm := List.mem_range.1 hm
    exact ((ite (hx.setAna ..) hx).setFlag true (aioStatus_not_ofLink hm)).fixAio hm
  case output =>
    have hn := List.mem_range.1 hn
    exact (hx.setFlag true (dioStatus_not_ofLink hn)).dropConds hn

theorem canDrop (h : d.Beside d') : d.Beside d'.canDrop :=
  foldl (fun _ _ _ hx => ite hx (hx.setQueue ..)) (foldl (fun _ _ _ hx => hx.withCan _) h)

/-! ### Records -/

theorem setWindow (h : d.Beside d') (i : Nat) (w : Option Window) : d.Beside (d'.setWindow i w) :=
  ((h.withNv _).setFlag _).put _

theorem pushAlarm (h : d.Beside d') (code source : Nat) (v v2 : Word) : d.Beside (d'.pushAlarm code source v v2) := by
  unfold Dyn.pushAlarm
  split
  exact (h.withAlarms _).put _

theorem secondary (h : d.Beside d') : d.Beside d'.secondary := by
  unfold Dyn.secondary
  split
  · exact h.withJrn _
  · exact h

theorem triggerItem (h : d.Beside d') (cause source : Nat) : d.Beside (d'.triggerItem cause source) :=
  (h.withJrn _).withJrn _

theorem journalAlarm (h : d.Beside d') (code source : Nat) (v v2 : Word) : d.Beside (d'.journalAlarm c code source v v2) :=
  have h₁ := h.pushAlarm code source v v2
  ite (h₁.triggerItem ..).secondary h₁

theorem freeze (h : d.Beside d') (cause source : Nat) (frame : Word) : d.Beside (d'.freeze c cause source frame) := by
  have h₁ := h.triggerItem cause source
  unfold Dyn.freeze
  extract_lets x₁ want last before oldest fn0 within w pl x₂ _ x₃ x₄ x₅
  split
  · exact h₁.secondary
  · have h₂ : d.Beside x₂ := by
      clear_value pl
      cases pl with
      | some p => exact h₁.setWindow ..
      | none => exact h₁
    have h₅ : d.Beside x₅ := ((h₂.withJrn _).setFlag _).journalAlarm ..
    exact ite (h₅.journalAlarm ..) h₅

theorem alarm (h : d.Beside d') (code source : Nat) (v v2 : Word) : d.Beside (d'.alarm c code source v v2) :=
  have h₁ := h.pushAlarm code source v v2
  ite (h₁.freeze ..) h₁

end Dyn.Beside
end Sys2Proof.Machine
end
section
/-! SUPPORT. Roles, the station state, the end of lockstep, giving up, failed joins and the link's failure: what each sets, and what
it leaves (R244–R246, R264, R265, R272, R277, R359). -/

namespace Sys2Proof.Machine

/-! ## Messages sent -/

/-- A message to the peer takes a SEQ, and waits where it is a bulk message. -/
theorem Dyn.sendShl_eq (d : Dyn) (kind : Nat) (m : Sent) : ∃ r u l, d.sendShl kind m =
    { d with twin := { d.twin with seqOut := r, unacked := u }, sent := l } := by
  unfold Dyn.sendShl
  split_ifs
  · exact ⟨_, _, _, rfl⟩
  · exact ⟨_, _, _, rfl⟩

theorem Dyn.sendWords_regs (d : Dyn) (kind : Nat) (ws : List Word) : (d.sendWords kind ws).regs = d.regs := d.sendShl_regs ..

/-! ## The station state -/

/-- The fields of STN_STATE that follow roles, lanes and the join. -/
def stnWrites : List Fld :=
  [F.STN_STATE_STATE, F.STN_STATE_ROLE_A, F.STN_STATE_ROLE_B, F.STN_STATE_LANE0, F.STN_STATE_LANE1, F.STN_STATE_JOIN]

/-- The state with another twin part. -/
def Dyn.withTwin (d : Dyn) (t : Twin) : Dyn := { d with twin := t }

section
variable (c : Cfg) (d : Dyn)

@[simp] theorem Dyn.get_withTwin (t : Twin) (g : Fld) : (d.withTwin t).get g = d.get g := rfl
@[simp] theorem Dyn.flag_withTwin (t : Twin) (g : Fld) : (d.withTwin t).flag g = d.flag g := rfl
@[simp] theorem Dyn.withTwin_twin (t : Twin) : (d.withTwin t).twin = t := rfl

theorem Dyn.stnState_puts : ∃ st b l₀ l₁ j, d.stnState c =
    (((((d.put F.STN_STATE_STATE st).put F.STN_STATE_ROLE_A (if d.unitB then d.peerRole else d.role)).put
      F.STN_STATE_ROLE_B b).put F.STN_STATE_LANE0 l₀).put F.STN_STATE_LANE1 l₁).put F.STN_STATE_JOIN j := by
  unfold Dyn.stnState
  cases d.unitB with
  | true => exact ⟨_, _, _, _, _, rfl⟩
  | false => exact ⟨_, _, _, _, _, rfl⟩

@[simp] theorem Dyn.stnState_twin : (d.stnState c).twin = d.twin := by
  obtain ⟨st, b, l₀, l₁, j, h⟩ := d.stnState_puts c
  rw [h]
  rfl

@[simp] theorem Dyn.stnState_tsu : (d.stnState c).tsu = d.tsu := by
  obtain ⟨st, b, l₀, l₁, j, h⟩ := d.stnState_puts c
  rw [h]
  rfl

@[simp] theorem Dyn.stnState_boot : (d.stnState c).boot = d.boot := by
  obtain ⟨st, b, l₀, l₁, j, h⟩ := d.stnState_puts c
  rw [h]
  rfl

@[simp] theorem Dyn.stnState_nv : (d.stnState c).nv = d.nv := by
  obtain ⟨st, b, l₀, l₁, j, h⟩ := d.stnState_puts c
  rw [h]
  rfl

theorem Dyn.get_stnState {g : Fld} (h : g.Clear stnWrites) : (d.stnState c).get g = d.get g := by
  obtain ⟨st, b, l₀, l₁, j, hputs⟩ := d.stnState_puts c
  simp only [Fld.Clear, stnWrites, List.forall_mem_cons] at h
  obtain ⟨hst, ha, hb, h₀, h₁, hj, -⟩ := h
  rw [hputs, Dyn.get_put_apart _ _ (by decide) hj, Dyn.get_put_apart _ _ (by decide) h₁, Dyn.get_put_apart _ _ (by decide) h₀,
    Dyn.get_put_apart _ _ (by decide) hb, Dyn.get_put_apart _ _ (by decide) ha, Dyn.get_put_apart _ _ (by decide) hst]

theorem Dyn.stnState_roleA : (d.stnState c).get F.STN_STATE_ROLE_A = if d.unitB then d.peerRole else d.role := by
  obtain ⟨st, b, l₀, l₁, j, hputs⟩ := d.stnState_puts c
  have hfits : (if d.unitB then d.peerRole else d.role) < 2 ^ F.STN_STATE_ROLE_A.width := by
    split
    · exact Word.field_lt ..
    · exact Word.field_lt ..
  rw [hputs, Dyn.get_put_apart _ _ (by decide) (by decide), Dyn.get_put_apart _ _ (by decide) (by decide),
    Dyn.get_put_apart _ _ (by decide) (by decide), Dyn.get_put_apart _ _ (by decide) (by decide)]
  exact Dyn.get_put_fits _ (by decide) hfits

/-! ## The peer's role, and lockstep -/

@[simp] theorem Dyn.setPeer_twin (r : Nat) : (d.setPeer c r).twin = d.twin := (Dyn.stnState_twin ..).trans (Dyn.put_twin ..)
@[simp] theorem Dyn.setPeer_boot (r : Nat) : (d.setPeer c r).boot = d.boot := (Dyn.stnState_boot ..).trans (Dyn.put_boot ..)
@[simp] theorem Dyn.setPeer_nv (r : Nat) : (d.setPeer c r).nv = d.nv := (Dyn.stnState_nv ..).trans (Dyn.put_nv ..)

theorem Dyn.get_setPeer (r : Nat) {g : Fld} (h : g.Clear (F.SHL_PEER_ROLE :: stnWrites)) : (d.setPeer c r).get g = d.get g := by
  obtain ⟨hrole, hstn⟩ := List.forall_mem_cons.1 h
  exact (Dyn.get_stnState c _ hstn).trans (d.get_put_apart _ (by decide) hrole)

theorem Dyn.setPeer_peerRole {r : Nat} (h : r < 8) : (d.setPeer c r).peerRole = r :=
  (Dyn.get_stnState c _ (by decide)).trans (d.get_put_fits (by decide) h)

@[simp] theorem Dyn.setLockstep_twin (b : Bool) : (d.setLockstep c b).twin = d.twin :=
  (Dyn.stnState_twin ..).trans (Dyn.setFlag_twin ..)
@[simp] theorem Dyn.setLockstep_tsu (b : Bool) : (d.setLockstep c b).tsu = d.tsu :=
  (Dyn.stnState_tsu ..).trans (Dyn.setFlag_tsu ..)

theorem Dyn.get_setLockstep (b : Bool) {g : Fld} (h : g.Clear (F.SHL_STATUS_LOCKSTEP :: stnWrites)) :
    (d.setLockstep c b).get g = d.get g := by
  obtain ⟨hlock, hstn⟩ := List.forall_mem_cons.1 h
  exact (Dyn.get_stnState c _ hstn).trans (d.get_put_apart _ (by decide) hlock)

theorem Dyn.setLockstep_lockstep (b : Bool) : (d.setLockstep c b).lockstep = b :=
  (Dyn.flag_eq (Dyn.get_stnState c _ (by decide))).trans (d.flag_setFlag_same _ _ (by decide) (by decide))

/-! ## This unit's role -/

/-- The fields that a unit writes when it leaves the time lock. -/
def leaveWrites : List Fld := [F.TSU_STATUS_TWIN, F.TSU_STATUS_SERVO, F.RTC_CALSTATE_TAI_SRC, F.TSU_TWIN_STEER]

@[simp] theorem Dyn.setServo_twin (v : Nat) : (d.setServo c v).twin = d.twin := by
  unfold Dyn.setServo
  split_ifs <;> rfl

theorem Dyn.get_setServo (v : Nat) {g : Fld} (h : g.Clear [F.TSU_STATUS_SERVO, F.RTC_CALSTATE_TAI_SRC]) :
    (d.setServo c v).get g = d.get g := by
  obtain ⟨hservo, htai⟩ := List.forall_mem_cons.1 h
  have hput : (d.put F.TSU_STATUS_SERVO v).get g = d.get g := d.get_put_apart _ (by decide) hservo
  have hflag : ((d.put F.TSU_STATUS_SERVO v).setFlag F.RTC_CALSTATE_TAI_SRC false).get g = d.get g :=
    (Dyn.get_put_apart _ _ (by decide) (htai _ List.mem_cons_self)).trans hput
  unfold Dyn.setServo
  split_ifs
  · exact hput
  · exact hflag
  · exact hflag

/-- The state of the servo of a follower that leaves the lock. -/
def Dyn.servoLeft : Nat := if (d.put F.TSU_STATUS_TWIN 0).servo = 4 then 4 else 3

theorem Dyn.leaveLock_eq : d.leaveLock c = if d.get F.TSU_STATUS_TWIN = 0 then d
    else if d.follower then ((d.put F.TSU_STATUS_TWIN 0).setServo c d.servoLeft).put F.TSU_TWIN_STEER 0
    else d.put F.TSU_STATUS_TWIN 0 := rfl

theorem Dyn.get_leaveLock {g : Fld} (h : g.Clear leaveWrites) : (d.leaveLock c).get g = d.get g := by
  simp only [Fld.Clear, leaveWrites, List.forall_mem_cons] at h
  obtain ⟨hlock, hservo, htai, hsteer, -⟩ := h
  have hput : (d.put F.TSU_STATUS_TWIN 0).get g = d.get g := d.get_put_apart _ (by decide) hlock
  rw [Dyn.leaveLock_eq]
  split_ifs
  · rfl
  · rw [Dyn.get_put_apart _ _ (by decide) hsteer, Dyn.get_setServo _ _ _ (by simp [Fld.Clear, hservo, htai])]
    exact hput
  · exact hput

theorem Dyn.get_setRole (r : Nat) {g : Fld} (h : g.Clear (F.SHL_STATUS_ROLE :: stnWrites ++ leaveWrites)) :
    (d.setRole c r).get g = d.get g := by
  obtain ⟨hmine, hleave⟩ := List.forall_mem_append.1 h
  obtain ⟨hrole, hstn⟩ := List.forall_mem_cons.1 hmine
  refine (Dyn.get_stnState c _ hstn).trans ?_
  have hput : (d.put F.SHL_STATUS_ROLE r).get g = d.get g := d.get_put_apart _ (by decide) hrole
  split
  · exact (Dyn.get_leaveLock c _ hleave).trans hput
  · exact hput

theorem Dyn.setRole_role {r : Nat} (h : r < 8) : (d.setRole c r).role = r := by
  have hput : (d.put F.SHL_STATUS_ROLE r).role = r := d.get_put_fits (by decide) h
  refine (Dyn.get_stnState c _ (by decide)).trans ?_
  split
  · exact (Dyn.get_leaveLock c _ (by decide)).trans hput
  · exact hput

/-- But for a SHADOW and a unit that has given up, a role does not touch the time lock. -/
theorem Dyn.setRole_lock {r : Nat} (h₃ : r ≠ 3) (h₇ : r ≠ 7) : d.setRole c r = (d.put F.SHL_STATUS_ROLE r).stnState c := by
  rw [Dyn.setRole, if_neg (by simp [h₃, h₇])]

/-! ## The pair outputs -/

theorem Dyn.pairsTo_beside (on ao : Bool) :
    ∃ p q, (d.withTwin { d.twin with pairOn := p, aoOn := q }).Beside (d.pairsTo c on ao) := by
  unfold Dyn.pairsTo
  split
  · exact ⟨_, _, Dyn.Beside.refl.pairOutputs⟩
  · exact ⟨d.twin.pairOn, d.twin.aoOn, .refl⟩

theorem Dyn.get_pairsTo (on ao : Bool) {g : Fld} (h : OfLink g.addr) : (d.pairsTo c on ao).get g = d.get g := by
  obtain ⟨p, q, hpairs⟩ := d.pairsTo_beside c on ao
  exact hpairs.get h

/-! ## What a unit holds of the peer's TIME -/

/-- FN of the last TIME message, the master's time words and its change of time (R354, R360). -/
structure TimeHeld where
  fn : Option Word
  master : Option (BitVec 48 × Nat × BitVec 16 × Word)
  change : Option (TimeChange × Word)

def Dyn.timeHeld (d : Dyn) : TimeHeld := ⟨d.twin.timeFn, d.tsu.master, d.tsu.apply⟩

theorem Dyn.Beside.timeHeld {d d' : Dyn} (h : d.Beside d') : d'.timeHeld = d.timeHeld := by
  rw [Dyn.timeHeld, h.twin, h.tsu, Dyn.timeHeld]

theorem Dyn.timeHeld_setServo (v : Nat) : (d.setServo c v).timeHeld = d.timeHeld := by
  unfold Dyn.setServo
  split_ifs <;> rfl

theorem Dyn.timeHeld_stnState : (d.stnState c).timeHeld = d.timeHeld := by
  simp only [Dyn.timeHeld, Dyn.stnState_twin, Dyn.stnState_tsu]

theorem Dyn.timeHeld_put (f : Fld) (v : Nat) : (d.put f v).timeHeld = d.timeHeld := rfl

theorem Dyn.timeHeld_leaveLock : (d.leaveLock c).timeHeld = d.timeHeld := by
  rw [Dyn.leaveLock_eq]
  split_ifs
  · rfl
  · rw [Dyn.timeHeld_put, Dyn.timeHeld_setServo, Dyn.timeHeld_put]
  · exact d.timeHeld_put ..

theorem Dyn.timeHeld_setRole (r : Nat) : (d.setRole c r).timeHeld = d.timeHeld := by
  refine (Dyn.timeHeld_stnState ..).trans ?_
  split
  · exact (Dyn.timeHeld_leaveLock ..).trans (Dyn.timeHeld_put ..)
  · exact Dyn.timeHeld_put ..

/-! ## Giving up (R264) -/

/-- The unit has told the peer that it gives up; its role is still to change. -/
def Dyn.resigned (cause : Nat) : Dyn :=
  let d := ({ d with slc := { d.slc with commitOff := true } } : Dyn).canDrop
  let d := (d.sendWords 7 [BitVec.ofNat 32 cause]).put F.SHL_GIVEUP_OWN cause
  d.withTwin { d.twin with nextRole := none, decides := false, atCommit := none, mismatch := none, suppress := false }

theorem Dyn.get_canDropped {g : Fld} (x : Sluice) (h : OfLink g.addr) : (({ d with slc := x } : Dyn).canDrop).get g = d.get g :=
  (Dyn.Beside.refl.withSlc x).canDrop.get h

theorem Dyn.get_resigned (cause : Nat) {g : Fld} (h : OfLink g.addr) (hown : F.SHL_GIVEUP_OWN.Apart g) :
    (d.resigned cause).get g = d.get g := by
  rw [Dyn.resigned, Dyn.get_withTwin, Dyn.get_put_apart _ _ (by decide) hown, Dyn.get_regs (Dyn.sendWords_regs ..),
    d.get_canDropped _ h]

theorem Dyn.resigned_own {cause : Nat} (h : cause < 256) : (d.resigned cause).get F.SHL_GIVEUP_OWN = cause := by
  rw [Dyn.resigned, Dyn.get_withTwin]
  exact Dyn.get_put_fits _ (by decide) h

theorem Dyn.timeHeld_sendWords (kind : Nat) (ws : List Word) : (d.sendWords kind ws).timeHeld = d.timeHeld := by
  obtain ⟨r, u, l, hsent⟩ := d.sendShl_eq kind (.shucel kind d.fn ws)
  rw [Dyn.sendWords, hsent]
  rfl

theorem Dyn.timeHeld_resigned (cause : Nat) : (d.resigned cause).timeHeld = d.timeHeld := by
  have hdrop : (({ d with slc := { d.slc with commitOff := true } } : Dyn).canDrop).timeHeld = d.timeHeld :=
    (Dyn.Beside.refl.withSlc _).canDrop.timeHeld
  have hleft (x : Dyn) : (x.withTwin { x.twin with
      nextRole := none, decides := false, atCommit := none, mismatch := none, suppress := false }).timeHeld = x.timeHeld := rfl
  rw [Dyn.resigned, hleft, Dyn.timeHeld_put, Dyn.timeHeld_sendWords, hdrop]

/-- What follows is the change of role, that of the outputs, and FAULT. -/
theorem Dyn.giveUp_ends (cause : Nat) :
    let x := ((d.resigned cause).setLockstep c false).setRole c 7
    ∃ p q z, (x.withTwin { x.twin with pairOn := p, aoOn := q }).Beside z ∧ (z.enter 3 cause).Beside (d.giveUp c cause) := by
  obtain ⟨p, q, h⟩ := (((d.resigned cause).setLockstep c false).setRole c 7).pairsTo_beside c false false
  exact ⟨p, q, _, h.allSafe true, Dyn.Beside.refl.freeze ..⟩

theorem Dyn.get_giveUp_role (cause : Nat) {g : Fld} (h : OfLink g.addr) (hs : g.addr ≠ Reg.MOD_STATE) :
    (d.giveUp c cause).get g = (((d.resigned cause).setLockstep c false).setRole c 7).get g := by
  obtain ⟨p, q, z, hz, hend⟩ := d.giveUp_ends c cause
  rw [hend.get h, Dyn.get_congr (z.rd_enter 3 cause hs), hz.get h, Dyn.get_withTwin]

theorem Dyn.giveUp_role (cause : Nat) : (d.giveUp c cause).role = 7 :=
  (d.get_giveUp_role c cause (by decide) (by decide)).trans (Dyn.setRole_role c _ (by decide))

theorem Dyn.giveUp_lockstep (cause : Nat) : (d.giveUp c cause).lockstep = false := by
  rw [Dyn.lockstep, Dyn.flag_eq (d.get_giveUp_role c cause (by decide) (by decide)),
    Dyn.flag_eq (Dyn.get_setRole c _ 7 (by decide))]
  exact Dyn.setLockstep_lockstep ..

theorem Dyn.giveUp_own {cause : Nat} (h : cause < 256) : (d.giveUp c cause).get F.SHL_GIVEUP_OWN = cause := by
  rw [d.get_giveUp_role c cause (by decide) (by decide), Dyn.get_setRole c _ 7 (by decide),
    Dyn.get_setLockstep c _ false (by decide), d.resigned_own h]

/-- The fields that a unit writes when it gives up, beside those of its outputs and records. -/
def giveUpWrites : List Fld :=
  [F.SHL_GIVEUP_OWN, F.MOD_STATE_STATE, F.MOD_STATE_CAUSE, F.SHL_STATUS_LOCKSTEP, F.SHL_STATUS_ROLE] ++ stnWrites ++ leaveWrites

theorem Dyn.get_giveUp (cause : Nat) {g : Fld} (h : OfLink g.addr) (hs : g.addr ≠ Reg.MOD_STATE) (hg : g.Clear giveUpWrites) :
    (d.giveUp c cause).get g = d.get g := by
  have hlock : g.Clear (F.SHL_STATUS_LOCKSTEP :: stnWrites) := fun f hf => hg f (by
    rcases List.mem_cons.1 hf with rfl | hf <;> simp [giveUpWrites, *])
  have hrole : g.Clear (F.SHL_STATUS_ROLE :: stnWrites ++ leaveWrites) := fun f hf => hg f (by
    simp only [List.cons_append, List.mem_cons, List.mem_append] at hf
    rcases hf with rfl | hf | hf <;> simp [giveUpWrites, *])
  rw [d.get_giveUp_role c cause h hs, Dyn.get_setRole c _ 7 hrole, Dyn.get_setLockstep c _ false hlock,
    d.get_resigned cause h (hg _ (by simp [giveUpWrites]))]

theorem Dyn.timeHeld_giveUp (cause : Nat) : (d.giveUp c cause).timeHeld = d.timeHeld := by
  obtain ⟨p, q, z, hz, hend⟩ := d.giveUp_ends c cause
  have hlock : ((d.resigned cause).setLockstep c false).timeHeld = (d.resigned cause).timeHeld := by
    simp only [Dyn.timeHeld, Dyn.setLockstep_twin, Dyn.setLockstep_tsu]
  have henter (x : Dyn) : (x.enter 3 cause).timeHeld = x.timeHeld := rfl
  have hpairs (x : Dyn) : (x.withTwin { x.twin with pairOn := p, aoOn := q }).timeHeld = x.timeHeld := rfl
  rw [hend.timeHeld, henter, hz.timeHeld, hpairs, Dyn.timeHeld_setRole, hlock, d.timeHeld_resigned]

/-! ## The end of lockstep -/

theorem Dyn.handOn_regs : (d.handOn c).regs = d.regs := by
  unfold Dyn.handOn
  extract_lets put d₁ d₂
  have hput (f : EvEntry → Polder → Polder) (x : Dyn) (e : EvEntry) : (put f x e).regs = x.regs := by
    unfold put
    split <;> rfl
  exact (foldl_regs (hput _) _ _).trans (foldl_regs (hput _) _ _)

theorem Dyn.handOn_mapped : (d.handOn c).twin.mapped = d.twin.mapped := by
  unfold Dyn.handOn
  extract_lets put d₁ d₂
  have hput (f : EvEntry → Polder → Polder) (x : Dyn) (e : EvEntry) : (put f x e).twin.mapped = x.twin.mapped := by
    unfold put
    split <;> rfl
  exact (foldl_view (·.twin.mapped) (hput _) _ _).trans (foldl_view (·.twin.mapped) (hput _) _ _)

theorem Dyn.get_handOn (g : Fld) : (d.handOn c).get g = d.get g := Dyn.get_regs (d.handOn_regs c) g

/-! ## Failed joins, and the link's failure (R265, R272) -/

/-- The join has failed; what the unit does for it is still to come. -/
def Dyn.unjoined (cause : Nat) : Dyn :=
  let d := ((d.put F.SHL_XFER_STATE 6).put F.SHL_XFER_CAUSE cause).stnState c
  d.withTwin { d.twin with lockFn := none, recs := [], peerReady := 0 }

theorem Dyn.get_unjoined (cause : Nat) {g : Fld} (h : g.Clear ([F.SHL_XFER_STATE, F.SHL_XFER_CAUSE] ++ stnWrites)) :
    (d.unjoined c cause).get g = d.get g := by
  obtain ⟨hxfer, hstn⟩ := List.forall_mem_append.1 h
  rw [Dyn.unjoined, Dyn.get_withTwin, Dyn.get_stnState c _ hstn, Dyn.get_put_apart _ _ (by decide) (hxfer _ (by decide)),
    Dyn.get_put_apart _ _ (by decide) (hxfer _ (by decide))]

theorem Dyn.unjoined_xfer {cause : Nat} (h : cause < 256) :
    (d.unjoined c cause).get F.SHL_XFER_STATE = 6 ∧ (d.unjoined c cause).get F.SHL_XFER_CAUSE = cause := by
  rw [Dyn.unjoined, Dyn.get_withTwin, Dyn.get_withTwin, Dyn.get_stnState c _ (by decide), Dyn.get_stnState c _ (by decide)]
  refine ⟨?_, Dyn.get_put_fits _ (by decide) h⟩
  rw [Dyn.get_put_apart _ _ (by decide) (by decide)]
  exact Dyn.get_put_fits _ (by decide) (by decide)

theorem Dyn.unjoined_role (cause : Nat) : (d.unjoined c cause).role = d.role := d.get_unjoined c cause (by decide)

/-- The joining unit gives up. -/
theorem Dyn.joinFail_joiner (cause : Nat) (h : d.role = 4 ∨ d.role = 6) :
    d.joinFail c cause = (d.unjoined c cause).giveUp c 0x35 := by
  have hrole := d.unjoined_role c cause
  rw [Dyn.joinFail]
  refine if_pos ?_
  rw [Bool.or_eq_true, beq_iff_eq, beq_iff_eq]
  exact h.imp hrole.trans hrole.trans

/-- The active one goes on. -/
theorem Dyn.joinFail_active (cause : Nat) (h : ¬ (d.role = 4 ∨ d.role = 6)) :
    d.joinFail c cause = (d.unjoined c cause).setLockstep c false := by
  have hrole := d.unjoined_role c cause
  rw [Dyn.joinFail]
  refine if_neg ?_
  rw [Bool.or_eq_true, beq_iff_eq, beq_iff_eq]
  exact fun hno => h (hno.imp hrole.symm.trans hrole.symm.trans)

/-- The fields that a failure of the link, or of a join, writes, beside those of outputs and records. -/
def linkFailWrites : List Fld := [F.SHL_XFER_STATE, F.SHL_XFER_CAUSE] ++ giveUpWrites

theorem clear_of_linkFail {g : Fld} (h : g.Clear linkFailWrites) : g.Clear giveUpWrites ∧
    g.Clear ([F.SHL_XFER_STATE, F.SHL_XFER_CAUSE] ++ stnWrites) ∧ g.Clear (F.SHL_STATUS_LOCKSTEP :: stnWrites) := by
  obtain ⟨hxfer, hgive⟩ := List.forall_mem_append.1 h
  have hstn : g.Clear stnWrites := fun f hf => hgive f (by simp [giveUpWrites, hf])
  exact ⟨hgive, List.forall_mem_append.2 ⟨hxfer, hstn⟩, List.forall_mem_cons.2 ⟨hgive _ (by simp [giveUpWrites]), hstn⟩⟩

/-- A field that neither the change of XFER nor that of lockstep touches, and giving up does not. -/
theorem Dyn.get_joinFail_unjoined (cause : Nat) {g : Fld} (h : OfLink g.addr) (hs : g.addr ≠ Reg.MOD_STATE)
    (hgive : g.Clear giveUpWrites) (hlock : g.Clear (F.SHL_STATUS_LOCKSTEP :: stnWrites)) :
    (d.joinFail c cause).get g = (d.unjoined c cause).get g := by
  by_cases hrole : d.role = 4 ∨ d.role = 6
  · rw [d.joinFail_joiner c cause hrole, Dyn.get_giveUp c _ _ h hs hgive]
  · rw [d.joinFail_active c cause hrole, Dyn.get_setLockstep c _ _ hlock]

theorem Dyn.get_joinFail (cause : Nat) {g : Fld} (h : OfLink g.addr) (hs : g.addr ≠ Reg.MOD_STATE) (hg : g.Clear linkFailWrites) :
    (d.joinFail c cause).get g = d.get g := by
  obtain ⟨hgive, hxfer, hlock⟩ := clear_of_linkFail hg
  rw [d.get_joinFail_unjoined c cause h hs hgive hlock, d.get_unjoined c cause hxfer]

theorem Dyn.joinFail_xfer {cause : Nat} (h : cause < 256) :
    (d.joinFail c cause).get F.SHL_XFER_STATE = 6 ∧ (d.joinFail c cause).get F.SHL_XFER_CAUSE = cause := by
  rw [d.get_joinFail_unjoined c cause (by decide) (by decide) (by decide) (by decide),
    d.get_joinFail_unjoined c cause (by decide) (by decide) (by decide) (by decide)]
  exact d.unjoined_xfer c h

/-- Lockstep has ended with the link. -/
def Dyn.unlinked : Dyn := ((d.withTwin { d.twin with mapped := 0, lostFn := some d.fn }).setLockstep c false).handOn c

theorem Dyn.linkFail_eq : d.linkFail c =
    if d.joining then d.joinFail c 4
    else if d.agreeing then
      if (d.unitB && d.role == 2 && d.peerRole == 2) || d.role == 5 then
        (d.unlinked c).withTwin { (d.unlinked c).twin with decides := true }
      else d.unlinked c
    else d := by
  unfold Dyn.linkFail
  cases ((d.unitB && d.role == 2 && d.peerRole == 2) || d.role == 5) <;> rfl

theorem Dyn.get_linkFail {g : Fld} (h : OfLink g.addr) (hs : g.addr ≠ Reg.MOD_STATE) (hg : g.Clear linkFailWrites) :
    (d.linkFail c).get g = d.get g := by
  obtain ⟨-, -, hlock⟩ := clear_of_linkFail hg
  have hend : (d.unlinked c).get g = d.get g := (Dyn.get_handOn ..).trans (Dyn.get_setLockstep c _ _ hlock)
  rw [Dyn.linkFail_eq]
  split_ifs
  · exact d.get_joinFail c 4 h hs hg
  · rw [Dyn.get_withTwin, hend]
  · exact hend
  · rfl

/-! ## Lanes (R249, R250) -/

theorem Dyn.laneDown_down {lane1 : Bool} (h : (!c.twin || !d.flag (laneFld lane1)) = true) : d.laneDown c lane1 = d := if_pos h

/-- What a lane that goes DOWN writes, beside the alarm, and the failure of the link. -/
def Dyn.laneOff (lane1 : Bool) : Dyn := ((d.setFlag (laneFld lane1) false).put (latFld lane1) 0).stnState c

theorem Dyn.get_laneDown {lane1 : Bool} (htwin : c.twin = true) (hup : d.flag (laneFld lane1) = true) {g : Fld}
    (h : OfLink g.addr) (hs : g.addr ≠ Reg.MOD_STATE) (hg : g.Clear linkFailWrites) :
    (d.laneDown c lane1).get g = (d.laneOff c lane1).get g := by
  rw [Dyn.laneDown, if_neg (by simp [htwin, hup])]
  have halarm : ((d.laneOff c lane1).alarm c 0x0401 (b2n lane1) 0 0).get g = (d.laneOff c lane1).get g :=
    (Dyn.Beside.refl.alarm ..).get h
  have hif {p : Prop} [Decidable p] {x y : Dyn} (hx : x.get g = (d.laneOff c lane1).get g)
      (hy : y.get g = (d.laneOff c lane1).get g) : (if p then x else y).get g = (d.laneOff c lane1).get g := by
    split
    · exact hx
    · exact hy
  exact hif halarm ((Dyn.get_linkFail c _ h hs hg).trans halarm)

end
end Sys2Proof.Machine
end
section
/-! SUPPORT. The messages of the other unit, each by what it answers (R249, R250, R253, R254, R256, R259, R261, R264–R266, R270, R360,
R361). -/

namespace Sys2Proof.Machine

/-! ## Receipt (R249) -/

section
variable {s : State} {kind : Nat} {h : ShlHdr}

theorem PeerMessage.received (hp : PeerMessage s kind h) (f : Dyn → Dyn) :
    s.dyn.received s.cfg kind h f = f (s.hears kind h) := by
  simp only [Dyn.received, hp.intact, hp.fresh, Bool.not_true, Bool.false_eq_true, if_false, State.hears]

theorem PeerMessage.receivedBulk (hp : PeerMessage s kind h) (f : Dyn → Dyn) :
    s.dyn.receivedBulk s.cfg kind h f = f (s.hearsBulk kind h) := by
  simp only [Dyn.receivedBulk, hp.intact, hp.fresh, Bool.not_true, Bool.false_eq_true, if_false, State.hearsBulk]

/-- `i` is the receipt of a message of no bulk kind. -/
def Receives (i : Instr) (kind : Nat) (h : ShlHdr) : Prop :=
  ∃ f : Cfg → Dyn → Dyn, ∀ s, exec i s = s.upd fun c d => d.received c kind h (f c)

/-- `i` is the receipt of a bulk message. -/
def ReceivesBulk (i : Instr) (kind : Nat) (h : ShlHdr) : Prop :=
  ∃ f : Cfg → Dyn → Dyn, ∀ s, exec i s = s.upd fun c d => d.receivedBulk c kind h (f c)

variable {i : Instr}

theorem Receives.damaged (hi : Receives i kind h) (hlive : Live s) (hcrc : h.crcOk = false) :
    exec i s = .next (s.withDyn ((s.dyn.advTo h.at_).laneErrors s.cfg h.lane1 1)) := by
  obtain ⟨f, hf⟩ := hi
  rw [hf, State.upd_withDyn hlive, Dyn.received, hcrc]
  rfl

theorem Receives.known (hi : Receives i kind h) (hlive : Live s) (hcrc : h.crcOk = true)
    (hseq : (s.dyn.advTo h.at_).gotSeq kind h = true) : exec i s = .next (s.withDyn (s.dyn.advTo h.at_)) := by
  obtain ⟨f, hf⟩ := hi
  rw [hf, State.upd_withDyn hlive, Dyn.received, hcrc, hseq]
  rfl

theorem ReceivesBulk.damaged (hi : ReceivesBulk i kind h) (hlive : Live s) (hcrc : h.crcOk = false) :
    exec i s = .next (s.withDyn ((s.dyn.advTo h.at_).laneErrors s.cfg h.lane1 1)) := by
  obtain ⟨f, hf⟩ := hi
  rw [hf, State.upd_withDyn hlive, Dyn.receivedBulk, hcrc]
  rfl

theorem ReceivesBulk.known (hi : ReceivesBulk i kind h) (hlive : Live s) (hcrc : h.crcOk = true)
    (hseq : (s.dyn.advTo h.at_).gotSeq kind h = true) :
    exec i s = .next (s.withDyn ((s.dyn.advTo h.at_).sendWords 9 [0, BitVec.ofNat 32 kind, h.seq])) := by
  obtain ⟨f, hf⟩ := hi
  rw [hf, State.upd_withDyn hlive, Dyn.receivedBulk, hcrc, hseq]
  rfl

end

section
variable (h : ShlHdr)

theorem receives_pair (r : PairRec) : Receives (.pair r) 1 r.hdr := ⟨_, fun s => (rfl : execPair r s = _)⟩
theorem receives_timeMessage (m : TimeMsg) : Receives (.timeMessage m) 2 m.hdr := ⟨_, fun s => (rfl : execTimeMessage m s = _)⟩
theorem receives_inputMessage (m : InputMsg) : Receives (.inputMessage m) 3 m.hdr :=
  ⟨_, fun s => (rfl : execInputMessage m s = _)⟩
theorem receives_slotMessage (i : BitVec 4) (es : List EvEntry) : Receives (.slotMessage h i es) 4 h :=
  ⟨_, fun s => (rfl : execSlotMessage h i es s = _)⟩
theorem receives_sigMessage (sig : Sig) : Receives (.sigMessage h sig) 5 h := ⟨_, fun s => (rfl : execSigMessage h sig s = _)⟩
theorem receives_giveupMessage (cause : BitVec 8) : Receives (.giveupMessage h cause) 7 h :=
  ⟨_, fun s => (rfl : execGiveupMessage h cause s = _)⟩
theorem receives_ctrlAck (xfer : Bool) (seq : Word) : Receives (.ctrlAck h xfer seq) 9 h :=
  ⟨_, fun s => (rfl : execCtrlAck h xfer seq s = _)⟩
theorem receives_ready : Receives (.ready h) 9 h := ⟨_, fun s => (rfl : execReady h s = _)⟩
theorem receives_lockstep (l : Word) : Receives (.lockstep h l) 9 h := ⟨_, fun s => (rfl : execLockstep h l s = _)⟩
theorem receives_join (mapped : Bool) : Receives (.join (.peer h mapped)) 9 h :=
  ⟨_, fun s => show execJoin (.peer h mapped) s = _ by unfold execJoin; exact rfl⟩
theorem receivesBulk_fwd (num : BitVec 32) (item : RxItem) : ReceivesBulk (.fwd h num item) 6 h :=
  ⟨_, fun s => (rfl : execFwd h num item s = _)⟩
theorem receivesBulk_xfer (body : XferBody) : ReceivesBulk (.xfer h body) 8 h := ⟨_, fun s => (rfl : execXfer h body s = _)⟩

end

/-! ## The agreement's messages (R253, R254, R259, R261) -/

section
variable {s : State} {h : ShlHdr}

/-- The mirror with the words of a message. -/
def Twin.mirrored (t : Twin) (words : List (Nat × Word)) : SMap Word := sputs 0 t.mirror (words.filter fun x => inContrib x.1)

/-- INPUT of a frame: the mirror follows, and what the agreement compares is kept. -/
theorem exec_inputMessage_frame (hp : PeerMessage s 3 h) (htwin : s.cfg.twin = true) (carry : Bool)
    (words : List (Nat × Word)) (crc : Option Word) (cut : Nat) (lanes : BitVec 2) :
    let e := s.hears 3 h
    let ok := match crc with
      | some x => x == Config.digest (flatWords (e.twin.mirrored words))
      | none => true
    ∃ v, exec (.inputMessage ⟨h, none, carry, words, crc, cut, lanes⟩) s = .next (s.withDyn ((e.put F.SHL_AGREE_PEAK_NS v).withTwin
      { e.twin with mirror := e.twin.mirrored words, inputFn := some h.fn, digestOk := ok && crc.isSome,
                    peerCut := max e.twin.peerCut cut, peerLanes := lanes })) := by
  intro e ok
  refine ⟨max (e.get F.SHL_AGREE_PEAK_NS) (min 65535 (e.ft - e.slc.tFt).toNat), ?_⟩
  show execInputMessage _ s = _
  rw [execInputMessage, State.upd_withDyn hp.live, hp.received, htwin]
  rfl

/-- A part of a priming exchange. -/
theorem exec_inputMessage_part (hp : PeerMessage s 3 h) (htwin : s.cfg.twin = true) (i n : Nat) (carry : Bool)
    (words : List (Nat × Word)) (crc : Option Word) (cut : Nat) (lanes : BitVec 2) :
    let e := s.hears 3 h
    let mirror := e.twin.mirrored words
    let parts := if e.twin.parts.contains i then e.twin.parts else i :: e.twin.parts
    let sum := crc.orElse fun _ => e.twin.fullCrc
    let whole := parts.length == n && (List.range n).all parts.contains
    exec (.inputMessage ⟨h, some (i, n), carry, words, crc, cut, lanes⟩) s = .next (s.withDyn (
      if s.dyn.agreeing = true then e else
      { e with twin := { e.twin with mirror := mirror, parts := parts, fullCrc := sum,
                                     primed := whole && sum == some (Config.digest (flatWords mirror)) } })) := by
  show execInputMessage _ s = _
  rw [execInputMessage, State.upd_withDyn hp.live, hp.received, htwin, ← (s.later_hears 3 h).agreeing]
  rfl

theorem exec_slotMessage (hp : PeerMessage s 4 h) (slot : BitVec 4) (es : List EvEntry) :
    let e := s.hears 4 h
    exec (.slotMessage h slot es) s = .next (s.withDyn (if h.fn = e.fn then
      { e with twin := { e.twin with peerSlots := e.twin.peerSlots ++ [(slot.toNat, es)] } } else e)) := by
  show execSlotMessage h slot es s = _
  rw [execSlotMessage, State.upd_withDyn hp.live, hp.received, ite_not]

theorem exec_sigMessage (hp : PeerMessage s 5 h) (sig : Sig) :
    let e := s.hears 5 h
    exec (.sigMessage h sig) s = .next (s.withDyn
      (({ e with twin := { e.twin with peerSig := some (h.fn, sig) } } : Dyn).compareSig s.cfg)) := by
  show execSigMessage h sig s = _
  rw [execSigMessage, State.upd_withDyn hp.live, hp.received]

theorem exec_ctrlAck (hp : PeerMessage s 9 h) (xfer : Bool) (seq : Word) :
    let e := s.hears 9 h
    exec (.ctrlAck h xfer seq) s = .next (s.withDyn { e with twin := { e.twin with
      unacked := e.twin.unacked.filter fun x => !(x.seq == seq && x.msg.bulkKind == (if xfer then 8 else 6)) } }) := by
  show execCtrlAck h xfer seq s = _
  rw [execCtrlAck, State.upd_withDyn hp.live, hp.received]

end

end Sys2Proof.Machine
end
section
/-! SUPPORT. TIME and GIVEUP at the unit that receives them (R264, R350, R360–R362). -/

namespace Sys2Proof.Machine

/-! ## What setting the time leaves of the agreement -/

section
variable (c : Cfg) (d : Dyn)

@[simp] theorem Dyn.captureAt_twin (u : Nat) (corr : Int) : (d.captureAt u corr).twin = d.twin := rfl
@[simp] theorem Dyn.setAligned_twin (u t : Nat) : (d.setAligned u t).twin = d.twin := rfl

@[simp] theorem Dyn.post_twin (p kind task source : Nat) (ft value : Word) :
    (d.post c p kind task source ft value).twin = d.twin := by
  obtain ⟨ps, h⟩ := d.post_eq c p kind task source ft value
  rw [h]

theorem Dyn.twin_ite {p : Prop} [Decidable p] {a b d : Dyn} (ha : a.twin = d.twin) (hb : b.twin = d.twin) :
    (if p then a else b).twin = d.twin := by
  split
  · exact ha
  · exact hb

theorem Dyn.startConversion_twin (m : Nat) : (d.startConversion c m).twin = d.twin :=
  Dyn.twin_ite rfl (Dyn.twin_ite rfl rfl)

theorem Dyn.altBits_twin : (d.altBits c).twin = d.twin :=
  foldl_view (·.twin) (fun x k => Dyn.twin_ite (x.setFlag_twin (F.CAN_STATUS_ALT k) _) rfl) _ _

theorem Dyn.releaseQueue_twin (q : Nat) : (d.releaseQueue c q).twin = d.twin :=
  Dyn.twin_ite (d := d) (Dyn.altBits_twin ..) rfl

theorem Dyn.fire_twin (u : Nat) (ft : Word) : (d.fire c u ft).twin = d.twin := by
  unfold Dyn.fire
  extract_lets n _ d₁ d₂ d₃ d₄ d₅
  have h₃ : d₃.twin = d.twin :=
    Dyn.twin_ite (foldl_view (·.twin) (fun x m => Dyn.twin_ite (x.startConversion_twin c m) rfl) _ _) rfl
  have h₄ : d₄.twin = d.twin := Dyn.twin_ite ((d₃.post_twin ..).trans h₃) h₃
  have h₅ : d₅.twin = d.twin := Dyn.twin_ite ((d₄.releaseQueue_twin ..).trans h₄) h₄
  exact (foldl_view (·.twin) (fun x k => Dyn.twin_ite (x.captureAt_twin k _) rfl) _ _).trans h₅

theorem Dyn.retarget_twin (u : Nat) : (d.retarget c u).twin = d.twin := by
  refine Dyn.twin_ite ((Dyn.setAligned_twin ..).trans (Dyn.twin_ite ?_ rfl)) rfl
  exact (Dyn.put_twin ..).trans (d.fire_twin c u _)

theorem Dyn.lockPtp_twin (t : Nat) : (d.lockPtp c t).twin = d.twin :=
  foldl_view (·.twin) (fun x u => x.retarget_twin c u) _ _

theorem Dyn.roundFree_snd (num : Int) (den : Nat) : (d.roundFree num den).2 = d := by
  unfold Dyn.roundFree
  extract_lets q
  split <;> rfl

theorem Dyn.steer_twin (base : Word) : (d.steer base).twin = d.twin := by
  have hround (x : Dyn) (num : Int) (den : Nat) : (x.roundFree num den).2.twin = x.twin := by rw [x.roundFree_snd]
  exact hround _ _ _

theorem Dyn.captureSrc_follower (src : Nat) (corr : Int) : (d.captureSrc c src corr).follower = d.follower := by
  refine foldl_view Dyn.follower (fun x u => ?_) _ _
  split
  · have hne : F.TSU_STATUS_TWIN.addr ≠ (F.TSU_CAP_STAT_COUNT u).addr := by
      show Reg.TSU_STATUS ≠ Reg.TSU_CAP_STAT u
      rw [Reg.TSU_STATUS, Reg.TSU_CAP_STAT]
      omega
    have hget : (x.captureAt u corr).get F.TSU_STATUS_TWIN = x.get F.TSU_STATUS_TWIN := Dyn.get_put_ne _ _ hne
    rw [Dyn.follower, hget, Dyn.follower]
  · rfl

theorem Dyn.timeHeld_copyCal (cal : Word) (sec : BitVec 48) : (d.copyCal cal sec).timeHeld = d.timeHeld := by
  unfold Dyn.copyCal
  extract_lets up x
  split <;> rfl

theorem Dyn.timeHeld_hardwareFault (cause : Nat) (htwin : c.twin = true) :
    (d.hardwareFault c cause).timeHeld = d.timeHeld := by
  unfold Dyn.hardwareFault
  split
  · rfl
  · exact d.timeHeld_giveUp c cause

end

/-! ## TIME -/

section
variable {s : State} {h : ShlHdr}

/-- The FN of a TIME message is kept, and a follower takes the master's time words and its change of time. -/
theorem exec_timeMessage (hp : PeerMessage s 2 h) (htwin : s.cfg.twin = true) (masterFt : Word) (sec : BitVec 48) (ns : Nat)
    (status : BitVec 16) (incr cal : Word) (change : Option (TimeChange × Word)) :
    ∃ z : Dyn, exec (.timeMessage ⟨h, masterFt, sec, ns, status, incr, cal, change⟩) s = .next (s.withDyn z) ∧
      z.twin.timeFn = some h.fn ∧ (s.dyn.follower = true → z.timeHeld = ⟨some h.fn, some (sec, ns, status, h.fn), change⟩) := by
  have hfollow : ((s.hears 2 h).captureSrc s.cfg 8 0).follower = s.dyn.follower :=
    (Dyn.captureSrc_follower ..).trans (s.later_hears 2 h).follower
  refine ⟨_, (show execTimeMessage _ s = _ by
    rw [execTimeMessage, State.upd_withDyn hp.live, hp.received]), ?_⟩
  extract_lets x _ d lat ofs frames time apart first _ _ _ _ _ d₁ d₂ d₃ d₄ d₅ d₆ _ d₇ d₈
  have h₁ : d₁.twin = d.twin := Dyn.twin_ite rfl rfl
  have h₂ : d₂.twin = d.twin := Dyn.twin_ite ((d₁.lockPtp_twin ..).trans h₁) h₁
  have h₅ : d₅.twin = d.twin := (d₄.setServo_twin ..).trans ((d₃.steer_twin _).trans ((d₂.put_twin ..).trans h₂))
  have h₆ : d₆.twin = d.twin := Dyn.twin_ite ((d₅.setFlag_twin ..).trans h₅) h₅
  have h₇ : d₇.timeHeld = ⟨some h.fn, some (sec, ns, status, h.fn), change⟩ :=
    congrArg (fun t : Twin => (⟨t.timeFn, some (sec, ns, status, h.fn), change⟩ : TimeHeld)) h₆
  have h₈ : d₈.timeHeld = ⟨some h.fn, some (sec, ns, status, h.fn), change⟩ := (d₇.timeHeld_copyCal ..).trans h₇
  cases hf : d.follower with
  | false => exact ⟨rfl, fun hno => absurd (hfollow.trans hno) (by rw [show x.follower = d.follower from rfl, hf]; decide)⟩
  | true =>
    have hend : (if (decide (d₈.get F.TSU_STATUS_TWIN = 3) && decide (8 ≤ d₈.tsu.lockBad)) = true then
        d₈.hardwareFault s.cfg 0x25 else d₈).timeHeld = ⟨some h.fn, some (sec, ns, status, h.fn), change⟩ := by
      split
      · exact (d₈.timeHeld_hardwareFault _ _ htwin).trans h₈
      · exact h₈
    exact ⟨congrArg TimeHeld.fn hend, fun _ => hend⟩

end

/-! ## GIVEUP (R264) -/

section
variable (c : Cfg) (d : Dyn) (cause : Nat)

/-- The peer's cause is recorded, and a join under way has failed. -/
def Dyn.peerResigned : Dyn :=
  let d := d.put F.SHL_GIVEUP_PEER cause
  let d := d.freeze c 7 cause d.fn
  if d.joining then d.joinFail c 5 else d

/-- The unit goes on without the other. -/
def Dyn.leftAlone : Dyn :=
  let d := d.peerResigned c cause
  let d := d.withTwin { d.twin with mapped := 0, mismatch := none, suppress := false, peerReady := 0, decides := false }
  ((d.setLockstep c false).handOn c).setPeer c 7

/-- The record of the peer's cause touches no other field of the link. -/
theorem Dyn.get_peerCause {g : Fld} (h : OfLink g.addr) :
    ((d.put F.SHL_GIVEUP_PEER cause).freeze c 7 cause (d.put F.SHL_GIVEUP_PEER cause).fn).get g =
      (d.put F.SHL_GIVEUP_PEER cause).get g := (Dyn.Beside.refl.freeze ..).get h

theorem Dyn.peerResigned_cause (h : cause < 256) : (d.peerResigned c cause).get F.SHL_GIVEUP_PEER = cause := by
  have hput := (d.get_peerCause c cause (by decide)).trans
    (d.get_put_fits (f := F.SHL_GIVEUP_PEER) (by decide) h)
  unfold Dyn.peerResigned
  extract_lets x y
  split
  · exact (y.get_joinFail c 5 (by decide) (by decide) (by decide)).trans hput
  · exact hput

/-- Outside a join the role stands. -/
theorem Dyn.peerResigned_role (h : d.joining = false) : (d.peerResigned c cause).role = d.role := by
  have hget {g : Fld} (hg : OfLink g.addr) (hne : g.addr ≠ Reg.SHL_GIVEUP) :
      ((d.put F.SHL_GIVEUP_PEER cause).freeze c 7 cause (d.put F.SHL_GIVEUP_PEER cause).fn).get g = d.get g :=
    (d.get_peerCause c cause hg).trans (d.get_put_ne _ hne)
  have hjoin : ((d.put F.SHL_GIVEUP_PEER cause).freeze c 7 cause (d.put F.SHL_GIVEUP_PEER cause).fn).joining = false := by
    rw [Dyn.joining, hget (by decide) (by decide)]
    exact h
  unfold Dyn.peerResigned
  extract_lets x y
  rw [if_neg (by rw [hjoin]; decide)]
  exact hget (by decide) (by decide)

theorem Dyn.get_leftAlone {g : Fld} (hlock : g.Clear (F.SHL_STATUS_LOCKSTEP :: stnWrites))
    (hpeer : g.Clear (F.SHL_PEER_ROLE :: stnWrites)) : (d.leftAlone c cause).get g = (d.peerResigned c cause).get g := by
  rw [Dyn.leftAlone, Dyn.get_setPeer c _ 7 hpeer, Dyn.get_handOn, Dyn.get_setLockstep c _ false hlock, Dyn.get_withTwin]

theorem Dyn.leftAlone_peerRole : (d.leftAlone c cause).peerRole = 7 := Dyn.setPeer_peerRole _ _ (by decide)

theorem Dyn.leftAlone_lockstep : (d.leftAlone c cause).lockstep = false := by
  rw [Dyn.leftAlone, Dyn.lockstep, Dyn.flag_eq (Dyn.get_setPeer c _ 7 (by decide)), Dyn.flag_eq (Dyn.get_handOn ..)]
  exact Dyn.setLockstep_lockstep ..

theorem Dyn.leftAlone_mapped : (d.leftAlone c cause).twin.mapped = 0 := by
  rw [Dyn.leftAlone, Dyn.setPeer_twin, Dyn.handOn_mapped, Dyn.setLockstep_twin, Dyn.withTwin_twin]

/-- What the role then brings: a mapped unit is to become ACTIVE, an ACTIVE one drives the pair outputs. -/
def Dyn.goOn (wasMapped : Bool) : Dyn :=
  if d.role == 7 then d
  else if wasMapped then d.withTwin { d.twin with nextRole := some 2 }
  else if d.role == 2 then d.pairsTo c d.twin.pairOn true
  else d

theorem Dyn.get_goOn (wasMapped : Bool) {g : Fld} (h : OfLink g.addr) : (d.goOn c wasMapped).get g = d.get g := by
  unfold Dyn.goOn
  split_ifs
  · rfl
  · exact d.get_withTwin ..
  · exact d.get_pairsTo c _ _ h
  · rfl

theorem Dyn.goOn_mapped (wasMapped : Bool) : (d.goOn c wasMapped).twin.mapped = d.twin.mapped := by
  unfold Dyn.goOn
  split_ifs
  · rfl
  · rfl
  · obtain ⟨p, q, h⟩ := d.pairsTo_beside c d.twin.pairOn true
    rw [h.twin, Dyn.withTwin_twin]
  · rfl

end

section
variable {s : State} {h : ShlHdr}

theorem exec_giveupMessage_known (hp : PeerMessage s 7 h) (cause : BitVec 8) (hrole : s.dyn.role = 7) :
    exec (.giveupMessage h cause) s = .next (s.withDyn (s.hears 7 h)) := by
  show execGiveupMessage h cause s = _
  rw [execGiveupMessage, State.upd_withDyn hp.live, hp.received, if_pos (by simp [(s.later_hears 7 h).role, hrole])]

theorem exec_giveupMessage (hp : PeerMessage s 7 h) (htwin : s.cfg.twin = true) (cause : BitVec 8) (hrole : s.dyn.role ≠ 7) :
    ∃ wasMapped, exec (.giveupMessage h cause) s =
      .next (s.withDyn (((s.hears 7 h).leftAlone s.cfg cause.toNat).goOn s.cfg wasMapped)) := by
  let x := (s.hears 7 h).put F.SHL_GIVEUP_PEER cause.toNat
  let y := x.freeze s.cfg 7 cause.toNat x.fn
  refine ⟨y.role == 5 && (y.twin.mapped != 0 || y.twin.decides), ?_⟩
  show execGiveupMessage h cause s = _
  rw [execGiveupMessage, State.upd_withDyn hp.live, hp.received, if_neg (by simp [(s.later_hears 7 h).role, hrole, htwin])]
  extract_lets b d₁ _ d₂ d₃
  have hleft : (s.hears 7 h).leftAlone s.cfg cause.toNat = d₃ := rfl
  rw [hleft]
  rfl

theorem exec_giveupMessage_shows (hp : PeerMessage s 7 h) (htwin : s.cfg.twin = true) (cause : BitVec 8)
    (hrole : s.dyn.role ≠ 7) : ∃ u, exec (.giveupMessage h cause) s = .next u ∧ u.dyn.get F.SHL_GIVEUP_PEER = cause.toNat ∧
      u.dyn.peerRole = 7 ∧ u.dyn.lockstep = false ∧ u.dyn.twin.mapped = 0 ∧
      (s.dyn.joining = false → u.dyn.role = s.dyn.role) := by
  obtain ⟨b, hexec⟩ := exec_giveupMessage hp htwin cause hrole
  have hlater := s.later_hears 7 h
  refine ⟨_, hexec, ?_⟩
  rw [s.withDyn_dyn]
  refine ⟨?cause, ?peer, ?lock, ?mapped, fun hjoin => ?role⟩
  case cause =>
    rw [Dyn.get_goOn _ _ _ (by decide), Dyn.get_leftAlone _ _ _ (by decide) (by decide), Dyn.peerResigned_cause _ _ _ cause.isLt]
  case peer => exact (Dyn.get_goOn _ _ _ (by decide)).trans (Dyn.leftAlone_peerRole ..)
  case lock => exact (Dyn.flag_eq (Dyn.get_goOn _ _ _ (by decide))).trans (Dyn.leftAlone_lockstep ..)
  case mapped => rw [Dyn.goOn_mapped, Dyn.leftAlone_mapped]
  case role =>
    have hstands := Dyn.peerResigned_role s.cfg _ cause.toNat (hlater.joining.trans hjoin)
    exact (Dyn.get_goOn _ _ _ (by decide)).trans ((Dyn.get_leftAlone _ _ _ (by decide) (by decide)).trans
      (hstands.trans hlater.role))

end

end Sys2Proof.Machine
end
section
/-! SUPPORT. Forwarded items, the messages of a join, and heartbeats (R256, R259, R265, R266, R270, R392). -/

namespace Sys2Proof.Machine

/-! ## FWD (R256, R259) -/

section
variable (c : Cfg) (d : Dyn)

theorem Dyn.rxReport_regs (p kind task source : Nat) (ft value : Word) :
    (d.rxReport c p kind task source ft value).regs = d.regs := by
  unfold Dyn.rxReport
  split
  · rfl
  · obtain ⟨ps, h⟩ := d.post_eq c p kind task source ft value
    rw [h]

theorem Dyn.rxReport_rx (p kind task source : Nat) (ft value : Word) :
    (d.rxReport c p kind task source ft value).twin.rx = d.twin.rx := by
  unfold Dyn.rxReport
  split
  · rfl
  · rw [Dyn.post_twin]

/-- What a forwarded item brings at once, when it is new: a report, or the acknowledgement it carries. -/
def Dyn.itemHeard (own : Bool) (item : RxItem) : Dyn :=
  match item with
  | .stream id seq _ => (c.streamEntries id).foldl (fun (d : Dyn) e =>
      if e.2.1.bit 29 && !own then d.rxReport c (e.2.1.field 24 4) 5 (e.2.1.field 20 4) id d.ft (seq.setWidth 32) else d) d
  | .can _ e f stamp =>
    let w1 := c.rd (0xD8000 + 8 * e + 4)
    if w1.bit 18 && !own then d.rxReport c (w1.field 23 4) 4 (w1.field 19 4) e stamp (f.data.getD 0 0) else d
  | .ack k seq _ => d.gotAck k seq
  | _ => d

theorem Dyn.itemHeard_rx (own : Bool) (item : RxItem) : (d.itemHeard c own item).twin.rx = d.twin.rx := by
  cases item with
  | stream id seq payload =>
    refine foldl_view (·.twin.rx) (fun x e => ?_) _ _
    split
    · exact x.rxReport_rx ..
    · rfl
  | can k e f stamp =>
    unfold Dyn.itemHeard
    dsimp only
    split
    · exact d.rxReport_rx ..
    · rfl
  | write who addr value => rfl
  | input i fn seq payload => rfl
  | ack k seq status => rfl

theorem Dyn.itemHeard_regs (own : Bool) {item : RxItem} (h : ∀ k seq st, item ≠ .ack k seq st) :
    (d.itemHeard c own item).regs = d.regs := by
  cases item with
  | stream id seq payload =>
    refine foldl_regs (fun x e => ?_) _ _
    split
    · exact x.rxReport_regs ..
    · rfl
  | can k e f stamp =>
    unfold Dyn.itemHeard
    dsimp only
    split
    · exact d.rxReport_regs ..
    · rfl
  | write who addr value => rfl
  | input i fn seq payload => rfl
  | ack k seq status => exact absurd rfl (h k seq status)

theorem Dyn.itemHeard_ack (own : Bool) (k : Nat) (seq : BitVec 16) (st : Nat) :
    (d.itemHeard c own (.ack k seq st)).flag (F.NET_RS_STATUS_NO_ACK_LIVE k) = false :=
  Dyn.flag_setFlag_same _ (F.NET_RS_STATUS_NO_ACK_LIVE k) false (show 30 + 1 ≤ 32 by decide) (show 1 ≤ 1 by decide)

end

section
variable {s : State} {h : ShlHdr}

theorem exec_fwd_known (hp : PeerMessage s 6 h) {num : BitVec 32} (item : RxItem)
    (hknown : ∃ r ∈ (s.hearsBulk 6 h).twin.rx ++ (s.hearsBulk 6 h).twin.seen, r.peer = true ∧ r.num = num.toNat) :
    exec (.fwd h num item) s = .next (s.withDyn (s.hearsBulk 6 h)) := by
  obtain ⟨r, hr, hpeer, hnum⟩ := hknown
  have hany : (((s.hearsBulk 6 h).twin.rx ++ (s.hearsBulk 6 h).twin.seen).any fun r => r.peer && r.num == num.toNat) = true :=
    List.any_eq_true.2 ⟨r, hr, by simp [hpeer, hnum]⟩
  show execFwd h num item s = _
  rw [execFwd, State.upd_withDyn hp.live, hp.receivedBulk]
  extract_lets n
  rw [if_pos (by rw [hany, Bool.or_true])]

/-- A new item waits, and is heard. -/
theorem exec_fwd_new (hp : PeerMessage s 6 h) (htwin : s.cfg.twin = true) {num : BitVec 32} (item : RxItem)
    (hnew : ∀ r ∈ (s.hearsBulk 6 h).twin.rx ++ (s.hearsBulk 6 h).twin.seen, r.peer = true → r.num ≠ num.toNat) :
    let e := s.hearsBulk 6 h
    exec (.fwd h num item) s = .next (s.withDyn
      ((e.withTwin { e.twin with rx := e.twin.rx ++ [⟨num.toNat, true, e.ft, item⟩] }).itemHeard s.cfg (e.knows s.cfg false item)
        item)) := by
  have hany : (((s.hearsBulk 6 h).twin.rx ++ (s.hearsBulk 6 h).twin.seen).any fun r => r.peer && r.num == num.toNat) = false :=
    List.any_eq_false.2 fun r hr => by simpa using hnew r hr
  show execFwd h num item s = _
  rw [execFwd, State.upd_withDyn hp.live, hp.receivedBulk]
  extract_lets n
  rw [if_neg (by rw [hany, htwin]; decide)]
  rfl

end

/-! ## The messages of a join (R270, R271) -/

section
variable {s : State} {h : ShlHdr}

theorem exec_xfer_notJoining (hp : PeerMessage s 8 h) (body : XferBody) (hrole : s.dyn.role ≠ 4) :
    exec (.xfer h body) s = .next (s.withDyn (s.hearsBulk 8 h)) := by
  show execXfer h body s = _
  rw [execXfer, State.upd_withDyn hp.live, hp.receivedBulk, if_pos (by simp [(s.later_hearsBulk 8 h).role, hrole])]

theorem exec_xfer_record (hp : PeerMessage s 8 h) (htwin : s.cfg.twin = true) (hrole : s.dyn.role = 4) (r : JRec) :
    let e := s.hearsBulk 8 h
    exec (.xfer h (.record r)) s = .next (s.withDyn
      { e with twin := { e.twin with recs := e.twin.recs ++ [(h.fn, r)] } }) := by
  show execXfer h (.record r) s = _
  rw [execXfer, State.upd_withDyn hp.live, hp.receivedBulk, if_neg (by simp [(s.later_hearsBulk 8 h).role, hrole, htwin])]

/-- A bulk message leaves the kind of the join, also when the state goes on. -/
theorem kind_catchUp (s : State) (h : ShlHdr) :
    ((s.hearsBulk 8 h).put F.SHL_XFER_STATE 3).flag F.SHL_XFER_KIND = s.dyn.flag F.SHL_XFER_KIND :=
  (Dyn.flag_put_apart _ 3 (by decide) (by decide)).trans ((s.later_hearsBulk 8 h).flag (by decide))

theorem Dyn.loadCheckpoint_twin (d : Dyn) (k : Checkpoint) : (d.loadCheckpoint k).twin = d.twin := by
  refine foldl_view (·.twin) (fun x e => ?_) _ _
  unfold Dyn.takeStn
  split <;> rfl

theorem exec_xfer_checkpoint (hp : PeerMessage s 8 h) (htwin : s.cfg.twin = true) (hrole : s.dyn.role = 4)
    (hkind : s.dyn.flag F.SHL_XFER_KIND = false) (k : Checkpoint) :
    let x := (s.hearsBulk 8 h).put F.SHL_XFER_STATE 3
    exec (.xfer h (.checkpoint k)) s = .next (s.withDyn
      (({ x.loadCheckpoint k with twin := { (x.loadCheckpoint k).twin with recs := [] } } : Dyn).stnState s.cfg)) := by
  have hkind := (kind_catchUp s h).trans hkind
  show execXfer h (.checkpoint k) s = _
  rw [execXfer, State.upd_withDyn hp.live, hp.receivedBulk, if_neg (by simp [(s.later_hearsBulk 8 h).role, hrole, htwin])]
  extract_lets first x src
  refine congrArg (fun d => Host.Outcome.next (s.withDyn d)) ((if_neg ?_).trans ?_)
  · rw [hkind]
    decide
  · exact congrArg (fun t : Twin => ((x.loadCheckpoint k).withTwin { t with recs := [] }).stnState s.cfg)
      (x.loadCheckpoint_twin k).symm

theorem exec_xfer_mapped (hp : PeerMessage s 8 h) (htwin : s.cfg.twin = true) (hrole : s.dyn.role = 4)
    (hkind : s.dyn.flag F.SHL_XFER_KIND = true) (k : Checkpoint) :
    let x := (s.hearsBulk 8 h).put F.SHL_XFER_STATE 3
    let y : Dyn := { x with twin := { x.twin with
      mapSrc := polders.filterMap fun p => (sget Polder.init k.pol p).snap.map fun r => (p, r) } }
    exec (.xfer h (.checkpoint k)) s =
      .next (s.withDyn (if s.dyn.get F.SHL_XFER_STATE ≤ 2 then y.sendReady else y)) := by
  have hkind := (kind_catchUp s h).trans hkind
  have hlater := s.later_hearsBulk 8 h
  show execXfer h (.checkpoint k) s = _
  rw [execXfer, State.upd_withDyn hp.live, hp.receivedBulk, if_neg (by simp [hlater.role, hrole, htwin]), ← hlater.xferState]
  extract_lets x y first _ src
  refine congrArg (fun d => Host.Outcome.next (s.withDyn d)) ((if_pos hkind).trans ?_)
  simp only [first]
  rfl

theorem exec_ready (hp : PeerMessage s 9 h) (hrole : s.dyn.role = 2) (hstate : s.dyn.get F.SHL_XFER_STATE = 3)
    (hfree : s.dyn.twin.lockFn = none) :
    let e := s.hears 9 h
    let l := if e.ft = e.slc.tFt then e.fn + 2 else e.fn + 3
    exec (.ready h) s = .next (s.withDyn
      ((({ e with twin := { e.twin with lockFn := some l } } : Dyn).wr Reg.SHL_XFER_FN l).sendWords 9 [3, l])) := by
  have hlater := s.later_hears 9 h
  obtain ⟨q, r, htwin⟩ := hlater.twin
  have hfree : (s.hears 9 h).twin.lockFn = none := (congrArg Twin.lockFn htwin).trans hfree
  show execReady h s = _
  rw [execReady, State.upd_withDyn hp.live, hp.received, if_pos (by simp [hlater.role, hrole, hlater.xferState, hstate, hfree])]
  simp only [beq_iff_eq]

theorem exec_lockstep (hp : PeerMessage s 9 h) (hrole : s.dyn.role = 4) (l : Word) :
    let e := s.hears 9 h
    exec (.lockstep h l) s = .next (s.withDyn
      (({ e with twin := { e.twin with lockFn := some l } } : Dyn).wr Reg.SHL_XFER_FN l)) := by
  show execLockstep h l s = _
  rw [execLockstep, State.upd_withDyn hp.live, hp.received, if_pos ((s.later_hears 9 h).role.trans hrole)]

/-! ### JOIN -/

/-- The role is told by TSU_STATUS.TWIN, and PTP may only listen. -/
theorem Dyn.followTime_puts (c : Cfg) (d : Dyn) (v : Nat) : ∃ t, d.followTime c v = { d.put F.TSU_STATUS_TWIN v with tsu := t } ∨
    d.followTime c v = ({ d.put F.TSU_STATUS_TWIN v with tsu := t } : Dyn).put F.TSU_STATUS_PTP_STATE 1 := by
  unfold Dyn.followTime
  extract_lets _ x
  split
  · exact ⟨_, .inl rfl⟩
  · exact ⟨_, .inr rfl⟩

theorem Dyn.followTime_lock (c : Cfg) (d : Dyn) {v : Nat} (hv : v < 4) : (d.followTime c v).get F.TSU_STATUS_TWIN = v := by
  have hset : (d.put F.TSU_STATUS_TWIN v).get F.TSU_STATUS_TWIN = v := d.get_put_fits (by decide) hv
  obtain ⟨t, h | h⟩ := d.followTime_puts c v
  · rw [h]
    exact hset
  · rw [h, Dyn.get_put_apart _ _ (by decide) (by decide)]
    exact hset

theorem Dyn.get_followTime (c : Cfg) (d : Dyn) (v : Nat) {g : Fld} (h : g.addr ≠ Reg.TSU_STATUS) :
    (d.followTime c v).get g = d.get g := by
  have hset : (d.put F.TSU_STATUS_TWIN v).get g = d.get g := d.get_put_ne v h
  obtain ⟨t, h' | h'⟩ := d.followTime_puts c v
  · rw [h']
    exact hset
  · rw [h', Dyn.get_put_ne _ _ h]
    exact hset

/-- The unit is JOINING; what its outputs do then follows. -/
def Dyn.joiner (c : Cfg) (d : Dyn) (mapped : Bool) : Dyn :=
  let d := ((d.wr Reg.SHL_XFER (BitVec.ofNat 32 (b2n mapped * 256 + 1))).followTime c 2).put F.SLC_STATUS_PHASE 0
  (d.withTwin { d.twin with joinAt := d.clk.cycles, lockFn := none, matched := 0, recs := [], mapSrc := [], primed := false,
                            parts := [], mirror := [], current := false, nextRole := none, decides := false,
                            fullCrc := none }).setRole c 4

theorem Dyn.becomeJoining_eq (c : Cfg) (d : Dyn) (mapped : Bool) :
    d.becomeJoining c mapped = ((d.joiner c mapped).pairsTo c false false).allSafe c false := rfl

theorem Dyn.get_becomeJoining (c : Cfg) (d : Dyn) (mapped : Bool) {g : Fld} (h : OfLink g.addr) :
    (d.becomeJoining c mapped).get g = (d.joiner c mapped).get g := by
  rw [Dyn.becomeJoining_eq, (Dyn.Beside.refl.allSafe false).get h, Dyn.get_pairsTo _ _ _ _ h]

theorem Dyn.joiner_xfer (c : Cfg) (d : Dyn) (mapped : Bool) {g : Fld} (hg : g.addr = Reg.SHL_XFER) :
    (d.joiner c mapped).get g = Word.field (BitVec.ofNat 32 (b2n mapped * 256 + 1)) g.lo g.width := by
  have hne : ∀ f ∈ F.SHL_STATUS_ROLE :: stnWrites, g.addr ≠ f.addr := by
    rw [hg]
    decide
  rw [Dyn.joiner, Dyn.setRole_lock _ _ (by decide) (by decide),
    Dyn.get_stnState _ _ (fun f hf => .inl (hne f (List.mem_cons_of_mem _ hf))), Dyn.get_put_ne _ _ (hne _ List.mem_cons_self),
    Dyn.get_withTwin, Dyn.get_put_ne _ _ (by rw [hg]; decide), Dyn.get_followTime _ _ _ (by rw [hg]; decide), Dyn.get, hg,
    Dyn.rd_wr_same]

/-- The unit is JOINING, its time base in the lock of the master, the join of its kind and LOCKING. -/
theorem Dyn.becomeJoining_shows (c : Cfg) (d : Dyn) (mapped : Bool) : (d.becomeJoining c mapped).role = 4 ∧
    (d.becomeJoining c mapped).get F.SHL_XFER_STATE = 1 ∧ (d.becomeJoining c mapped).flag F.SHL_XFER_KIND = mapped ∧
    (d.becomeJoining c mapped).get F.TSU_STATUS_TWIN = 2 := by
  refine ⟨?role, ?state, ?kind, ?lock⟩
  case role => exact (Dyn.get_becomeJoining _ _ _ (by decide)).trans (Dyn.setRole_role _ _ (by decide))
  case state =>
    refine (Dyn.get_becomeJoining _ _ _ (by decide)).trans ((Dyn.joiner_xfer _ _ _ rfl).trans ?_)
    cases mapped <;> rfl
  case kind =>
    rw [Dyn.flag, Dyn.get_becomeJoining _ _ _ (by decide), Dyn.joiner_xfer _ _ _ rfl]
    cases mapped <;> rfl
  case lock =>
    rw [Dyn.get_becomeJoining _ _ _ (by decide), Dyn.joiner, Dyn.setRole_lock _ _ (by decide) (by decide),
      Dyn.get_stnState _ _ (by decide), Dyn.get_put_ne _ _ (by decide), Dyn.get_withTwin, Dyn.get_put_ne _ _ (by decide)]
    exact Dyn.followTime_lock _ _ (by decide)

theorem exec_join (hp : PeerMessage s 9 h) (htwin : s.cfg.twin = true) (mapped : Bool)
    (hready : s.dyn.role = 3 ∨ s.dyn.boot.stage = .locked ∧ (s.dyn.twin.outcome = 3 ∨ s.dyn.twin.outcome = 4))
    (hjoin : s.dyn.joining = false) :
    exec (.join (.peer h mapped)) s = .next (s.withDyn ((s.hears 9 h).becomeJoining s.cfg mapped)) := by
  have hlater := s.later_hears 9 h
  obtain ⟨q, r, ht⟩ := hlater.twin
  show execJoin (.peer h mapped) s = _
  rw [execJoin, State.upd_withDyn hp.live, hp.received]
  extract_lets ready
  have hready : ready = true := by
    simp only [ready, hlater.role, hlater.boot, ht]
    simpa using hready
  rw [if_pos (by simp [htwin, hready, hlater.joining, hjoin])]

end

end Sys2Proof.Machine
end
section
/-! SUPPORT. Station frames that are accepted, and the heartbeats of the other unit (R265, R266, R386, R390, R392). -/

namespace Sys2Proof.Machine

/-! ## The duplicate discard -/

/-- The counters of frames lost on one LAN, or received from the wrong one. -/
def prpCounts : List Fld := [F.NET_PRP_A_LOW, F.NET_PRP_A_HIGH, F.NET_PRP_B_LOW, F.NET_PRP_B_HIGH]

section
variable {α : Type} {view : Dyn → α} (hnet : ∀ (d : Dyn) (n : Net), view { d with net := n } = view d)
include hnet

theorem Dyn.nodeSeen_view (d : Dyn) (mac : Nat) : view (d.nodeSeen mac) = view d := by
  unfold Dyn.nodeSeen
  extract_lets rest
  split
  · exact hnet _ _
  · rfl

variable (hcount : ∀ d, ∀ f ∈ prpCounts, view (d.bump f) = view d)
include hcount

theorem Dyn.prpForget_view (d : Dyn) : view d.prpForget = view d := by
  unfold Dyn.prpForget
  refine (hnet _ _).trans (foldl_view view (fun x e => ?_) _ _)
  split_ifs with hold hlan
  · exact hcount _ _ (by decide)
  · exact hcount _ _ (by decide)
  · rfl

/-- The discard touches its own tables and counters only. -/
theorem Dyn.prpPass_view (d : Dyn) (h : StnHdr) : view (d.prpPass h).1 = view d := by
  have hseen : view (d.prpForget.nodeSeen h.mac.toNat) = view d :=
    (Dyn.nodeSeen_view hnet _ _).trans (Dyn.prpForget_view hnet hcount d)
  unfold Dyn.prpPass
  extract_lets x
  split
  · exact hseen
  · extract_lets y same mark
    have hy : view y = view d := by
      refine Eq.trans ?_ hseen
      simp only [y]
      split_ifs
      · exact hcount _ _ (by decide)
      · exact hcount _ _ (by decide)
      · rfl
    split_ifs
    · exact (hnet _ _).trans hy
    · exact (hnet _ _).trans hy

end

section
variable (d : Dyn) (h : StnHdr)

theorem Dyn.prpPass_twin : (d.prpPass h).1.twin = d.twin :=
  Dyn.prpPass_view (view := (·.twin)) (fun _ _ => rfl) (fun _ _ _ => rfl) d h

theorem Dyn.get_prpPass {g : Fld} (ha : g.addr ≠ Reg.NET_PRP_A) (hb : g.addr ≠ Reg.NET_PRP_B) :
    (d.prpPass h).1.get g = d.get g := by
  refine Dyn.prpPass_view (view := (·.get g)) (fun _ _ => rfl) (fun x f hf => x.get_put_ne _ ?_) d h
  have hof : f.addr = Reg.NET_PRP_A ∨ f.addr = Reg.NET_PRP_B := by
    revert f
    decide
  rcases hof with hof | hof
  · rwa [hof]
  · rwa [hof]

end

/-! ## Frames that are accepted -/

theorem PassesChecks.checked {d : Dyn} {h : StnHdr} {b : StnBody} (hp : PassesChecks d h b) (drop f : Dyn → Dyn) :
    d.checked h b true true drop f = f (d.prpPass h).1 := by
  rw [Dyn.checked, if_neg (by simp [hp.format, hp.station]), if_neg (by simp [hp.tag]), Dyn.firstCopy]
  exact if_pos hp.first

theorem StationFrame.onPort {s : State} {h : StnHdr} {b : StnBody} (hs : StationFrame s h b) (f : Dyn → Dyn) :
    s.dyn.onPort s.cfg h true f = f (s.dyn.advTo h.at_) := by
  unfold Dyn.onPort
  extract_lets d
  rw [if_neg (by simp [d, hs.up, hs.taken]), if_neg (by simp [d, hs.ours, hs.known]), if_pos rfl]

theorem State.accepts_twin (s : State) (h : StnHdr) : (s.accepts h).twin = s.dyn.twin :=
  (Dyn.prpPass_twin _ h).trans (s.dyn.advTo_twin h.at_)

theorem State.accepts_get (s : State) (h : StnHdr) {g : Fld} (hwrap : F.TSU_STATUS_WRAP.Apart g)
    (ha : g.addr ≠ Reg.NET_PRP_A) (hb : g.addr ≠ Reg.NET_PRP_B) : (s.accepts h).get g = s.dyn.get g :=
  (Dyn.get_prpPass _ h ha hb).trans ((s.dyn.later_advTo h.at_).get g hwrap)

theorem State.accepts_agreeing (s : State) (h : StnHdr) : (s.accepts h).agreeing = s.dyn.agreeing := by
  rw [Dyn.agreeing, s.accepts_twin, Dyn.lockstep, Dyn.flag_eq (s.accepts_get h (by decide) (by decide) (by decide))]
  rfl

theorem State.accepts_joining (s : State) (h : StnHdr) : (s.accepts h).joining = s.dyn.joining := by
  rw [Dyn.joining, s.accepts_get h (by decide) (by decide) (by decide)]
  rfl

/-! ## Heartbeats -/

section
variable (d : Dyn)

/-- A split shows, and sets the role that B takes next. -/
theorem Dyn.splitCheck_cases : d.splitCheck = d ∨
    ∃ r, d.splitCheck = (d.setFlag F.SHL_STATUS_SPLIT true).withTwin { d.twin with nextRole := r } := by
  unfold Dyn.splitCheck
  split
  · by_cases hB : (d.setFlag F.SHL_STATUS_SPLIT true).unitB = true
    · exact .inr ⟨_, if_pos hB⟩
    · exact .inr ⟨d.twin.nextRole, if_neg hB⟩
  · exact .inl rfl

theorem Dyn.splitCheck_twin : ∃ r, d.splitCheck.twin = { d.twin with nextRole := r } := by
  obtain h | ⟨r, h⟩ := d.splitCheck_cases
  · exact ⟨d.twin.nextRole, by rw [h]⟩
  · exact ⟨r, by rw [h, Dyn.withTwin_twin]⟩

theorem Dyn.get_splitCheck {g : Fld} (h : F.SHL_STATUS_SPLIT.Apart g) : d.splitCheck.get g = d.get g := by
  obtain h' | ⟨r, h'⟩ := d.splitCheck_cases
  · rw [h']
  · rw [h', Dyn.get_withTwin]
    exact d.get_put_apart _ (by decide) h

/-- A new heartbeat is noted. -/
def Twin.noteBeat (t : Twin) (msg : Heartbeat) : Twin :=
  { t with hbNow := t.hbNow || (msg.role == 2 && !msg.giveUp), hbSeen := true }

/-- What a new heartbeat says: that the peer is there, and outside agreement and join its role. -/
def Dyn.heardBeat (c : Cfg) (msg : Heartbeat) : Dyn :=
  let d := d.withTwin (d.twin.noteBeat msg)
  if d.agreeing || d.joining then d else (d.setPeer c (if msg.giveUp then 7 else msg.role.toNat)).splitCheck

theorem Dyn.heardBeat_twin (c : Cfg) (msg : Heartbeat) :
    ∃ r, (d.heardBeat c msg).twin = { d.twin.noteBeat msg with nextRole := r } := by
  unfold Dyn.heardBeat
  extract_lets x
  split
  · exact ⟨d.twin.nextRole, rfl⟩
  · obtain ⟨r, hr⟩ := (x.setPeer c (if msg.giveUp then 7 else msg.role.toNat)).splitCheck_twin
    exact ⟨r, by rw [hr, Dyn.setPeer_twin]; rfl⟩

theorem Dyn.heardBeat_peerRole (c : Cfg) (msg : Heartbeat) (hagree : d.agreeing = false) (hjoin : d.joining = false) :
    (d.heardBeat c msg).peerRole = if msg.giveUp then 7 else msg.role.toNat := by
  have hfits : (if msg.giveUp then 7 else msg.role.toNat) < 8 := by
    split
    · decide
    · exact msg.role.isLt
  unfold Dyn.heardBeat
  extract_lets x
  have hx : ¬ (x.agreeing || x.joining) = true := by
    show ¬ (d.agreeing || d.joining) = true
    simp [hagree, hjoin]
  rw [if_neg hx]
  exact (Dyn.get_splitCheck _ (by decide)).trans (Dyn.setPeer_peerRole c x hfits)

end

section
variable {s : State} {msg : Heartbeat}

theorem exec_heartbeat (hs : StationFrame s msg.hdr (heartbeatBody msg)) (hpeer : s.dyn.fromPeer s.cfg msg.hdr = true) :
    exec (.heartbeatReceipt msg) s =
      .next (s.withDyn ((s.accepts msg.hdr).streamNew 0 msg.hdr.seq fun d => d.heardBeat s.cfg msg)) := by
  have hpeer : (s.dyn.advTo msg.hdr.at_).fromPeer s.cfg msg.hdr = true := by
    rwa [Dyn.fromPeer, (s.dyn.later_advTo _).unitB]
  show execHeartbeatReceipt msg s = _
  rw [execHeartbeatReceipt, State.upd_withDyn hs.live, hs.onPort, hpeer, hs.checks.checked]
  rfl

/-- A stream's frame that is new is acted on; another is only noted. -/
theorem Dyn.streamNew_cases (d : Dyn) (id : Nat) (seq : BitVec 16) (f : Dyn → Dyn) :
    let x := sget StreamRx.init d.net.streams id
    let new := (pairDiscard x.seen seq d.now).2 && isFresh x.applied seq d.now
    ∃ n : Net, (new = true → d.streamNew id seq f = f { d with net := n }) ∧
      (new = false → d.streamNew id seq f = { d with net := n }) := by
  intro x new
  refine ⟨_, fun h => if_pos h, fun h => if_neg (Bool.eq_false_iff.1 h)⟩

end

end Sys2Proof.Machine
end
section
/-! SUPPORT. The messages of the other unit: the obligation (R249, R250, R253, R254, R256, R259, R261, R264–R266, R270, R360, R361). -/

namespace Sys2Proof.Machine

/-! ## The clauses that say what shows -/

section
variable {s : State} {h : ShlHdr}

theorem exec_inputMessage_shows (hp : PeerMessage s 3 h) (htwin : s.cfg.twin = true) (carry : Bool)
    (words : List (Nat × Word)) (crc : Option Word) (cut : Nat) (lanes : BitVec 2) :
    let e := s.hears 3 h
    let ok := (crc.map fun x => x == Config.digest (flatWords (e.twin.mirrored words))).getD true
    ∃ u, exec (.inputMessage ⟨h, none, carry, words, crc, cut, lanes⟩) s = .next u ∧
      u.dyn.twin.mirror = e.twin.mirrored words ∧ u.dyn.twin.inputFn = some h.fn ∧ u.dyn.twin.digestOk = (ok && crc.isSome) ∧
      u.dyn.twin.peerCut = max e.twin.peerCut cut ∧ u.dyn.twin.peerLanes = lanes ∧
      ∀ a, a ≠ F.SHL_AGREE_PEAK_NS.addr → u.dyn.rd a = e.rd a := by
  obtain ⟨v, hexec⟩ := exec_inputMessage_frame hp htwin carry words crc cut lanes
  refine ⟨_, hexec, rfl, rfl, ?_, rfl, rfl, fun a ha => Dyn.rd_put_ne _ _ ha⟩
  cases crc <;> rfl

theorem exec_fwd_shows (hp : PeerMessage s 6 h) (htwin : s.cfg.twin = true) {num : BitVec 32} (item : RxItem)
    (hnew : ∀ r ∈ (s.hearsBulk 6 h).twin.rx ++ (s.hearsBulk 6 h).twin.seen, r.peer = true → r.num ≠ num.toNat) :
    let e := s.hearsBulk 6 h
    ∃ u, exec (.fwd h num item) s = .next u ∧ u.dyn.twin.rx = e.twin.rx ++ [⟨num.toNat, true, e.ft, item⟩] ∧
      (∀ k seq st, item = .ack k seq st → u.dyn.flag (F.NET_RS_STATUS_NO_ACK_LIVE k) = false) ∧
      ((∀ k seq st, item ≠ .ack k seq st) → u.dyn.regs = e.regs) := by
  refine ⟨_, exec_fwd_new hp htwin item hnew, Dyn.itemHeard_rx .., ?_, fun hack => Dyn.itemHeard_regs _ _ _ hack⟩
  rintro k seq st rfl
  exact Dyn.itemHeard_ack s.cfg _ ((s.hearsBulk 6 h).knows s.cfg false (.ack k seq st)) k seq st

theorem exec_join_shows (hp : PeerMessage s 9 h) (htwin : s.cfg.twin = true) (mapped : Bool)
    (hready : s.dyn.role = 3 ∨ s.dyn.boot.stage = .locked ∧ (s.dyn.twin.outcome = 3 ∨ s.dyn.twin.outcome = 4))
    (hjoin : s.dyn.joining = false) :
    ∃ u, exec (.join (.peer h mapped)) s = .next u ∧ u.dyn.role = 4 ∧ u.dyn.get F.SHL_XFER_STATE = 1 ∧
      u.dyn.flag F.SHL_XFER_KIND = mapped ∧ u.dyn.get F.TSU_STATUS_TWIN = 2 :=
  ⟨_, exec_join hp htwin mapped hready hjoin, Dyn.becomeJoining_shows ..⟩

theorem exec_heartbeat_shows {msg : Heartbeat} (hs : StationFrame s msg.hdr (heartbeatBody msg))
    (hpeer : s.dyn.fromPeer s.cfg msg.hdr = true) :
    let e := s.accepts msg.hdr
    let x := sget StreamRx.init e.net.streams 0
    let new := (pairDiscard x.seen msg.hdr.seq e.now).2 && isFresh x.applied msg.hdr.seq e.now
    ∃ u, exec (.heartbeatReceipt msg) s = .next u ∧ u.cfg = s.cfg ∧
      (new = false → u.dyn.twin = e.twin ∧ u.dyn.regs = e.regs) ∧
      (new = true → u.dyn.twin.hbSeen = true ∧ u.dyn.twin.hbNow = (s.dyn.twin.hbNow || (msg.role == 2 && !msg.giveUp)) ∧
        (s.dyn.agreeing = false → s.dyn.joining = false →
          u.dyn.peerRole = (if msg.giveUp then 7 else msg.role.toNat))) := by
  intro e x new
  obtain ⟨n, hnew, hold⟩ := e.streamNew_cases 0 msg.hdr.seq fun d => d.heardBeat s.cfg msg
  refine ⟨_, exec_heartbeat hs hpeer, rfl, fun hno => ?_, fun hyes => ?_⟩
  · show (e.streamNew 0 msg.hdr.seq fun d => d.heardBeat s.cfg msg).twin = _ ∧ (e.streamNew 0 msg.hdr.seq _).regs = _
    rw [hold hno]
    exact ⟨rfl, rfl⟩
  · have heard := hnew hyes
    have htwin : e.twin = s.dyn.twin := s.accepts_twin msg.hdr
    refine ⟨?seen, ?now, fun hagree hjoin => ?role⟩
    case role =>
      refine (congrArg Dyn.peerRole heard).trans (Dyn.heardBeat_peerRole _ _ msg ?_ ?_)
      · exact (s.accepts_agreeing msg.hdr).trans hagree
      · exact (s.accepts_joining msg.hdr).trans hjoin
    all_goals
      obtain ⟨r, hr⟩ := Dyn.heardBeat_twin { e with net := n } s.cfg msg
      have ht := (congrArg Dyn.twin heard).trans hr
    case seen => exact congrArg Twin.hbSeen ht
    case now => exact (congrArg Twin.hbNow ht).trans (congrArg (fun t : Twin => t.hbNow || (msg.role == 2 && !msg.giveUp)) htwin)

end

/-- Settles O58: a message goes through the checks of its receipt (`Receives`, `ReceivesBulk`), and an intact new one acts as the
`exec_` lemma of its kind states. The mapped joiner's READY on its first checkpoint and the frame L that READY fixes are the
model's reading (log entry 64), as is what counts as a second copy (log entry 111). -/
theorem twinMessages : Obligations.TwinMessages := by
  unfold Obligations.TwinMessages
  intro s h htwin
  refine ⟨?receipt, ?bulk, ?input, ?slot, ?sig, ?time, ?giveup, ?ack, ?fwd, ?xfer, ?ctrl, ?beat⟩
  case receipt =>
    intro pr slot es sig m msg cause xfer seq l mapped cs hlive x hx
    have hall : ∀ x ∈ cs, Receives x.2 x.1 h := by
      simp only [cs, List.forall_mem_cons, List.not_mem_nil, false_imp_iff, implies_true, and_true]
      exact ⟨receives_pair _, receives_inputMessage _, receives_slotMessage h _ _, receives_sigMessage h _,
        receives_timeMessage _, receives_giveupMessage h _, receives_ctrlAck h _ _, receives_ready h, receives_lockstep h _,
        receives_join h _⟩
    exact ⟨(hall x hx).damaged hlive, (hall x hx).known hlive⟩
  case bulk =>
    intro num item body hlive x hx
    have hall : ReceivesBulk x.2 x.1 h := by
      rcases List.mem_pair.1 hx with rfl | rfl
      · exact receivesBulk_fwd h _ _
      · exact receivesBulk_xfer h _
    exact ⟨hall.damaged hlive, hall.known hlive⟩
  case input =>
    intro carry words crc cut lanes hp
    exact ⟨exec_inputMessage_shows hp htwin carry words crc cut lanes,
      fun i n => exec_inputMessage_part hp htwin i n carry words crc cut lanes⟩
  case slot => exact fun slot es hp => exec_slotMessage hp slot es
  case sig => exact fun sig hp => exec_sigMessage hp sig
  case time =>
    intro masterFt sec ns status incr cal change hp
    obtain ⟨z, hexec, hfn, hheld⟩ := exec_timeMessage hp htwin masterFt sec ns status incr cal change
    exact ⟨_, hexec, rfl, hfn, fun hfollow => ⟨congrArg TimeHeld.master (hheld hfollow), congrArg TimeHeld.change (hheld hfollow)⟩⟩
  case giveup => exact fun cause hp => ⟨exec_giveupMessage_known hp cause, exec_giveupMessage_shows hp htwin cause⟩
  case ack => exact fun xfer seq hp => exec_ctrlAck hp xfer seq
  case fwd =>
    intro num item hp e
    refine ⟨fun hnew => ?_, exec_fwd_known hp item⟩
    obtain ⟨u, hexec, hrx, hack, hregs⟩ := exec_fwd_shows hp htwin item hnew
    exact ⟨u, hexec, hrx, hack, fun _ => hregs⟩
  case xfer =>
    exact fun hp => ⟨exec_xfer_notJoining hp, fun r hrole => exec_xfer_record hp htwin hrole r,
      fun k hrole hkind => exec_xfer_checkpoint hp htwin hrole hkind k,
      fun k hrole hkind => exec_xfer_mapped hp htwin hrole hkind k⟩
  case ctrl =>
    exact fun hp => ⟨exec_ready hp, fun l hrole => exec_lockstep hp hrole l, exec_join_shows hp htwin⟩
  case beat => exact fun msg hs hpeer => exec_heartbeat_shows hs hpeer

end Sys2Proof.Machine
end
section
/-! SUPPORT. Pairing: PAIR and its table, the wait, the time base and the contribution before FN 0 (R14, R58, R69, R248, R251–R253). -/

namespace Sys2Proof.Machine

/-! ## What a PAIR shows of the peer -/

section
variable (c : Cfg) (d : Dyn) (r : PairRec)

/-- The peer's firmware and unit. -/
def Dyn.pairMarked : Dyn := (d.put F.SHL_PEER_FW_MAJOR r.fwMajor).setFlag F.SHL_PEER_UNIT r.hdr.unitB

/-- Outside agreement its role as well. -/
def Dyn.pairSeen : Dyn := if (d.pairMarked r).agreeing then d.pairMarked r else (d.pairMarked r).setPeer c r.role.toNat

/-- The image of the peer. -/
def Twin.notePair (t : Twin) : Twin := { t with peerIfp := r.ifp, peerSame := r.imageId == c.img.imageId }

/-- The record is noted. -/
def Dyn.pairNoted : Dyn := (d.pairSeen c r).withTwin ((d.pairSeen c r).twin.notePair c r)

/-- The fields that a PAIR writes. -/
def pairWrites : List Fld := [F.SHL_PEER_FW_MAJOR, F.SHL_PEER_UNIT, F.SHL_PEER_ROLE] ++ stnWrites

theorem Dyn.get_pairMarked {g : Fld} (hfw : F.SHL_PEER_FW_MAJOR.Apart g) (hunit : F.SHL_PEER_UNIT.Apart g) :
    (d.pairMarked r).get g = d.get g :=
  (Dyn.get_put_apart _ _ (by decide) hunit).trans (Dyn.get_put_apart _ _ (by decide) hfw)

theorem Dyn.pairMarked_agreeing : (d.pairMarked r).agreeing = d.agreeing := by
  rw [Dyn.agreeing, Dyn.lockstep, Dyn.flag_eq (d.get_pairMarked r (by decide) (by decide))]
  rfl

theorem Dyn.pairSeen_twin : (d.pairSeen c r).twin = d.twin := by
  unfold Dyn.pairSeen
  split
  · rfl
  · exact Dyn.setPeer_twin ..

theorem Dyn.pairNoted_twin : (d.pairNoted c r).twin = d.twin.notePair c r := by
  rw [Dyn.pairNoted, Dyn.withTwin_twin, Dyn.pairSeen_twin]

theorem Dyn.pairNoted_boot : (d.pairNoted c r).boot = d.boot := by
  show (d.pairSeen c r).boot = _
  unfold Dyn.pairSeen
  split
  · rfl
  · exact Dyn.setPeer_boot ..

theorem Dyn.pairNoted_nv : (d.pairNoted c r).nv = d.nv := by
  show (d.pairSeen c r).nv = _
  unfold Dyn.pairSeen
  split
  · rfl
  · exact Dyn.setPeer_nv ..

theorem Dyn.get_pairNoted {g : Fld} (h : g.Clear pairWrites) : (d.pairNoted c r).get g = d.get g := by
  obtain ⟨hpeer, hstn⟩ := List.forall_mem_append.1 h
  have hmarked : (d.pairMarked r).get g = d.get g := d.get_pairMarked r (hpeer _ (by decide)) (hpeer _ (by decide))
  rw [Dyn.pairNoted, Dyn.get_withTwin, Dyn.pairSeen]
  split
  · exact hmarked
  · exact (Dyn.get_setPeer c _ _ (List.forall_mem_cons.2 ⟨hpeer _ (by decide), hstn⟩)).trans hmarked

theorem Dyn.pairNoted_peerRole (h : d.agreeing = false) : (d.pairNoted c r).peerRole = r.role.toNat := by
  rw [Dyn.pairNoted, Dyn.peerRole, Dyn.get_withTwin, Dyn.pairSeen, if_neg (by simp [Dyn.pairMarked_agreeing, h])]
  exact Dyn.setPeer_peerRole c _ r.role.isLt

theorem Dyn.pairNoted_unitB : (d.pairNoted c r).unitB = d.unitB := Dyn.flag_eq (d.get_pairNoted c r (by decide))

/-- The checks rest on registers that a PAIR does not write. -/
theorem Dyn.pairCause_congr {d e : Dyn} (hsk : e.rd Reg.SEC_SK_KCV = d.rd Reg.SEC_SK_KCV)
    (hik : e.rd Reg.SEC_IK_KCV = d.rd Reg.SEC_IK_KCV) (hfw : e.get F.MOD_FW_REV_MAJOR = d.get F.MOD_FW_REV_MAJOR) :
    e.pairCause c r = d.pairCause c r := by
  rw [Dyn.pairCause, hsk, hik, hfw, Dyn.pairCause]

theorem Dyn.pairNoted_cause : (d.pairNoted c r).pairCause c r = d.pairCause c r :=
  Dyn.pairCause_congr c r (Dyn.rd_of_get (d.get_pairNoted c r (by decide))) (Dyn.rd_of_get (d.get_pairNoted c r (by decide)))
    (d.get_pairNoted c r (by decide))

theorem Dyn.pairCause_lt {k : Nat} (h : d.pairCause c r = some k) : k < 256 := by
  unfold Dyn.pairCause at h
  split_ifs at h <;> cases h <;> decide

end

/-! ## How pairing ends (R252) -/

section
variable (c : Cfg) (d : Dyn) (r : PairRec)

/-- A unit that runs notes which join the peer is ready for, or the split. -/
def Dyn.pairRunning : Dyn :=
  let x := if d.agreeing then d else d.splitCheck
  let ready := r.role == 1 || ((d.pairCause c r).isNone && r.role == 3)
  if ready && x.role == 2 && !x.agreeing && r.hdr.stnId == x.nv.stnId && r.hdr.unitB != x.unitB then
    x.withTwin { x.twin with peerReady := if r.imageId == c.img.imageId then 1 else 2 }
  else x

/-- The unit stays in start-up with a cause. -/
def Dyn.pairStays (k : Nat) : Dyn := (d.setOutcome 5).enter 0 k

/-- The table of R252. -/
def Dyn.pairEnds : Dyn :=
  if r.hdr.stnId ≠ d.nv.stnId || r.hdr.unitB == d.unitB then d.pairStays 1
  else if r.role = 2 then
    match d.pairCause c r with
    | some k => d.pairStays k
    | none => d.setOutcome (if r.imageId == c.img.imageId then 3 else 4)
  else match d.pairCause c r with
    | some k => if d.unitB then d.pairStays k else d.setOutcome 1
    | none =>
      if r.imageId == c.img.imageId then d.startTogether c
      else if d.unitB then d.setOutcome 4
      else d.withTwin { d.twin with outcome := 1, peerReady := 2 }

/-- The answer to a PAIR that is noted. -/
def Dyn.pairAnswer : Dyn :=
  if d.boot.stage == .running then d.pairRunning c r else if d.twin.outcome ≠ 0 then d else d.pairEnds c r

/-! ### What the answer leaves of the peer -/

/-- What a PAIR has shown of the peer. -/
def Dyn.peerShown : BitVec 64 × Bool × Nat := (d.twin.peerIfp, d.twin.peerSame, d.peerRole)

theorem Dyn.peerShown_congr {d e : Dyn} {f : Twin → Twin} (htwin : e.twin = f d.twin) (hget : e.get F.SHL_PEER_ROLE = d.peerRole)
    (hf : ∀ t, ((f t).peerIfp, (f t).peerSame) = (t.peerIfp, t.peerSame)) : e.peerShown = d.peerShown := by
  have hif := congrArg Prod.fst (hf d.twin)
  have hsame := congrArg Prod.snd (hf d.twin)
  rw [Dyn.peerShown, htwin, Dyn.peerRole, hget]
  exact Prod.ext hif (Prod.ext hsame rfl)

theorem Dyn.peerShown_pairStays (k : Nat) : (d.pairStays k).peerShown = d.peerShown :=
  Dyn.peerShown_congr (f := fun t => { t with outcome := 5 }) rfl (Dyn.get_congr (Dyn.rd_enter _ _ _ (by decide))) fun _ => rfl

theorem Dyn.peerShown_splitCheck : d.splitCheck.peerShown = d.peerShown := by
  obtain ⟨n, htwin⟩ := d.splitCheck_twin
  exact Dyn.peerShown_congr (f := fun t => { t with nextRole := n }) htwin (d.get_splitCheck (by decide)) fun _ => rfl

theorem Dyn.peerShown_pairRunning : (d.pairRunning c r).peerShown = d.peerShown := by
  unfold Dyn.pairRunning
  extract_lets x ready
  have hx : x.peerShown = d.peerShown := by
    simp only [x]
    split
    · rfl
    · exact d.peerShown_splitCheck
  split
  · exact hx
  · exact hx

/-- A paired start sets the time lock, and forgets what the priming exchange brings. -/
theorem Dyn.startTogether_eq : d.startTogether c =
    let x := if d.unitB then d.followTime c 2 else d.put F.TSU_STATUS_TWIN 1
    x.withTwin { x.twin with outcome := 2, mirror := [], primed := false, parts := [], fullCrc := none } := rfl

theorem Dyn.followTime_twin (v : Nat) : (d.followTime c v).twin = d.twin := by
  obtain ⟨t, h | h⟩ := d.followTime_puts c v
  · rw [h]
    rfl
  · rw [h]
    rfl

theorem Dyn.startTogether_lock : (d.startTogether c).get F.TSU_STATUS_TWIN = if d.unitB then 2 else 1 := by
  rw [Dyn.startTogether_eq, Dyn.get_withTwin]
  split
  · exact d.followTime_lock c (by decide)
  · exact d.get_put_fits (by decide) (by decide)

theorem Dyn.peerShown_startTogether : (d.startTogether c).peerShown = d.peerShown := by
  rw [Dyn.startTogether_eq]
  refine Dyn.peerShown_congr
    (f := fun t => { t with outcome := 2, mirror := [], primed := false, parts := [], fullCrc := none }) ?_ ?_ fun _ => rfl
  · rw [Dyn.withTwin_twin]
    split
    · rw [Dyn.followTime_twin]
    · rfl
  · rw [Dyn.get_withTwin]
    split
    · exact d.get_followTime c 2 (by decide)
    · exact d.get_put_apart _ (by decide) (by decide)

theorem Dyn.peerShown_pairEnds : (d.pairEnds c r).peerShown = d.peerShown := by
  cases hcause : d.pairCause c r with
  | some k =>
    simp only [Dyn.pairEnds, hcause]
    split_ifs
    · exact d.peerShown_pairStays 1
    · exact d.peerShown_pairStays k
    · exact d.peerShown_pairStays k
    · rfl
  | none =>
    simp only [Dyn.pairEnds, hcause]
    split_ifs
    · exact d.peerShown_pairStays 1
    · rfl
    · rfl
    · exact d.peerShown_startTogether c
    · rfl
    · rfl

theorem Dyn.peerShown_pairAnswer : (d.pairAnswer c r).peerShown = d.peerShown := by
  unfold Dyn.pairAnswer
  split_ifs
  · exact d.peerShown_pairRunning c r
  · rfl
  · exact d.peerShown_pairEnds c r

/-! ### The table, row by row -/

section
variable {c d r}

/-- The unit stays in start-up, with the cause shown. -/
theorem Dyn.pairStays_refuses {k : Nat} (h : k < 256) :
    (d.pairStays k).twin.outcome = 5 ∧ (d.pairStays k).modState = 0 ∧ (d.pairStays k).get F.MOD_STATE_CAUSE = k :=
  ⟨rfl, Dyn.enter_modState _ _ (by decide), Dyn.enter_cause _ _ h⟩

theorem Dyn.pairEnds_stranger (h : r.hdr.stnId ≠ d.nv.stnId ∨ r.hdr.unitB = d.unitB) : d.pairEnds c r = d.pairStays 1 := by
  rw [Dyn.pairEnds, if_pos (by simpa using h)]

variable (hstn : r.hdr.stnId = d.nv.stnId) (hunit : r.hdr.unitB = !d.unitB)
include hstn hunit

theorem Dyn.pairEnds_known : ¬ (r.hdr.stnId ≠ d.nv.stnId || r.hdr.unitB == d.unitB) = true := by
  simp [hstn, hunit]

theorem Dyn.pairEnds_refused {k : Nat} (hcause : d.pairCause c r = some k) (hgoes : r.role = 2 ∨ d.unitB = true) :
    d.pairEnds c r = d.pairStays k := by
  rw [Dyn.pairEnds, if_neg (Dyn.pairEnds_known hstn hunit), hcause]
  by_cases hrole : r.role = 2
  · rw [if_pos hrole]
  · rw [if_neg hrole]
    exact if_pos (hgoes.resolve_left hrole)

theorem Dyn.pairEnds_alone {k : Nat} (hcause : d.pairCause c r = some k) (hrole : r.role ≠ 2) (hA : d.unitB = false) :
    d.pairEnds c r = d.setOutcome 1 := by
  rw [Dyn.pairEnds, if_neg (Dyn.pairEnds_known hstn hunit), hcause, if_neg hrole]
  exact if_neg (by simp [hA])

theorem Dyn.pairEnds_active (hcause : d.pairCause c r = none) (hrole : r.role = 2) :
    d.pairEnds c r = d.setOutcome (if r.imageId = c.img.imageId then 3 else 4) := by
  rw [Dyn.pairEnds, if_neg (Dyn.pairEnds_known hstn hunit), hcause, if_pos hrole]
  simp only [beq_iff_eq]

theorem Dyn.pairEnds_together (hcause : d.pairCause c r = none) (hrole : r.role ≠ 2) (himage : r.imageId = c.img.imageId) :
    d.pairEnds c r = d.startTogether c := by
  rw [Dyn.pairEnds, if_neg (Dyn.pairEnds_known hstn hunit), hcause, if_neg hrole]
  exact if_pos (by simp [himage])

theorem Dyn.pairEnds_other (hcause : d.pairCause c r = none) (hrole : r.role ≠ 2) (himage : r.imageId ≠ c.img.imageId) :
    (d.pairEnds c r).twin.outcome = if d.unitB then 4 else 1 := by
  rw [Dyn.pairEnds, if_neg (Dyn.pairEnds_known hstn hunit), hcause, if_neg hrole]
  dsimp only
  rw [if_neg (by simp [himage])]
  split <;> rfl

end

theorem exec_pair {s : State} {r : PairRec} (hp : PeerMessage s 1 r.hdr) (hpairs : s.cfg.pairs s.dyn = true) :
    exec (.pair r) s = .next (s.withDyn (((s.hears 1 r.hdr).pairNoted s.cfg r).pairAnswer s.cfg r)) := by
  show execPair r s = _
  rw [execPair, State.upd_withDyn hp.live, hp.received, if_neg (by simp [(s.later_hears 1 r.hdr).pairs, hpairs])]
  rfl

end

section
variable {s : State} {r : PairRec}

/-- A PAIR shows the peer, and leaves the table to a unit that waits. -/
theorem exec_pair_shows (hp : PeerMessage s 1 r.hdr) (hpairs : s.cfg.pairs s.dyn = true) :
    ∃ u, exec (.pair r) s = .next u ∧ u.cfg = s.cfg ∧ u.dyn.twin.peerIfp = r.ifp ∧
      u.dyn.twin.peerSame = (r.imageId == s.cfg.img.imageId) ∧ (s.dyn.agreeing = false → u.dyn.peerRole = r.role.toNat) ∧
      (s.dyn.boot.stage = .locked → s.dyn.twin.outcome = 0 →
        u.dyn = ((s.hears 1 r.hdr).pairNoted s.cfg r).pairEnds s.cfg r) := by
  have hlater := s.later_hears 1 r.hdr
  let x := (s.hears 1 r.hdr).pairNoted s.cfg r
  have htwin : x.twin = (s.hears 1 r.hdr).twin.notePair s.cfg r := Dyn.pairNoted_twin ..
  have hshown : (x.pairAnswer s.cfg r).peerShown = x.peerShown := Dyn.peerShown_pairAnswer ..
  refine ⟨_, exec_pair hp hpairs, rfl, ?ifp, ?same, fun hagree => ?role, fun hlocked hout => ?table⟩
  case ifp => exact (congrArg Prod.fst hshown).trans (congrArg Twin.peerIfp htwin)
  case same => exact (congrArg (·.2.1) hshown).trans (congrArg Twin.peerSame htwin)
  case role =>
    exact (congrArg (·.2.2) hshown).trans (Dyn.pairNoted_peerRole _ _ _ (hlater.agreeing.trans hagree))
  case table =>
    have hboot : x.boot.stage = .locked := (congrArg Boot.stage ((Dyn.pairNoted_boot ..).trans hlater.boot)).trans hlocked
    have hwaits : x.twin.outcome = 0 := by
      obtain ⟨q, p, ht⟩ := hlater.twin
      rw [htwin, ht]
      exact hout
    show x.pairAnswer s.cfg r = _
    rw [Dyn.pairAnswer, if_neg (by simp [hboot]), if_neg (by simp [hwaits])]

/-- What the table rests on is as it was before the message. -/
theorem pairNoted_hears (s : State) (r : PairRec) : let x := (s.hears 1 r.hdr).pairNoted s.cfg r
    x.nv.stnId = s.dyn.nv.stnId ∧ x.unitB = s.dyn.unitB ∧ x.pairCause s.cfg r = s.dyn.pairCause s.cfg r := by
  have hlater := s.later_hears 1 r.hdr
  refine ⟨?_, (Dyn.pairNoted_unitB ..).trans hlater.unitB, (Dyn.pairNoted_cause ..).trans ?_⟩
  · rw [Dyn.pairNoted_nv, hlater.nv]
  · exact Dyn.pairCause_congr _ r (hlater.rd (by decide)) (hlater.rd (by decide)) (hlater.get _ (by decide))

/-! ## Resending, the wait, and what goes out before FN 0 -/

theorem exec_pairResend (hlive : Live s) (hpairs : s.cfg.pairs s.dyn = true) (hfree : s.dyn.paired = false)
    (hnear : s.dyn.nearCycle s.cfg (s.dyn.twin.pairAt + 5000000)) :
    exec .pairResend s = .next (s.withDyn ((s.dyn.dueCycle (s.dyn.twin.pairAt + 5000000)).sendPair s.cfg)) := by
  show execPairResend s = _
  rw [execPairResend, State.upd_withDyn hlive, if_pos (by simp [hpairs, hfree]), Dyn.whenCycle_near hnear]

theorem exec_pairWaitExpiry (hlive : Live s) (hpairs : s.cfg.pairs s.dyn = true) (hlocked : s.dyn.boot.stage = .locked)
    (hwaits : s.dyn.twin.outcome = 0) :
    ∃ u, exec .pairWaitExpiry s = .next u ∧
      u.dyn.twin.outcome = if s.dyn.unitB && s.dyn.twin.hbSeen then 0 else 1 := by
  refine ⟨_, (show execPairWaitExpiry s = _ by
    rw [execPairWaitExpiry, State.upd_withDyn hlive, if_pos (by simp [hpairs, hlocked, hwaits])]), ?_⟩
  extract_lets d
  have hlater : s.dyn.Later d := Dyn.later_ticks ..
  have htwin : d.twin = s.dyn.twin := Dyn.ticks_twin ..
  show (if (d.unitB && d.twin.hbSeen) = true then d else d.setOutcome 1).twin.outcome = _
  rw [hlater.unitB, htwin]
  split
  · exact (congrArg Twin.outcome htwin).trans hwaits
  · rfl

theorem exec_timeSendBeforeFn0 (hlive : Live s) (htwin : s.cfg.twin = true) (hlocked : s.dyn.boot.stage = .locked)
    (hout : s.dyn.twin.outcome = 2) (hA : s.dyn.unitB = false) :
    exec .timeSendBeforeFn0 s = .next (s.withDyn (s.dyn.sendWords 2
      [s.dyn.ft, s.dyn.clk.sec.extractLsb' 0 32, (s.dyn.clk.sec.extractLsb' 32 16).setWidth 32,
        BitVec.ofNat 32 s.dyn.ptpNs, s.dyn.timeStatus, s.dyn.rd Reg.TSU_INCR, s.dyn.rd Reg.RTC_CALSTATE])) := by
  show execTimeSendBeforeFn0 s = _
  rw [execTimeSendBeforeFn0, State.upd_withDyn hlive, if_pos (by simp [htwin, hlocked, hout, hA])]

theorem exec_primingFrame (hlive : Live s) (htwin : s.cfg.twin = true) :
    let start := s.dyn.boot.stage = .locked ∧ s.dyn.twin.outcome = 2
    let latched := ({ s.dyn with slc := { s.dyn.slc with tFt := s.dyn.ft } } : Dyn).latchOwn s.cfg
    (start ∨ s.dyn.twin.lockFn = some (s.dyn.frameNow + 1)) →
      exec .primingFrame s = .next (s.withDyn (if start ∨ s.dyn.role = 4 then latched.sendFull else s.dyn.sendFull)) := by
  intro start latched hdue
  show execPrimingFrame s = _
  rw [execPrimingFrame, State.upd_withDyn hlive]
  extract_lets first join _ x
  have hfirst : (first = true) = start := by simp [first, start]
  have hjoin : (join = true) = (s.dyn.twin.lockFn = some (s.dyn.frameNow + 1)) := by
    simp only [join, Option.any_eq_true, beq_iff_eq, exists_eq_right']
  have hgo : ¬ (!s.cfg.twin || !(first || join)) = true := by
    rw [htwin, Bool.not_true, Bool.false_or, Bool.not_eq_true', Bool.not_eq_false, Bool.or_eq_true, hfirst, hjoin]
    exact hdue
  rw [if_neg hgo]
  have hown : ((first || s.dyn.role == 4) = true) = (start ∨ s.dyn.role = 4) := by
    rw [Bool.or_eq_true, hfirst, beq_iff_eq]
  refine congrArg (fun d => Host.Outcome.next (s.withDyn d)) ?_
  by_cases h : start ∨ s.dyn.role = 4
  · rw [if_pos h]
    exact congrArg Dyn.sendFull (if_pos (hown.mpr h))
  · rw [if_neg h]
    exact congrArg Dyn.sendFull (if_neg (hown ▸ h))

end

end Sys2Proof.Machine
end
section
/-! SUPPORT. Deadlines of the agreement, verdicts, lanes and hardware faults of a twin (R248–R250, R258, R261–R263). -/

namespace Sys2Proof.Machine

/-! ## Deadlines (R258, R261) -/

section
variable {s : State}

theorem exec_slotAgreementDeadline (hlive : Live s) (n : BitVec 4) (hframing : s.dyn.slc.framing = true)
    (hzero : n = 0 → s.dyn.phase = 1) (hslot : n ≠ 0 → s.dyn.phase = 2 ∧ s.dyn.get F.SLC_STATUS_SLOT < n.toNat) :
    let d := s.dyn.advTo (if n = 0 then s.dyn.atT 2000 else s.dyn.slotAt s.cfg n.toNat + 2000)
    exec (.slotAgreementDeadline n) s = .next (s.withDyn (
      if d.agreeing && !(d.twin.peerSlots.any fun x => x.1 == n.toNat) then d.slotMissed s.cfg else d)) := by
  show execSlotAgreementDeadline n s = _
  rw [execSlotAgreementDeadline, State.upd_withDyn hlive]
  extract_lets isOpen d
  have hopen : isOpen := by
    by_cases hn : n = 0
    · simp only [isOpen, if_pos hn]
      exact hzero hn
    · obtain ⟨hphase, hbefore⟩ := hslot hn
      have hphase : s.dyn.get F.SLC_STATUS_PHASE = 2 := hphase
      simp [isOpen, if_neg hn, hphase, hbefore]
  rw [if_pos (by simp [hframing, hopen])]

theorem exec_sigDeadline (hlive : Live s) (hframing : s.dyn.slc.framing = true) (hphase : s.dyn.phase = 4) :
    exec .sigDeadline s = .next (s.withDyn ((s.dyn.advTo (s.dyn.atT (s.cfg.offset - 500))).sigMissing)) := by
  have hphase : s.dyn.get F.SLC_STATUS_PHASE = 4 := hphase
  show execSigDeadline s = _
  rw [execSigDeadline, State.upd_withDyn hlive, if_pos (by simp [hframing, hphase])]

end

/-! ## Verdicts (R262) -/

section
variable (c : Cfg) (d : Dyn)

/-- The mismatch is closed. -/
def Dyn.mismatchClosed : Dyn := d.withTwin { d.twin with mismatch := none, suppress := false }

/-- The peer's burst of this frame failed. -/
def Dyn.peerBad : Bool :=
  match d.twin.peerSig with
  | some (fn, sig) => fn == d.fn && sig.verdict == some false
  | none => false

theorem Dyn.peerBad_eq : d.peerBad = d.twin.peerSig.any fun x => x.1 == d.fn && x.2.verdict == some false := by
  unfold Dyn.peerBad
  cases d.twin.peerSig <;> rfl

/-- Neither burst failed. -/
def Dyn.diverged (n : Word) : Dyn :=
  let d := ((d.mismatchClosed.setFlag F.STN_STATE_DIV true).bump F.STN_DIV_COUNT).wr Reg.STN_DIV_FN n
  d.freeze c 5 0 d.fn

/-- The verdict of the mismatch of frame `n` in frame `v`. -/
theorem Dyn.verdict_eq {n v : Word} (h : d.twin.mismatch = some (n, v)) : d.verdict c =
    if later v d.fn then d
    else if !d.twin.burstOk then d.mismatchClosed.giveUp c 0x34
    else if d.peerBad || !d.lockstep then d.mismatchClosed
    else if (d.diverged c n).unitB then (d.diverged c n).giveUp c 0x33 else d.diverged c n := by
  rw [Dyn.verdict, h]
  rfl

theorem Dyn.get_diverged_freeze (n : Word) {g : Fld} (h : OfLink g.addr) : (d.diverged c n).get g =
    (((d.mismatchClosed.setFlag F.STN_STATE_DIV true).bump F.STN_DIV_COUNT).wr Reg.STN_DIV_FN n).get g :=
  (Dyn.Beside.refl.freeze ..).get h

theorem Dyn.get_diverged (n : Word) {g : Fld} (h : OfLink g.addr) (hdiv : F.STN_STATE_DIV.Apart g)
    (hcount : F.STN_DIV_COUNT.Apart g) (hfn : g.addr ≠ Reg.STN_DIV_FN) : (d.diverged c n).get g = d.get g := by
  rw [d.get_diverged_freeze c n h, Dyn.get_congr (Dyn.rd_wr_ne _ _ hfn)]
  exact (Dyn.get_put_apart _ _ (by decide) hcount).trans (Dyn.get_put_apart _ _ (by decide) hdiv)

theorem Dyn.diverged_unitB (n : Word) : (d.diverged c n).unitB = d.unitB :=
  Dyn.flag_eq (d.get_diverged c n (by decide) (by decide) (by decide) (by decide))

theorem Dyn.diverged_flag (n : Word) : (d.diverged c n).flag F.STN_STATE_DIV = true := by
  rw [Dyn.flag_eq (d.get_diverged_freeze c n (by decide)), Dyn.flag_eq (Dyn.get_congr (Dyn.rd_wr_ne _ _ (by decide)))]
  exact (Dyn.flag_put_apart _ _ (by decide) (by decide)).trans (Dyn.flag_setFlag_same _ _ _ (by decide) (by decide))

theorem Dyn.diverged_fn (n : Word) : (d.diverged c n).rd Reg.STN_DIV_FN = n :=
  ((Dyn.Beside.refl.freeze ..).rd _ (by decide)).trans (Dyn.rd_wr_same ..)

end

section
variable {s : State}

theorem exec_verdict (hlive : Live s) (hframing : s.dyn.slc.framing = true) (hphase : s.dyn.phase = 4) {n v : Word}
    (hm : s.dyn.twin.mismatch = some (n, v)) :
    exec .verdict s = .next (s.withDyn ((s.dyn.advTo (s.dyn.atT s.cfg.offset)).verdict s.cfg)) := by
  have hphase : s.dyn.get F.SLC_STATUS_PHASE = 4 := hphase
  show execVerdict s = _
  rw [execVerdict, State.upd_withDyn hlive, if_pos (by simp [hframing, hphase, hm])]

/-- Where neither burst failed the divergence shows, and B gives up. -/
theorem verdict_divergence (c : Cfg) (d : Dyn) (n : Word) :
    let z := if (d.diverged c n).unitB then (d.diverged c n).giveUp c 0x33 else d.diverged c n
    z.flag F.STN_STATE_DIV = true ∧ z.rd Reg.STN_DIV_FN = n ∧
      (d.unitB = true → z.role = 7 ∧ z.get F.SHL_GIVEUP_OWN = 0x33) ∧ (d.unitB = false → z.role = d.role) := by
  intro z
  have hunit := d.diverged_unitB c n
  cases hB : d.unitB with
  | true =>
    have hz : z = (d.diverged c n).giveUp c 0x33 := if_pos (hunit.trans hB)
    rw [hz]
    refine ⟨?_, ?_, fun _ => ⟨Dyn.giveUp_role .., Dyn.giveUp_own _ _ (by decide)⟩, fun h => absurd h (by decide)⟩
    · rw [Dyn.flag_eq (Dyn.get_giveUp _ _ _ (by decide) (by decide) (by decide))]
      exact d.diverged_flag c n
    · rw [Dyn.rd_of_get (Dyn.get_giveUp _ _ _ (by decide) (by decide) (by decide))]
      exact d.diverged_fn c n
  | false =>
    have hz : z = d.diverged c n := if_neg (by simp [hunit, hB])
    rw [hz]
    exact ⟨d.diverged_flag c n, d.diverged_fn c n, fun h => absurd h (by decide),
      fun _ => d.get_diverged c n (by decide) (by decide) (by decide) (by decide)⟩

/-- The clause of the verdict frame. -/
theorem exec_verdict_shows (hlive : Live s) (hframing : s.dyn.slc.framing = true) (hphase : s.dyn.phase = 4) {n v : Word}
    (hm : s.dyn.twin.mismatch = some (n, v)) :
    let d := s.dyn.advTo (s.dyn.atT s.cfg.offset)
    let theirs := s.dyn.twin.peerSig.any fun x => x.1 == s.dyn.fn && x.2.verdict == some false
    (later v s.dyn.fn = true → exec .verdict s = .next (s.withDyn d)) ∧
    (later v s.dyn.fn = false →
      (s.dyn.twin.burstOk = false → ∃ u, exec .verdict s = .next u ∧ u.dyn.role = 7 ∧ u.dyn.get F.SHL_GIVEUP_OWN = 0x34) ∧
      (s.dyn.twin.burstOk = true → theirs = true ∨ s.dyn.lockstep = false →
        exec .verdict s = .next (s.withDyn { d with twin := { d.twin with mismatch := none, suppress := false } })) ∧
      (s.dyn.twin.burstOk = true → theirs = false → s.dyn.lockstep = true →
        ∃ u, exec .verdict s = .next u ∧ u.dyn.flag F.STN_STATE_DIV = true ∧ u.dyn.rd Reg.STN_DIV_FN = n ∧
          (s.dyn.unitB = true → u.dyn.role = 7 ∧ u.dyn.get F.SHL_GIVEUP_OWN = 0x33) ∧
          (s.dyn.unitB = false → u.dyn.role = s.dyn.role))) := by
  intro d theirs
  have hlater : s.dyn.Later d := s.dyn.later_advTo _
  have htwin : d.twin = s.dyn.twin := s.dyn.advTo_twin _
  have hburst : d.twin.burstOk = s.dyn.twin.burstOk := congrArg Twin.burstOk htwin
  have hbad : d.peerBad = theirs := by rw [d.peerBad_eq, htwin, hlater.fn]
  have hexec := exec_verdict hlive hframing hphase hm
  rw [Dyn.verdict_eq s.cfg d (by rw [htwin, hm]), hlater.fn, hburst, hbad, hlater.lockstep] at hexec
  refine ⟨fun hv => ?wait, fun hv => ⟨fun hfail => ?own, fun hok hother => ?closed, fun hok hpeer hlock => ?both⟩⟩
  case wait => rw [hexec, if_pos hv]
  case own =>
    rw [if_neg (by simp [hv]), if_pos (by simp [hfail])] at hexec
    exact ⟨_, hexec, Dyn.giveUp_role .., Dyn.giveUp_own _ _ (by decide)⟩
  case closed =>
    rw [hexec, if_neg (by simp [hv]), if_neg (by simp [hok]), if_pos (by simpa using hother)]
    rfl
  case both =>
    rw [if_neg (by simp [hv]), if_neg (by simp [hok]), if_neg (by simp [hpeer, hlock])] at hexec
    obtain ⟨hflag, hfn, hB, hA⟩ := verdict_divergence s.cfg d n
    exact ⟨_, hexec, hflag, hfn, fun h => hB (hlater.unitB.trans h), fun h => (hA (hlater.unitB.trans h)).trans hlater.role⟩

end

/-! ## Lanes and bulk messages (R248–R250) -/

section
variable (c : Cfg) (d : Dyn)

theorem laneFld_ofLink (lane1 : Bool) : OfLink (laneFld lane1).addr ∧ (laneFld lane1).addr ≠ Reg.MOD_STATE ∧
    (laneFld lane1).Clear linkFailWrites ∧ (laneFld lane1).Clear stnWrites ∧ (latFld lane1).Apart (laneFld lane1) := by
  revert lane1
  decide

theorem latFld_ofLink (lane1 : Bool) : OfLink (latFld lane1).addr ∧ (latFld lane1).addr ≠ Reg.MOD_STATE ∧
    (latFld lane1).Clear linkFailWrites ∧ (latFld lane1).Clear stnWrites := by
  revert lane1
  decide

theorem errCount_ofLink (lane1 : Bool) : let f := F.SHL_LANE_ERR_COUNT (b2n lane1)
    OfLink f.addr ∧ f.addr ≠ Reg.MOD_STATE ∧ f.Clear linkFailWrites ∧ f.Clear stnWrites ∧ f.lo + f.width ≤ 32 ∧
      f.Apart (laneFld lane1) ∧ (laneFld lane1).Apart f ∧ (latFld lane1).Apart f := by
  revert lane1
  decide

theorem laneFld_fits (lane1 : Bool) : (laneFld lane1).lo + (laneFld lane1).width ≤ 32 ∧ 1 ≤ (laneFld lane1).width ∧
    (latFld lane1).lo + (latFld lane1).width ≤ 32 := by
  revert lane1
  decide

/-- A lane with its latency; the station state follows. -/
def Dyn.laneSet (lane1 up : Bool) (lat : Nat) : Dyn := ((d.setFlag (laneFld lane1) up).put (latFld lane1) lat).stnState c

theorem Dyn.laneSet_flag (lane1 up : Bool) (lat : Nat) : (d.laneSet c lane1 up lat).flag (laneFld lane1) = up := by
  obtain ⟨-, -, -, hstn, hlat⟩ := laneFld_ofLink lane1
  obtain ⟨hfits, hwidth, hfitsLat⟩ := laneFld_fits lane1
  rw [Dyn.laneSet, Dyn.flag_eq (Dyn.get_stnState c _ hstn), Dyn.flag_put_apart _ _ hfitsLat hlat]
  exact Dyn.flag_setFlag_same _ _ _ hfits hwidth

theorem Dyn.laneSet_lat (lane1 up : Bool) (lat : Nat) :
    (d.laneSet c lane1 up lat).get (latFld lane1) = lat % 2 ^ (latFld lane1).width := by
  obtain ⟨-, -, -, hstn⟩ := latFld_ofLink lane1
  rw [Dyn.laneSet, Dyn.get_stnState c _ hstn]
  exact Dyn.get_put_same _ _ _ (laneFld_fits lane1).2.2

theorem Dyn.laneDown_flag (lane1 : Bool) (htwin : c.twin = true) : (d.laneDown c lane1).flag (laneFld lane1) = false := by
  obtain ⟨hlink, hne, hclear, -, -⟩ := laneFld_ofLink lane1
  cases hup : d.flag (laneFld lane1) with
  | false => rw [d.laneDown_down c (by simp [hup]), hup]
  | true => exact (Dyn.flag_eq (d.get_laneDown c htwin hup hlink hne hclear)).trans (d.laneSet_flag c lane1 false 0)

theorem Dyn.laneDown_lat (lane1 : Bool) (htwin : c.twin = true) (hup : d.flag (laneFld lane1) = true) :
    (d.laneDown c lane1).get (latFld lane1) = 0 := by
  obtain ⟨hlink, hne, hclear, -⟩ := latFld_ofLink lane1
  rw [d.get_laneDown c htwin hup hlink hne hclear]
  exact (d.laneSet_lat c lane1 false 0).trans (Nat.zero_mod _)

/-- The count of errors outlasts the lane. -/
theorem Dyn.laneDown_errors (lane1 : Bool) (htwin : c.twin = true) :
    (d.laneDown c lane1).get (F.SHL_LANE_ERR_COUNT (b2n lane1)) = d.get (F.SHL_LANE_ERR_COUNT (b2n lane1)) := by
  obtain ⟨hlink, hne, hclear, hstn, -, -, hlane, hlat⟩ := errCount_ofLink lane1
  obtain ⟨hfits, -, hfitsLat⟩ := laneFld_fits lane1
  cases hup : d.flag (laneFld lane1) with
  | false => rw [d.laneDown_down c (by simp [hup])]
  | true =>
    rw [d.get_laneDown c htwin hup hlink hne hclear, Dyn.laneOff, Dyn.get_stnState c _ hstn,
      Dyn.get_put_apart _ _ hfitsLat hlat]
    exact Dyn.get_put_apart _ _ hfits hlane

/-- The errors are counted, also those of the frame. -/
def Dyn.errorsCounted (lane1 : Bool) (n : Nat) : Dyn :=
  (d.bumpBy (F.SHL_LANE_ERR_COUNT (b2n lane1)) n).withTwin { d.twin with
    crcFrame := if d.slc.framing then sput 0 d.twin.crcFrame (b2n lane1) (sget 0 d.twin.crcFrame (b2n lane1) + n) else [] }

theorem Dyn.laneErrors_eq (lane1 : Bool) (n : Nat) : d.laneErrors c lane1 n =
    if 8 < sget 0 d.twin.crcFrame (b2n lane1) + n then (d.errorsCounted lane1 n).laneDown c lane1
    else d.errorsCounted lane1 n := rfl

theorem Dyn.laneErrors_count (lane1 : Bool) (n : Nat) (htwin : c.twin = true) :
    let f := F.SHL_LANE_ERR_COUNT (b2n lane1)
    (d.laneErrors c lane1 n).get f = min (d.get f + n) (2 ^ f.width - 1) := by
  intro f
  have hcount : (d.errorsCounted lane1 n).get f = min (d.get f + n) (2 ^ f.width - 1) :=
    (Dyn.get_withTwin ..).trans (d.get_bumpBy n (errCount_ofLink lane1).2.2.2.2.1)
  rw [Dyn.laneErrors_eq]
  split
  · exact (Dyn.laneDown_errors c _ lane1 htwin).trans hcount
  · exact hcount

theorem Dyn.laneErrors_flag (lane1 : Bool) (n : Nat) (htwin : c.twin = true) :
    (d.laneErrors c lane1 n).flag (laneFld lane1) =
      if 8 < sget 0 d.twin.crcFrame (b2n lane1) + n then false else d.flag (laneFld lane1) := by
  obtain ⟨-, -, -, -, hfits, hapart, -⟩ := errCount_ofLink lane1
  rw [Dyn.laneErrors_eq]
  split
  · exact Dyn.laneDown_flag c _ lane1 htwin
  · exact (Dyn.flag_withTwin ..).trans (d.flag_put_apart _ hfits hapart)

end

section
variable {s : State}

theorem exec_laneSignalLoss (hlive : Live s) (htwin : s.cfg.twin = true) (lane1 : Bool) (hup : s.dyn.flag (laneFld lane1) = true) :
    ∃ u, exec (.laneSignalLoss lane1) s = .next u ∧ u.dyn.flag (laneFld lane1) = false ∧ u.dyn.get (latFld lane1) = 0 := by
  have hexec : execLaneSignalLoss lane1 s = .next (s.withDyn (s.dyn.laneDown s.cfg lane1)) := by
    rw [execLaneSignalLoss, State.upd_withDyn hlive]
  exact ⟨_, hexec, s.dyn.laneDown_flag s.cfg lane1 htwin, s.dyn.laneDown_lat s.cfg lane1 htwin hup⟩

theorem exec_laneCrcErrors (hlive : Live s) (htwin : s.cfg.twin = true) (lane1 : Bool) (n : BitVec 8) :
    let cnt := F.SHL_LANE_ERR_COUNT (b2n lane1)
    ∃ u, exec (.laneCrcErrors lane1 n) s = .next u ∧
      u.dyn.get cnt = min (s.dyn.get cnt + n.toNat) (2 ^ cnt.width - 1) ∧
      (8 < sget 0 s.dyn.twin.crcFrame (b2n lane1) + n.toNat → u.dyn.flag (laneFld lane1) = false) ∧
      (sget 0 s.dyn.twin.crcFrame (b2n lane1) + n.toNat ≤ 8 → u.dyn.flag (laneFld lane1) = s.dyn.flag (laneFld lane1)) := by
  have hexec : execLaneCrcErrors lane1 n s = .next (s.withDyn (s.dyn.laneErrors s.cfg lane1 n.toNat)) := by
    rw [execLaneCrcErrors, State.upd_withDyn hlive, if_pos htwin]
  have hflag := s.dyn.laneErrors_flag s.cfg lane1 n.toNat htwin
  exact ⟨_, hexec, s.dyn.laneErrors_count s.cfg lane1 n.toNat htwin, fun h => hflag.trans (if_pos h),
    fun h => hflag.trans (if_neg (Nat.not_lt.2 h))⟩

/-- A lane that is up; a module that runs reports it. -/
def Dyn.laneRaised (c : Cfg) (d : Dyn) (lane1 : Bool) (lat : Nat) : Dyn :=
  let x := d.laneSet c lane1 true lat
  if x.boot.stage == .running then x.alarm c 0x0401 (b2n lane1) 1 0 else x

theorem Dyn.laneRaised_beside (c : Cfg) (d : Dyn) (lane1 : Bool) (lat : Nat) :
    (d.laneSet c lane1 true lat).Beside (d.laneRaised c lane1 lat) := .ite (Dyn.Beside.refl.alarm ..) .refl

theorem exec_laneUp (hlive : Live s) (htwin : s.cfg.twin = true) (lane1 : Bool) (lat : BitVec 16)
    (hdown : s.dyn.flag (laneFld lane1) = false) :
    ∃ u, exec (.laneUp lane1 lat) s = .next u ∧ u.dyn.flag (laneFld lane1) = true ∧
      u.dyn.get (latFld lane1) = lat.toNat % 2 ^ (latFld lane1).width := by
  have hexec : execLaneUp lane1 lat s = .next (s.withDyn (s.dyn.laneRaised s.cfg lane1 lat.toNat)) := by
    rw [execLaneUp, State.upd_withDyn hlive, if_neg (by simp [htwin, hdown])]
    rfl
  have hbeside := s.dyn.laneRaised_beside s.cfg lane1 lat.toNat
  exact ⟨_, hexec, (Dyn.flag_eq (hbeside.get (laneFld_ofLink lane1).1)).trans (s.dyn.laneSet_flag ..),
    (hbeside.get (latFld_ofLink lane1).1).trans (s.dyn.laneSet_lat ..)⟩

theorem exec_bulkRetry (hlive : Live s) {b : Bulk} {l : List Bulk} (hwaits : s.dyn.twin.unacked = b :: l)
    (hnear : s.dyn.nearCycle s.cfg (b.sentAt + 2500)) :
    let d := s.dyn.dueCycle (b.sentAt + 2500)
    exec .bulkRetry s = .next (s.withDyn (({ d with twin := { d.twin with
      unacked := l ++ [{ b with sentAt := d.clk.cycles }] } } : Dyn).send (.retry b.seq b.msg))) := by
  show execBulkRetry s = _
  rw [execBulkRetry, State.upd_withDyn hlive, hwaits]
  exact congrArg (fun d => Host.Outcome.next (s.withDyn d)) (Dyn.whenCycle_near hnear _)

end

end Sys2Proof.Machine
end
section
/-! SUPPORT. Hardware faults, a SHADOW that takes over, joins that end, and the obligation on the events of a twin (R248, R249,
R251–R253, R258, R261–R263, R265, R270–R272). -/

namespace Sys2Proof.Machine

/-! ## Hardware faults (R263) -/

/-- The cause that a check shows. -/
def Cfg.faultCause (c : Cfg) : HwCheck → Nat
  | .lane _ => 0x20
  | .pipeline _ => 0x21
  | .array => 0x22
  | .ecc m _ => if c.twin then 0x24 else if m = 2 then 0x21 else if m = 3 then 0x22 else 0x20
  | .clock => 0x25
  | .rail => 0x26
  | .sequencer => 0x27

theorem Cfg.faultCause_lt (c : Cfg) (check : HwCheck) : c.faultCause check < 256 := by
  unfold Cfg.faultCause
  split
  case h_4 => split_ifs <;> decide
  all_goals decide

/-- Fault bit `i` of an engine is set. -/
def Dyn.faultBit (d : Dyn) (f : Fld) (i : Nat) : Dyn := d.put f (d.get f ||| 2 ^ i)

/-- The fault bit that a check sets in the engine it watches. -/
def Dyn.faultMarked (d : Dyn) : HwCheck → Dyn
  | .lane l => d.faultBit F.LGE_STATUS_LANE_FAULT l.toNat
  | .pipeline i => d.faultBit F.LPE_GSTATUS_PIPE_FAULT (b2n i)
  | .array => d.setFlag F.SLV_GSTATUS_ARRAY_FAULT true
  | .ecc m l =>
    if m = 2 then d.faultBit F.LPE_GSTATUS_PIPE_FAULT (l.toNat % 2)
    else if m = 3 then d.setFlag F.SLV_GSTATUS_ARRAY_FAULT true
    else d.faultBit F.LGE_STATUS_LANE_FAULT l.toNat
  | _ => d

theorem Dyn.get_faultMarked (d : Dyn) (check : HwCheck) {g : Fld} (hlge : g.addr ≠ Reg.LGE_STATUS)
    (hlpe : g.addr ≠ Reg.LPE_GSTATUS) (hslv : g.addr ≠ Reg.SLV_GSTATUS) : (d.faultMarked check).get g = d.get g := by
  cases check with
  | lane l => exact d.get_put_ne _ hlge
  | pipeline i => exact d.get_put_ne _ hlpe
  | array => exact d.get_put_ne _ hslv
  | ecc m l =>
    simp only [Dyn.faultMarked]
    split_ifs
    · exact d.get_put_ne _ hlpe
    · exact d.get_put_ne _ hslv
    · exact d.get_put_ne _ hlge
  | clock => rfl
  | rail => rfl
  | sequencer => rfl

theorem eccMem_cases (m : BitVec 2) : m = 2 ∨ m = 3 ∨ m = 0 ∨ m = 1 := by
  revert m
  decide

section
variable {s : State}

theorem exec_hardwareFault (hlive : Live s) (check : HwCheck) : exec (.hardwareFault check) s =
    .next (s.withDyn ((s.dyn.faultMarked check).hardwareFault s.cfg (s.cfg.faultCause check))) := by
  show execHardwareFault check s = _
  rw [execHardwareFault, State.upd_withDyn hlive]
  cases check with
  | ecc m l => rcases eccMem_cases m with rfl | rfl | rfl | rfl <;> rfl
  | lane l => rfl
  | pipeline i => rfl
  | array => rfl
  | clock => rfl
  | rail => rfl
  | sequencer => rfl

theorem exec_hardwareFault_shows (hlive : Live s) (check : HwCheck) (hrole : s.dyn.role ≠ 7) (hstate : s.dyn.modState ≠ 3) :
    let k := s.cfg.faultCause check
    ∃ u, exec (.hardwareFault check) s = .next u ∧ u.dyn.modState = 3 ∧ u.dyn.get F.MOD_STATE_CAUSE = k ∧
      u.dyn.slc.commitOff = true ∧
      (s.cfg.twin = true → u.dyn.role = 7 ∧ u.dyn.get F.SHL_GIVEUP_OWN = k ∧ u.dyn.lockstep = false) := by
  intro k
  have hexec := exec_hardwareFault hlive check
  let x := s.dyn.faultMarked check
  have hx : x.role = s.dyn.role := s.dyn.get_faultMarked check (by decide) (by decide) (by decide)
  have hxstate : x.modState = s.dyn.modState := s.dyn.get_faultMarked check (by decide) (by decide) (by decide)
  have hk : k < 256 := s.cfg.faultCause_lt check
  obtain ⟨hfault, hcause, hstanding⟩ :=
    x.hardwareFault_stops s.cfg (cause := k) (by rwa [hx]) (by rwa [hxstate]) hk
  refine ⟨_, hexec, hfault, hcause, congrArg Standing.commitOff hstanding, fun htwin => ?_⟩
  have hgive : x.hardwareFault s.cfg k = x.giveUp s.cfg k := by
    rw [Dyn.hardwareFault, if_neg (by simp [hx, hrole, hxstate, hstate]), if_pos htwin]
  show (x.hardwareFault s.cfg k).role = 7 ∧ (x.hardwareFault s.cfg k).get F.SHL_GIVEUP_OWN = k ∧
    (x.hardwareFault s.cfg k).lockstep = false
  rw [hgive]
  exact ⟨x.giveUp_role .., x.giveUp_own s.cfg hk, x.giveUp_lockstep ..⟩

end

/-! ## A SHADOW that takes over (R265) -/

section
variable (c : Cfg) (d : Dyn)

theorem Dyn.ptpStart_cases : d.ptpStart c = d ∨ ∃ v, d.ptpStart c = d.put F.TSU_STATUS_PTP_STATE v := by
  unfold Dyn.ptpStart
  split
  · exact .inl rfl
  · exact .inr ⟨_, rfl⟩
  · exact .inr ⟨_, rfl⟩

theorem Dyn.get_ptpStart {g : Fld} (h : F.TSU_STATUS_PTP_STATE.Apart g) : (d.ptpStart c).get g = d.get g := by
  obtain h' | ⟨v, h'⟩ := d.ptpStart_cases c
  · rw [h']
  · rw [h', d.get_put_apart v (by decide) h]

/-- The fields that a unit writes when it takes the time, beside TWIN of TSU_STATUS. -/
def takeTimeWrites : List Fld := [F.TSU_STATUS_SERVO, F.RTC_CALSTATE_TAI_SRC, F.TSU_TWIN_STEER, F.TSU_STATUS_PTP_STATE]

theorem Dyn.get_takeTime {g : Fld} (h : g.Clear takeTimeWrites) :
    (d.takeTime c).get g = if d.timeMaster c then (d.put F.TSU_STATUS_TWIN 1).get g else d.get g := by
  simp only [Fld.Clear, takeTimeWrites, List.forall_mem_cons] at h
  obtain ⟨hservo, htai, hsteer, hptp, -⟩ := h
  unfold Dyn.takeTime
  cases d.timeMaster c with
  | false => rfl
  | true =>
    extract_lets f x y
    have hy : y.get g = x.get g := by
      simp only [y]
      split
      · rw [Dyn.get_ptpStart c _ hptp, Dyn.get_put_apart _ _ (by decide) hsteer,
          Dyn.get_setServo c x _ (by simp [Fld.Clear, hservo, htai])]
      · rfl
    refine Eq.trans ?_ hy
    simp only [Bool.not_true, Bool.false_eq_true, if_false]
    split
    · exact y.get_put_apart _ (by decide) hptp
    · rfl

/-- The SHADOW that hears no heartbeat is ACTIVE, and no unit with it. -/
def Dyn.shadowLeads : Dyn := ((d.withTwin { d.twin with nextRole := none, decides := false, suppress := false }).setPeer c 0).setRole c 2

theorem Dyn.shadowLeads_role : (d.shadowLeads c).role = 2 := Dyn.setRole_role _ _ (by decide)

theorem Dyn.shadowLeads_peerRole : (d.shadowLeads c).peerRole = 0 :=
  (Dyn.get_setRole c _ 2 (by decide)).trans (Dyn.setPeer_peerRole _ _ (by decide))

/-- It drives the time: no other unit is ACTIVE. -/
theorem Dyn.shadowLeads_timeMaster (htwin : c.twin = true) : (d.shadowLeads c).timeMaster c = true := by
  let x := ((d.withTwin { d.twin with nextRole := none, decides := false, suppress := false }).setPeer c 0).put F.SHL_STATUS_ROLE 2
  have heq : d.shadowLeads c = x.stnState c := Dyn.setRole_lock _ _ (by decide) (by decide)
  have hunit : (d.shadowLeads c).unitB = x.unitB := by
    rw [heq]
    exact Dyn.flag_eq (Dyn.get_stnState c x (by decide))
  have hpeer : x.peerRole = 0 :=
    (Dyn.get_put_apart _ _ (by decide) (by decide)).trans (Dyn.setPeer_peerRole _ _ (by decide))
  have hroleA : (d.shadowLeads c).get F.STN_STATE_ROLE_A = if x.unitB then x.peerRole else x.role := by
    rw [heq]
    exact x.stnState_roleA c
  rw [Dyn.timeMaster, d.shadowLeads_role, hroleA, hunit, htwin]
  cases x.unitB with
  | false => rfl
  | true =>
    rw [if_pos rfl, hpeer]
    rfl

end

section
variable {s : State}

theorem exec_heartbeatLoss (hlive : Live s) (htwin : s.cfg.twin = true) (hrole : s.dyn.role = 3) (hgap : 3 ≤ s.dyn.twin.hbGap) :
    ∃ u, exec .heartbeatLoss s = .next u ∧ u.dyn.role = 2 ∧ u.dyn.peerRole = 0 ∧ u.dyn.follower = false := by
  have hexec : execHeartbeatLoss s = .next (s.withDyn ((s.dyn.shadowLeads s.cfg).takeTime s.cfg)) := by
    rw [execHeartbeatLoss, State.upd_withDyn hlive, if_pos (by simp [htwin, hrole, hgap])]
    rfl
  let x := s.dyn.shadowLeads s.cfg
  have hget {g : Fld} (h : g.Clear takeTimeWrites) : (x.takeTime s.cfg).get g = (x.put F.TSU_STATUS_TWIN 1).get g := by
    rw [x.get_takeTime s.cfg h, if_pos (s.dyn.shadowLeads_timeMaster s.cfg htwin)]
  refine ⟨_, hexec, ?role, ?peer, ?lock⟩
  case role => exact (hget (by decide)).trans ((x.get_put_apart _ (by decide) (by decide)).trans (s.dyn.shadowLeads_role s.cfg))
  case peer =>
    exact (hget (by decide)).trans ((x.get_put_apart _ (by decide) (by decide)).trans (s.dyn.shadowLeads_peerRole s.cfg))
  case lock =>
    have hone : (x.takeTime s.cfg).get F.TSU_STATUS_TWIN = 1 :=
      (hget (by decide)).trans (x.get_put_fits (by decide) (by decide))
    show (x.takeTime s.cfg).follower = false
    rw [Dyn.follower, hone]
    rfl

/-! ## Joins that end (R270–R272) -/

theorem exec_verifyComplete (hlive : Live s) (hverify : s.dyn.get F.SHL_XFER_STATE = 4) (hmatched : 64 ≤ s.dyn.twin.matched) :
    ∃ u, exec .verifyComplete s = .next u ∧ u.dyn.get F.SHL_XFER_STATE = 5 ∧ u.dyn.rd Reg.STN_LOCK_FN = s.dyn.fn ∧
      (s.dyn.role = 6 → u.dyn.role = 2) ∧ (s.dyn.role ≠ 6 → u.dyn.peerRole = 2) := by
  let y := (s.dyn.put F.SHL_XFER_STATE 5).wr Reg.STN_LOCK_FN s.dyn.fn
  let x := y.withTwin { y.twin with lockFn := none, peerReady := 0 }
  have hleft {g : Fld} (h : g.addr ≠ Reg.STN_LOCK_FN) : x.get g = (s.dyn.put F.SHL_XFER_STATE 5).get g :=
    Dyn.get_congr (Dyn.rd_wr_ne _ _ h)
  have hx : x.get F.SHL_XFER_STATE = 5 := (hleft (by decide)).trans (s.dyn.get_put_fits (by decide) (by decide))
  have hfn : x.rd Reg.STN_LOCK_FN = s.dyn.fn := Dyn.rd_wr_same ..
  have hrole : x.role = s.dyn.role := (hleft (by decide)).trans (s.dyn.get_put_ne 5 (by decide))
  have hexec : execVerifyComplete s = .next (s.withDyn (if x.role = 6 then x.setRole s.cfg 2 else x.setPeer s.cfg 2)) := by
    rw [execVerifyComplete, State.upd_withDyn hlive, if_pos (by simp [hverify, hmatched])]
    rfl
  rw [hrole] at hexec
  by_cases h6 : s.dyn.role = 6
  · rw [if_pos h6] at hexec
    exact ⟨_, hexec, (x.get_setRole s.cfg 2 (by decide)).trans hx,
      (Dyn.rd_of_get (x.get_setRole s.cfg 2 (by decide))).trans hfn, fun _ => x.setRole_role s.cfg (by decide),
      fun h => absurd h6 h⟩
  · rw [if_neg h6] at hexec
    exact ⟨_, hexec, (x.get_setPeer s.cfg 2 (by decide)).trans hx,
      (Dyn.rd_of_get (x.get_setPeer s.cfg 2 (by decide))).trans hfn, fun h => absurd h h6,
      fun _ => x.setPeer_peerRole s.cfg (by decide)⟩

theorem exec_joinTimeout (hlive : Live s) (hfirst : 1 ≤ s.dyn.get F.SHL_XFER_STATE) (hlast : s.dyn.get F.SHL_XFER_STATE ≤ 3)
    (hnear : s.dyn.nearCycle s.cfg (s.dyn.twin.joinAt + 5000000000)) :
    ∃ u, exec .joinTimeout s = .next u ∧ u.dyn.get F.SHL_XFER_STATE = 6 ∧ u.dyn.get F.SHL_XFER_CAUSE = 1 ∧
      (s.dyn.role = 4 → u.dyn.role = 7) ∧ (s.dyn.role = 2 → u.dyn.role = 2 ∧ u.dyn.lockstep = false) := by
  let x := s.dyn.dueCycle (s.dyn.twin.joinAt + 5000000000)
  have hrole : x.role = s.dyn.role := (s.dyn.later_dueCycle _).role
  have hexec : execJoinTimeout s = .next (s.withDyn (x.joinFail s.cfg 1)) := by
    rw [execJoinTimeout, State.upd_withDyn hlive, if_pos (by simp [hfirst, hlast]), Dyn.whenCycle_near hnear]
  obtain ⟨hstate, hcause⟩ := x.joinFail_xfer s.cfg (cause := 1) (by decide)
  refine ⟨_, hexec, hstate, hcause, fun h4 => ?joiner, fun h2 => ?active⟩
  case joiner =>
    show (x.joinFail s.cfg 1).role = 7
    rw [x.joinFail_joiner s.cfg 1 (.inl (hrole.trans h4))]
    exact Dyn.giveUp_role ..
  case active =>
    show (x.joinFail s.cfg 1).role = 2 ∧ (x.joinFail s.cfg 1).lockstep = false
    rw [x.joinFail_active s.cfg 1 (by simp [hrole, h2])]
    refine ⟨?_, Dyn.setLockstep_lockstep ..⟩
    exact (Dyn.get_setLockstep s.cfg _ false (by decide)).trans ((x.unjoined_role s.cfg 1).trans (hrole.trans h2))

/-- The frame of record `r` has been executed to `x`: it is kept, and the records up to it are done. -/
def Dyn.caughtUp (c : Cfg) (d : Dyn) (r : JRec) (x : Dyn) : Dyn :=
  let y := d.loadCheckpoint (x.joinCkpt c)
  y.withTwin { y.twin with recs := y.twin.recs.filter fun z => later z.2.fn r.fn }

/-- What the executed frame, with its digests, brings the joining unit. -/
def Dyn.caughtUpNext (c : Cfg) (d : Dyn) (arrived : Word) (r : JRec) (z : Dyn × Word × Word) : Dyn :=
  let (x, crc, rel) := z
  let d := d.caughtUp c r x
  if crc ≠ r.outCrc || rel ≠ r.relDigest then d.joinFail c 2
  else if arrived = d.frameNow && !d.twin.current then (d.withTwin { d.twin with current := true }).sendReady
  else d

theorem Dyn.caughtUpNext_eq (c : Cfg) (d : Dyn) (arrived : Word) (r : JRec) (z : Dyn × Word × Word) :
    let e := d.caughtUp c r z.1
    d.caughtUpNext c arrived r z =
      if z.2.1 ≠ r.outCrc ∨ z.2.2 ≠ r.relDigest then e.joinFail c 2
      else if arrived = e.frameNow ∧ e.twin.current = false then (e.withTwin { e.twin with current := true }).sendReady
      else e := by
  obtain ⟨x, crc, rel⟩ := z
  simp only [Dyn.caughtUpNext, Bool.or_eq_true, Bool.and_eq_true, decide_eq_true_eq, Bool.not_eq_true']

theorem exec_catchUpFrame (hlive : Live s) {arrived : Word} {r : JRec} (hrole : s.dyn.role = 4)
    (hstate : s.dyn.get F.SHL_XFER_STATE = 3) (hkind : s.dyn.flag F.SHL_XFER_KIND = false)
    (hfind : s.dyn.twin.recs.find? (fun x => x.2.fn == s.dyn.fn + 1) = some (arrived, r)) :
    let x := s.dyn.runFrame s.cfg r
    let d := s.dyn.caughtUp s.cfg r x.1
    exec .catchUpFrame s = .next (s.withDyn (
      if x.2.1 ≠ r.outCrc ∨ x.2.2 ≠ r.relDigest then d.joinFail s.cfg 2
      else if arrived = d.frameNow ∧ d.twin.current = false then (d.withTwin { d.twin with current := true }).sendReady
      else d)) := by
  refine Eq.trans ?_ (congrArg (fun d => Host.Outcome.next (s.withDyn d)) (Dyn.caughtUpNext_eq s.cfg s.dyn arrived r _))
  show execCatchUpFrame s = _
  rw [execCatchUpFrame, State.upd_withDyn hlive, if_neg (by simp [hrole, hstate, hkind]), hfind]
  dsimp only
  generalize s.dyn.runFrame s.cfg r = z
  rfl

end

end Sys2Proof.Machine
end
section
/-! SUPPORT. Pairing, deadlines, lanes, faults and joins of a twin: the obligation (R248, R249, R251–R253, R258, R261, R262, R265,
R270–R272). -/

namespace Sys2Proof.Machine

section
variable {s : State} {r : PairRec} {d : Dyn}

/-- The rows of R252 for a unit that waits, by what it held before the message. -/
theorem pairTable (hd : d = ((s.hears 1 r.hdr).pairNoted s.cfg r).pairEnds s.cfg r) :
    let refused := fun k => d.twin.outcome = 5 ∧ d.modState = 0 ∧ d.get F.MOD_STATE_CAUSE = k
    (r.hdr.stnId ≠ s.dyn.nv.stnId ∨ r.hdr.unitB = s.dyn.unitB → refused 1) ∧
    (r.hdr.stnId = s.dyn.nv.stnId → r.hdr.unitB = !s.dyn.unitB →
      (∀ k, s.dyn.pairCause s.cfg r = some k → r.role = 2 ∨ s.dyn.unitB = true → refused k) ∧
      (∀ k, s.dyn.pairCause s.cfg r = some k → r.role ≠ 2 → s.dyn.unitB = false → d.twin.outcome = 1) ∧
      (s.dyn.pairCause s.cfg r = none → r.role = 2 →
        d.twin.outcome = if r.imageId = s.cfg.img.imageId then 3 else 4) ∧
      (s.dyn.pairCause s.cfg r = none → r.role ≠ 2 →
        (r.imageId = s.cfg.img.imageId → d.twin.outcome = 2 ∧ d.get F.TSU_STATUS_TWIN = (if s.dyn.unitB then 2 else 1)) ∧
        (r.imageId ≠ s.cfg.img.imageId → d.twin.outcome = if s.dyn.unitB then 4 else 1))) := by
  subst hd
  obtain ⟨hstn, hunit, hcause⟩ := pairNoted_hears s r
  rw [← hstn, ← hunit, ← hcause]
  generalize (s.hears 1 r.hdr).pairNoted s.cfg r = x
  refine ⟨fun h => ?stranger, fun hs hu => ⟨fun k hk hgoes => ?refused, fun k hk hrole hA => ?alone, fun hk hrole => ?active,
    fun hk hrole => ⟨fun himage => ?together, fun himage => ?other⟩⟩⟩
  case stranger =>
    rw [Dyn.pairEnds_stranger h]
    exact Dyn.pairStays_refuses (by decide)
  case refused =>
    rw [Dyn.pairEnds_refused hs hu hk hgoes]
    exact Dyn.pairStays_refuses (x.pairCause_lt _ _ hk)
  case alone =>
    rw [Dyn.pairEnds_alone hs hu hk hrole hA]
    rfl
  case active =>
    rw [Dyn.pairEnds_active hs hu hk hrole]
    rfl
  case together =>
    rw [Dyn.pairEnds_together hs hu hk hrole himage]
    exact ⟨rfl, x.startTogether_lock s.cfg⟩
  case other => exact Dyn.pairEnds_other hs hu hk hrole himage

end

/-- Settles O59: each event is the `exec_` lemma of its name, over what a PAIR notes, a verdict finds, a lane writes, a fault marks
and a join leaves. When PAIR ends, the order of bulk messages and the verdict of a unit alone are the model's reading (log entry
65), as are the cause of an uncorrectable error in a simplex module (66), and STN_LOCK_FN and the sum of CRC errors (67). -/
theorem twinEvents : Obligations.TwinEvents := by
  unfold Obligations.TwinEvents
  intro s hlive
  refine ⟨fun check hrole hstate => ?fault, fun b l hwaits hnear => exec_bulkRetry hlive hwaits hnear, fun htwin =>
    ⟨fun hpairs => ⟨exec_pairResend hlive hpairs, fun r hp => ?pair, exec_pairWaitExpiry hlive hpairs⟩,
      exec_timeSendBeforeFn0 hlive htwin, exec_primingFrame hlive htwin, fun n => exec_slotAgreementDeadline hlive n,
      fun hframing hphase => ⟨exec_sigDeadline hlive hframing hphase, fun n v hm => exec_verdict_shows hlive hframing hphase hm⟩,
      fun lane1 => ⟨exec_laneSignalLoss hlive htwin lane1, exec_laneCrcErrors hlive htwin lane1,
        fun lat => exec_laneUp hlive htwin lane1 lat⟩,
      exec_heartbeatLoss hlive htwin, exec_verifyComplete hlive, exec_joinTimeout hlive,
      fun arrived r hrole hstate hkind hfind => exec_catchUpFrame hlive hrole hstate hkind hfind⟩⟩
  case fault =>
    intro k
    have hk : k = s.cfg.faultCause check := by cases check <;> rfl
    rw [hk]
    exact exec_hardwareFault_shows hlive check hrole hstate
  case pair =>
    obtain ⟨u, hexec, hcfg, hifp, hsame, hpeer, htable⟩ := exec_pair_shows hp hpairs
    exact ⟨u, hexec, hcfg, hifp, hsame, hpeer, fun hlocked hout => pairTable (htable hlocked hout)⟩

end Sys2Proof.Machine
end
section
/-! SUPPORT. What an event that falls due finds, and what the status word and the driver of a digital channel leave of the rest:
the four bits that follow from the others, and the conditions that end when the driver's value changes (R302–R304, R310–R312). -/

namespace Sys2Proof.Machine

/-! ## An event that falls due -/

section
variable (d : Dyn) (t : Nat)

theorem Dyn.rd_dueAt {a : Nat} (h : a ≠ Reg.TSU_STATUS) : (d.dueAt t).rd a = d.rd a := by
  unfold Dyn.dueAt
  split
  · rfl
  · exact d.rd_ticks _ h

theorem Dyn.dueAt_dio : (d.dueAt t).dio = d.dio := by
  unfold Dyn.dueAt
  split
  · rfl
  · exact d.ticks_dio _

theorem Dyn.dueAt_dig (n : Nat) : (d.dueAt t).dig n = d.dig n := by rw [Dyn.dig, d.dueAt_dio, Dyn.dig]

theorem dioStatus_ne_tsuStatus {n : Nat} (h : n < 96) : Reg.DIO_STATUS n ≠ Reg.TSU_STATUS := by
  simp only [Reg.DIO_STATUS, Reg.TSU_STATUS]
  omega

theorem Dyn.flag_dueAt {n lo w : Nat} (h : n < 96) :
    (d.dueAt t).flag ⟨Reg.DIO_STATUS n, lo, w⟩ = d.flag ⟨Reg.DIO_STATUS n, lo, w⟩ :=
  Dyn.flag_congr (d.rd_dueAt t (dioStatus_ne_tsuStatus h))

end

/-! ## The status word -/

/-- `d'` is `d` but for the bits `bits` of channel `n`'s status word, and for when a driver that was latched off turns on again. -/
structure Dyn.StatusBut (n : Nat) (bits : List Nat) (d d' : Dyn) : Prop where
  rest : ∃ r x, d' = { d with regs := r, dio := x }
  rd : ∀ a, a ≠ Reg.DIO_STATUS n → d'.rd a = d.rd a
  kept : ∀ lo w, (∀ i ∈ bits, lo + w ≤ i ∨ i < lo) → d'.get ⟨Reg.DIO_STATUS n, lo, w⟩ = d.get ⟨Reg.DIO_STATUS n, lo, w⟩
  dig : ∀ m, ∃ x y, d'.dig m = { d.dig m with rearmed := x, retryAt := y }

theorem dioStatus_inj {m n : Nat} (h : m ≠ n) : Reg.DIO_STATUS m ≠ Reg.DIO_STATUS n := by
  simp only [Reg.DIO_STATUS]
  omega

theorem Dyn.flag_setBit_same (d : Dyn) {a i : Nat} {b : Bool} (hi : i < 32 := by decide) :
    (d.setFlag ⟨a, i, 1⟩ b).flag ⟨a, i, 1⟩ = b := d.flag_setFlag_same _ b hi (Nat.le_refl 1)

/-- Another bit of the same register. -/
theorem Dyn.flag_setBit_ne (d : Dyn) {a i j : Nat} {b : Bool} (hij : j + 1 ≤ i ∨ i + 1 ≤ j := by decide) (hi : i < 32 := by decide) :
    (d.setFlag ⟨a, i, 1⟩ b).flag ⟨a, j, 1⟩ = d.flag ⟨a, j, 1⟩ := d.flag_setFlag_disjoint b rfl hi hij

theorem Dyn.dig_setFlag (d : Dyn) (f : Fld) (b : Bool) (m : Nat) : (d.setFlag f b).dig m = d.dig m := by
  rw [Dyn.dig, Dyn.setFlag_dio, Dyn.dig]

namespace Dyn.StatusBut
variable {c : Cfg} {d d' : Dyn} {n : Nat} {bits : List Nat}

theorem refl : d.StatusBut n bits d := ⟨⟨_, _, rfl⟩, fun _ _ => rfl, fun _ _ _ => rfl, fun _ => ⟨_, _, rfl⟩⟩

theorem setFlag (h : d.StatusBut n bits d') {i : Nat} (b : Bool) (hi : i ∈ bits ∧ i < 32 := by decide) :
    d.StatusBut n bits (d'.setFlag ⟨Reg.DIO_STATUS n, i, 1⟩ b) := by
  obtain ⟨⟨r, x, hrest⟩, hrd, hkept, hdig⟩ := h
  refine ⟨⟨_, x, congrArg (fun e : Dyn => e.setFlag ⟨Reg.DIO_STATUS n, i, 1⟩ b) hrest⟩,
    fun a ha => (d'.rd_put_ne _ ha).trans (hrd a ha), fun lo w hw => Eq.trans ?_ (hkept lo w hw), hdig⟩
  have hout := hw i hi.1
  exact d'.get_put_disjoint _ rfl hi.2 (by show lo + w ≤ i ∨ i + 1 ≤ lo; omega)

theorem setDig (h : d.StatusBut n bits d') {f : Dio → Dio} (hf : ∀ s, ∃ x y, f s = { s with rearmed := x, retryAt := y }) :
    d.StatusBut n bits (d'.setDig n f) := by
  obtain ⟨⟨r, x, hrest⟩, hrd, hkept, hdig⟩ := h
  refine ⟨⟨r, _, congrArg (fun e : Dyn => e.setDig n f) hrest⟩, hrd, hkept, fun m => ?_⟩
  by_cases hm : m = n
  · obtain ⟨x, y, hx⟩ := hdig n
    obtain ⟨x', y', hx'⟩ := hf (d'.dig n)
    exact ⟨x', y', by rw [hm, Dyn.dig_setDig_same, hx', hx]⟩
  · rw [Dyn.dig_setDig_ne _ _ hm]
    exact hdig m

theorem ite {p : Prop} [Decidable p] {a b : Dyn} (ha : d.StatusBut n bits a) (hb : d.StatusBut n bits b) :
    d.StatusBut n bits (if p then a else b) := by
  split
  · exact ha
  · exact hb

/-- A field that no changed bit lies in, in the status word of any channel. -/
theorem get (h : d.StatusBut n bits d') {m lo w : Nat} (hw : ∀ i ∈ bits, lo + w ≤ i ∨ i < lo := by decide) :
    d'.get ⟨Reg.DIO_STATUS m, lo, w⟩ = d.get ⟨Reg.DIO_STATUS m, lo, w⟩ := by
  by_cases hm : m = n
  · rw [hm]
    exact h.kept lo w hw
  · exact Dyn.get_congr (h.rd _ (dioStatus_inj hm))

theorem flag (h : d.StatusBut n bits d') {m lo w : Nat} (hw : ∀ i ∈ bits, lo + w ≤ i ∨ i < lo := by decide) :
    d'.flag ⟨Reg.DIO_STATUS m, lo, w⟩ = d.flag ⟨Reg.DIO_STATUS m, lo, w⟩ := Dyn.flag_eq (h.get hw)

/-- A field of another register. -/
theorem flag_ne (h : d.StatusBut n bits d') {f : Fld} (hf : f.addr ≠ Reg.DIO_STATUS n) : d'.flag f = d.flag f :=
  Dyn.flag_congr (h.rd _ hf)

theorem level (h : d.StatusBut n bits d') (m : Nat) : (d'.dig m).level = (d.dig m).level := by
  obtain ⟨x, y, hm⟩ := h.dig m
  rw [hm]

theorem cut (h : d.StatusBut n bits d') (m : Nat) : (d'.dig m).cut = (d.dig m).cut := by
  obtain ⟨x, y, hm⟩ := h.dig m
  rw [hm]

/-- A driver's value rests on none of the changed parts, unless LOCKOUT, WD_SAFE or BROWNOUT_LATCHED is among them (R114). -/
theorem driver (h : d.StatusBut n bits d') {m : Nat} (hn : n < 96) (hm : m < 96)
    (hbits : ∀ i ∈ bits, i ≠ 2 ∧ i ≠ 25 ∧ i ≠ 26 := by decide) : d'.driver c m = d.driver c m := by
  have hbit (j : Nat) (hj : ∀ i ∈ bits, i ≠ j) : ∀ i ∈ bits, j + 1 ≤ i ∨ i < j := fun i hi => by
    have := hj i hi
    omega
  have hlockout : d'.flag (F.DIO_STATUS_LOCKOUT m) = d.flag (F.DIO_STATUS_LOCKOUT m) :=
    h.flag (hbit 2 fun i hi => (hbits i hi).1)
  have hsafe : d'.flag (F.DIO_STATUS_WD_SAFE m) = d.flag (F.DIO_STATUS_WD_SAFE m) :=
    h.flag (hbit 25 fun i hi => (hbits i hi).2.1)
  have hbrown : d'.flag (F.DIO_STATUS_BROWNOUT_LATCHED m) = d.flag (F.DIO_STATUS_BROWNOUT_LATCHED m) :=
    h.flag (hbit 26 fun i hi => (hbits i hi).2.2)
  have hgate : d'.gate m = d.gate m := by
    rw [Dyn.gate, h.rd _ (by simp only [Reg.LVE_TRIP0, Reg.DIO_STATUS]; omega), Dyn.gate]
  have hstate : d'.modState = d.modState :=
    Dyn.get_congr (h.rd _ (by simp only [F.MOD_STATE_STATE, Reg.MOD_STATE, Reg.DIO_STATUS]; omega))
  have hrole : d'.role = d.role :=
    Dyn.get_congr (h.rd _ (by simp only [F.SHL_STATUS_ROLE, Reg.SHL_STATUS, Reg.DIO_STATUS]; omega))
  obtain ⟨x, y, hdig⟩ := h.dig m
  obtain ⟨r, z, hrest⟩ := h.rest
  have hoff : d'.outputsOff = d.outputsOff := by
    rw [Dyn.outputsOff, hrole, hrest, Dyn.outputsOff]
  have hvalue : d'.safeValue c m = d.safeValue c m := by
    rw [Dyn.safeValue, hdig]
    rfl
  have hlow : d'.lowRanks c m = d.lowRanks c m := by
    rw [Dyn.lowRanks, hdig, hrest]
    rfl
  rw [Dyn.driver, Dyn.driverUnder, hlockout, hsafe, hbrown, hgate, hstate, hoff, hvalue, hlow, hdig]
  rfl

theorem fixDio (h : d.StatusBut n bits d') (hb : ∀ i ∈ [0, 1, 30, 31], i ∈ bits ∧ i < 32 := by decide) :
    d.StatusBut n bits (d'.fixDio c n) :=
  (((h.setFlag (i := 31) _ (hb _ (by decide))).setFlag (i := 1) _ (hb _ (by decide))).setFlag (i := 30) _
    (hb _ (by decide))).setFlag (i := 0) _ (hb _ (by decide))

end Dyn.StatusBut

/-! ## The bits that follow from the others (R304, R310, R312) -/

section
variable (c : Cfg) (d : Dyn) (n : Nat)

theorem Dyn.statusBut_fixDio : d.StatusBut n [0, 1, 30, 31] (d.fixDio c n) := Dyn.StatusBut.refl.fixDio

theorem Dyn.fixDio_dio : (d.fixDio c n).dio = d.dio := rfl

theorem Dyn.fixDio_invalid : (d.fixDio c n).flag (F.DIO_STATUS_INVALID n) =
    if c.isOut n then d.flag (F.DIO_STATUS_LINK_FAIL n) || d.flag (F.DIO_STATUS_DRV_FAIL n)
    else d.flag (F.DIO_STATUS_LINK_FAIL n) || d.flag (F.DIO_STATUS_LOCKOUT n) || d.flag (F.DIO_STATUS_WIRE_BREAK n) ||
      d.flag (F.DIO_STATUS_WB_ACTIVE n) := by
  unfold Dyn.fixDio
  extract_lets out fl inv uv supp d₁ d₂ d₃
  have hkept : d₁.StatusBut n [0, 1, 30] (d₃.setFlag (F.DIO_STATUS_DIR n) out) :=
    ((Dyn.StatusBut.refl.setFlag (i := 1) _).setFlag (i := 30) _).setFlag (i := 0) _
  exact hkept.flag.trans d.flag_setBit_same

theorem Dyn.fixDio_invalid_out {c : Cfg} {n : Nat} (hout : c.isOut n = true) : (d.fixDio c n).flag (F.DIO_STATUS_INVALID n) =
    (d.flag (F.DIO_STATUS_LINK_FAIL n) || d.flag (F.DIO_STATUS_DRV_FAIL n)) := (d.fixDio_invalid c n).trans (if_pos hout)

/-- A failed link makes a channel invalid, input or output. -/
theorem Dyn.fixDio_invalid_link {d : Dyn} {n : Nat} (hlink : d.flag (F.DIO_STATUS_LINK_FAIL n) = true) :
    (d.fixDio c n).flag (F.DIO_STATUS_INVALID n) = true := by
  rw [d.fixDio_invalid, hlink]
  exact ite_self true

/-! ## The end of conditions (R303, R304) -/

/-- A condition ends where `b` holds. -/
def Dyn.clearIf (b : Bool) (f : Fld) : Dyn := if b && d.flag f then d.setFlag f false else d

theorem Dyn.flag_clearIf_true {a i : Nat} (hi : i < 32 := by decide) : (d.clearIf true ⟨a, i, 1⟩).flag ⟨a, i, 1⟩ = false := by
  unfold Dyn.clearIf
  cases hset : d.flag ⟨a, i, 1⟩ with
  | true => exact d.flag_setBit_same hi
  | false => exact hset

theorem Dyn.clearIf_dio (b : Bool) (f : Fld) : (d.clearIf b f).dio = d.dio := by
  unfold Dyn.clearIf
  split <;> rfl

theorem Dyn.StatusBut.clearIf {d d' : Dyn} {n : Nat} {bits : List Nat} (h : d.StatusBut n bits d') {i : Nat} (b : Bool)
    (hi : i ∈ bits ∧ i < 32 := by decide) : d.StatusBut n bits (d'.clearIf b ⟨Reg.DIO_STATUS n, i, 1⟩) := ite (h.setFlag _ hi) h

/-- The conditions that a change of the driver's value ends, up to DRV_FAIL; DRV_FAIL ends with OVERLOAD and THERMAL too. -/
def Dyn.endLoads : Dyn :=
  let on := d.driver c n
  let off := !d.diagOn n
  let e := ((d.clearIf (on || off || c.pairDo n) (F.DIO_STATUS_EXT_DRIVE n)).clearIf (on || off || c.pairDo n)
    (F.DIO_STATUS_OPEN_OFF n)).clearIf (!on || off) (F.DIO_STATUS_OPEN_ON n)
  e.clearIf (!on || off || (e.flag (F.DIO_STATUS_OVERLOAD n) || e.flag (F.DIO_STATUS_THERMAL n))) (F.DIO_STATUS_DRV_FAIL n)

/-- The conditions that such a change ends. -/
def Dyn.endConds : Dyn :=
  ((d.endLoads c n).clearIf (!(d.endLoads c n).switchOn c n) (F.DIO_STATUS_OVERLOAD n)).clearIf (!d.diagOn n)
    (F.DIO_STATUS_REVERSE n)

theorem Dyn.statusBut_endLoads : d.StatusBut n [16, 17, 18, 23] (d.endLoads c n) :=
  (((Dyn.StatusBut.refl.clearIf (i := 16) _).clearIf (i := 18) _).clearIf (i := 17) _).clearIf (i := 23) _

theorem Dyn.StatusBut.endConds {c : Cfg} {d d' : Dyn} {n : Nat} {bits : List Nat} (h : d.StatusBut n bits d')
    (hb : ∀ i ∈ [16, 17, 18, 19, 22, 23], i ∈ bits ∧ i < 32 := by decide) : d.StatusBut n bits (d'.endConds c n) :=
  (((((h.clearIf (i := 16) _ (hb _ (by decide))).clearIf (i := 18) _ (hb _ (by decide))).clearIf (i := 17) _
    (hb _ (by decide))).clearIf (i := 23) _ (hb _ (by decide))).clearIf (i := 19) _ (hb _ (by decide))).clearIf (i := 22) _
    (hb _ (by decide))

theorem Dyn.endConds_dio : (d.endConds c n).dio = d.dio := by
  simp only [Dyn.endConds, Dyn.endLoads, Dyn.clearIf_dio]

theorem Dyn.dropConds_eq : d.dropConds c n = ((d.turnOn c n).endConds c n).fixDio c n := rfl

/-! ## A driver that turns on again (R302, R303) -/

theorem Dyn.turnOn_waiting {c : Cfg} {d : Dyn} {n : Nat} (h : (d.dig n).rearmed = none ∨ d.driver c n = false) :
    d.turnOn c n = d := by
  unfold Dyn.turnOn
  cases hre : (d.dig n).rearmed with
  | none => rfl
  | some retry => exact if_neg (by simpa [hre] using h)

theorem Dyn.turnOn_retry {c : Cfg} {d : Dyn} {n : Nat} (hre : (d.dig n).rearmed = some true) (hon : d.driver c n = true) :
    d.turnOn c n = (d.setFlag (F.DIO_STATUS_THERMAL n) false).setDig n fun s =>
      { s with rearmed := none, retryAt := some d.now } := by
  unfold Dyn.turnOn
  rw [hre]
  exact if_pos hon

theorem Dyn.StatusBut.turnOn {c : Cfg} {d d' : Dyn} {n : Nat} {bits : List Nat} (h : d.StatusBut n bits d')
    (hb : 20 ∈ bits ∧ 20 < 32 := by decide) : d.StatusBut n bits (d'.turnOn c n) := by
  unfold Dyn.turnOn
  split
  · exact ite ((h.setFlag (i := 20) false hb).setDig fun s => ⟨_, _, rfl⟩) h
  · exact h

theorem Dyn.statusBut_turnOn : d.StatusBut n [20] (d.turnOn c n) := Dyn.StatusBut.refl.turnOn

/-- The bits that a change of the driver's value can change. -/
def dropBits : List Nat := [0, 1, 16, 17, 18, 19, 20, 22, 23, 30, 31]

theorem Dyn.StatusBut.dropConds {c : Cfg} {d d' : Dyn} {n : Nat} (h : d.StatusBut n dropBits d') :
    d.StatusBut n dropBits (d'.dropConds c n) := by
  rw [Dyn.dropConds_eq]
  exact h.turnOn.endConds.fixDio

theorem Dyn.statusBut_dropConds : d.StatusBut n dropBits (d.dropConds c n) := Dyn.StatusBut.refl.dropConds

/-- THERMAL ends with the retry alone, and only a retry ends the wait for it. -/
theorem Dyn.dropConds_thermal : (d.dropConds c n).flag (F.DIO_STATUS_THERMAL n) = (d.turnOn c n).flag (F.DIO_STATUS_THERMAL n) := by
  have hkept : (d.turnOn c n).StatusBut n [0, 1, 16, 17, 18, 19, 22, 23, 30, 31] (d.dropConds c n) := by
    rw [Dyn.dropConds_eq]
    exact Dyn.StatusBut.refl.endConds.fixDio
  exact hkept.flag

theorem Dyn.dropConds_dig (m : Nat) : (d.dropConds c n).dig m = (d.turnOn c n).dig m := by
  rw [Dyn.dropConds_eq, Dyn.dig, Dyn.fixDio_dio, Dyn.endConds_dio, Dyn.dig]

theorem Dyn.switchOn_iff {c : Cfg} {d : Dyn} {n : Nat} : d.switchOn c n = true ↔ d.driver c n = true ∧
    d.flag (F.DIO_STATUS_THERMAL n) = false ∧ d.flag (F.DIO_STATUS_RETRY_LATCHED n) = false := by
  simp [Dyn.switchOn, and_assoc]

theorem Dyn.turnOn_thermal {c : Cfg} {d : Dyn} {n : Nat} (h : d.flag (F.DIO_STATUS_THERMAL n) = false) :
    (d.turnOn c n).flag (F.DIO_STATUS_THERMAL n) = false := by
  unfold Dyn.turnOn
  split
  · split
    · exact d.flag_setBit_same
    · exact h
  · exact h

theorem Dyn.turnOn_switchOn {c : Cfg} {d : Dyn} {n : Nat} (hn : n < 96) (hon : d.switchOn c n = true) :
    (d.turnOn c n).switchOn c n = true := by
  obtain ⟨hdriver, hcool, hfree⟩ := Dyn.switchOn_iff.1 hon
  have hturn := d.statusBut_turnOn c n
  exact Dyn.switchOn_iff.2 ⟨(hturn.driver hn hn).trans hdriver, Dyn.turnOn_thermal hcool, hturn.flag.trans hfree⟩

theorem Dyn.endLoads_switchOn {c : Cfg} {d : Dyn} {n : Nat} (hn : n < 96) (hon : d.switchOn c n = true) :
    (d.endLoads c n).switchOn c n = true := by
  obtain ⟨hdriver, hcool, hfree⟩ := Dyn.switchOn_iff.1 hon
  have hend := d.statusBut_endLoads c n
  exact Dyn.switchOn_iff.2 ⟨(hend.driver hn hn).trans hdriver, hend.flag.trans hcool, hend.flag.trans hfree⟩

/-- DRV_FAIL ends with OVERLOAD (R303). -/
theorem Dyn.endLoads_drvFail {c : Cfg} {d : Dyn} {n : Nat} (hset : d.flag (F.DIO_STATUS_OVERLOAD n) = true) :
    (d.endLoads c n).flag (F.DIO_STATUS_DRV_FAIL n) = false := by
  unfold Dyn.endLoads
  extract_lets on off e
  have hkept : d.StatusBut n [16, 17, 18] e := ((Dyn.StatusBut.refl.clearIf (i := 16) _).clearIf (i := 18) _).clearIf (i := 17) _
  have hover : e.flag (F.DIO_STATUS_OVERLOAD n) = true := hkept.flag.trans hset
  rw [hover, Bool.true_or, Bool.or_true]
  exact e.flag_clearIf_true

/-- An overload of a switch that is ON, after the driver's value has been followed: it stands, and DRV_FAIL has ended (R303). -/
theorem Dyn.dropConds_overloaded {c : Cfg} {d : Dyn} {n : Nat} (hn : n < 96) (hset : d.flag (F.DIO_STATUS_OVERLOAD n) = true)
    (hon : d.switchOn c n = true) : (d.dropConds c n).flag (F.DIO_STATUS_OVERLOAD n) = true ∧
      (d.dropConds c n).flag (F.DIO_STATUS_DRV_FAIL n) = false := by
  obtain ⟨e, he⟩ : ∃ e, e = d.turnOn c n := ⟨_, rfl⟩
  have hover : e.flag (F.DIO_STATUS_OVERLOAD n) = true := by
    rw [he]
    exact (d.statusBut_turnOn c n).flag.trans hset
  have hstill : e.switchOn c n = true := by
    rw [he]
    exact Dyn.turnOn_switchOn hn hon
  have hkept : (e.endLoads c n).StatusBut n [0, 1, 22, 30, 31] (d.dropConds c n) := by
    rw [Dyn.dropConds_eq, ← he, Dyn.endConds, Dyn.endLoads_switchOn hn hstill]
    exact (Dyn.StatusBut.refl.clearIf (i := 22) _).fixDio
  exact ⟨hkept.flag.trans ((e.statusBut_endLoads c n).flag.trans hover), hkept.flag.trans (Dyn.endLoads_drvFail hover)⟩

end
end Sys2Proof.Machine
end
section
/-! SUPPORT. The output diagnostics, thermal shutdowns and retries (R302–R304, R312). -/

namespace Sys2Proof.Machine

/-! ## Conditions that are set and cleared alone (R303, R304) -/

/-- `d'` is `d` with condition `f` of output `n` set to `b`, INVALID after it, and events counted. -/
structure Dyn.CondSet (n : Nat) (f : Fld) (b : Bool) (d d' : Dyn) : Prop where
  flag : d'.flag f = b
  invalid : d'.flag (F.DIO_STATUS_INVALID n) =
    (d'.flag (F.DIO_STATUS_LINK_FAIL n) || d'.flag (F.DIO_STATUS_DRV_FAIL n))
  rd : ∀ a, a ≠ Reg.DIO_STATUS n → a ≠ Reg.DIO_EVCNT n → d'.rd a = d.rd a
  rest : { d' with regs := d.regs } = d

theorem dioEvcnt_ne_dioStatus (m n : Nat) : Reg.DIO_EVCNT m ≠ Reg.DIO_STATUS n := by
  simp only [Reg.DIO_EVCNT, Reg.DIO_STATUS]
  omega

section
variable {c : Cfg} {n : Nat}

theorem Dyn.condSet_fixDio (d : Dyn) (hout : c.isOut n = true) {i : Nat} (b : Bool)
    (hi : (∀ j ∈ [0, 1, 30, 31], i + 1 ≤ j ∨ j < i) ∧ i < 32 := by decide) :
    Dyn.CondSet n ⟨Reg.DIO_STATUS n, i, 1⟩ b d ((d.setFlag ⟨Reg.DIO_STATUS n, i, 1⟩ b).fixDio c n) := by
  have hkept := (d.setFlag ⟨Reg.DIO_STATUS n, i, 1⟩ b).statusBut_fixDio c n
  exact ⟨(hkept.flag hi.1).trans (d.flag_setBit_same hi.2),
    (Dyn.fixDio_invalid_out _ hout).trans (congrArg₂ (· || ·) hkept.flag.symm hkept.flag.symm),
    fun a ha _ => (hkept.rd a ha).trans (d.rd_put_ne _ ha), rfl⟩

/-- The events are counted in another register. -/
theorem Dyn.CondSet.bump {d d' : Dyn} {i : Nat} {b : Bool} (h : Dyn.CondSet n ⟨Reg.DIO_STATUS n, i, 1⟩ b d d') {f : Fld}
    (hf : f.addr = Reg.DIO_EVCNT n) : Dyn.CondSet n ⟨Reg.DIO_STATUS n, i, 1⟩ b d (d'.bump f) := by
  have hne : f.addr ≠ Reg.DIO_STATUS n := hf ▸ dioEvcnt_ne_dioStatus n n
  have hflag (j : Nat) : (d'.bump f).flag ⟨Reg.DIO_STATUS n, j, 1⟩ = d'.flag ⟨Reg.DIO_STATUS n, j, 1⟩ :=
    d'.flag_put_ne _ hne.symm
  exact ⟨(hflag i).trans h.flag, (hflag 31).trans (h.invalid.trans (congrArg₂ (· || ·) (hflag 3).symm (hflag 23).symm)),
    fun a hs he => (d'.rd_put_ne _ (hf ▸ he)).trans (h.rd a hs he), h.rest⟩

theorem Dyn.setCond_ok {d : Dyn} {f : Nat → Fld} {ok : Bool} (hn : n < 96) (hout : c.isOut n = true) (hok : ok = true) :
    d.setCond c n f ok = (d.setFlag (f n) true).fixDio c n := if_pos (by simp [hn, hout, hok])

theorem condFld_bit (n : Nat) (cond : OutCondition) :
    ∃ i, condFld n cond = ⟨Reg.DIO_STATUS n, i, 1⟩ ∧ (∀ j ∈ [0, 1, 30, 31], i + 1 ≤ j ∨ j < i) ∧ i < 32 := by
  cases cond <;> exact ⟨_, rfl, by decide⟩

/-- INVALID of an output, once its driver's value has been followed (R312). -/
theorem Dyn.dropConds_invalid (d : Dyn) (hout : c.isOut n = true) : (d.dropConds c n).flag (F.DIO_STATUS_INVALID n) =
    ((d.dropConds c n).flag (F.DIO_STATUS_LINK_FAIL n) || (d.dropConds c n).flag (F.DIO_STATUS_DRV_FAIL n)) := by
  have hkept := ((d.turnOn c n).endConds c n).statusBut_fixDio c n
  rw [Dyn.dropConds_eq, Dyn.fixDio_invalid_out _ hout]
  exact congrArg₂ (· || ·) hkept.flag.symm hkept.flag.symm

end

section
variable {s : State} {n : BitVec 7} (hlive : Live s) (hn : n.toNat < 96) (hout : s.cfg.isOut n.toNat = true)

/-- A command that sets one condition shows it so. -/
theorem Dyn.CondSet.shown {i : Instr} {k : Nat} {f : Fld} {b : Bool} {d : Dyn} (h : Dyn.CondSet k f b s.dyn d)
    (hexec : exec i s = .next (s.withDyn d)) : ∃ u, exec i s = .next u ∧ u.dyn.flag f = b ∧
      u.dyn.flag (F.DIO_STATUS_INVALID k) =
        (u.dyn.flag (F.DIO_STATUS_LINK_FAIL k) || u.dyn.flag (F.DIO_STATUS_DRV_FAIL k)) ∧
      (∀ a, a ≠ Reg.DIO_STATUS k → a ≠ Reg.DIO_EVCNT k → u.dyn.rd a = s.dyn.rd a) ∧
      { u.dyn with regs := s.dyn.regs } = s.dyn ∧ u.cfg = s.cfg ∧ u.pending = s.pending :=
  ⟨_, hexec, h.flag, h.invalid, h.rd, h.rest, rfl, rfl⟩

include hlive hn

theorem exec_diagnosticClear (cond : OutCondition) : exec (.diagnosticClear n cond) s =
    .next (s.withDyn ((s.dyn.setFlag (condFld n.toNat cond) false).fixDio s.cfg n.toNat)) := by
  show execDiagnosticClear n cond s = _
  rw [execDiagnosticClear, State.upd_withDyn hlive, if_pos hn]

include hout

theorem exec_overload (hon : s.dyn.switchOn s.cfg n.toNat = true) : exec (.overload n) s =
    .next (s.withDyn ((s.dyn.setFlag (F.DIO_STATUS_OVERLOAD n.toNat) true).dropConds s.cfg n.toNat)) := by
  show execOverload n s = _
  rw [execOverload, State.upd_withDyn hlive]
  simp only [hn, hout, hon, decide_true, Bool.and_self, if_true]

theorem exec_reverse (hdiag : s.dyn.diagOn n.toNat = true) (hpair : s.cfg.pairDo n.toNat = false) : exec (.reverse n) s =
    .next (s.withDyn ((s.dyn.setFlag (F.DIO_STATUS_REVERSE n.toNat) true).fixDio s.cfg n.toNat)) := by
  show execReverse n s = _
  rw [execReverse, State.upd_withDyn hlive, Dyn.setCond_ok hn hout (by simp [hdiag, hpair])]

theorem exec_extDrive (hdiag : s.dyn.diagOn n.toNat = true) (hpair : s.cfg.pairDo n.toNat = false)
    (hoff : s.dyn.driver s.cfg n.toNat = false) (hnew : s.dyn.flag (F.DIO_STATUS_EXT_DRIVE n.toNat) = false) :
    exec (.extDrive n) s = .next (s.withDyn
      (((s.dyn.setFlag (F.DIO_STATUS_EXT_DRIVE n.toNat) true).fixDio s.cfg n.toNat).bump (F.DIO_EVCNT_EXT_DRIVE n.toNat))) := by
  show execExtDrive n s = _
  rw [execExtDrive, State.upd_withDyn hlive]
  simp only [hn, hout, hdiag, hpair, hoff, hnew, Bool.not_false, Bool.and_self, decide_true, if_true,
    Dyn.setCond_ok hn hout rfl]

theorem exec_openOff (hdiag : s.dyn.diagOn n.toNat = true) (hpair : s.cfg.pairDo n.toNat = false)
    (hoff : s.dyn.driver s.cfg n.toNat = false) (hen : s.cfg.flag (F.DIO_OCFG_OPEN_OFF_EN n.toNat) = true) :
    exec (.openOff n) s =
      .next (s.withDyn ((s.dyn.setFlag (F.DIO_STATUS_OPEN_OFF n.toNat) true).fixDio s.cfg n.toNat)) := by
  show execOpenOff n s = _
  rw [execOpenOff, State.upd_withDyn hlive, Dyn.setCond_ok hn hout (by simp [hdiag, hpair, hoff, hen])]

theorem exec_openOn (hdiag : s.dyn.diagOn n.toNat = true) (hon : s.dyn.driver s.cfg n.toNat = true) : exec (.openOn n) s =
    .next (s.withDyn ((s.dyn.setFlag (F.DIO_STATUS_OPEN_ON n.toNat) true).fixDio s.cfg n.toNat)) := by
  show execOpenOn n s = _
  rw [execOpenOn, State.upd_withDyn hlive, Dyn.setCond_ok hn hout (by simp [hdiag, hon])]

theorem exec_drvFail (hdiag : s.dyn.diagOn n.toNat = true) (hon : s.dyn.driver s.cfg n.toNat = true)
    (hover : s.dyn.flag (F.DIO_STATUS_OVERLOAD n.toNat) = false) (hcool : s.dyn.flag (F.DIO_STATUS_THERMAL n.toNat) = false) :
    exec (.drvFail n) s =
      .next (s.withDyn ((s.dyn.setFlag (F.DIO_STATUS_DRV_FAIL n.toNat) true).fixDio s.cfg n.toNat)) := by
  show execDrvFail n s = _
  rw [execDrvFail, State.upd_withDyn hlive, Dyn.setCond_ok hn hout (by simp [hdiag, hon, hover, hcool])]

/-- OVERLOAD ends DRV_FAIL, so that LINK_FAIL alone makes the output invalid (R303). -/
theorem exec_overload_shows (hon : s.dyn.switchOn s.cfg n.toNat = true) : ∃ u, exec (.overload n) s = .next u ∧
    u.dyn.flag (F.DIO_STATUS_OVERLOAD n.toNat) = true ∧ u.dyn.flag (F.DIO_STATUS_DRV_FAIL n.toNat) = false ∧
    u.dyn.flag (F.DIO_STATUS_INVALID n.toNat) = u.dyn.flag (F.DIO_STATUS_LINK_FAIL n.toNat) ∧
    ∀ a, a ≠ Reg.DIO_STATUS n.toNat → u.dyn.rd a = s.dyn.rd a := by
  have hset : s.dyn.StatusBut n.toNat [19] (s.dyn.setFlag (F.DIO_STATUS_OVERLOAD n.toNat) true) :=
    Dyn.StatusBut.refl.setFlag (i := 19) true
  obtain ⟨hdriver, hcool, hfree⟩ := Dyn.switchOn_iff.1 hon
  have hover : (s.dyn.setFlag (F.DIO_STATUS_OVERLOAD n.toNat) true).flag (F.DIO_STATUS_OVERLOAD n.toNat) = true :=
    s.dyn.flag_setBit_same
  obtain ⟨hstands, hended⟩ := Dyn.dropConds_overloaded hn hover
    (Dyn.switchOn_iff.2 ⟨(hset.driver hn hn).trans hdriver, hset.flag.trans hcool, hset.flag.trans hfree⟩)
  refine ⟨_, exec_overload hlive hn hout hon, hstands, hended, (Dyn.dropConds_invalid _ hout).trans ?_, fun a ha => ?_⟩
  · rw [hended]
    exact Bool.or_false _
  · exact ((Dyn.statusBut_dropConds _ _ _).rd a ha).trans (hset.rd a ha)

end

/-! ## Thermal shutdowns (R302) -/

section
variable (c : Cfg) (d : Dyn) (n : Nat)

/-- The shutdown of this instant follows a retry within 1 s: that retry has failed. -/
def Dyn.retryFails : Bool := (d.dig n).retryAt.any fun t => decide (d.now - t < 10 ^ 9)

/-- The failed retries in a row, with a shutdown of this instant. -/
def Dyn.failsNow : Nat := if d.retryFails n then (d.dig n).failedRetries + 1 else 0

/-- A shutdown after which the driver stays off: under LATCH, or after RETRY_MAX failed retries. -/
def Cfg.latchesAfter (fails : Nat) : Bool :=
  c.flag (F.DIO_OCFG_RETRY n) ||
    (c.get (F.DIO_OCFG_RETRY_MAX n) != 0 && decide (c.get (F.DIO_OCFG_RETRY_MAX n) ≤ fails))

/-- What a shutdown at `now` leaves of a driver whose failed retries it brings to `fails`. -/
def Dio.shutDown (x : Dio) (fails now : Nat) : Dio :=
  { x with failedRetries := fails, retryAt := none, rearmed := none, thermalAt := now }

/-- A shutdown, noted and counted. -/
def Dyn.shutDown : Dyn :=
  ((d.setDig n fun x => x.shutDown (d.failsNow n) d.now).setFlag (F.DIO_STATUS_THERMAL n) true).bump (F.DIO_EVCNT_THERMAL n)

/-- A shutdown, and the latch it may set. -/
def Dyn.latchedDown : Dyn :=
  if c.latchesAfter n (d.failsNow n) then (d.shutDown n).setFlag (F.DIO_STATUS_RETRY_LATCHED n) true else d.shutDown n

theorem Dyn.shutDown_flag {i : Nat} (hi : 20 ≠ i := by decide) :
    (d.shutDown n).flag ⟨Reg.DIO_STATUS n, i, 1⟩ = d.flag ⟨Reg.DIO_STATUS n, i, 1⟩ :=
  (Dyn.flag_put_ne _ _ (dioEvcnt_ne_dioStatus n n).symm).trans
    (Dyn.flag_setFlag_disjoint _ _ rfl (by decide : 20 + 1 ≤ 32) (by show i + 1 ≤ 20 ∨ 20 + 1 ≤ i; omega))

theorem Dyn.shutDown_thermal : (d.shutDown n).flag (F.DIO_STATUS_THERMAL n) = true :=
  (Dyn.flag_put_ne _ _ (dioEvcnt_ne_dioStatus n n).symm).trans (Dyn.flag_setBit_same _)

theorem Dyn.shutDown_count : (d.shutDown n).get (F.DIO_EVCNT_THERMAL n) =
    min (d.get (F.DIO_EVCNT_THERMAL n) + 1) (2 ^ (F.DIO_EVCNT_THERMAL n).width - 1) := by
  have hbefore : ((d.setDig n fun x => x.shutDown (d.failsNow n) d.now).setFlag (F.DIO_STATUS_THERMAL n) true).get
      (F.DIO_EVCNT_THERMAL n) = d.get (F.DIO_EVCNT_THERMAL n) := Dyn.get_put_ne _ _ (dioEvcnt_ne_dioStatus n n)
  rw [← hbefore]
  exact Dyn.get_bumpBy _ 1 (by decide : 16 + 8 ≤ 32)

theorem Dyn.shutDown_rd {a : Nat} (hs : a ≠ Reg.DIO_STATUS n) (he : a ≠ Reg.DIO_EVCNT n) : (d.shutDown n).rd a = d.rd a :=
  (Dyn.rd_put_ne _ _ he).trans (Dyn.rd_put_ne _ _ hs)

theorem Dyn.shutDown_dig : (d.shutDown n).dig n = (d.dig n).shutDown (d.failsNow n) d.now := by
  rw [Dyn.dig, Dyn.shutDown, Dyn.bump_dio, Dyn.setFlag_dio]
  exact d.dig_setDig_same n fun x => x.shutDown (d.failsNow n) d.now

theorem Dyn.statusBut_latchedDown : (d.shutDown n).StatusBut n [21] (d.latchedDown c n) :=
  Dyn.StatusBut.ite (Dyn.StatusBut.refl.setFlag (i := 21) true) Dyn.StatusBut.refl

theorem Dyn.latchedDown_dig : (d.latchedDown c n).dig n = (d.dig n).shutDown (d.failsNow n) d.now := by
  unfold Dyn.latchedDown
  split
  · exact ((d.shutDown n).dig_setFlag _ _ _).trans (d.shutDown_dig n)
  · exact d.shutDown_dig n

theorem Dyn.latchedDown_latched : (d.latchedDown c n).flag (F.DIO_STATUS_RETRY_LATCHED n) =
    (d.flag (F.DIO_STATUS_RETRY_LATCHED n) || c.flag (F.DIO_OCFG_RETRY n) ||
      (c.get (F.DIO_OCFG_RETRY_MAX n) != 0 && decide (c.get (F.DIO_OCFG_RETRY_MAX n) ≤ d.failsNow n))) := by
  rw [Bool.or_assoc, ← Cfg.latchesAfter]
  unfold Dyn.latchedDown
  cases c.latchesAfter n (d.failsNow n) with
  | true => exact (Dyn.flag_setBit_same _).trans (Bool.or_true _).symm
  | false => exact (d.shutDown_flag n).trans (Bool.or_false _).symm

theorem Dyn.latchedDown_turnOn : (d.latchedDown c n).turnOn c n = d.latchedDown c n :=
  Dyn.turnOn_waiting (.inl (congrArg Dio.rearmed (d.latchedDown_dig c n)))

end

section
variable {s : State} {n : BitVec 7} (hlive : Live s) (hn : n.toNat < 96) (hout : s.cfg.isOut n.toNat = true)
include hlive hn hout

theorem exec_thermal : exec (.thermal n) s =
    .next (s.withDyn ((s.dyn.latchedDown s.cfg n.toNat).dropConds s.cfg n.toNat)) := by
  show execThermal n s = _
  rw [execThermal, State.upd_withDyn hlive]
  cases hretry : (s.dyn.dig n.toNat).retryAt with
  | none =>
    simp only [hn, hout, decide_true, Bool.and_self, if_true, hretry, Dyn.latchedDown, Dyn.shutDown, Dyn.failsNow,
      Dyn.retryFails, Option.any_none, Cfg.latchesAfter]
    rfl
  | some t =>
    simp only [hn, hout, decide_true, Bool.and_self, if_true, hretry, Dyn.latchedDown, Dyn.shutDown, Dyn.failsNow,
      Dyn.retryFails, Option.any_some, Cfg.latchesAfter]
    rfl

theorem exec_thermal_shows : ∃ u, exec (.thermal n) s = .next u ∧ u.dyn.flag (F.DIO_STATUS_THERMAL n.toNat) = true ∧
    u.dyn.flag (F.DIO_STATUS_RETRY_LATCHED n.toNat) = (s.dyn.flag (F.DIO_STATUS_RETRY_LATCHED n.toNat) ||
      s.cfg.flag (F.DIO_OCFG_RETRY n.toNat) || (s.cfg.get (F.DIO_OCFG_RETRY_MAX n.toNat) != 0 &&
        decide (s.cfg.get (F.DIO_OCFG_RETRY_MAX n.toNat) ≤ s.dyn.failsNow n.toNat))) ∧
    (u.dyn.dig n.toNat).failedRetries = s.dyn.failsNow n.toNat ∧
    u.dyn.get (F.DIO_EVCNT_THERMAL n.toNat) = min (s.dyn.get (F.DIO_EVCNT_THERMAL n.toNat) + 1)
      (2 ^ (F.DIO_EVCNT_THERMAL n.toNat).width - 1) ∧
    ∀ a, a ≠ Reg.DIO_STATUS n.toNat → a ≠ Reg.DIO_EVCNT n.toNat → u.dyn.rd a = s.dyn.rd a := by
  have hlatch := s.dyn.statusBut_latchedDown s.cfg n.toNat
  have hdrop := (s.dyn.latchedDown s.cfg n.toNat).statusBut_dropConds s.cfg n.toNat
  have hrd (a : Nat) (ha : a ≠ Reg.DIO_STATUS n.toNat) := (hdrop.rd a ha).trans (hlatch.rd a ha)
  refine ⟨_, exec_thermal hlive hn hout, ?thermal, hdrop.flag.trans (s.dyn.latchedDown_latched ..), ?fails, ?count,
    fun a hs he => (hrd a hs).trans (s.dyn.shutDown_rd _ hs he)⟩
  case thermal =>
    refine (Dyn.dropConds_thermal ..).trans ?_
    rw [Dyn.latchedDown_turnOn]
    exact hlatch.flag.trans (s.dyn.shutDown_thermal _)
  case fails =>
    refine (congrArg Dio.failedRetries (Dyn.dropConds_dig ..)).trans ?_
    rw [Dyn.latchedDown_turnOn, Dyn.latchedDown_dig]
    rfl
  case count => exact (Dyn.get_congr (hrd _ (dioEvcnt_ne_dioStatus _ _))).trans (s.dyn.shutDown_count _)

end

/-! ## Retries (R302, R303) -/

/-- The driver of output `n` may turn on again, as a retry. -/
def Dyn.rearm (d : Dyn) (n : Nat) : Dyn := d.setDig n fun x => { x with rearmed := some true }

theorem Dyn.StatusBut.rearm {d : Dyn} {n : Nat} {bits : List Nat} : d.StatusBut n bits (d.rearm n) :=
  Dyn.StatusBut.refl.setDig fun _ => ⟨_, _, rfl⟩

theorem Dyn.rearm_rearmed (d : Dyn) (n : Nat) : ((d.rearm n).dig n).rearmed = some true :=
  congrArg Dio.rearmed (d.dig_setDig_same n _)

section
variable {c : Cfg} {d : Dyn} {n : Nat} (hn : n < 96)
include hn

/-- A retry of a driver whose value is ON turns it on. -/
theorem Dyn.rearm_on (hon : d.driver c n = true) : ((d.rearm n).dropConds c n).flag (F.DIO_STATUS_THERMAL n) = false ∧
    (((d.rearm n).dropConds c n).dig n).retryAt = some d.now := by
  have hdriver : (d.rearm n).driver c n = true := (Dyn.StatusBut.rearm (bits := []).driver hn hn).trans hon
  rw [Dyn.dropConds_thermal, Dyn.dropConds_dig, Dyn.turnOn_retry (d.rearm_rearmed n) hdriver]
  exact ⟨Dyn.flag_setBit_same _, congrArg Dio.retryAt (Dyn.dig_setDig_same _ n _)⟩

/-- One of a driver whose value is OFF waits. -/
theorem Dyn.rearm_off (hoff : d.driver c n = false) :
    ((d.rearm n).dropConds c n).flag (F.DIO_STATUS_THERMAL n) = d.flag (F.DIO_STATUS_THERMAL n) ∧
      (((d.rearm n).dropConds c n).dig n).rearmed = some true := by
  have hdriver : (d.rearm n).driver c n = false := (Dyn.StatusBut.rearm (bits := []).driver hn hn).trans hoff
  rw [Dyn.dropConds_thermal, Dyn.dropConds_dig, Dyn.turnOn_waiting (.inr hdriver)]
  exact ⟨rfl, d.rearm_rearmed n⟩

end

section
variable {s : State} {n : BitVec 7} {due : Nat}

theorem exec_retry (hlive : Live s) (hn : n.toNat < 96) (hout : s.cfg.isOut n.toNat = true)
    (hhot : s.dyn.flag (F.DIO_STATUS_THERMAL n.toNat) = true)
    (hfree : s.dyn.flag (F.DIO_STATUS_RETRY_LATCHED n.toNat) = false) (hauto : s.cfg.flag (F.DIO_OCFG_RETRY n.toNat) = false)
    (hdue : due = (s.dyn.dig n.toNat).thermalAt + s.cfg.get (F.DIO_OCFG_RETRY_INT n.toNat) * 10 ^ 7)
    (hnear : s.dyn.near s.cfg due) :
    exec (.retry n) s = .next (s.withDyn (((s.dyn.dueAt due).rearm n.toNat).dropConds s.cfg n.toNat)) := by
  show execRetry n s = _
  rw [execRetry, State.upd_withDyn hlive]
  simp only [hn, hout, hhot, hfree, hauto, Bool.not_false, decide_true, Bool.and_self, if_true, ← hdue,
    Dyn.whenDue_near hnear]
  rfl

end

/-- Settles O36, command by command: the conditions that are set and cleared alone, then OVERLOAD, shutdowns and retries. -/
theorem outputDiagnostics : Obligations.OutputDiagnostics := by
  intro s n hlive hn hout k ends
  refine ⟨exec_overload_shows hlive hn hout, fun cond => ?clear, fun hdiag hpair => ⟨?reverse, fun hoff hnew => ?extDrive,
    fun hoff hen => ?openOff, fun hon => ⟨?openOn, fun hover hcool => ?drvFail⟩⟩, exec_thermal_shows hlive hn hout,
    fun hhot hfree hauto => ?retry⟩
  case clear =>
    obtain ⟨i, hi, hbit⟩ := condFld_bit k cond
    have hset := s.dyn.condSet_fixDio hout (i := i) false hbit
    rw [← hi] at hset
    exact hset.shown (exec_diagnosticClear hlive hn cond)
  case reverse => exact (s.dyn.condSet_fixDio hout (i := 22) true).shown (exec_reverse hlive hn hout hdiag hpair)
  case extDrive =>
    exact ((s.dyn.condSet_fixDio hout (i := 16) true).bump rfl).shown (exec_extDrive hlive hn hout hdiag hpair hoff hnew)
  case openOff => exact (s.dyn.condSet_fixDio hout (i := 18) true).shown (exec_openOff hlive hn hout hdiag hpair hoff hen)
  case openOn => exact (s.dyn.condSet_fixDio hout (i := 17) true).shown (exec_openOn hlive hn hout hdiag hon)
  case drvFail => exact (s.dyn.condSet_fixDio hout (i := 23) true).shown (exec_drvFail hlive hn hout hdiag hon hover hcool)
  case retry =>
    intro due hnear e
    refine ⟨_, exec_retry hlive hn hout hhot hfree hauto rfl hnear, Dyn.rearm_on hn, fun hoff => ?_, fun a ha => ?_⟩
    · obtain ⟨hthermal, hrearmed⟩ := Dyn.rearm_off hn hoff
      exact ⟨hthermal.trans ((s.dyn.flag_dueAt due hn).trans hhot), hrearmed⟩
    · exact (Dyn.StatusBut.rearm.dropConds).rd a ha

end Sys2Proof.Machine
end
section
/-! SUPPORT. What the records of alarms leave of the channels' registers (R412, R450–R454). -/

namespace Sys2Proof.Machine

/-- A register of the digital or analogue channels. -/
abbrev OfChannel (a : Nat) : Prop := 0x80000 ≤ a ∧ a < 0xa0000

theorem OfChannel.ne {a b : Nat} (ha : OfChannel a) (hb : ¬ OfChannel b) : a ≠ b := fun h => hb (h ▸ ha)

section
variable {n : Nat} (h : n < 96)
include h

theorem dioStatus_ofChannel : OfChannel (Reg.DIO_STATUS n) := by
  rw [OfChannel, Reg.DIO_STATUS]
  omega

theorem dioWb_ofChannel : OfChannel (Reg.DIO_WB n) := by
  rw [OfChannel, Reg.DIO_WB]
  omega

end

namespace Dyn
variable (c : Cfg) (d : Dyn) {a : Nat} (ha : OfChannel a)
include ha

theorem rd_put_other {f : Fld} (v : Nat) (hf : ¬ OfChannel f.addr := by decide) : (d.put f v).rd a = d.rd a :=
  d.rd_put_ne v (ha.ne hf)

theorem rd_pushAlarm (code source : Nat) (v v2 : Word) : (d.pushAlarm code source v v2).rd a = d.rd a := by
  unfold pushAlarm
  split
  exact rd_put_other _ ha _

theorem rd_setWindow (i : Nat) (w : Option Window) : (d.setWindow i w).rd a = d.rd a :=
  (rd_put_other _ ha _).trans (rd_put_other _ ha _)

theorem rd_journalAlarm (code source : Nat) (v v2 : Word) : (d.journalAlarm c code source v v2).rd a = d.rd a := by
  have hpush := d.rd_pushAlarm ha code source v v2
  unfold journalAlarm
  extract_lets x
  split
  · unfold secondary
    split <;> exact hpush
  · exact hpush

theorem rd_freeze (cause source : Nat) (frame : Word) : (d.freeze c cause source frame).rd a = d.rd a := by
  unfold freeze
  extract_lets d₁ want last before oldest fn0 within w pl d₂ _ d₃ d₄ d₅
  split
  · unfold secondary
    split <;> rfl
  · have h₂ : d₂.rd a = d.rd a := by
      clear_value pl
      cases pl with
      | some p => exact rd_setWindow _ ha ..
      | none => rfl
    have h₅ : d₅.rd a = d.rd a := (rd_journalAlarm c _ ha ..).trans ((rd_put_other _ ha _).trans h₂)
    split
    · exact (rd_journalAlarm c _ ha ..).trans h₅
    · exact h₅

theorem rd_alarm (code source : Nat) (v v2 : Word) : (d.alarm c code source v v2).rd a = d.rd a := by
  have hpush := d.rd_pushAlarm ha code source v v2
  unfold alarm
  extract_lets x
  split
  · exact (rd_freeze c _ ha ..).trans hpush
  · exact hpush

end Dyn
end Sys2Proof.Machine
end
section
/-! SUPPORT. The events of digital inputs: edges, filter, chatter, stuck inputs and wire-break tests (R286, R287, R295–R300). -/

namespace Sys2Proof.Machine

section
variable {s : State} {n : BitVec 7} (hlive : Live s)
include hlive

theorem exec_filterConfirm {at_ : Word} (hheld : (s.dyn.advTo at_).held n.toNat (s.cfg.filterOf n.toNat - 10) at_ = true) :
    exec (.filterConfirm n at_) s = .next (s.withDyn (((s.dyn.advTo at_).advTo (at_ + 14)).confirm s.cfg n.toNat
      ((s.dyn.advTo at_).dig n.toNat).raw ((s.dyn.advTo at_).dig n.toNat).rawAt)) := by
  show execFilterConfirm n at_ s = _
  rw [execFilterConfirm, State.upd_withDyn hlive]
  simp only [hheld, if_true]

variable (hn : n.toNat < 96)
include hn

/-- An edge that finds no earlier state to confirm is taken with its time, in DEEP DOZE that of the time base (R287, R342). -/
theorem exec_rawEdge {level : Bool} {at_ t : Word} (hraw : ((s.dyn.advTo at_).dig n.toNat).raw ≠ level)
    (ht : t = if (s.dyn.advTo at_).flag F.TSU_STATUS_DEEP then (s.dyn.advTo at_).ft else at_)
    (hheld : (s.dyn.advTo at_).held n.toNat (s.cfg.filterOf n.toNat) t = false) : exec (.rawEdge n level at_) s =
      .next (s.withDyn ((s.dyn.advTo at_).setDig n.toNat fun x => { x with raw := level, rawAt := t })) := by
  show execRawEdge n level at_ s = _
  rw [execRawEdge, State.upd_withDyn hlive]
  simp only [hn, bne_iff_ne.2 hraw, ← ht, hheld, decide_true, Bool.and_self, if_true, Bool.false_eq_true, if_false]

theorem exec_chatterCoolDownEnd {due : Nat}
    (hdue : due = (s.dyn.dig n.toNat).coolAt + s.cfg.get (F.DIO_CHATCFG_CHAT_COOL n.toNat) * 10 ^ 8)
    (hset : s.dyn.flag (F.DIO_STATUS_CHATTER n.toNat) = true) (hnear : s.dyn.near s.cfg due)
    (hsame : (s.dyn.dig n.toNat).level = (s.dyn.dig n.toNat).coolFrom)
    (hfew : ((s.dyn.dig n.toNat).changes.filter fun x =>
      due - x ≤ s.cfg.get (F.DIO_CHATCFG_CHAT_WIN n.toNat) * 10 ^ 6).length ≤ s.cfg.get (F.DIO_CHATCFG_CHAT_N n.toNat)) :
    exec (.chatterCoolDownEnd n) s =
      .next (s.withDyn ((s.dyn.dueAt due).setFlag (F.DIO_STATUS_CHATTER n.toNat) false)) := by
  show execChatterCoolDownEnd n s = _
  rw [execChatterCoolDownEnd, State.upd_withDyn hlive]
  simp only [hn, hset, decide_true, Bool.and_self, if_true, ← hdue, Dyn.whenDue_near hnear, Dyn.dueAt_dig, hsame,
    if_neg (Nat.not_lt.2 hfew), gt_iff_lt, bne_self_eq_false, Bool.false_eq_true, if_false]

theorem exec_stuck {due : Nat}
    (hdue : due = (s.dyn.dig n.toNat).activeAt + s.cfg.get (F.DIO_STUCK_MAX_ACT n.toNat) * 10 ^ 8 + 1)
    (hin : s.cfg.isOut n.toNat = false) (hlim : s.cfg.get (F.DIO_STUCK_MAX_ACT n.toNat) * 10 ^ 8 ≠ 0)
    (hactive : (s.dyn.dig n.toNat).level = s.cfg.flag (F.DIO_CFG_ACT_LEVEL n.toNat)) (hnear : s.dyn.near s.cfg due)
    (hnew : s.dyn.flag (F.DIO_STATUS_STUCK n.toNat) = false) : exec (.stuck n) s = .next (s.withDyn
      (((s.dyn.dueAt due).setFlag (F.DIO_STATUS_STUCK n.toNat) true).alarm s.cfg 0x0501 n.toNat 0 0)) := by
  show execStuck n s = _
  rw [execStuck, State.upd_withDyn hlive]
  simp only [hn, hin, hlim, hactive, hnew, ne_eq, not_false_eq_true, decide_true, Bool.not_false, beq_self_eq_true,
    Bool.and_self, if_true, ← hdue, Dyn.whenDue_near hnear]

end

/-! ## Wire-break tests (R298–R300) -/

section
variable (d : Dyn) (n cur : Nat) (level : Bool)

/-- The result of a test, and its current. -/
def Dyn.wbMeasured : Dyn := (d.put (F.DIO_WB_RESULT n) (wbClass cur)).put (F.DIO_WB_CURRENT n) cur

/-- What the result says of the wire; an indeterminate one leaves WIRE_BREAK as it was. -/
def Dyn.wbJudged : Dyn :=
  if wbClass cur = 4 then (d.wbMeasured n cur).setFlag (F.DIO_STATUS_WB_INDET n) (wbClass cur == 4)
  else ((d.wbMeasured n cur).setFlag (F.DIO_STATUS_WB_INDET n) (wbClass cur == 4)).setFlag (F.DIO_STATUS_WIRE_BREAK n)
    (wbClass cur == 3)

/-- The test is over, and the filter restarts from the sensed state. -/
def Dyn.wbEnded : Dyn :=
  ((d.wbJudged n cur).setDig n fun x => { x with raw := level, rawAt := (d.wbJudged n cur).ft }).setFlag
    (F.DIO_STATUS_WB_ACTIVE n) false

theorem wbClass_lt : wbClass cur < 8 := by
  unfold wbClass
  split_ifs <;> decide

theorem dioWb_ne_dioStatus : Reg.DIO_WB n ≠ Reg.DIO_STATUS n := by
  simp only [Reg.DIO_WB, Reg.DIO_STATUS]
  omega

theorem Dyn.wbMeasured_result : (d.wbMeasured n cur).get (F.DIO_WB_RESULT n) = wbClass cur := by
  have hput : (d.put (F.DIO_WB_RESULT n) (wbClass cur)).get (F.DIO_WB_RESULT n) = wbClass cur :=
    d.get_put_fits (by decide : 16 + 3 ≤ 32) (wbClass_lt cur)
  rw [← hput]
  exact Dyn.get_put_disjoint _ _ rfl (by decide : 0 + 12 ≤ 32) (.inr (by decide : 0 + 12 ≤ 16))

theorem Dyn.wbMeasured_flag (i : Nat) : (d.wbMeasured n cur).flag ⟨Reg.DIO_STATUS n, i, 1⟩ = d.flag ⟨Reg.DIO_STATUS n, i, 1⟩ := by
  have hput : (d.put (F.DIO_WB_RESULT n) (wbClass cur)).flag ⟨Reg.DIO_STATUS n, i, 1⟩ = d.flag ⟨Reg.DIO_STATUS n, i, 1⟩ :=
    d.flag_put_ne _ (dioWb_ne_dioStatus n).symm
  rw [← hput]
  exact Dyn.flag_put_ne _ _ (dioWb_ne_dioStatus n).symm

theorem Dyn.wbJudged_indet : (d.wbJudged n cur).flag (F.DIO_STATUS_WB_INDET n) = (wbClass cur == 4) := by
  unfold Dyn.wbJudged
  generalize d.wbMeasured n cur = e
  split
  · exact e.flag_setBit_same
  · exact (Dyn.flag_setBit_ne _ (i := 4) (j := 11)).trans e.flag_setBit_same

theorem Dyn.wbJudged_wireBreak : (d.wbJudged n cur).flag (F.DIO_STATUS_WIRE_BREAK n) =
    if wbClass cur = 4 then d.flag (F.DIO_STATUS_WIRE_BREAK n) else wbClass cur == 3 := by
  have hbefore : (d.wbMeasured n cur).flag (F.DIO_STATUS_WIRE_BREAK n) = d.flag (F.DIO_STATUS_WIRE_BREAK n) :=
    d.wbMeasured_flag n cur 4
  rw [← hbefore]
  unfold Dyn.wbJudged
  generalize d.wbMeasured n cur = e
  split
  · exact e.flag_setBit_ne (i := 11) (j := 4)
  · exact Dyn.flag_setBit_same _

theorem Dyn.wbJudged_rd {a : Nat} (h : a ≠ Reg.DIO_STATUS n) : (d.wbJudged n cur).rd a = (d.wbMeasured n cur).rd a := by
  unfold Dyn.wbJudged
  generalize d.wbMeasured n cur = e
  split
  · exact e.rd_put_ne _ h
  · exact (Dyn.rd_put_ne _ _ h).trans (e.rd_put_ne _ h)

theorem Dyn.wbJudged_dio : (d.wbJudged n cur).dio = d.dio := by
  unfold Dyn.wbJudged
  split
  · rfl
  · rfl

end

section
variable {c : Cfg} {d : Dyn} {n : Nat} (cur : Nat) (level : Bool)

theorem Dyn.wbEnded_level : ((d.wbEnded n cur level).dig n).level = (d.dig n).level := by
  have hdio : (d.wbJudged n cur).dig n = d.dig n := by rw [Dyn.dig, Dyn.wbJudged_dio, Dyn.dig]
  rw [← hdio]
  refine (congrArg Dio.level (Dyn.dig_setFlag ..)).trans ?_
  rw [Dyn.dig_setDig_same]

/-- What a test over a standing link shows, once the bits that follow are brought up (R300). -/
theorem Dyn.wbEnded_shows {e : Dyn} (he : e = (d.wbEnded n cur level).fixDio c n) :
    e.get (F.DIO_WB_RESULT n) = wbClass cur ∧ e.flag (F.DIO_STATUS_WB_ACTIVE n) = false ∧
      e.flag (F.DIO_STATUS_WB_INDET n) = (wbClass cur == 4) ∧
      e.flag (F.DIO_STATUS_WIRE_BREAK n) =
        if wbClass cur = 4 then d.flag (F.DIO_STATUS_WIRE_BREAK n) else wbClass cur == 3 := by
  have hfix : (d.wbEnded n cur level).StatusBut n [0, 1, 30, 31] e := he ▸ Dyn.statusBut_fixDio ..
  have hend {i : Nat} (hi : i + 1 ≤ 10 ∨ 10 + 1 ≤ i) :
      (d.wbEnded n cur level).flag ⟨Reg.DIO_STATUS n, i, 1⟩ = (d.wbJudged n cur).flag ⟨Reg.DIO_STATUS n, i, 1⟩ :=
    Dyn.flag_setBit_ne _ hi
  have hwb : e.rd (Reg.DIO_WB n) = (d.wbMeasured n cur).rd (Reg.DIO_WB n) := by
    have hne := dioWb_ne_dioStatus n
    exact (hfix.rd _ hne).trans ((Dyn.rd_put_ne _ _ hne).trans (d.wbJudged_rd n cur hne))
  exact ⟨(Dyn.get_congr hwb).trans (d.wbMeasured_result n cur), hfix.flag.trans (Dyn.flag_setBit_same _),
    hfix.flag.trans ((hend (.inr (by decide))).trans (d.wbJudged_indet n cur)),
    hfix.flag.trans ((hend (.inl (by decide))).trans (d.wbJudged_wireBreak n cur))⟩

end

section
variable {s : State} {n : BitVec 7} {due : Nat} (hlive : Live s) (hn : n.toNat < 96)
  (hdue : due = (s.dyn.dig n.toNat).wbAt + 2 * 10 ^ 6)
  (hactive : s.dyn.flag (F.DIO_STATUS_WB_ACTIVE n.toNat) = true) (hnear : s.dyn.near s.cfg due) (cur : BitVec 12)
include hlive hn hdue hactive hnear

/-- Over a failed link nothing crosses: the test only ends (R308). -/
theorem exec_wireBreakTestEnd_cut (hlink : s.dyn.flag (F.DIO_STATUS_LINK_FAIL n.toNat) = true) (level : Bool) :
    exec (.wireBreakTestEnd n cur level) s = .next (s.withDyn
      (((s.dyn.dueAt due).setFlag (F.DIO_STATUS_WB_ACTIVE n.toNat) false).fixDio s.cfg n.toNat)) := by
  have hstill : (s.dyn.dueAt due).flag (F.DIO_STATUS_LINK_FAIL n.toNat) = true := (s.dyn.flag_dueAt due hn).trans hlink
  show execWireBreakTestEnd n cur level s = _
  rw [execWireBreakTestEnd, State.upd_withDyn hlive]
  simp only [hn, hactive, decide_true, Bool.and_self, if_true, ← hdue, Dyn.whenDue_near hnear, hstill]

/-- A broken wire is recorded. -/
theorem exec_wireBreakTestEnd (hlink : s.dyn.flag (F.DIO_STATUS_LINK_FAIL n.toNat) = false) :
    let e := ((s.dyn.dueAt due).wbEnded n.toNat cur.toNat (s.dyn.dig n.toNat).level).fixDio s.cfg n.toNat
    exec (.wireBreakTestEnd n cur (s.dyn.dig n.toNat).level) s =
      .next (s.withDyn (if wbClass cur.toNat = 3 then e.alarm s.cfg 0x0502 n.toNat 0 0 else e)) := by
  have hstill : (s.dyn.dueAt due).flag (F.DIO_STATUS_LINK_FAIL n.toNat) = false := (s.dyn.flag_dueAt due hn).trans hlink
  let w := (s.dyn.dueAt due).wbEnded n.toNat cur.toNat (s.dyn.dig n.toNat).level
  have hlevel : (w.dig n.toNat).level = (s.dyn.dig n.toNat).level :=
    (Dyn.wbEnded_level ..).trans (congrArg Dio.level (s.dyn.dueAt_dig due _))
  have hkept : (if (w.dig n.toNat).level != (s.dyn.dig n.toNat).level then
      w.confirm s.cfg n.toNat (s.dyn.dig n.toNat).level w.ft else w) = w := if_neg (by simp [hlevel])
  intro e
  show execWireBreakTestEnd n cur _ s = _
  rw [execWireBreakTestEnd, State.upd_withDyn hlive]
  simp only [hn, hactive, decide_true, Bool.and_self, if_true, ← hdue, Dyn.whenDue_near hnear, hstill, Bool.false_eq_true,
    if_false]
  exact congrArg (fun x : Dyn => Host.Outcome.next (s.withDyn (if wbClass cur.toNat = 3 then
    (x.fixDio s.cfg n.toNat).alarm s.cfg 0x0502 n.toNat 0 0 else x.fixDio s.cfg n.toNat))) hkept

end

section
variable {s : State} {n : BitVec 7} {due : Nat} (hlive : Live s) (hn : n.toNat < 96)
  (hdue : due = (s.dyn.dig n.toNat).wbAt + 2 * 10 ^ 6)
  (hactive : s.dyn.flag (F.DIO_STATUS_WB_ACTIVE n.toNat) = true) (hnear : s.dyn.near s.cfg due) (cur : BitVec 12)
include hlive hn hdue hactive hnear

theorem exec_wireBreakTestEnd_cut_shows (hlink : s.dyn.flag (F.DIO_STATUS_LINK_FAIL n.toNat) = true) (level : Bool) :
    ∃ u, exec (.wireBreakTestEnd n cur level) s = .next u ∧ u.dyn.flag (F.DIO_STATUS_WB_ACTIVE n.toNat) = false ∧
      u.dyn.rd (Reg.DIO_WB n.toNat) = s.dyn.rd (Reg.DIO_WB n.toNat) ∧ u.dyn.dig n.toNat = s.dyn.dig n.toNat := by
  let e := s.dyn.dueAt due
  have hfix := (e.setFlag (F.DIO_STATUS_WB_ACTIVE n.toNat) false).statusBut_fixDio s.cfg n.toNat
  have hne := dioWb_ne_dioStatus n.toNat
  refine ⟨_, exec_wireBreakTestEnd_cut hlive hn hdue hactive hnear cur hlink level, hfix.flag.trans e.flag_setBit_same,
    (hfix.rd _ hne).trans ((e.rd_put_ne _ hne).trans (s.dyn.rd_dueAt due ?_)), ?_⟩
  · exact (dioWb_ofChannel hn).ne (by decide)
  · rw [State.withDyn_dyn, Dyn.dig, Dyn.fixDio_dio, Dyn.setFlag_dio, Dyn.dueAt_dio, Dyn.dig]

theorem exec_wireBreakTestEnd_shows (hlink : s.dyn.flag (F.DIO_STATUS_LINK_FAIL n.toNat) = false) :
    ∃ u, exec (.wireBreakTestEnd n cur (s.dyn.dig n.toNat).level) s = .next u ∧
      u.dyn.get (F.DIO_WB_RESULT n.toNat) = wbClass cur.toNat ∧ u.dyn.flag (F.DIO_STATUS_WB_ACTIVE n.toNat) = false ∧
      u.dyn.flag (F.DIO_STATUS_WB_INDET n.toNat) = (wbClass cur.toNat == 4) ∧
      u.dyn.flag (F.DIO_STATUS_WIRE_BREAK n.toNat) =
        if wbClass cur.toNat = 4 then s.dyn.flag (F.DIO_STATUS_WIRE_BREAK n.toNat) else wbClass cur.toNat == 3 := by
  obtain ⟨e, he⟩ : ∃ e, e = ((s.dyn.dueAt due).wbEnded n.toNat cur.toNat (s.dyn.dig n.toNat).level).fixDio s.cfg n.toNat :=
    ⟨_, rfl⟩
  have hexec := exec_wireBreakTestEnd hlive hn hdue hactive hnear cur hlink
  obtain ⟨hresult, hended, hindet, hbreak⟩ := Dyn.wbEnded_shows cur.toNat _ he
  have hbefore : (s.dyn.dueAt due).flag (F.DIO_STATUS_WIRE_BREAK n.toNat) = s.dyn.flag (F.DIO_STATUS_WIRE_BREAK n.toNat) :=
    s.dyn.flag_dueAt due hn
  rw [hbefore] at hbreak
  rw [← he] at hexec
  have hrd {a : Nat} (ha : OfChannel a) :
      (if wbClass cur.toNat = 3 then e.alarm s.cfg 0x0502 n.toNat 0 0 else e).rd a = e.rd a := by
    split
    · exact e.rd_alarm s.cfg ha ..
    · rfl
  have hstatus {i : Nat} : (if wbClass cur.toNat = 3 then e.alarm s.cfg 0x0502 n.toNat 0 0 else e).flag
      ⟨Reg.DIO_STATUS n.toNat, i, 1⟩ = e.flag ⟨Reg.DIO_STATUS n.toNat, i, 1⟩ := Dyn.flag_congr (hrd (dioStatus_ofChannel hn))
  exact ⟨_, hexec, (Dyn.get_congr (hrd (dioWb_ofChannel hn))).trans hresult, hstatus.trans hended, hstatus.trans hindet,
    hstatus.trans hbreak⟩

end

/-- Settles O37: each event is the `exec_` lemma of its name. FILTER_CONFIRM takes the filter time less 10 ns
(R286), RAW_EDGE first confirms what has held for it (log entry 37), and STUCK falls due one cycle beyond its limit
(log entry 38). -/
theorem digitalInputs : Obligations.DigitalInputs := by
  intro s n at_ hlive hn k d
  refine ⟨fun level hraw => ?edge, exec_filterConfirm hlive, ?chatter, ?stuck, fun cur hactive _ hnear => ?wireBreak⟩
  case edge =>
    intro t hheld
    exact exec_rawEdge hlive hn hraw rfl hheld
  case chatter =>
    intro due hset hnear hsame hfew
    exact exec_chatterCoolDownEnd hlive hn rfl hset hnear hsame hfew
  case stuck =>
    intro lim due hin hlim hactive hnear hnew
    exact exec_stuck hlive hn rfl hin hlim hactive hnear hnew
  case wireBreak =>
    exact ⟨fun hlink => exec_wireBreakTestEnd_cut_shows hlive hn rfl hactive hnear cur hlink _,
      fun hlink => exec_wireBreakTestEnd_shows hlive hn rfl hactive hnear cur hlink⟩

end Sys2Proof.Machine
end
section
/-! SUPPORT. The field supply of a group: undervoltage, lockout and recovery (R304, R309–R311). -/

namespace Sys2Proof.Machine

/-- Changes for the members of a list, each of which keeps `inv`, brings about `did` of its member and takes it from no other:
at the end `did` holds of every member. -/
theorem foldl_each {β : Type} {f : Dyn → β → Dyn} {inv : Dyn → Prop} {did : β → Dyn → Prop} {l : List β} {d : Dyn}
    (hinv : ∀ d, ∀ x ∈ l, inv d → inv (f d x)) (hdid : ∀ d, ∀ x ∈ l, inv d → did x (f d x))
    (hkeep : ∀ d, ∀ x ∈ l, ∀ y ∈ l, y ≠ x → did y d → did y (f d x)) (h : inv d) :
    inv (l.foldl f d) ∧ ∀ x ∈ l, did x (l.foldl f d) := by
  induction l generalizing d with
  | nil => exact ⟨h, fun _ hx => nomatch hx⟩
  | cons x l ih =>
    have hstep := hinv d x List.mem_cons_self h
    obtain ⟨hend, hall⟩ := ih (fun d y hy => hinv d y (List.mem_cons_of_mem _ hy))
      (fun d y hy => hdid d y (List.mem_cons_of_mem _ hy))
      (fun d y hy z hz => hkeep d y (List.mem_cons_of_mem _ hy) z (List.mem_cons_of_mem _ hz)) hstep
    refine ⟨hend, List.forall_mem_cons.2 ⟨?_, hall⟩⟩
    by_cases hx : x ∈ l
    · exact hall x hx
    · exact List.foldlRecOn l f (motive := did x) (hdid d x List.mem_cons_self h) fun e he y hy =>
        hkeep e y (List.mem_cons_of_mem _ hy) x List.mem_cons_self (ne_of_mem_of_not_mem hy hx).symm he

theorem mem_members {g n : Nat} : n ∈ members g ↔ ∃ i < 16, 16 * g + i = n := by simp [members]

theorem lt_of_mem_members {g n : Nat} (hg : g < 6) (hn : n ∈ members g) : n < 96 := by
  obtain ⟨i, hi, rfl⟩ := mem_members.1 hn
  omega

theorem dioGstatus_ne_dioStatus (g n : Nat) : Reg.DIO_GSTATUS g ≠ Reg.DIO_STATUS n := by
  simp only [Reg.DIO_GSTATUS, Reg.DIO_STATUS]
  omega

theorem dioGstatus_ne_dioGevcnt (g : Nat) : Reg.DIO_GSTATUS g ≠ Reg.DIO_GEVCNT g := by
  simp only [Reg.DIO_GSTATUS, Reg.DIO_GEVCNT]
  omega

theorem dioGstatus_ofChannel {g : Nat} (h : g < 6) : OfChannel (Reg.DIO_GSTATUS g) := by
  rw [OfChannel, Reg.DIO_GSTATUS]
  omega

/-! ## A channel follows its group's supply -/

section
variable (c : Cfg) (d : Dyn) (n : Nat)

/-- The status word of a channel, and an output's conditions, follow a change. -/
def Dyn.settleDio : Dyn := if c.isOut n then d.dropConds c n else d.fixDio c n

theorem Dyn.statusBut_settleDio : d.StatusBut n dropBits (d.settleDio c n) :=
  Dyn.StatusBut.ite (d.statusBut_dropConds c n) Dyn.StatusBut.refl.fixDio

/-- A channel is locked out. -/
def Dyn.lockOut : Dyn := (d.setFlag (F.DIO_STATUS_LOCKOUT n) true).settleDio c n

theorem Dyn.lockOut_locks : (d.lockOut c n).flag (F.DIO_STATUS_LOCKOUT n) = true :=
  (Dyn.statusBut_settleDio c _ n).flag.trans d.flag_setBit_same

theorem Dyn.rd_lockOut {a : Nat} (h : a ≠ Reg.DIO_STATUS n) : (d.lockOut c n).rd a = d.rd a :=
  ((Dyn.statusBut_settleDio c _ n).rd a h).trans (d.rd_put_ne _ h)

theorem Dyn.foldl_lockOut (g : Nat) (l : List Nat) :
    (l.foldl (fun d n => d.lockOut c n) d).rd (Reg.DIO_GSTATUS g) = d.rd (Reg.DIO_GSTATUS g) ∧
      ∀ n ∈ l, (l.foldl (fun d n => d.lockOut c n) d).flag (F.DIO_STATUS_LOCKOUT n) = true :=
  foldl_each (inv := fun x : Dyn => x.rd (Reg.DIO_GSTATUS g) = d.rd (Reg.DIO_GSTATUS g))
    (did := fun n x => x.flag (F.DIO_STATUS_LOCKOUT n) = true)
    (fun x n _ hx => (x.rd_lockOut c n (dioGstatus_ne_dioStatus g n)).trans hx) (fun x n _ _ => x.lockOut_locks c n)
    (fun x n _ _ _ hm hx => (Dyn.flag_congr (x.rd_lockOut c n (dioStatus_inj hm))).trans hx) rfl

/-- A locked channel's driver is off (R310). -/
theorem Dyn.driver_lockedOut {d : Dyn} {n : Nat} (h : d.flag (F.DIO_STATUS_LOCKOUT n) = true) : d.driver c n = false :=
  if_pos (by simp [h])

theorem Dyn.rd_release {a : Nat} (h : a ≠ Reg.DIO_STATUS n) : (d.release c n).rd a = d.rd a := by
  have hfree : (d.setFlag (F.DIO_STATUS_LOCKOUT n) false).rd a = d.rd a := d.rd_put_ne _ h
  unfold Dyn.release
  extract_lets d₁ d₂
  refine ((d₂.statusBut_settleDio c n).rd a h).trans ?_
  simp only [d₂]
  split
  · exact (Dyn.rd_put_ne _ _ h).trans hfree
  · exact hfree

theorem Dyn.release_frees : (d.release c n).flag (F.DIO_STATUS_LOCKOUT n) = false := by
  have hfree : (d.setFlag (F.DIO_STATUS_LOCKOUT n) false).flag (F.DIO_STATUS_LOCKOUT n) = false := d.flag_setBit_same
  unfold Dyn.release
  extract_lets d₁ d₂
  refine (d₂.statusBut_settleDio c n).flag.trans ?_
  simp only [d₂]
  split
  · exact (Dyn.flag_setBit_ne _ (i := 26) (j := 2)).trans hfree
  · exact hfree

theorem Dyn.statusBut_startWb :
    (d.setDig n fun x => { x with wbAt := d.now }).StatusBut n [0, 1, 10, 30, 31] (d.startWb c n) :=
  (Dyn.StatusBut.refl.setFlag (i := 10) true).fixDio

theorem Dyn.rd_startWb {a : Nat} (h : a ≠ Reg.DIO_STATUS n) : (d.startWb c n).rd a = d.rd a := (d.statusBut_startWb c n).rd a h

theorem Dyn.startWb_lockout (m : Nat) :
    (d.startWb c n).flag (F.DIO_STATUS_LOCKOUT m) = d.flag (F.DIO_STATUS_LOCKOUT m) := (d.statusBut_startWb c n).flag

end

/-! ## Release of four channels (R310, R311) -/

/-- The channels of a group that are locked out. -/
def Dyn.lockedIn (d : Dyn) (g : Nat) : List Nat := (members g).filter fun n => d.flag (F.DIO_STATUS_LOCKOUT n)

theorem Dyn.lockedIn_congr {d d' : Dyn} {g : Nat}
    (h : ∀ n ∈ members g, d'.flag (F.DIO_STATUS_LOCKOUT n) = d.flag (F.DIO_STATUS_LOCKOUT n)) : d'.lockedIn g = d.lockedIn g :=
  List.filter_congr h

section
variable (c : Cfg) (d : Dyn) (g : Nat)

/-- The next four channels released, and the instant noted. -/
def Dyn.fourReleased : Dyn :=
  let e := ((d.lockedIn g).take 4).foldl (fun d n => d.release c n) d
  { e with released := sput 0 e.released g e.now }

theorem Dyn.releaseNext_eq : d.releaseNext c g = if (d.lockedIn g).length ≤ 4 then
    (d.fourReleased c g).setFlag (F.DIO_GSTATUS_RECOVERING g) false else d.fourReleased c g := rfl

theorem Dyn.fourReleased_shows : (d.fourReleased c g).rd (Reg.DIO_GSTATUS g) = d.rd (Reg.DIO_GSTATUS g) ∧
    ∀ n ∈ (d.lockedIn g).take 4, (d.fourReleased c g).flag (F.DIO_STATUS_LOCKOUT n) = false := by
  unfold Dyn.fourReleased
  extract_lets e
  obtain ⟨hgroup, hfree⟩ := foldl_each (inv := fun x : Dyn => x.rd (Reg.DIO_GSTATUS g) = d.rd (Reg.DIO_GSTATUS g))
    (did := fun n x => x.flag (F.DIO_STATUS_LOCKOUT n) = false) (f := fun d n => d.release c n)
    (l := (d.lockedIn g).take 4) (fun x n _ hx => (x.rd_release c n (dioGstatus_ne_dioStatus g n)).trans hx)
    (fun x n _ _ => x.release_frees c n)
    (fun x n _ m _ hm hx => (Dyn.flag_congr (x.rd_release c n (dioStatus_inj hm))).trans hx) rfl
  have hrd (a : Nat) : ({ e with released := sput 0 e.released g e.now } : Dyn).rd a = e.rd a := Dyn.rd_congr rfl a
  exact ⟨(hrd _).trans hgroup, fun n hn => (Dyn.flag_congr (hrd _)).trans (hfree n hn)⟩

/-- The group's other bits stand; RECOVERING ends with the last channel. -/
theorem Dyn.releaseNext_shows :
    (d.releaseNext c g).flag (F.DIO_GSTATUS_LOCKOUT g) = d.flag (F.DIO_GSTATUS_LOCKOUT g) ∧
    (d.releaseNext c g).flag (F.DIO_GSTATUS_RECOVERING g) =
      (d.flag (F.DIO_GSTATUS_RECOVERING g) && !decide ((d.lockedIn g).length ≤ 4)) ∧
    ∀ n ∈ (d.lockedIn g).take 4, (d.releaseNext c g).flag (F.DIO_STATUS_LOCKOUT n) = false := by
  obtain ⟨hgroup, hfree⟩ := d.fourReleased_shows c g
  have hflag (i : Nat) : (d.fourReleased c g).flag ⟨Reg.DIO_GSTATUS g, i, 1⟩ = d.flag ⟨Reg.DIO_GSTATUS g, i, 1⟩ :=
    Dyn.flag_congr hgroup
  rw [Dyn.releaseNext_eq]
  by_cases hlast : (d.lockedIn g).length ≤ 4
  · rw [if_pos hlast, decide_eq_true hlast]
    refine ⟨(Dyn.flag_setBit_ne _ (i := 2) (j := 1)).trans (hflag 1), (Dyn.flag_setBit_same _).trans (Bool.and_false _).symm,
      fun n hn => (Dyn.flag_setFlag_ne _ _ (dioGstatus_ne_dioStatus g n).symm).trans (hfree n hn)⟩
  · rw [if_neg hlast, decide_eq_false hlast]
    exact ⟨hflag 1, (hflag 2).trans (Bool.and_true _).symm, hfree⟩

end

/-! ## The commands -/

section
variable {s : State} {g : BitVec 3} (hlive : Live s) (hg : g.toNat < 6)
include hlive hg

theorem exec_uvWarn (hused : s.cfg.groupUsed g.toNat = true) (hnew : s.dyn.flag (F.DIO_GSTATUS_UV_WARN g.toNat) = false) :
    exec (.uvWarn g) s = .next (s.withDyn ((members g.toNat).foldl (fun d n => d.settleDio s.cfg n)
      ((s.dyn.setFlag (F.DIO_GSTATUS_UV_WARN g.toNat) true).bump (F.DIO_GEVCNT_UV_WARN g.toNat)))) := by
  show execUvWarn g s = _
  rw [execUvWarn, State.upd_withDyn hlive]
  simp only [hg, hused, hnew, decide_true, Bool.not_false, Bool.and_self, if_true]
  rfl

theorem exec_uvWarnClear (hset : s.dyn.flag (F.DIO_GSTATUS_UV_WARN g.toNat) = true) :
    exec (.uvWarnClear g) s = .next (s.withDyn ((members g.toNat).foldl (fun d n => d.fixDio s.cfg n)
      (s.dyn.setFlag (F.DIO_GSTATUS_UV_WARN g.toNat) false))) := by
  show execUvWarnClear g s = _
  rw [execUvWarnClear, State.upd_withDyn hlive]
  simp only [hg, hset, decide_true, Bool.and_self, if_true]

theorem exec_lockout (hused : s.cfg.groupUsed g.toNat = true) (hnew : s.dyn.flag (F.DIO_GSTATUS_LOCKOUT g.toNat) = false) :
    exec (.lockout g) s = .next (s.withDyn (((members g.toNat).foldl (fun d n => d.lockOut s.cfg n)
      (((s.dyn.setFlag (F.DIO_GSTATUS_LOCKOUT g.toNat) true).setFlag (F.DIO_GSTATUS_RECOVERING g.toNat) false).bump
        (F.DIO_GEVCNT_LOCKOUT g.toNat))).alarm s.cfg 0x0504 g.toNat 0 0)) := by
  show execLockout g s = _
  rw [execLockout, State.upd_withDyn hlive]
  simp only [hg, hused, hnew, decide_true, Bool.not_false, Bool.and_self, if_true]
  rfl

theorem exec_recoveryStart (hset : s.dyn.flag (F.DIO_GSTATUS_LOCKOUT g.toNat) = true) :
    exec (.recoveryStart g) s = .next (s.withDyn (((members g.toNat).foldl
      (fun d n => if !s.cfg.isOut n && s.cfg.flag (F.DIO_CFG_WB_EN n) then d.startWb s.cfg n else d)
      ((s.dyn.setFlag (F.DIO_GSTATUS_LOCKOUT g.toNat) false).setFlag (F.DIO_GSTATUS_RECOVERING g.toNat) true)).releaseNext
        s.cfg g.toNat)) := by
  show execRecoveryStart g s = _
  rw [execRecoveryStart, State.upd_withDyn hlive]
  simp only [hg, hset, decide_true, Bool.and_self, if_true]

theorem exec_channelRelease (hset : s.dyn.flag (F.DIO_GSTATUS_RECOVERING g.toNat) = true)
    (hnear : s.dyn.near s.cfg (sget 0 s.dyn.released g.toNat + 100000)) : exec (.channelRelease g) s = .next (s.withDyn
      ((s.dyn.dueAt (sget 0 s.dyn.released g.toNat + 100000)).releaseNext s.cfg g.toNat)) := by
  show execChannelRelease g s = _
  rw [execChannelRelease, State.upd_withDyn hlive]
  simp only [hg, hset, decide_true, Bool.and_self, if_true, Dyn.whenDue_near hnear]

theorem exec_uvWarn_shows (hused : s.cfg.groupUsed g.toNat = true)
    (hnew : s.dyn.flag (F.DIO_GSTATUS_UV_WARN g.toNat) = false) : ∃ u, exec (.uvWarn g) s = .next u ∧
      u.dyn.flag (F.DIO_GSTATUS_UV_WARN g.toNat) = true ∧ u.cfg = s.cfg := by
  refine ⟨_, exec_uvWarn hlive hg hused hnew, ?_, rfl⟩
  refine (foldl_view (fun d : Dyn => d.flag (F.DIO_GSTATUS_UV_WARN g.toNat)) (fun d n => ?_) ..).trans ?_
  · exact (d.statusBut_settleDio s.cfg n).flag_ne (dioGstatus_ne_dioStatus _ n)
  · exact (Dyn.flag_put_ne _ _ (dioGstatus_ne_dioGevcnt _)).trans s.dyn.flag_setBit_same

theorem exec_uvWarnClear_shows (hset : s.dyn.flag (F.DIO_GSTATUS_UV_WARN g.toNat) = true) :
    ∃ u, exec (.uvWarnClear g) s = .next u ∧ u.dyn.flag (F.DIO_GSTATUS_UV_WARN g.toNat) = false ∧ u.cfg = s.cfg := by
  refine ⟨_, exec_uvWarnClear hlive hg hset, ?_, rfl⟩
  refine (foldl_view (fun d : Dyn => d.flag (F.DIO_GSTATUS_UV_WARN g.toNat)) (fun d n => ?_) ..).trans s.dyn.flag_setBit_same
  exact (d.statusBut_fixDio s.cfg n).flag_ne (dioGstatus_ne_dioStatus _ n)

theorem exec_lockout_shows (hused : s.cfg.groupUsed g.toNat = true)
    (hnew : s.dyn.flag (F.DIO_GSTATUS_LOCKOUT g.toNat) = false) : ∃ u, exec (.lockout g) s = .next u ∧
      u.dyn.flag (F.DIO_GSTATUS_LOCKOUT g.toNat) = true ∧
      ∀ i < 16, u.dyn.flag (F.DIO_STATUS_LOCKOUT (16 * g.toNat + i)) = true ∧
        u.dyn.driver u.cfg (16 * g.toNat + i) = false := by
  let e := ((s.dyn.setFlag (F.DIO_GSTATUS_LOCKOUT g.toNat) true).setFlag (F.DIO_GSTATUS_RECOVERING g.toNat) false).bump
    (F.DIO_GEVCNT_LOCKOUT g.toNat)
  have hset : e.flag (F.DIO_GSTATUS_LOCKOUT g.toNat) = true :=
    (Dyn.flag_put_ne _ _ (dioGstatus_ne_dioGevcnt _)).trans
      ((Dyn.flag_setBit_ne _ (i := 2) (j := 1)).trans s.dyn.flag_setBit_same)
  obtain ⟨hgroup, hlocked⟩ := e.foldl_lockOut s.cfg g.toNat (members g.toNat)
  have hrd {a : Nat} (ha : OfChannel a) := Dyn.rd_alarm s.cfg ((members g.toNat).foldl (fun d n => d.lockOut s.cfg n) e) ha
    0x0504 g.toNat 0 0
  refine ⟨_, exec_lockout hlive hg hused hnew,
    (Dyn.flag_congr ((hrd (dioGstatus_ofChannel hg)).trans hgroup)).trans hset, fun i hi => ?_⟩
  have hn : 16 * g.toNat + i ∈ members g.toNat := mem_members.2 ⟨i, hi, rfl⟩
  have hshown := (Dyn.flag_congr (f := F.DIO_STATUS_LOCKOUT _) (hrd (dioStatus_ofChannel (lt_of_mem_members hg hn)))).trans
    (hlocked _ hn)
  exact ⟨hshown, Dyn.driver_lockedOut _ hshown⟩

theorem exec_recoveryStart_shows (hset : s.dyn.flag (F.DIO_GSTATUS_LOCKOUT g.toNat) = true) :
    ∃ u, exec (.recoveryStart g) s = .next u ∧ u.dyn.flag (F.DIO_GSTATUS_LOCKOUT g.toNat) = false ∧
      ∀ n ∈ (s.dyn.lockedIn g.toNat).take 4, u.dyn.flag (F.DIO_STATUS_LOCKOUT n) = false := by
  let e := (s.dyn.setFlag (F.DIO_GSTATUS_LOCKOUT g.toNat) false).setFlag (F.DIO_GSTATUS_RECOVERING g.toNat) true
  let f := fun (d : Dyn) (n : Nat) => if !s.cfg.isOut n && s.cfg.flag (F.DIO_CFG_WB_EN n) then d.startWb s.cfg n else d
  have hf (d : Dyn) (n : Nat) : (f d n).rd (Reg.DIO_GSTATUS g.toNat) = d.rd (Reg.DIO_GSTATUS g.toNat) ∧
      ∀ m, (f d n).flag (F.DIO_STATUS_LOCKOUT m) = d.flag (F.DIO_STATUS_LOCKOUT m) := by
    simp only [f]
    split
    · exact ⟨d.rd_startWb s.cfg n (dioGstatus_ne_dioStatus _ n), d.startWb_lockout s.cfg n⟩
    · exact ⟨rfl, fun _ => rfl⟩
  have hended : ((members g.toNat).foldl f e).flag (F.DIO_GSTATUS_LOCKOUT g.toNat) = false :=
    (Dyn.flag_congr (foldl_view (fun d : Dyn => d.rd (Reg.DIO_GSTATUS g.toNat)) (fun d n => (hf d n).1) ..)).trans
      ((Dyn.flag_setBit_ne _ (i := 2) (j := 1)).trans s.dyn.flag_setBit_same)
  have hlocked : ((members g.toNat).foldl f e).lockedIn g.toNat = s.dyn.lockedIn g.toNat :=
    Dyn.lockedIn_congr fun m _ => (foldl_view (fun d : Dyn => d.flag (F.DIO_STATUS_LOCKOUT m)) (fun d n => (hf d n).2 m) ..).trans
      ((Dyn.flag_setFlag_ne _ _ (dioGstatus_ne_dioStatus _ m).symm).trans
        (s.dyn.flag_setFlag_ne _ (dioGstatus_ne_dioStatus _ m).symm))
  obtain ⟨hgroup, -, hfree⟩ := ((members g.toNat).foldl f e).releaseNext_shows s.cfg g.toNat
  rw [hlocked] at hfree
  exact ⟨_, exec_recoveryStart hlive hg hset, hgroup.trans hended, hfree⟩

theorem exec_channelRelease_shows (hset : s.dyn.flag (F.DIO_GSTATUS_RECOVERING g.toNat) = true)
    (hnear : s.dyn.near s.cfg (sget 0 s.dyn.released g.toNat + 100000)) : ∃ u, exec (.channelRelease g) s = .next u ∧
      u.dyn.flag (F.DIO_GSTATUS_RECOVERING g.toNat) = !decide ((s.dyn.lockedIn g.toNat).length ≤ 4) ∧
      ∀ n ∈ (s.dyn.lockedIn g.toNat).take 4, u.dyn.flag (F.DIO_STATUS_LOCKOUT n) = false := by
  obtain ⟨e, he⟩ : ∃ e, e = s.dyn.dueAt (sget 0 s.dyn.released g.toNat + 100000) := ⟨_, rfl⟩
  have hlocked : e.lockedIn g.toNat = s.dyn.lockedIn g.toNat := Dyn.lockedIn_congr fun m hm => by
    rw [he]
    exact s.dyn.flag_dueAt _ (lt_of_mem_members hg hm)
  have hstill : e.flag (F.DIO_GSTATUS_RECOVERING g.toNat) = true := by
    rw [he]
    exact (Dyn.flag_congr (s.dyn.rd_dueAt _ ((dioGstatus_ofChannel hg).ne (by decide)))).trans hset
  obtain ⟨-, hrecovering, hfree⟩ := e.releaseNext_shows s.cfg g.toNat
  rw [hlocked] at hrecovering hfree
  rw [hstill, Bool.true_and] at hrecovering
  have hexec := exec_channelRelease hlive hg hset hnear
  rw [← he] at hexec
  exact ⟨_, hexec, hrecovering, hfree⟩

end

/-- Settles O38, command by command. -/
theorem fieldSupplyLockout : Obligations.FieldSupplyLockout := by
  intro s g hlive hg hused k
  exact ⟨exec_uvWarn_shows hlive hg hused, exec_uvWarnClear_shows hlive hg, exec_lockout_shows hlive hg hused,
    exec_recoveryStart_shows hlive hg, exec_channelRelease_shows hlive hg⟩

end Sys2Proof.Machine
end
section
/-! SUPPORT. What an evaluation of the levee matrix leaves of the channels (R113, R117). -/

namespace Sys2Proof.Machine

/-- `d'` is `d` but for registers and state of the matrix, and for what the outputs follow it in. -/
structure Dyn.MatrixBut (c : Cfg) (d d' : Dyn) : Prop where
  aio : d'.aio = d.aio
  rd : ∀ a, OfChannel a → (∀ n < 96, c.isOut n = true → a ≠ Reg.DIO_STATUS n) → d'.rd a = d.rd a
  dig : ∀ m, ∃ x y, d'.dig m = { d.dig m with rearmed := x, retryAt := y }

namespace Dyn.MatrixBut
variable {c : Cfg} {d d' : Dyn}

theorem refl : d.MatrixBut c d := ⟨rfl, fun _ _ _ => rfl, fun _ => ⟨_, _, rfl⟩⟩

theorem trans {d'' : Dyn} (h : d.MatrixBut c d') (h' : d'.MatrixBut c d'') : d.MatrixBut c d'' := by
  refine ⟨h'.aio.trans h.aio, fun a ha hs => (h'.rd a ha hs).trans (h.rd a ha hs), fun m => ?_⟩
  obtain ⟨x, y, hm⟩ := h.dig m
  obtain ⟨x', y', hm'⟩ := h'.dig m
  exact ⟨x', y', by rw [hm', hm]⟩

theorem ite {p : Prop} [Decidable p] {a b : Dyn} (ha : d.MatrixBut c a) (hb : d.MatrixBut c b) :
    d.MatrixBut c (if p then a else b) := by
  split
  · exact ha
  · exact hb

theorem foldl {β : Type} {f : Dyn → β → Dyn} {l : List β} (hf : ∀ d', ∀ x ∈ l, d.MatrixBut c d' → d.MatrixBut c (f d' x))
    (h : d.MatrixBut c d') : d.MatrixBut c (l.foldl f d') := List.foldlRecOn l f h fun e he x hx => hf e x hx he

theorem withLve (h : d.MatrixBut c d') (x : Levee) : d.MatrixBut c { d' with lve := x } := ⟨h.aio, h.rd, h.dig⟩

theorem wr (h : d.MatrixBut c d') {a : Nat} (v : Word) (ha : ¬ OfChannel a := by decide) : d.MatrixBut c (d'.wr a v) :=
  ⟨h.aio, fun b hb hs => (d'.rd_wr_ne v (hb.ne ha)).trans (h.rd b hb hs), h.dig⟩

theorem setFlag (h : d.MatrixBut c d') {f : Fld} (b : Bool) (hf : ¬ OfChannel f.addr := by decide) :
    d.MatrixBut c (d'.setFlag f b) := h.wr _ hf

theorem wrStatus (h : d.MatrixBut c d') {n : Nat} (v : Word) (hn : n < 96) (hout : c.isOut n = true) :
    d.MatrixBut c (d'.wr (Reg.DIO_STATUS n) v) :=
  ⟨h.aio, fun b hb hs => (d'.rd_wr_ne v (hs n hn hout)).trans (h.rd b hb hs), h.dig⟩

/-- The status word and the driver of an output follow. -/
theorem status (h : d.MatrixBut c d') {n : Nat} {bits : List Nat} {d'' : Dyn} (hs : d'.StatusBut n bits d'') (hn : n < 96)
    (hout : c.isOut n = true) : d.MatrixBut c d'' := by
  obtain ⟨r, x, hrest⟩ := hs.rest
  exact h.trans ⟨by rw [hrest], fun a _ ha => hs.rd a (ha n hn hout), hs.dig⟩

theorem setPairBit (h : d.MatrixBut c d') {r₀ r₁ : Nat} (t : Nat) (b : Bool) (h₀ : ¬ OfChannel r₀ := by decide)
    (h₁ : ¬ OfChannel r₁ := by decide) : d.MatrixBut c (d'.setPairBit r₀ r₁ t b) := by
  refine h.wr _ ?_
  split
  · exact h₀
  · exact h₁

theorem evalTerm (h : d.MatrixBut c d') (t : Nat) : d.MatrixBut c (d'.evalTerm c t) := by
  unfold Dyn.evalTerm
  extract_lets raw rst edge d₁ latching d₂ d₃ d₄
  have hraw : d.MatrixBut c d₂ := (h.withLve _).setPairBit t raw
  have hends {e : Dyn} (he : d.MatrixBut c e) :
      d.MatrixBut c ((e.setPairBit Reg.LVE_LATCHED0 Reg.LVE_LATCHED1 t false).setPairBit Reg.LVE_ACT0 Reg.LVE_ACT1 t false) :=
    (he.setPairBit t false).setPairBit t false
  split
  · have hactive : d.MatrixBut c d₃ := ite hraw ((hraw.withLve _).withLve _)
    exact (ite (hactive.setPairBit t true) hactive : d.MatrixBut c d₄).setPairBit t true
  · exact ite ((hends hraw).withLve _) (ite hraw (ite (ite (hends hraw) hraw) (hraw.setPairBit t false)))

theorem tripStatus (h : d.MatrixBut c d') : d.MatrixBut c (d'.tripStatus c) := by
  refine h.foldl fun x n hn hx => ?_
  have hlt : n < 96 := List.mem_range.1 hn
  split
  · next hdiffers =>
    have hout : c.isOut n = true := (Bool.and_eq_true_iff.1 hdiffers).1
    have hset (y : Dyn) (b : Bool) : y.StatusBut n [24] (y.setFlag (F.DIO_STATUS_TRIPPED n) b) :=
      Dyn.StatusBut.refl.setFlag (i := 24) b
    split
    · exact ((hx.withLve _).status (hset _ true) hlt hout).status (Dyn.statusBut_dropConds ..) hlt hout
    · have hcleared := hx.status (hset x false) hlt hout
      refine ite ?_ (hcleared.status (Dyn.statusBut_dropConds ..) hlt hout)
      exact ((hcleared.wrStatus _ hlt hout).status (Dyn.StatusBut.refl (bits := []).setDig fun _ => ⟨_, _, rfl⟩) hlt hout).status
        (Dyn.statusBut_fixDio ..) hlt hout
  · exact hx

theorem levee (h : d.MatrixBut c d') : d.MatrixBut c (d'.levee c) := by
  have hterms : d.MatrixBut c ((List.range 64).foldl (fun d t => d.evalTerm c t) d') := h.foldl fun _ t _ hx => hx.evalTerm t
  have hgates : d.MatrixBut c (((List.range 64).foldl (fun d t => d.evalTerm c t) d').driveGates c) :=
    (((hterms.wr _).wr _).wr _).wr _
  exact ite ((((hgates.tripStatus.setFlag _).setFlag _).setFlag _).wr _) h

end Dyn.MatrixBut

theorem Dyn.matrixBut_sourceTo (c : Cfg) (d : Dyn) (i : Nat) (b : Bool) : d.MatrixBut c (d.sourceTo c i b) :=
  (Dyn.MatrixBut.refl.withLve _).levee

end Sys2Proof.Machine
end
section
/-! SUPPORT. What the stage, the measurements and the comparators of an analogue channel leave of the rest (R322, R325, R328–R331,
R335). -/

namespace Sys2Proof.Machine

/-- A register of the analogue channels. -/
abbrev OfAnalogue (a : Nat) : Prop := 0x90000 ≤ a ∧ a < 0xa0000

/-- `d'` is `d` but for the status word, AIO_STAGE and AIO_VALUE of channel `m`, whose bits `bits` stand, for what its stage
drives, for what its comparators show, and for what the matrix makes of that. -/
structure Dyn.AnaBut (m : Nat) (bits : List Nat) (d d' : Dyn) : Prop where
  rd : ∀ a, OfAnalogue a → a ≠ Reg.AIO_STATUS m → a ≠ Reg.AIO_STAGE m → a ≠ Reg.AIO_VALUE m → d'.rd a = d.rd a
  kept : ∀ i ∈ bits, d'.flag ⟨Reg.AIO_STATUS m, i, 1⟩ = d.flag ⟨Reg.AIO_STATUS m, i, 1⟩
  other : ∀ j, j ≠ m → d'.ana j = d.ana j
  ana : ∃ x y z, d'.ana m = { d.ana m with drive := x, src0 := y, src1 := z }

/-- WD_SAFE, LOCKOUT, LINK_FAIL and OOS. -/
def heldBits : List Nat := [23, 28, 29, 30]

theorem aioStatus_ne_others (m : Nat) : Reg.AIO_STATUS m ≠ Reg.AIO_STAGE m ∧ Reg.AIO_STATUS m ≠ Reg.AIO_VALUE m := by
  simp only [Reg.AIO_STATUS, Reg.AIO_STAGE, Reg.AIO_VALUE]
  omega

theorem aioStatus_ofAnalogue {m : Nat} (h : m < 32) : OfAnalogue (Reg.AIO_STATUS m) := by
  rw [OfAnalogue, Reg.AIO_STATUS]
  omega

namespace Dyn.AnaBut
variable {c : Cfg} {d d' : Dyn} {m : Nat} {bits : List Nat}

theorem refl : d.AnaBut m bits d := ⟨fun _ _ _ _ _ => rfl, fun _ _ => rfl, fun _ _ => rfl, ⟨_, _, _, rfl⟩⟩

theorem trans {d'' : Dyn} (h : d.AnaBut m bits d') (h' : d'.AnaBut m bits d'') : d.AnaBut m bits d'' := by
  obtain ⟨x, y, z, hm⟩ := h.ana
  obtain ⟨x', y', z', hm'⟩ := h'.ana
  exact ⟨fun a ha h₁ h₂ h₃ => (h'.rd a ha h₁ h₂ h₃).trans (h.rd a ha h₁ h₂ h₃), fun i hi => (h'.kept i hi).trans (h.kept i hi),
    fun j hj => (h'.other j hj).trans (h.other j hj), ⟨x', y', z', by rw [hm', hm]⟩⟩

theorem mono {bits' : List Nat} (h : d.AnaBut m bits d') (hb : ∀ i ∈ bits', i ∈ bits := by decide) : d.AnaBut m bits' d' :=
  ⟨h.rd, fun i hi => h.kept i (hb i hi), h.other, h.ana⟩

theorem ite {p : Prop} [Decidable p] {a b : Dyn} (ha : d.AnaBut m bits a) (hb : d.AnaBut m bits b) :
    d.AnaBut m bits (if p then a else b) := by
  split
  · exact ha
  · exact hb

theorem put (h : d.AnaBut m bits d') {lo w : Nat} (v : Nat)
    (hw : lo + w ≤ 32 ∧ ∀ i ∈ bits, i + 1 ≤ lo ∨ lo + w ≤ i := by decide) :
    d.AnaBut m bits (d'.put ⟨Reg.AIO_STATUS m, lo, w⟩ v) := by
  have hflag (i : Nat) (hi : i ∈ bits) : (d'.put ⟨Reg.AIO_STATUS m, lo, w⟩ v).flag ⟨Reg.AIO_STATUS m, i, 1⟩ =
      d'.flag ⟨Reg.AIO_STATUS m, i, 1⟩ := d'.flag_put_disjoint v rfl hw.1 (hw.2 i hi)
  exact ⟨fun a ha h₁ h₂ h₃ => (d'.rd_put_ne v h₁).trans (h.rd a ha h₁ h₂ h₃),
    fun i hi => (hflag i hi).trans (h.kept i hi), h.other, h.ana⟩

theorem setFlag (h : d.AnaBut m bits d') {i : Nat} (b : Bool)
    (hi : i + 1 ≤ 32 ∧ ∀ j ∈ bits, j + 1 ≤ i ∨ i + 1 ≤ j := by decide) :
    d.AnaBut m bits (d'.setFlag ⟨Reg.AIO_STATUS m, i, 1⟩ b) := h.put _ hi

theorem wr (h : d.AnaBut m bits d') {a : Nat} (v : Word) (ha : a = Reg.AIO_STAGE m ∨ a = Reg.AIO_VALUE m) :
    d.AnaBut m bits (d'.wr a v) := by
  obtain ⟨hstage, hvalue⟩ := aioStatus_ne_others m
  have hs : Reg.AIO_STATUS m ≠ a := by
    obtain rfl | rfl := ha
    · exact hstage
    · exact hvalue
  refine ⟨fun b hb h₁ h₂ h₃ => (d'.rd_wr_ne v ?_).trans (h.rd b hb h₁ h₂ h₃), fun i hi => (d'.flag_wr_ne v hs).trans (h.kept i hi),
    h.other, h.ana⟩
  obtain rfl | rfl := ha
  · exact h₂
  · exact h₃

theorem setAna (h : d.AnaBut m bits d') {f : Aio → Aio}
    (hf : ∀ s, ∃ x y z, f s = { s with drive := x, src0 := y, src1 := z }) : d.AnaBut m bits (d'.setAna m f) := by
  obtain ⟨x, y, z, hm⟩ := h.ana
  obtain ⟨x', y', z', hx⟩ := hf (d'.ana m)
  exact ⟨h.rd, h.kept, fun j hj => (d'.ana_setAna_ne f hj).trans (h.other j hj),
    ⟨x', y', z', by rw [Dyn.ana_setAna_same, hx, hm]⟩⟩

theorem matrix (h : d.AnaBut m bits d') {d'' : Dyn} (hm : m < 32) (hx : d'.MatrixBut c d'') : d.AnaBut m bits d'' := by
  have hrd {a : Nat} (ha : OfAnalogue a) : d''.rd a = d'.rd a := by
    refine hx.rd a ⟨by omega, ha.2⟩ fun n hn _ => ?_
    simp only [Reg.DIO_STATUS]
    omega
  have hana (j : Nat) : d''.ana j = d'.ana j := by rw [Dyn.ana, hx.aio, Dyn.ana]
  refine h.trans ⟨fun a ha _ _ _ => hrd ha, fun i _ => Dyn.flag_congr (hrd (aioStatus_ofAnalogue hm)), fun j _ => hana j, ?_⟩
  rw [hana]
  exact ⟨_, _, _, rfl⟩

theorem fixAio (h : d.AnaBut m heldBits d') : d.AnaBut m heldBits (d'.fixAio c m) := by
  have hconds : d.AnaBut m heldBits (d'.stageConds c m) := by
    have hdiag := ite (p := d'.stageDiag c m = true) h ((h.setFlag (i := 18) false).setFlag (i := 19) false)
    exact ite hdiag (hdiag.setFlag (i := 22) false)
  unfold Dyn.fixAio
  extract_lets d₁ fl common inv d₂ d₃ v
  exact (((hconds.setFlag (i := 31) inv).put (lo := 0) (w := 2) _).wr v (.inl rfl)).setAna fun s => ⟨_, _, _, rfl⟩

theorem crossValue (h : d.AnaBut m heldBits d') : d.AnaBut m heldBits (d'.crossValue c m) := by
  unfold Dyn.crossValue
  refine ite h ?_
  extract_lets v d₁
  have hvalue : d.AnaBut m heldBits d₁ := h.wr _ (.inr rfl)
  have hclass : d.AnaBut m heldBits (if c.anaMode m = 1 then d₁.classify m v else d₁) :=
    ite (((hvalue.setFlag (i := 6) _).setFlag (i := 7) _).setFlag (i := 5) _) hvalue
  exact ite hclass ((hclass.setFlag (i := 8) _).setFlag (i := 9) _).fixAio

theorem setCmpSrc (h : d.AnaBut m bits d') (hm : m < 32) (j v : Bool) : d.AnaBut m bits (d'.setCmpSrc c m j v) := by
  refine (h.setAna fun s => ?_).matrix hm (Dyn.matrixBut_sourceTo c _ _ v)
  cases j with
  | false => exact ⟨_, _, _, rfl⟩
  | true => exact ⟨_, _, _, rfl⟩

theorem showCmp (h : d.AnaBut m bits d') (hm : m < 32) (j : Bool) : d.AnaBut m bits (d'.showCmp c m j) :=
  ite h (ite (ite (h.setCmpSrc hm j true) h) (h.setCmpSrc hm j _))

end Dyn.AnaBut

/-- A comparator in service over a standing link shows the state confirmed on the field side. -/
theorem Dyn.showCmp_ana {c : Cfg} {d : Dyn} {m : Nat} {j : Bool} (hlink : d.flag (F.AIO_STATUS_LINK_FAIL m) = false)
    (hoos : d.flag (F.AIO_STATUS_OOS m) = false) : (d.showCmp c m j).ana m =
      if j then { d.ana m with src1 := (d.ana m).cmp1 } else { d.ana m with src0 := (d.ana m).cmp0 } := by
  rw [Dyn.showCmp, if_neg (by simp [hlink]), if_neg (by simp [hoos]), Dyn.setCmpSrc, Dyn.ana,
    (Dyn.matrixBut_sourceTo c _ _ _).aio]
  refine (Dyn.ana_setAna_same ..).trans ?_
  cases j with
  | false => rfl
  | true => rfl

end Sys2Proof.Machine
end
section
/-! SUPPORT. Field watchdogs and coupler links of digital channels (R306, R308). -/

namespace Sys2Proof

/-- A bit just set. -/
theorem Word.bit_setBit_same (w : Word) {i : Nat} (b : Bool) (h : i < 32) : (w.setBit i b).bit i = b := by
  have hbit : (BitVec.ofNat 32 (1 <<< i)).getLsbD i = true := by
    rw [BitVec.getLsbD_ofNat, Nat.one_shiftLeft, Nat.testBit_two_pow_self, decide_eq_true h, Bool.and_self]
  cases b with
  | true => simp [Word.setBit, Word.bit, hbit]
  | false => simp [Word.setBit, Word.bit, hbit]

end Sys2Proof

namespace Sys2Proof.Machine

/-- The register of DIO_LINK0–2 that holds the bit of channel `k`. -/
def linkReg (k : Nat) : Nat := Reg.DIO_LINK0 + 4 * (k / 32)

theorem linkReg_ofChannel {k : Nat} (h : k < 96) : OfChannel (linkReg k) := by
  rw [OfChannel, linkReg, Reg.DIO_LINK0]
  omega

theorem linkReg_ne_dioStatus {k : Nat} (h : k < 96) (n : Nat) : linkReg k ≠ Reg.DIO_STATUS n := by
  simp only [linkReg, Reg.DIO_LINK0, Reg.DIO_STATUS]
  omega

/-! ## Outputs at their safe values -/

/-- At its safe value an output shows WD_SAFE, and its link stands as it did. -/
theorem Dyn.toSafe_shows (c : Cfg) (d : Dyn) (n : Nat) :
    (d.toSafe c n).flag (F.DIO_STATUS_WD_SAFE n) = true ∧ ((d.toSafe c n).dig n).cut = (d.dig n).cut := by
  have hdrop := (d.setFlag (F.DIO_STATUS_WD_SAFE n) true).statusBut_dropConds c n
  exact ⟨hdrop.flag.trans d.flag_setBit_same, (hdrop.cut n).trans (congrArg Dio.cut (d.dig_setFlag ..))⟩

section
variable {s : State} {n : BitVec 7} (hlive : Live s) (hn : n.toNat < 96)
include hlive hn

theorem exec_fieldWatchdogExpiry_digital (hout : s.cfg.isOut n.toNat = true) (hon : (s.dyn.dig n.toNat).wdOn = true)
    (hdue : s.cfg.get (F.DIO_OCFG_WD_TIMEOUT n.toNat) * 98000 ≤ s.dyn.now - (s.dyn.dig n.toNat).wdAt) :
    ∃ u, exec (.fieldWatchdogExpiry (.digital n)) s = .next u ∧ u.dyn.flag (F.DIO_STATUS_WD_SAFE n.toNat) = true := by
  have hexec : execFieldWatchdogExpiry (.digital n) s = .next (s.withDyn (s.dyn.toSafe s.cfg n.toNat)) := by
    rw [execFieldWatchdogExpiry, State.always]
    simp only [hlive, hn, hout, hon, hdue, decide_true, Bool.or_true, Bool.and_self, if_true]
    rfl
  exact ⟨_, hexec, (s.dyn.toSafe_shows s.cfg _).1⟩

theorem exec_couplerLinkFieldFail_digital (hout : s.cfg.isOut n.toNat = true) :
    ∃ u, exec (.couplerLinkFieldFail (.digital n)) s = .next u ∧ u.dyn.flag (F.DIO_STATUS_WD_SAFE n.toNat) = true ∧
      (u.dyn.dig n.toNat).cut = true := by
  let e := s.dyn.setDig n.toNat fun x => { x with cut := true }
  have hexec : execCouplerLinkFieldFail (.digital n) s = .next (s.withDyn (e.toSafe s.cfg n.toNat)) := by
    rw [execCouplerLinkFieldFail, State.upd_withDyn hlive]
    simp only [hn, hout, decide_true, Bool.and_self, if_true]
    rfl
  obtain ⟨hsafe, hcut⟩ := e.toSafe_shows s.cfg n.toNat
  exact ⟨_, hexec, hsafe, hcut.trans (congrArg Dio.cut (s.dyn.dig_setDig_same ..))⟩

end

/-! ## A link that fails -/

section
variable (c : Cfg) (d : Dyn) (k : Nat)

/-- The status of a channel whose link has failed. -/
def Dyn.linkLost : Dyn := ((d.holdMeas c (Reg.DIO_MEAS k)).setFlag (F.DIO_STATUS_LINK_FAIL k) true).fixDio c k

/-- The same, with its bit of DIO_LINK0–2. -/
def Dyn.linkLostShown : Dyn := (d.linkLost c k).wr (linkReg k) (((d.linkLost c k).rd (linkReg k)).setBit (k % 32) true)

theorem Dyn.linkLostShown_shows {k : Nat} (hk : k < 96) :
    (d.linkLostShown c k).flag (F.DIO_STATUS_LINK_FAIL k) = true ∧
      ((d.linkLostShown c k).rd (linkReg k)).bit (k % 32) = true ∧
      (d.linkLostShown c k).flag (F.DIO_STATUS_INVALID k) = true := by
  have hset : ((d.holdMeas c (Reg.DIO_MEAS k)).setFlag (F.DIO_STATUS_LINK_FAIL k) true).flag (F.DIO_STATUS_LINK_FAIL k) = true :=
    Dyn.flag_setBit_same _
  have hlink : (d.linkLost c k).flag (F.DIO_STATUS_LINK_FAIL k) = true := (Dyn.statusBut_fixDio ..).flag.trans hset
  have hstatus (i : Nat) : (d.linkLostShown c k).flag ⟨Reg.DIO_STATUS k, i, 1⟩ = (d.linkLost c k).flag ⟨Reg.DIO_STATUS k, i, 1⟩ :=
    Dyn.flag_wr_ne _ _ (linkReg_ne_dioStatus hk k).symm
  refine ⟨(hstatus 3).trans hlink, ?_, (hstatus 31).trans (Dyn.fixDio_invalid_link c hset)⟩
  rw [Dyn.linkLostShown, Dyn.rd_wr_same, Word.bit_setBit_same _ _ (Nat.mod_lt _ (by decide))]

end

section
variable {s : State} {n : BitVec 7} (hlive : Live s) (hn : n.toNat < 96)
include hlive hn

theorem exec_couplerLinkLogicFail_digital (hup : s.dyn.flag (F.DIO_STATUS_LINK_FAIL n.toNat) = false) :
    exec (.couplerLinkLogicFail (.digital n)) s =
      .next (s.withDyn ((s.dyn.linkLostShown s.cfg n.toNat).alarm s.cfg 0x0503 n.toNat 0 0)) := by
  show execCouplerLinkLogicFail (.digital n) s = _
  rw [execCouplerLinkLogicFail, State.upd_withDyn hlive]
  simp only [hn, hup, decide_true, Bool.not_false, Bool.and_self, if_true]
  rfl

theorem exec_couplerLinkLogicFail_digital_shows (hup : s.dyn.flag (F.DIO_STATUS_LINK_FAIL n.toNat) = false) :
    ∃ u, exec (.couplerLinkLogicFail (.digital n)) s = .next u ∧ u.dyn.flag (F.DIO_STATUS_LINK_FAIL n.toNat) = true ∧
      (u.dyn.rd (linkReg n.toNat)).bit (n.toNat % 32) = true ∧ u.dyn.flag (F.DIO_STATUS_INVALID n.toNat) = true := by
  obtain ⟨hlink, hbit, hinvalid⟩ := s.dyn.linkLostShown_shows s.cfg hn
  have hrd {a : Nat} (ha : OfChannel a) := (s.dyn.linkLostShown s.cfg n.toNat).rd_alarm s.cfg ha 0x0503 n.toNat 0 0
  have hstatus := hrd (dioStatus_ofChannel hn)
  refine ⟨_, exec_couplerLinkLogicFail_digital hlive hn hup, (Dyn.flag_congr hstatus).trans hlink, ?_,
    (Dyn.flag_congr hstatus).trans hinvalid⟩
  rw [State.withDyn_dyn, hrd (linkReg_ofChannel hn), hbit]

end

/-! ## A link that returns -/

/-- The link of channel `k` and its level are in `d'` as in `d`. -/
structure Dyn.SameLink (k : Nat) (d d' : Dyn) : Prop where
  fail : d'.flag (F.DIO_STATUS_LINK_FAIL k) = d.flag (F.DIO_STATUS_LINK_FAIL k)
  shown : d'.rd (linkReg k) = d.rd (linkReg k)
  cut : (d'.dig k).cut = (d.dig k).cut
  level : (d'.dig k).level = (d.dig k).level

namespace Dyn.SameLink
variable {c : Cfg} {d d' : Dyn} {k : Nat}

theorem trans {d'' : Dyn} (h : d.SameLink k d') (h' : d'.SameLink k d'') : d.SameLink k d'' :=
  ⟨h'.fail.trans h.fail, h'.shown.trans h.shown, h'.cut.trans h.cut, h'.level.trans h.level⟩

theorem of_statusBut {bits : List Nat} (hk : k < 96) (h : d.StatusBut k bits d')
    (hb : ∀ i ∈ bits, 3 + 1 ≤ i ∨ i < 3 := by decide) : d.SameLink k d' :=
  ⟨h.flag hb, h.rd _ (linkReg_ne_dioStatus hk k), h.cut k, h.level k⟩

/-- An input is none of the outputs that the matrix drives. -/
theorem of_matrixBut (hk : k < 96) (hin : c.isOut k = false) (h : d.MatrixBut c d') : d.SameLink k d' := by
  obtain ⟨x, y, hdig⟩ := h.dig k
  refine ⟨Dyn.flag_congr (h.rd _ (dioStatus_ofChannel hk) fun n _ hout => dioStatus_inj ?_),
    h.rd _ (linkReg_ofChannel hk) fun n _ _ => linkReg_ne_dioStatus hk n, by rw [hdig], by rw [hdig]⟩
  rintro rfl
  exact Bool.false_ne_true (hin.symm.trans hout)

theorem of_setDig {f : Dio → Dio} (hf : ∀ x, (f x).cut = x.cut ∧ (f x).level = x.level) : d.SameLink k (d.setDig k f) := by
  obtain ⟨hcut, hlevel⟩ := hf (d.dig k)
  exact ⟨rfl, rfl, by rw [Dyn.dig_setDig_same, hcut], by rw [Dyn.dig_setDig_same, hlevel]⟩

theorem of_activity (hk : k < 96) (changed b : Bool) : d.SameLink k (d.activity c k changed b) := by
  unfold Dyn.activity
  split
  · split
    · exact of_setDig fun _ => ⟨rfl, rfl⟩
    · exact ⟨rfl, rfl, rfl, rfl⟩
  · exact of_statusBut hk (Dyn.StatusBut.refl.setFlag (i := 5) (bits := [5]) false)

theorem of_startWb (hk : k < 96) : d.SameLink k (d.startWb c k) := by
  refine trans ?_ (of_statusBut hk (d.statusBut_startWb c k))
  exact of_setDig fun _ => ⟨rfl, rfl⟩

end Dyn.SameLink

section
variable (c : Cfg) (d : Dyn) (k : Nat)

/-- The link of channel `k` is up again on both sides. -/
def Dyn.linkBack : Dyn :=
  ((d.setFlag (F.DIO_STATUS_LINK_FAIL k) false).wr (linkReg k) ((d.rd (linkReg k)).setBit (k % 32) false)).setDig k
    fun x => { x with cut := false }

theorem Dyn.linkBack_shows {k : Nat} (hk : k < 96) : (d.linkBack k).flag (F.DIO_STATUS_LINK_FAIL k) = false ∧
    ((d.linkBack k).rd (linkReg k)).bit (k % 32) = false ∧ ((d.linkBack k).dig k).cut = false := by
  refine ⟨(Dyn.flag_wr_ne _ _ (linkReg_ne_dioStatus hk k).symm).trans d.flag_setBit_same, ?_,
    congrArg Dio.cut (Dyn.dig_setDig_same ..)⟩
  have hrd : (d.linkBack k).rd (linkReg k) = (d.rd (linkReg k)).setBit (k % 32) false := Dyn.rd_wr_same ..
  rw [hrd, Word.bit_setBit_same _ _ (Nat.mod_lt _ (by decide))]

/-- The filter of channel `k` runs on, on the field side, over a state that crosses as `b` (R308). -/
def Dyn.filterRuns (b : Bool) : Bool :=
  (d.dig k).raw != b && decide ((d.ft - (d.dig k).rawAt).toNat < c.filterOf k)

/-- The level that crosses. -/
def Dyn.levelCrossed (b : Bool) : Dyn := d.setDig k fun x =>
  if d.filterRuns c k b then { x with level := b } else { x with level := b, raw := b, rawAt := d.ft }

/-- The level that crosses, and at an input what follows it. -/
def Dyn.levelTaken (b : Bool) : Dyn :=
  if c.isOut k then d.levelCrossed c k b
  else ((d.levelCrossed c k b).sourceTo c k b).activity c k ((d.dig k).level != b) b

theorem Dyn.levelCrossed_shows (b : Bool) :
    ((d.levelCrossed c k b).dig k).level = b ∧ ((d.levelCrossed c k b).dig k).cut = (d.dig k).cut := by
  rw [Dyn.levelCrossed, Dyn.dig_setDig_same]
  split
  · exact ⟨rfl, rfl⟩
  · exact ⟨rfl, rfl⟩

theorem Dyn.sameLink_levelTaken {k : Nat} (hk : k < 96) (b : Bool) : (d.levelCrossed c k b).SameLink k (d.levelTaken c k b) := by
  unfold Dyn.levelTaken
  split
  · exact ⟨rfl, rfl, rfl, rfl⟩
  · next hin =>
    exact (Dyn.SameLink.of_matrixBut hk (Bool.not_eq_true _ ▸ hin) (Dyn.matrixBut_sourceTo ..)).trans (.of_activity hk ..)

/-- What crosses when the link of channel `k` returns: a test of an input with WB_EN, else the level. -/
def Dyn.crossed (b : Bool) : Dyn :=
  if !c.isOut k && c.flag (F.DIO_CFG_WB_EN k) then d.startWb c k else d.levelTaken c k b

theorem Dyn.crossed_link {k : Nat} (hk : k < 96) (b : Bool) :
    (d.crossed c k b).flag (F.DIO_STATUS_LINK_FAIL k) = d.flag (F.DIO_STATUS_LINK_FAIL k) ∧
      (d.crossed c k b).rd (linkReg k) = d.rd (linkReg k) ∧ ((d.crossed c k b).dig k).cut = (d.dig k).cut := by
  unfold Dyn.crossed
  split
  · have h := Dyn.SameLink.of_startWb (c := c) (d := d) hk
    exact ⟨h.fail, h.shown, h.cut⟩
  · have h := d.sameLink_levelTaken c hk b
    exact ⟨h.fail, h.shown, h.cut.trans (d.levelCrossed_shows c k b).2⟩

theorem Dyn.crossed_level {k : Nat} (hk : k < 96) (b : Bool) (h : c.isOut k = true ∨ c.flag (F.DIO_CFG_WB_EN k) = false) :
    ((d.crossed c k b).dig k).level = b := by
  have hplain : (!c.isOut k && c.flag (F.DIO_CFG_WB_EN k)) = false := by
    obtain h | h := h
    · rw [h, Bool.not_true, Bool.false_and]
    · rw [h, Bool.and_false]
  rw [Dyn.crossed, hplain, if_neg Bool.false_ne_true, (d.sameLink_levelTaken c hk b).level, (d.levelCrossed_shows c k b).1]

theorem Dyn.crossed_test {c : Cfg} {k : Nat} (b : Bool) (hin : c.isOut k = false) (hen : c.flag (F.DIO_CFG_WB_EN k) = true) :
    (d.crossed c k b).flag (F.DIO_STATUS_WB_ACTIVE k) = true := by
  rw [Dyn.crossed, if_pos (by simp [hin, hen])]
  exact (Dyn.statusBut_fixDio ..).flag.trans (Dyn.flag_setBit_same _)

end

section
variable {s : State} {n : BitVec 7} {x : BitVec 16} (hlive : Live s) (hn : n.toNat < 96)
  (hlost : s.dyn.flag (F.DIO_STATUS_LINK_FAIL n.toNat) = true ∨ (s.dyn.dig n.toNat).cut = true)
include hlive hn hlost

theorem exec_couplerLinkReturn_digital : exec (.couplerLinkReturn (.digital n) x) s = .next (s.withDyn
    (((s.dyn.linkBack n.toNat).crossed s.cfg n.toNat (x.getLsbD 0)).settleDio s.cfg n.toNat)) := by
  have hfails : (s.dyn.flag (F.DIO_STATUS_LINK_FAIL n.toNat) || (s.dyn.dig n.toNat).cut) = true := Bool.or_eq_true_iff.2 hlost
  show execCouplerLinkReturn (.digital n) x s = _
  rw [execCouplerLinkReturn, State.upd_withDyn hlive]
  simp only [hn, hfails, decide_true, Bool.and_self, if_true]
  rfl

theorem exec_couplerLinkReturn_digital_shows : ∃ u, exec (.couplerLinkReturn (.digital n) x) s = .next u ∧
    u.dyn.flag (F.DIO_STATUS_LINK_FAIL n.toNat) = false ∧ (u.dyn.rd (linkReg n.toNat)).bit (n.toNat % 32) = false ∧
    (u.dyn.dig n.toNat).cut = false ∧
    (s.cfg.isOut n.toNat = true ∨ s.cfg.flag (F.DIO_CFG_WB_EN n.toNat) = false → (u.dyn.dig n.toNat).level = x.getLsbD 0) ∧
    (s.cfg.isOut n.toNat = false → s.cfg.flag (F.DIO_CFG_WB_EN n.toNat) = true →
      u.dyn.flag (F.DIO_STATUS_WB_ACTIVE n.toNat) = true) := by
  obtain ⟨e, he⟩ : ∃ e, e = (s.dyn.linkBack n.toNat).crossed s.cfg n.toNat (x.getLsbD 0) := ⟨_, rfl⟩
  obtain ⟨hfail, hbit, hcut⟩ := s.dyn.linkBack_shows hn
  obtain ⟨hfail', hshown, hcut'⟩ := (s.dyn.linkBack n.toNat).crossed_link s.cfg hn (x.getLsbD 0)
  have hlevel := (s.dyn.linkBack n.toNat).crossed_level s.cfg hn (x.getLsbD 0)
  have htest := (s.dyn.linkBack n.toNat).crossed_test (c := s.cfg) (k := n.toNat) (x.getLsbD 0)
  have hexec := exec_couplerLinkReturn_digital (x := x) hlive hn hlost
  rw [← he] at hfail' hshown hcut' hlevel htest hexec
  have hsettle := e.statusBut_settleDio s.cfg n.toNat
  have hsame := Dyn.SameLink.of_statusBut hn hsettle
  refine ⟨_, hexec, hsame.fail.trans (hfail'.trans hfail), ?_, hsame.cut.trans (hcut'.trans hcut),
    fun h => hsame.level.trans (hlevel h), fun hin hen => hsettle.flag.trans (htest hin hen)⟩
  rw [State.withDyn_dyn, hsame.shown, hshown, hbit]

end
end Sys2Proof.Machine
end
section
/-! SUPPORT. Field watchdogs and coupler links of analogue groups (R306, R325, R330, R331), and the obligation on both kinds of
channel. -/

namespace Sys2Proof.Machine

theorem mem_agMembers {g m : Nat} : m ∈ agMembers g ↔ ∃ i < 8, 8 * g + i = m := by simp [agMembers]

theorem lt_of_mem_agMembers {g m : Nat} (hg : g < 4) (hm : m ∈ agMembers g) : m < 32 := by
  obtain ⟨i, hi, rfl⟩ := mem_agMembers.1 hm
  omega

theorem aioGstatus_ofAnalogue {g : Nat} (h : g < 4) : OfAnalogue (Reg.AIO_GSTATUS g) := by
  rw [OfAnalogue, Reg.AIO_GSTATUS]
  omega

theorem aioGstatus_ne_aioStatus (g m : Nat) : Reg.AIO_GSTATUS g ≠ Reg.AIO_STATUS m := by
  simp only [Reg.AIO_GSTATUS, Reg.AIO_STATUS]
  omega

theorem Dyn.ana_setFlag (d : Dyn) (f : Fld) (b : Bool) (m : Nat) : (d.setFlag f b).ana m = d.ana m := by
  rw [Dyn.ana, Dyn.setFlag_aio, Dyn.ana]

/-! ## One channel and the others -/

namespace Dyn.AnaBut
variable {d d' : Dyn} {m : Nat} {bits : List Nat}

theorem rd_group (h : d.AnaBut m bits d') {g : Nat} (hg : g < 4) : d'.rd (Reg.AIO_GSTATUS g) = d.rd (Reg.AIO_GSTATUS g) := by
  refine h.rd _ (aioGstatus_ofAnalogue hg) (aioGstatus_ne_aioStatus g m) ?_ ?_
  · simp only [Reg.AIO_GSTATUS, Reg.AIO_STAGE]
    omega
  · simp only [Reg.AIO_GSTATUS, Reg.AIO_VALUE]
    omega

theorem rd_status (h : d.AnaBut m bits d') {j : Nat} (hj : j < 32) (hne : j ≠ m) :
    d'.rd (Reg.AIO_STATUS j) = d.rd (Reg.AIO_STATUS j) := by
  refine h.rd _ (aioStatus_ofAnalogue hj) ?_ ?_ ?_
  · simp only [Reg.AIO_STATUS]
    omega
  · simp only [Reg.AIO_STATUS, Reg.AIO_STAGE]
    omega
  · simp only [Reg.AIO_STATUS, Reg.AIO_VALUE]
    omega

end Dyn.AnaBut

/-- `d'` is `d` but for what changes in the channels of a group whose status and bits `bits` stand. -/
structure Dyn.GroupBut (g : Nat) (bits : List Nat) (d d' : Dyn) : Prop where
  group : d'.rd (Reg.AIO_GSTATUS g) = d.rd (Reg.AIO_GSTATUS g)
  flag : ∀ m < 32, ∀ i ∈ bits, d'.flag ⟨Reg.AIO_STATUS m, i, 1⟩ = d.flag ⟨Reg.AIO_STATUS m, i, 1⟩
  ana : ∀ m, ∃ x y z, d'.ana m = { d.ana m with drive := x, src0 := y, src1 := z }

theorem Dyn.GroupBut.refl {d : Dyn} {g : Nat} {bits : List Nat} : d.GroupBut g bits d :=
  ⟨rfl, fun _ _ _ _ => rfl, fun _ => ⟨_, _, _, rfl⟩⟩

theorem Dyn.GroupBut.step {d d' d'' : Dyn} {g m : Nat} {bits : List Nat} (h : d.GroupBut g bits d') (hg : g < 4)
    (hm : d'.AnaBut m bits d'') : d.GroupBut g bits d'' := by
  refine ⟨(hm.rd_group hg).trans h.group, fun j hj i hi => Eq.trans ?_ (h.flag j hj i hi), fun j => ?_⟩
  · by_cases hjm : j = m
    · exact hjm ▸ hm.kept i hi
    · exact Dyn.flag_congr (hm.rd_status hj hjm)
  · obtain ⟨x, y, z, hj⟩ := h.ana j
    by_cases hjm : j = m
    · obtain ⟨x', y', z', hm'⟩ := hm.ana
      exact ⟨x', y', z', by rw [hjm, hm', ← hjm, hj]⟩
    · exact ⟨x, y, z, (hm.other j hjm).trans hj⟩

/-! ## Outputs at their safe values -/

section
variable (c : Cfg) (d : Dyn) (m : Nat)

theorem Dyn.anaBut_anaSafe : (d.setFlag (F.AIO_STATUS_WD_SAFE m) true).AnaBut m heldBits (d.anaSafe c m) :=
  Dyn.AnaBut.refl.fixAio

theorem Dyn.anaSafe_safe : (d.anaSafe c m).flag (F.AIO_STATUS_WD_SAFE m) = true :=
  ((d.anaBut_anaSafe c m).kept 23 (by decide)).trans d.flag_setBit_same

/-- The field side of an output has lost its link: it applies the safe value. -/
def Dyn.fieldLost : Dyn := if c.anaMode m = 2 then (d.setAna m fun x => { x with cut := true }).anaSafe c m else d

theorem Dyn.fieldLost_shows {c : Cfg} {m : Nat} (hout : c.anaMode m = 2) :
    (d.fieldLost c m).flag (F.AIO_STATUS_WD_SAFE m) = true ∧ ((d.fieldLost c m).ana m).cut = true := by
  rw [Dyn.fieldLost, if_pos hout]
  obtain ⟨x, y, z, hm⟩ := ((d.setAna m fun x => { x with cut := true }).anaBut_anaSafe c m).ana
  refine ⟨Dyn.anaSafe_safe .., ?_⟩
  rw [hm, Dyn.ana_setFlag, Dyn.ana_setAna_same]

theorem Dyn.fieldLost_other {j : Nat} (hj : j < 32) (hne : j ≠ m) :
    (d.fieldLost c m).rd (Reg.AIO_STATUS j) = d.rd (Reg.AIO_STATUS j) ∧ (d.fieldLost c m).ana j = d.ana j := by
  unfold Dyn.fieldLost
  split
  · have hsafe := (d.setAna m fun x => { x with cut := true }).anaBut_anaSafe c m
    have hstatus : Reg.AIO_STATUS j ≠ Reg.AIO_STATUS m := by
      simp only [Reg.AIO_STATUS]
      omega
    refine ⟨(hsafe.rd_status hj hne).trans (Dyn.rd_put_ne _ _ hstatus), (hsafe.other j hne).trans ?_⟩
    rw [Dyn.ana_setFlag, Dyn.ana_setAna_ne _ _ hne]
  · exact ⟨rfl, rfl⟩

theorem Dyn.foldl_fieldLost {g : Nat} (hg : g < 4) : ∀ m ∈ agMembers g, c.anaMode m = 2 →
    ((agMembers g).foldl (fun d m => d.fieldLost c m) d).flag (F.AIO_STATUS_WD_SAFE m) = true ∧
      (((agMembers g).foldl (fun d m => d.fieldLost c m) d).ana m).cut = true := by
  refine (foldl_each (inv := fun _ => True) (did := fun m (x : Dyn) => c.anaMode m = 2 →
    x.flag (F.AIO_STATUS_WD_SAFE m) = true ∧ (x.ana m).cut = true) (fun _ _ _ _ => trivial)
    (fun x m _ _ hout => x.fieldLost_shows hout) (fun x m _ j hj hne hx hout => ?_) trivial).2
  obtain ⟨hsafe, hcut⟩ := hx hout
  obtain ⟨hrd, hana⟩ := x.fieldLost_other c m (lt_of_mem_agMembers hg hj) hne
  exact ⟨(Dyn.flag_congr hrd).trans hsafe, by rw [hana, hcut]⟩

end

/-! ## LINK_FAIL of a group's channels -/

section
variable (c : Cfg) (d : Dyn)

theorem Dyn.agAll_linkFail {g : Nat} (hg : g < 4) (b : Bool) :
    d.GroupBut g [30] (d.agAll c g F.AIO_STATUS_LINK_FAIL b) ∧ ∀ m ∈ agMembers g, c.anaMode m ≠ 0 →
      (d.agAll c g F.AIO_STATUS_LINK_FAIL b).flag (F.AIO_STATUS_LINK_FAIL m) = b := by
  let f := fun (d : Dyn) (m : Nat) =>
    if c.anaMode m = 0 then d else (d.setFlag (F.AIO_STATUS_LINK_FAIL m) b).fixAio c m
  have hstep (x : Dyn) (m : Nat) : x.AnaBut m [30] (f x m) := by
    have hfix : (x.setFlag (F.AIO_STATUS_LINK_FAIL m) b).AnaBut m heldBits ((x.setFlag (F.AIO_STATUS_LINK_FAIL m) b).fixAio c m) :=
      Dyn.AnaBut.refl.fixAio
    exact .ite .refl ((Dyn.AnaBut.refl.setFlag (i := 29) b).trans hfix.mono)
  refine foldl_each (f := f) (inv := fun x => d.GroupBut g [30] x)
    (did := fun m (x : Dyn) => c.anaMode m ≠ 0 → x.flag (F.AIO_STATUS_LINK_FAIL m) = b)
    (fun x m _ hx => hx.step hg (hstep x m)) (fun x m _ _ hused => ?_)
    (fun x m _ j hj hne hx hused => ?_) .refl
  · have hfix : (x.setFlag (F.AIO_STATUS_LINK_FAIL m) b).AnaBut m heldBits (f x m) := by
      rw [show f x m = _ from if_neg hused]
      exact Dyn.AnaBut.refl.fixAio
    exact (hfix.kept 29 (by decide)).trans x.flag_setBit_same
  · exact (Dyn.flag_congr ((hstep x m).rd_status (lt_of_mem_agMembers hg hj) hne)).trans (hx hused)

/-- The live values of a group, held. -/
def Dyn.groupHeld (g : Nat) : Dyn :=
  (agMembers g).foldl (fun d m => d.holdMeas c (Reg.AIO_MEAS m)) (d.holdMeas c (Reg.AIO_GMEAS g))

theorem Dyn.agLinkFail_eq (g : Nat) : d.agLinkFail c g = if d.flag (F.AIO_GSTATUS_LINK_FAIL g) then d else
    (((d.groupHeld c g).setFlag (F.AIO_GSTATUS_LINK_FAIL g) true).agAll c g F.AIO_STATUS_LINK_FAIL true).alarm c 0x0602 g 0 0 :=
  rfl

theorem Dyn.agLinkFail_shows {g : Nat} (hg : g < 4) (hup : d.flag (F.AIO_GSTATUS_LINK_FAIL g) = false) :
    (d.agLinkFail c g).flag (F.AIO_GSTATUS_LINK_FAIL g) = true ∧
      ∀ m ∈ agMembers g, c.anaMode m ≠ 0 → (d.agLinkFail c g).flag (F.AIO_STATUS_LINK_FAIL m) = true := by
  rw [Dyn.agLinkFail_eq, hup, if_neg Bool.false_ne_true]
  generalize d.groupHeld c g = e
  obtain ⟨hgroup, hlink⟩ := (e.setFlag (F.AIO_GSTATUS_LINK_FAIL g) true).agAll_linkFail c hg true
  have hrd {a : Nat} (ha : OfAnalogue a) :=
    ((e.setFlag (F.AIO_GSTATUS_LINK_FAIL g) true).agAll c g F.AIO_STATUS_LINK_FAIL true).rd_alarm c
      (show OfChannel a from ⟨by omega, ha.2⟩) 0x0602 g 0 0
  exact ⟨(Dyn.flag_congr ((hrd (aioGstatus_ofAnalogue hg)).trans hgroup.group)).trans e.flag_setBit_same,
    fun m hm hused => (Dyn.flag_congr (hrd (aioStatus_ofAnalogue (lt_of_mem_agMembers hg hm)))).trans (hlink m hm hused)⟩

/-! ## A link that returns -/

/-- The field sides of a group's channels hear the logic side again. -/
def Dyn.uncut (g : Nat) : Dyn := (agMembers g).foldl (fun d m => d.setAna m fun x => { x with cut := false }) d

theorem Dyn.uncut_rd (g a : Nat) : (d.uncut g).rd a = d.rd a := 
  foldl_view (fun d : Dyn => d.rd a) (f := fun d m => d.setAna m fun x => { x with cut := false }) (fun _ _ => rfl) ..

theorem Dyn.uncut_ana (g : Nat) : ∀ m ∈ agMembers g, (d.uncut g).ana m = { d.ana m with cut := false } := by
  refine (foldl_each (inv := fun x : Dyn => ∀ m, ∃ b, x.ana m = { d.ana m with cut := b })
    (did := fun m (x : Dyn) => x.ana m = { d.ana m with cut := false }) (fun x m _ hx j => ?_) (fun x m _ hx => ?_)
    (fun x m _ j _ hne hx => (Dyn.ana_setAna_ne _ _ hne).trans hx) fun m => ⟨_, rfl⟩).2
  · by_cases hjm : j = m
    · obtain ⟨b, hb⟩ := hx m
      exact ⟨false, by rw [hjm, Dyn.ana_setAna_same, hb]⟩
    · rw [Dyn.ana_setAna_ne _ _ hjm]
      exact hx j
  · obtain ⟨b, hb⟩ := hx m
    rw [Dyn.ana_setAna_same, hb]

/-- The link of a group is up again on both sides. -/
def Dyn.groupBack (g : Nat) : Dyn :=
  ((d.uncut g).setFlag (F.AIO_GSTATUS_LINK_FAIL g) false).agAll c g F.AIO_STATUS_LINK_FAIL false

/-- A channel of a group whose link is up, with its comparators as in `d`. -/
structure Dyn.ChannelUp (c : Cfg) (m : Nat) (d d' : Dyn) : Prop where
  link : c.anaMode m ≠ 0 → d'.flag (F.AIO_STATUS_LINK_FAIL m) = false
  oos : d'.flag (F.AIO_STATUS_OOS m) = d.flag (F.AIO_STATUS_OOS m)
  cut : (d'.ana m).cut = false
  cmp0 : (d'.ana m).cmp0 = (d.ana m).cmp0
  cmp1 : (d'.ana m).cmp1 = (d.ana m).cmp1

theorem Dyn.groupBack_shows {g : Nat} (hg : g < 4) : (d.groupBack c g).flag (F.AIO_GSTATUS_LINK_FAIL g) = false ∧
    ∀ m ∈ agMembers g, d.ChannelUp c m (d.groupBack c g) := by
  obtain ⟨hgroup, hlink⟩ := ((d.uncut g).setFlag (F.AIO_GSTATUS_LINK_FAIL g) false).agAll_linkFail c hg false
  refine ⟨(Dyn.flag_congr hgroup.group).trans (Dyn.flag_setBit_same _), fun m hm => ?_⟩
  obtain ⟨x, y, z, hana⟩ := hgroup.ana m
  rw [Dyn.ana_setFlag, d.uncut_ana g m hm] at hana
  have hoos : ((d.uncut g).setFlag (F.AIO_GSTATUS_LINK_FAIL g) false).flag (F.AIO_STATUS_OOS m) = d.flag (F.AIO_STATUS_OOS m) :=
    (Dyn.flag_setFlag_ne _ _ (aioGstatus_ne_aioStatus g m).symm).trans (Dyn.flag_congr (d.uncut_rd g _))
  refine ⟨hlink m hm, (hgroup.flag m (lt_of_mem_agMembers hg hm) 30 (by decide)).trans hoos, ?_, ?_, ?_⟩
  all_goals rw [Dyn.groupBack, hana]

theorem Dyn.ChannelUp.groupBut {c : Cfg} {m g : Nat} {d d' d'' : Dyn} (h : d.ChannelUp c m d') (hm : m < 32)
    (hx : d'.GroupBut g heldBits d'') : d.ChannelUp c m d'' := by
  obtain ⟨x, y, z, hana⟩ := hx.ana m
  exact ⟨fun hused => (hx.flag m hm 29 (by decide)).trans (h.link hused), (hx.flag m hm 30 (by decide)).trans h.oos,
    (congrArg Aio.cut hana).trans h.cut, (congrArg Aio.cmp0 hana).trans h.cmp0, (congrArg Aio.cmp1 hana).trans h.cmp1⟩

theorem Dyn.fixAio_ana (m : Nat) : ∃ x, (d.fixAio c m).ana m = { d.ana m with drive := x } := by
  have hconds : (d.stageConds c m).aio = d.aio := by
    have hdiag : (if d.stageDiag c m then d else (d.setFlag (F.AIO_STATUS_COMPLIANCE m) false).setFlag (F.AIO_STATUS_OPEN m)
        false).aio = d.aio := by split <;> rfl
    unfold Dyn.stageConds
    extract_lets e
    split
    · exact hdiag
    · exact hdiag
  unfold Dyn.fixAio
  extract_lets d₁ fl common inv d₂ d₃ v
  have hana : (d₃.wr (Reg.AIO_STAGE m) v).ana m = d.ana m := congrArg (sget Aio.init · m) hconds
  exact ⟨_, (Dyn.ana_setAna_same ..).trans (by rw [hana])⟩

theorem Dyn.showFails_ana (m : Nat) : ∃ x, (d.showFails c m).ana m = { d.ana m with drive := x } := by
  unfold Dyn.showFails
  split
  · exact ⟨_, rfl⟩
  · obtain ⟨x, hx⟩ := Dyn.fixAio_ana c ((d.setFlag (F.AIO_STATUS_FAIL_LO m) (d.ana m).failLo).setFlag (F.AIO_STATUS_FAIL_HI m)
      (d.ana m).failHi) m
    exact ⟨x, by rw [hx, Dyn.ana_setFlag, Dyn.ana_setFlag]⟩

theorem Dyn.crossValue_ana (m : Nat) : ∃ x, (d.crossValue c m).ana m = { d.ana m with drive := x } := by
  unfold Dyn.crossValue
  extract_lets v d₁
  have hclass : (if c.anaMode m = 1 then d₁.classify m v else d₁).ana m = d.ana m := by split <;> rfl
  obtain ⟨x, hx⟩ := (if c.anaMode m = 1 then d₁.classify m v else d₁).showFails_ana c m
  rw [hclass] at hx
  split
  · exact ⟨_, rfl⟩
  · exact ⟨x, hx⟩

/-- What crosses of a channel whose group's link returns: its comparators, and its value where there is one. -/
def Dyn.channelBack (m : Nat) : Dyn :=
  let e := (d.showCmp c m false).showCmp c m true
  if c.anaMode m = 0 || (e.ana m).results.isEmpty then e else e.crossValue c m

theorem Dyn.anaBut_channelBack {m : Nat} (hm : m < 32) : d.AnaBut m heldBits (d.channelBack c m) :=
  have hshown := (Dyn.AnaBut.refl.showCmp (c := c) hm false).showCmp (c := c) hm true
  .ite hshown hshown.crossValue

theorem Dyn.channelBack_sources {m : Nat} (hm : m < 32) (hlink : d.flag (F.AIO_STATUS_LINK_FAIL m) = false)
    (hoos : d.flag (F.AIO_STATUS_OOS m) = false) : ((d.channelBack c m).ana m).src0 = ((d.channelBack c m).ana m).cmp0 ∧
      ((d.channelBack c m).ana m).src1 = ((d.channelBack c m).ana m).cmp1 := by
  have hfirst : d.AnaBut m heldBits (d.showCmp c m false) := Dyn.AnaBut.refl.showCmp hm false
  have hana : ((d.showCmp c m false).showCmp c m true).ana m =
      { d.ana m with src0 := (d.ana m).cmp0, src1 := (d.ana m).cmp1 } := by
    rw [Dyn.showCmp_ana ((hfirst.kept 29 (by decide)).trans hlink) ((hfirst.kept 30 (by decide)).trans hoos),
      Dyn.showCmp_ana hlink hoos]
    rfl
  obtain ⟨x, hcross⟩ := ((d.showCmp c m false).showCmp c m true).crossValue_ana c m
  unfold Dyn.channelBack
  extract_lets e
  split
  · rw [hana]
    exact ⟨rfl, rfl⟩
  · rw [hcross, hana]
    exact ⟨rfl, rfl⟩

end

/-! ## The commands -/

section
variable {s : State} {g : BitVec 2} (hlive : Live s)
include hlive

theorem exec_fieldWatchdogExpiry_analogue {m : BitVec 5} (hout : s.cfg.anaMode m.toNat = 2)
    (hon : (s.dyn.ana m.toNat).wdOn = true)
    (hdue : s.cfg.get (F.AIO_OCFG_WD_TIMEOUT m.toNat) * 98000 ≤ s.dyn.now - (s.dyn.ana m.toNat).wdAt) :
    ∃ u, exec (.fieldWatchdogExpiry (.analogue m)) s = .next u ∧ u.dyn.flag (F.AIO_STATUS_WD_SAFE m.toNat) = true := by
  have hexec : execFieldWatchdogExpiry (.analogue m) s = .next (s.withDyn (s.dyn.anaSafe s.cfg m.toNat)) := by
    rw [execFieldWatchdogExpiry, State.always]
    simp only [hlive, hout, hon, hdue, decide_true, Bool.or_true, beq_self_eq_true, Bool.and_self, if_true]
    rfl
  exact ⟨_, hexec, s.dyn.anaSafe_safe s.cfg _⟩

theorem exec_couplerLinkFieldFail_analogue : ∃ u, exec (.couplerLinkFieldFail (.analogue g)) s = .next u ∧
    ∀ i < 8, s.cfg.anaMode (8 * g.toNat + i) = 2 →
      u.dyn.flag (F.AIO_STATUS_WD_SAFE (8 * g.toNat + i)) = true ∧ (u.dyn.ana (8 * g.toNat + i)).cut = true := by
  have hexec : execCouplerLinkFieldFail (.analogue g) s =
      .next (s.withDyn ((agMembers g.toNat).foldl (fun d m => d.fieldLost s.cfg m) s.dyn)) := by
    rw [execCouplerLinkFieldFail, State.upd_withDyn hlive]
    rfl
  exact ⟨_, hexec, fun i hi => s.dyn.foldl_fieldLost s.cfg g.isLt _ (mem_agMembers.2 ⟨i, hi, rfl⟩)⟩

theorem exec_couplerLinkLogicFail_analogue (hup : s.dyn.flag (F.AIO_GSTATUS_LINK_FAIL g.toNat) = false) :
    ∃ u, exec (.couplerLinkLogicFail (.analogue g)) s = .next u ∧ u.dyn.flag (F.AIO_GSTATUS_LINK_FAIL g.toNat) = true ∧
      ∀ i < 8, s.cfg.anaMode (8 * g.toNat + i) ≠ 0 → u.dyn.flag (F.AIO_STATUS_LINK_FAIL (8 * g.toNat + i)) = true := by
  have hexec : execCouplerLinkLogicFail (.analogue g) s = .next (s.withDyn (s.dyn.agLinkFail s.cfg g.toNat)) := by
    rw [execCouplerLinkLogicFail, State.upd_withDyn hlive]
  obtain ⟨hgroup, hlink⟩ := s.dyn.agLinkFail_shows s.cfg g.isLt hup
  exact ⟨_, hexec, hgroup, fun i hi => hlink _ (mem_agMembers.2 ⟨i, hi, rfl⟩)⟩

variable {x : BitVec 16} (hlost : s.dyn.flag (F.AIO_GSTATUS_LINK_FAIL g.toNat) = true ∨
  ∃ i < 8, (s.dyn.ana (8 * g.toNat + i)).cut = true)
include hlost

theorem exec_couplerLinkReturn_analogue : exec (.couplerLinkReturn (.analogue g) x) s = .next (s.withDyn
    ((List.range 8).foldl (fun d i => d.channelBack s.cfg (8 * g.toNat + i)) (s.dyn.groupBack s.cfg g.toNat))) := by
  have hfails : (s.dyn.flag (F.AIO_GSTATUS_LINK_FAIL g.toNat) || (agMembers g.toNat).any fun m => (s.dyn.ana m).cut) = true := by
    refine Bool.or_eq_true_iff.2 (hlost.imp_right fun ⟨i, hi, hcut⟩ => ?_)
    exact List.any_eq_true.2 ⟨_, mem_agMembers.2 ⟨i, hi, rfl⟩, hcut⟩
  show execCouplerLinkReturn (.analogue g) x s = _
  rw [execCouplerLinkReturn, State.upd_withDyn hlive]
  simp only [hfails, if_true]
  rfl

theorem exec_couplerLinkReturn_analogue_shows : ∃ u, exec (.couplerLinkReturn (.analogue g) x) s = .next u ∧
    u.dyn.flag (F.AIO_GSTATUS_LINK_FAIL g.toNat) = false ∧ ∀ i < 8, let y := u.dyn.ana (8 * g.toNat + i)
      y.cut = false ∧ y.cmp0 = (s.dyn.ana (8 * g.toNat + i)).cmp0 ∧ y.cmp1 = (s.dyn.ana (8 * g.toNat + i)).cmp1 ∧
      (s.cfg.anaMode (8 * g.toNat + i) ≠ 0 → s.dyn.flag (F.AIO_STATUS_OOS (8 * g.toNat + i)) = false →
        y.src0 = y.cmp0 ∧ y.src1 = y.cmp1) := by
  have hg : g.toNat < 4 := g.isLt
  have hlt {i : Nat} (hi : i ∈ List.range 8) : 8 * g.toNat + i < 32 := by
    have := List.mem_range.1 hi
    omega
  obtain ⟨hgroup, hup⟩ := s.dyn.groupBack_shows s.cfg hg
  have hchannel {d : Dyn} (hd : (s.dyn.groupBack s.cfg g.toNat).GroupBut g.toNat heldBits d) {i : Nat} (hi : i ∈ List.range 8) :
      s.dyn.ChannelUp s.cfg (8 * g.toNat + i) d :=
    (hup _ (mem_agMembers.2 ⟨i, List.mem_range.1 hi, rfl⟩)).groupBut (hlt hi) hd
  obtain ⟨hend, hsources⟩ := foldl_each (f := fun d i => d.channelBack s.cfg (8 * g.toNat + i)) (l := List.range 8)
    (inv := fun d => (s.dyn.groupBack s.cfg g.toNat).GroupBut g.toNat heldBits d)
    (did := fun i (d : Dyn) => s.cfg.anaMode (8 * g.toNat + i) ≠ 0 → s.dyn.flag (F.AIO_STATUS_OOS (8 * g.toNat + i)) = false →
      (d.ana (8 * g.toNat + i)).src0 = (d.ana (8 * g.toNat + i)).cmp0 ∧
        (d.ana (8 * g.toNat + i)).src1 = (d.ana (8 * g.toNat + i)).cmp1)
    (fun d i hi hd => hd.step hg (d.anaBut_channelBack s.cfg (hlt hi)))
    (fun d i hi hd hused hoos =>
      d.channelBack_sources s.cfg (hlt hi) ((hchannel hd hi).link hused) ((hchannel hd hi).oos.trans hoos))
    (fun d i hi j _ hne hd hused hoos => by
      rw [(d.anaBut_channelBack s.cfg (hlt hi)).other _ (by omega)]
      exact hd hused hoos) .refl
  refine ⟨_, exec_couplerLinkReturn_analogue hlive hlost, (Dyn.flag_congr hend.group).trans hgroup, fun i hi => ?_⟩
  have hi : i ∈ List.range 8 := List.mem_range.2 hi
  have hstands := hchannel hend hi
  exact ⟨hstands.cut, hstands.cmp0, hstands.cmp1, hsources i hi⟩

end

/-- Settles O39: each event, of a digital channel and of an analogue group, is the `exec_` lemma of its name. -/
theorem watchdogsAndLinks : Obligations.WatchdogsAndLinks := by
  intro s n m g x hlive hn k a b
  exact ⟨exec_fieldWatchdogExpiry_digital hlive hn, exec_fieldWatchdogExpiry_analogue hlive,
    exec_couplerLinkFieldFail_digital hlive hn, exec_couplerLinkFieldFail_analogue hlive,
    exec_couplerLinkLogicFail_digital_shows hlive hn, exec_couplerLinkLogicFail_analogue hlive,
    exec_couplerLinkReturn_digital_shows hlive hn, exec_couplerLinkReturn_analogue_shows hlive⟩

end Sys2Proof.Machine
end
section
/-! SUPPORT. The calibration of an analogue channel: its commands, and how a command that takes time ends (R332–R334, R337). -/

namespace Sys2Proof.Machine

/-! ## A write of AIO_CAL_CMD -/

/-- AIO_CAL_CMD with CODE, CHAN and ARG. -/
def calWord (code chan arg : Nat) : Word := BitVec.ofNat 32 (arg * 2 ^ 16 + chan * 2 ^ 8 + code)

theorem calWord_fields {code chan arg : Nat} (hcode : code < 16) (hchan : chan < 32) (harg : arg < 4) :
    (calWord code chan arg).field 0 4 = code ∧ (calWord code chan arg).field 8 5 = chan ∧
      (calWord code chan arg).field 16 2 = arg := by
  simp only [calWord, Word.field, BitVec.toNat_ofNat, Nat.shiftRight_eq_div_pow]
  omega

/-- What a command does while none is BUSY. -/
def Dyn.calAnswer (c : Cfg) (d : Dyn) (code chan arg : Nat) : Dyn :=
  match code with
  | 1 => d.calBegin c chan arg
  | 2 => d.calDrive c arg
  | 3 => d.calPoint arg
  | 4 => d.calCompute
  | 5 => d.calCommit
  | 6 => d.calAbort c
  | 7 => d.calFactory chan
  | k => d.calStat k 3 3

theorem Dyn.calWrite_calWord (c : Cfg) (d : Dyn) {code chan arg : Nat} (hcode : code < 16) (hchan : chan < 32) (harg : arg < 4) :
    d.calWrite c (calWord code chan arg) = d.calCmd code fun d => d.calAnswer c code chan arg := by
  obtain ⟨hcode', hchan', harg'⟩ := calWord_fields hcode hchan harg
  simp only [Dyn.calWrite, hcode', hchan', harg']
  rfl

theorem Dyn.calCmd_busy {d : Dyn} (h : d.get F.AIO_CAL_STAT_STATUS = 1) (code : Nat) (f : Dyn → Dyn) :
    d.calCmd code f = d.calMark code := if_pos h

theorem Dyn.calCmd_free {d : Dyn} (h : d.get F.AIO_CAL_STAT_STATUS ≠ 1) (code : Nat) (f : Dyn → Dyn) : d.calCmd code f = f d :=
  if_neg h

section
variable {s : State} {who : Requester} {code chan arg : Nat} (hlive : Live s) (hmay : MayWrite s who Reg.AIO_CAL_CMD)
  (hcode : code < 16) (hchan : chan < 32) (harg : arg < 4)
include hlive hmay hcode hchan harg

theorem calCommand_eq : calCommand who code chan arg s =
    .next (s.withDyn ((s.dyn.by_ who).calCmd code fun d => d.calAnswer s.cfg code chan arg)) := by
  rw [calCommand, State.upd_withDyn hlive, Dyn.gated_granted hmay, ← calWord, Dyn.calWrite_calWord _ _ hcode hchan harg]

theorem calCommand_busy (hbusy : s.dyn.get F.AIO_CAL_STAT_STATUS = 1) :
    calCommand who code chan arg s = .next (s.withDyn ((s.dyn.by_ who).calMark code)) := by
  rw [calCommand_eq hlive hmay hcode hchan harg, Dyn.calCmd_busy (d := s.dyn.by_ who) hbusy]

theorem calCommand_free (hfree : s.dyn.get F.AIO_CAL_STAT_STATUS ≠ 1) :
    calCommand who code chan arg s = .next (s.withDyn ((s.dyn.by_ who).calAnswer s.cfg code chan arg)) := by
  rw [calCommand_eq hlive hmay hcode hchan harg, Dyn.calCmd_free (d := s.dyn.by_ who) hfree]

end

/-! ## The accepted commands (R333) -/

section
variable {c : Cfg} {d : Dyn} {chan arg : Nat}

theorem Dyn.calBegin_accepted (hoff : d.flag F.AIO_CAL_STAT_ACTIVE = false) (hused : c.anaMode chan ≠ 0) (harg : arg < 2)
    (hinput : arg = 0 → c.anaMode chan = 1) : d.calBegin c chan arg =
      (((({ ((d.setFlag F.AIO_CAL_STAT_ACTIVE true).put F.AIO_CAL_STAT_CHAN chan).put F.AIO_CAL_STAT_POINTS 0 with
          cal := { Cal.init with external := arg == 1 } } : Dyn).setAna chan fun a =>
        { a with calStage := d.stage c chan, calPlain := false, waitCal := false }).calStat 1 2 0).fixAio c chan) := by
  have hreach : ¬ (decide (1 < arg) || decide (arg = 0) && decide (c.anaMode chan ≠ 1)) = true := by
    simpa using And.intro (Nat.le_of_lt_succ harg) hinput
  rw [Dyn.calBegin, if_neg hused, if_neg (by simp [hoff]), if_neg hreach]

/-- The three points at which an output is driven: 4, 12 and 20 mA. -/
def calPointStage (arg : Nat) : Word := if arg = 0 then 0x40000 else if arg = 1 then 0xC0000 else 0x140000

theorem Dyn.calDrive_accepted (hon : d.flag F.AIO_CAL_STAT_ACTIVE = true) (hext : d.cal.external = true)
    (hout : c.anaMode (d.get F.AIO_CAL_STAT_CHAN) = 2) (harg : arg < 3) : d.calDrive c arg =
      ((d.setAna (d.get F.AIO_CAL_STAT_CHAN) fun a => { a with calStage := calPointStage arg, calPlain := true }).calStat
        2 2 0).fixAio c (d.get F.AIO_CAL_STAT_CHAN) := if_pos (by simp [hon, hext, hout, harg])

theorem Dyn.calPoint_accepted (hon : d.flag F.AIO_CAL_STAT_ACTIVE = true) (harg : arg < if d.cal.external then 3 else 2) :
    d.calPoint arg = ({ d with cal := { d.cal with point := arg } } : Dyn).calBusy 3 :=
  if_pos (by simp only [hon, harg, decide_true, Bool.and_self])

theorem Dyn.calCommit_accepted (hon : d.flag F.AIO_CAL_STAT_ACTIVE = true) (hdone : d.cal.computed = true) :
    d.calCommit = d.calBusy 5 := if_pos (by simp [hon, hdone])

theorem Dyn.calAbort_accepted (hon : d.flag F.AIO_CAL_STAT_ACTIVE = true) : d.calAbort c = (d.calStat 6 2 0).calEnd c :=
  if_pos hon

theorem Dyn.calFactory_accepted (hoff : d.flag F.AIO_CAL_STAT_ACTIVE = false) : d.calFactory chan =
    ((((d.calStore chan 0x40000000 0 0 false).setAna chan fun a => { a with gain := 0x40000000, offs := 0 }).put
      F.AIO_CAL_STAT_CHAN chan).calStat 7 2 0) := if_neg (by simp [hoff])

end

/-- Settles O31: the seven commands differ in CODE, CHAN and ARG alone; FACTORY acts at once (log entry 108). -/
theorem calibrationCommands : Obligations.CalibrationCommands := by
  intro s who m x hlive hmay d act ch
  have hm : m.toNat < 32 := m.isLt
  have hx : x.toNat < 4 := x.isLt
  have hx0 : x = 0 ↔ x.toNat = 0 := BitVec.toNat_inj.symm
  have hx1 : x = 1 ↔ x.toNat = 1 := BitVec.toNat_inj.symm
  refine ⟨fun hbusy => ?busy, fun hfree => ?free⟩
  case busy =>
    have hrun {code chan arg : Nat} (hcode : code < 16) (hchan : chan < 32) (harg : arg < 4) :=
      calCommand_busy hlive hmay hcode hchan harg hbusy
    exact ⟨hrun (by decide) hm hx, hrun (by decide) (by decide) hx, hrun (by decide) (by decide) hx,
      hrun (by decide) (by decide) (by decide), hrun (by decide) (by decide) (by decide),
      hrun (by decide) (by decide) (by decide), hrun (by decide) hm (by decide)⟩
  case free =>
    have hrun {code chan arg : Nat} (hcode : code < 16) (hchan : chan < 32) (harg : arg < 4) {e : Dyn}
        (he : d.calAnswer s.cfg code chan arg = e) : calCommand who code chan arg s = .next (s.withDyn e) :=
      he ▸ calCommand_free hlive hmay hcode hchan harg hfree
    refine ⟨fun hoff hused hlt hinput => ?begin, fun hon hext hout hlt => ?drive, fun hon hlt => ?point, fun hon hdone => ?commit,
      fun hon => ?abort, fun hoff => ?factory⟩
    case begin =>
      have hext : (x == 1) = (x.toNat == 1) := by rw [beq_eq_beq, hx1]
      rw [hext]
      exact hrun (by decide) hm hx (Dyn.calBegin_accepted hoff hused hlt fun h => hinput (hx0.2 h))
    case drive =>
      have hstage : (if x = 0 then 0x40000 else if x = 1 then 0xC0000 else 0x140000 : Word) = calPointStage x.toNat := by
        simp only [calPointStage, hx0, hx1]
      rw [hstage]
      exact hrun (by decide) (by decide) hx (Dyn.calDrive_accepted hon hext hout hlt)
    case point => exact hrun (by decide) (by decide) hx (Dyn.calPoint_accepted hon hlt)
    case commit => exact hrun (by decide) (by decide) (by decide) (Dyn.calCommit_accepted hon hdone)
    case abort => exact hrun (by decide) (by decide) (by decide) (Dyn.calAbort_accepted hon)
    case factory => exact hrun (by decide) hm (by decide) (Dyn.calFactory_accepted hoff)

/-! ## How a command that takes time ends (R333) -/

/-- The true current of point `k`: the reference, or without one 0 and 10 mA. -/
def Dyn.pointTrue (d : Dyn) (k : Nat) : Int :=
  if d.cal.external then (d.rd Reg.AIO_CAL_REF).toInt else if k = 0 then 0 else 10 * 65536

/-- A recorded point `k` of the mean `mean`, in place of an earlier one. -/
def Dyn.withPoint (d : Dyn) (k : Nat) (mean : Word) : Dyn :=
  ({ d with cal := { d.cal with
    points := (d.cal.points.filter fun q => q.1 != k) ++ [(k, mean.toInt, d.pointTrue k)] } } : Dyn).put
    F.AIO_CAL_STAT_POINTS (d.get F.AIO_CAL_STAT_POINTS ||| 1 <<< k)

/-- POINT_RECORDED: a spread of more than 20 µA is refused. -/
def Dyn.recordPoint (d : Dyn) (mean spread : Word) : Dyn :=
  if 20 * 65536 < spread.toNat * 1000 then d.calEnds 3 6 else (d.withPoint d.cal.point mean).calEnds 2 0

theorem execPointRecorded_eq (mean spread : Word) (s : State) : execPointRecorded mean spread s = s.upd fun c d =>
    if d.get F.AIO_CAL_STAT_STATUS = 1 && d.cal.busy = 3 then
      d.whenDue c (d.cal.busyAt + 6400000) fun d => d.recordPoint mean spread
    else d := rfl

/-- Two points that both read exactly are fitted by y = 1 · x. -/
theorem fit_exact : fit [(0, 0, 0), (1, 655360, 655360)] = some (655360 ^ 2, 0, 655360 ^ 2) := by decide

/-- A quotient that comes out even is not rounded. -/
theorem Dyn.roundFree_exact (d : Dyn) (q : Int) {den : Nat} (h : den ≠ 0) : d.roundFree (den * q) den = (q, d) := by
  have hden : (den : Int) ≠ 0 := Int.natCast_ne_zero.2 h
  rw [Dyn.roundFree, if_pos (Int.mul_emod_right ..), Int.mul_ediv_cancel_left _ hden]

/-- What COMPUTE leaves: gain, offset, and that they stand. -/
def Dyn.calResult (d : Dyn) (gain offs : Word) : Dyn :=
  let e := (d.wr Reg.AIO_CAL_RES_G gain).wr Reg.AIO_CAL_RES_O offs
  { e with cal := { e.cal with computed := true } }

theorem Dyn.calCompute_exact {d : Dyn} (hon : d.flag F.AIO_CAL_STAT_ACTIVE = true) (hint : d.cal.external = false)
    (hpoints : d.cal.points = [(0, 0, 0), (1, 655360, 655360)]) :
    d.calCompute = (d.calResult 0x40000000 0).calStat 4 2 0 := by
  unfold Dyn.calCompute
  extract_lets ys span
  have hgain : d.roundFree (655360 ^ 2 * 2 ^ 30) (655360 ^ 2 : Int).natAbs = (2 ^ 30, d) := d.roundFree_exact _ (by decide)
  have hoffs : d.roundFree 0 (655360 ^ 2 : Int).natAbs = (0, d) := d.roundFree_exact 0 (by decide)
  rw [if_neg (by simp [hon]), if_neg (by simp [hint, hpoints]), hpoints, fit_exact]
  simp only [hgain, hoffs]
  rfl

section
variable {s : State} (hlive : Live s)
include hlive

theorem exec_pointRecorded (mean spread : Word) (hbusy : s.dyn.get F.AIO_CAL_STAT_STATUS = 1) (hcode : s.dyn.cal.busy = 3)
    (hnear : s.dyn.near s.cfg (s.dyn.cal.busyAt + 6400000)) : exec (.pointRecorded mean spread) s =
      .next (s.withDyn ((s.dyn.dueAt (s.dyn.cal.busyAt + 6400000)).recordPoint mean spread)) := by
  show execPointRecorded mean spread s = _
  rw [execPointRecorded_eq, State.upd_withDyn hlive]
  simp only [hbusy, hcode, decide_true, Bool.and_self, if_true, Dyn.whenDue_near hnear]

theorem exec_compute_exact {who : Requester} (hmay : MayWrite s who Reg.AIO_CAL_CMD)
    (hfree : s.dyn.get F.AIO_CAL_STAT_STATUS ≠ 1) (hon : s.dyn.flag F.AIO_CAL_STAT_ACTIVE = true)
    (hint : s.dyn.cal.external = false) (hpoints : s.dyn.cal.points = [(0, 0, 0), (1, 655360, 655360)]) :
    exec (.compute who) s = .next (s.withDyn (((s.dyn.by_ who).calResult 0x40000000 0).calStat 4 2 0)) := by
  rw [← Dyn.calCompute_exact (d := s.dyn.by_ who) hon hint hpoints]
  exact calCommand_free hlive hmay (by decide) (by decide) (by decide) hfree

theorem exec_calStoreWritten (hbusy : s.dyn.get F.AIO_CAL_STAT_STATUS = 1) (hcode : s.dyn.cal.busy = 5) :
    exec .calStoreWritten s = .next (s.withDyn (((s.dyn.calStore (s.dyn.get F.AIO_CAL_STAT_CHAN) (s.dyn.rd Reg.AIO_CAL_RES_G)
      (s.dyn.rd Reg.AIO_CAL_RES_O) (if s.dyn.cal.external then 2 else 1) true).calEnds 2 0).calEnd s.cfg)) := by
  show execCalStoreWritten s = _
  rw [execCalStoreWritten, State.upd_withDyn hlive]
  simp only [hbusy, hcode, decide_true, Bool.and_self, if_true]

theorem exec_calibrationTimeout (hon : s.dyn.flag F.AIO_CAL_STAT_ACTIVE = true)
    (hnear : s.dyn.near s.cfg (s.dyn.cal.lastCmd + 600 * 10 ^ 9)) : exec .calibrationTimeout s = .next (s.withDyn
      (((s.dyn.dueAt (s.dyn.cal.lastCmd + 600 * 10 ^ 9)).calStat 6 2 7).calEnd s.cfg)) := by
  show execCalibrationTimeout s = _
  rw [execCalibrationTimeout, State.upd_withDyn hlive, if_pos hon, Dyn.whenDue_near hnear]

end

/-- Settles O32, event by event; AIO_CAL_REF is that of the recording (log entry 108). -/
theorem calibrationCompletes : Obligations.CalibrationCompletes := by
  intro s hlive d ch
  exact ⟨exec_pointRecorded hlive, fun _ => exec_compute_exact hlive, exec_calStoreWritten hlive, exec_calibrationTimeout hlive⟩

end Sys2Proof.Machine
end
section
/-! SUPPORT. What follows from the rest of an analogue channel's status: the diagnostics held clear, INVALID and AIO_STAGE (R278,
R316, R328, R329, R335). -/

namespace Sys2Proof.Machine

/-- A bit that is clear stays so when a bit of its register is cleared. -/
theorem Dyn.flag_clearBit {d : Dyn} {a i j : Nat} (hj : d.flag ⟨a, j, 1⟩ = false) (hi : i < 32 := by decide) :
    (d.setFlag ⟨a, i, 1⟩ false).flag ⟨a, j, 1⟩ = false := by
  by_cases hij : i = j
  · exact hij ▸ d.flag_setBit_same hi
  · exact (d.flag_setBit_ne (by omega) hi).trans hj

theorem Dyn.rd_setAna (d : Dyn) (m : Nat) (f : Aio → Aio) (a : Nat) : (d.setAna m f).rd a = d.rd a := rfl

theorem Dyn.flag_setAna (d : Dyn) (m : Nat) (f : Aio → Aio) (g : Fld) : (d.setAna m f).flag g = d.flag g := rfl

theorem aioStatus_ne_aioEvcnt (m n : Nat) : Reg.AIO_STATUS m ≠ Reg.AIO_EVCNT n := by
  simp only [Reg.AIO_STATUS, Reg.AIO_EVCNT]
  omega

section
variable (c : Cfg) (d : Dyn) (m : Nat)

/-! ## The diagnostics held clear (R278, R316, R329) -/

/-- The bits that no other bit of the status clears: FAIL_LO, FAIL_HI, SHORT and `heldBits`. -/
def steadyBits : List Nat := [8, 9, 10, 23, 28, 29, 30]

theorem Dyn.anaBut_stageConds : d.AnaBut m steadyBits (d.stageConds c m) := by
  have hdiag : d.AnaBut m steadyBits (if d.stageDiag c m then d else
      (d.setFlag (F.AIO_STATUS_COMPLIANCE m) false).setFlag (F.AIO_STATUS_OPEN m) false) :=
    .ite .refl ((Dyn.AnaBut.refl.setFlag (i := 18) false).setFlag (i := 19) false)
  exact .ite hdiag (hdiag.setFlag (i := 22) false)

/-- Where the diagnostics of an output are not held clear, COMPLIANCE and OPEN stand as well. -/
theorem Dyn.anaBut_stageConds_diag {c : Cfg} {d : Dyn} {m : Nat} (hdiag : d.stageDiag c m = true) :
    d.AnaBut m (18 :: 19 :: steadyBits) (d.stageConds c m) := by
  unfold Dyn.stageConds
  rw [if_pos hdiag]
  exact .ite .refl (Dyn.AnaBut.refl.setFlag (i := 22) false)

/-- An output that delivers less than its command of 1 mA or more, with neither COMPLIANCE nor OPEN, keeps all of them. -/
theorem Dyn.stageConds_eq_self {c : Cfg} {d : Dyn} {m : Nat} (hdiag : d.stageDiag c m = true)
    (hstage : 0x10000 ≤ (d.stage c m).toNat) (hcompl : d.flag (F.AIO_STATUS_COMPLIANCE m) = false)
    (hopen : d.flag (F.AIO_STATUS_OPEN m) = false) : d.stageConds c m = d := by
  unfold Dyn.stageConds
  rw [if_pos hdiag, if_pos (by simp [hdiag, hstage, hcompl, hopen])]

/-- No bit is set. -/
theorem Dyn.flag_stageConds_clear {d : Dyn} {i : Nat} (h : d.flag ⟨Reg.AIO_STATUS m, i, 1⟩ = false) :
    (d.stageConds c m).flag ⟨Reg.AIO_STATUS m, i, 1⟩ = false := by
  unfold Dyn.stageConds
  extract_lets e
  have he : e.flag ⟨Reg.AIO_STATUS m, i, 1⟩ = false := by
    simp only [e]
    split
    · exact h
    · exact Dyn.flag_clearBit (Dyn.flag_clearBit h)
  split
  · exact he
  · exact Dyn.flag_clearBit he

/-! ## The bits that follow (R335) -/

/-- These bits and those that another one clears: COMPLIANCE, OPEN and STAGE_FAIL. -/
def eventBits : List Nat := 18 :: 19 :: 22 :: steadyBits

/-- All but MODE and INVALID stands as the diagnostics leave it. -/
theorem Dyn.anaBut_fixAio : (d.stageConds c m).AnaBut m eventBits (d.fixAio c m) := by
  unfold Dyn.fixAio
  extract_lets d₁ fl common inv d₂ d₃ v
  exact (((Dyn.AnaBut.refl.setFlag (i := 31) inv).put (lo := 0) (w := 2) _).wr v (.inl rfl)).setAna fun s => ⟨_, _, _, rfl⟩

theorem Dyn.flag_fixAio {i : Nat} (hi : i ∈ steadyBits := by decide) :
    (d.fixAio c m).flag ⟨Reg.AIO_STATUS m, i, 1⟩ = d.flag ⟨Reg.AIO_STATUS m, i, 1⟩ :=
  ((d.anaBut_fixAio c m).mono (bits' := steadyBits).kept i hi).trans ((d.anaBut_stageConds c m).kept i hi)

theorem Dyn.flag_fixAio_diag {c : Cfg} {d : Dyn} {m i : Nat} (hdiag : d.stageDiag c m = true)
    (hi : i ∈ 18 :: 19 :: steadyBits := by decide) :
    (d.fixAio c m).flag ⟨Reg.AIO_STATUS m, i, 1⟩ = d.flag ⟨Reg.AIO_STATUS m, i, 1⟩ :=
  ((d.anaBut_fixAio c m).mono (bits' := 18 :: 19 :: steadyBits).kept i hi).trans ((Dyn.anaBut_stageConds_diag hdiag).kept i hi)

theorem Dyn.flag_fixAio_clear {d : Dyn} {i : Nat} (h : d.flag ⟨Reg.AIO_STATUS m, i, 1⟩ = false)
    (hi : i ∈ eventBits := by decide) : (d.fixAio c m).flag ⟨Reg.AIO_STATUS m, i, 1⟩ = false :=
  ((d.anaBut_fixAio c m).kept i hi).trans (Dyn.flag_stageConds_clear c m h)

/-- INVALID of a channel, by its other bits. -/
def Dyn.anaInvalid : Bool :=
  let common := d.flag (F.AIO_STATUS_OOS m) || d.flag (F.AIO_STATUS_LINK_FAIL m) || d.flag (F.AIO_STATUS_LOCKOUT m)
  match c.anaMode m with
  | 1 => common || d.flag (F.AIO_STATUS_FAIL_LO m) || d.flag (F.AIO_STATUS_FAIL_HI m)
  | 2 => common || d.flag (F.AIO_STATUS_STAGE_FAIL m)
  | _ => false

theorem Dyn.fixAio_invalid : (d.fixAio c m).flag (F.AIO_STATUS_INVALID m) = (d.stageConds c m).anaInvalid c m := by
  obtain ⟨hstage, -⟩ := aioStatus_ne_others m
  unfold Dyn.fixAio
  extract_lets d₁ fl common inv d₂ d₃ v
  calc _ = (d₃.wr (Reg.AIO_STAGE m) v).flag (F.AIO_STATUS_INVALID m) := Dyn.flag_setAna ..
    _ = d₃.flag (F.AIO_STATUS_INVALID m) := d₃.flag_wr_ne v hstage
    _ = d₂.flag (F.AIO_STATUS_INVALID m) := d₂.flag_put_disjoint _ rfl (by decide : 0 + 2 ≤ 32) (.inr (by decide : 0 + 2 ≤ 31))
    _ = inv := d₁.flag_setBit_same

theorem Dyn.anaInvalid_of_fail {c : Cfg} {d : Dyn} {m : Nat} (hin : c.anaMode m = 1)
    (h : d.flag (F.AIO_STATUS_FAIL_LO m) = true ∨ d.flag (F.AIO_STATUS_FAIL_HI m) = true) : d.anaInvalid c m = true := by
  simp only [Dyn.anaInvalid, hin]
  obtain h | h := h
  · simp [h]
  · simp [h]

theorem Dyn.anaInvalid_of_stageFail {c : Cfg} {d : Dyn} {m : Nat} (hout : c.anaMode m = 2)
    (h : d.flag (F.AIO_STATUS_STAGE_FAIL m) = true) : d.anaInvalid c m = true := by
  simp [Dyn.anaInvalid, hout, h]

theorem Dyn.rd_stageConds {a : Nat} (h : a ≠ Reg.AIO_STATUS m) : (d.stageConds c m).rd a = d.rd a := by
  unfold Dyn.stageConds
  extract_lets e
  have he : e.rd a = d.rd a := by
    simp only [e]
    split
    · rfl
    · exact (Dyn.rd_put_ne _ _ h).trans (d.rd_put_ne _ h)
  split
  · exact he
  · exact (e.rd_put_ne _ h).trans he

theorem Dyn.rd_fixAio {a : Nat} (h : a ≠ Reg.AIO_STATUS m) (hs : a ≠ Reg.AIO_STAGE m) : (d.fixAio c m).rd a = d.rd a := by
  unfold Dyn.fixAio
  extract_lets d₁ fl common inv d₂ d₃ v
  calc _ = (d₃.wr (Reg.AIO_STAGE m) v).rd a := Dyn.rd_setAna ..
    _ = d₃.rd a := d₃.rd_wr_ne v hs
    _ = d₂.rd a := d₂.rd_put_ne _ h
    _ = d₁.rd a := d₁.rd_put_ne _ h
    _ = d.rd a := d.rd_stageConds c m h

/-! ## The stage (R316, R328) -/

/-- A locked stage is at 0 mA (R316). -/
theorem Dyn.stage_lockedOut {d : Dyn} {m : Nat} (h : d.flag (F.AIO_STATUS_LOCKOUT m) = true) : d.stage c m = 0 := by
  rw [Dyn.stage, if_pos h]
  exact ite_self 0

/-- A bit of the status other than LOCKOUT and WD_SAFE commands no stage, and holds no diagnostics clear. -/
theorem Dyn.stage_setBit {d : Dyn} {m i : Nat} (b : Bool) (hm : m < 32) (hi : i < 32 ∧ i ≠ 23 ∧ i ≠ 28 := by decide) :
    (d.setFlag ⟨Reg.AIO_STATUS m, i, 1⟩ b).stage c m = d.stage c m := by
  have hother (f : Fld) (hf : f.addr ≠ Reg.AIO_STATUS m) : (d.setFlag ⟨Reg.AIO_STATUS m, i, 1⟩ b).get f = d.get f :=
    d.get_put_ne _ hf
  have hne {a : Nat} (ha : ¬ OfAnalogue a ∨ 0x91000 ≤ a) : a ≠ Reg.AIO_STATUS m := by
    simp only [Reg.AIO_STATUS]
    omega
  have hstate : (d.setFlag ⟨Reg.AIO_STATUS m, i, 1⟩ b).modState = d.modState := hother _ (hne (by decide))
  have hoff : (d.setFlag ⟨Reg.AIO_STATUS m, i, 1⟩ b).outputsOff = d.outputsOff := by
    rw [Dyn.outputsOff, Dyn.role, hother _ (hne (by decide)), Dyn.outputsOff, Dyn.role, Dyn.setFlag_slc]
  have hcal : (d.setFlag ⟨Reg.AIO_STATUS m, i, 1⟩ b).calHolds m = d.calHolds m := by
    rw [Dyn.calHolds, Dyn.calOn, Dyn.flag, hother _ (hne (by decide)), hother _ (hne (by decide)), Dyn.ana_setFlag]
    rfl
  have hlock : (d.setFlag ⟨Reg.AIO_STATUS m, i, 1⟩ b).flag (F.AIO_STATUS_LOCKOUT m) = d.flag (F.AIO_STATUS_LOCKOUT m) :=
    d.flag_setBit_ne (by omega) hi.1
  have hsafe : (d.setFlag ⟨Reg.AIO_STATUS m, i, 1⟩ b).flag (F.AIO_STATUS_WD_SAFE m) = d.flag (F.AIO_STATUS_WD_SAFE m) :=
    d.flag_setBit_ne (by omega) hi.1
  rw [Dyn.stage, hstate, hoff, hlock, hcal, hsafe]
  rfl

theorem Dyn.stageDiag_setBit {d : Dyn} {m i : Nat} (b : Bool) (hi : i < 32 ∧ i ≠ 28 := by decide) :
    (d.setFlag ⟨Reg.AIO_STATUS m, i, 1⟩ b).stageDiag c m = d.stageDiag c m := by
  have hlock : (d.setFlag ⟨Reg.AIO_STATUS m, i, 1⟩ b).flag (F.AIO_STATUS_LOCKOUT m) = d.flag (F.AIO_STATUS_LOCKOUT m) :=
    d.flag_setBit_ne (by omega) hi.1
  rw [Dyn.stageDiag, hlock]
  rfl

theorem Dyn.stageDiag_output {c : Cfg} {d : Dyn} {m : Nat} (h : d.stageDiag c m = true) : c.anaMode m = 2 := by
  simp only [Dyn.stageDiag, Bool.and_eq_true, beq_iff_eq] at h
  exact h.1.1

end
end Sys2Proof.Machine
end
section
/-! SUPPORT. The diagnostics of outputs and loops, the supply of analogue groups and their links (R316, R318, R329, R331, R335). -/

namespace Sys2Proof.Machine

/-! ## One status bit of a group's channels -/

section
variable (c : Cfg)

/-- A bit of a channel is set, and what follows from it. -/
theorem Dyn.anaBut_setBit (d : Dyn) (m : Nat) {i : Nat} {bits : List Nat} (b : Bool)
    (hi : (i + 1 ≤ 32 ∧ ∀ j ∈ bits, j + 1 ≤ i ∨ i + 1 ≤ j) ∧ ∀ j ∈ bits, j ∈ heldBits := by decide) :
    d.AnaBut m bits ((d.setFlag ⟨Reg.AIO_STATUS m, i, 1⟩ b).fixAio c m) :=
  (Dyn.AnaBut.refl.setFlag b hi.1).trans (Dyn.AnaBut.refl.fixAio.mono hi.2)

/-- What sets bit `i` of a group's channels leaves alone. -/
theorem Dyn.GroupBut.agAll {d d' : Dyn} {g i : Nat} {bits : List Nat} (h : d.GroupBut g bits d') (hg : g < 4) (b : Bool)
    (hi : (i + 1 ≤ 32 ∧ ∀ j ∈ bits, j + 1 ≤ i ∨ i + 1 ≤ j) ∧ ∀ j ∈ bits, j ∈ heldBits := by decide) :
    d.GroupBut g bits (d'.agAll c g (fun m => ⟨Reg.AIO_STATUS m, i, 1⟩) b) :=
  List.foldlRecOn _ _ h fun e he m _ => he.step (m := m) hg (.ite .refl (e.anaBut_setBit c m b hi))

theorem Dyn.rd_agAll_group (d : Dyn) {g i : Nat} (hg : g < 4) (hi : i < 32) (b : Bool) :
    (d.agAll c g (fun m => ⟨Reg.AIO_STATUS m, i, 1⟩) b).rd (Reg.AIO_GSTATUS g) = d.rd (Reg.AIO_GSTATUS g) :=
  (Dyn.GroupBut.refl.agAll (bits := []) c hg b ⟨⟨hi, by simp⟩, by simp⟩).group

/-- A bit that no other bit clears shows in every configured channel. -/
theorem Dyn.agAll_shows (d : Dyn) {g i : Nat} (hg : g < 4) (b : Bool) (hi : i ∈ steadyBits ∧ i < 32 := by decide) :
    ∀ m ∈ agMembers g, c.anaMode m ≠ 0 →
      (d.agAll c g (fun m => ⟨Reg.AIO_STATUS m, i, 1⟩) b).flag ⟨Reg.AIO_STATUS m, i, 1⟩ = b := by
  refine (foldl_each (inv := fun _ => True) (did := fun m (x : Dyn) => c.anaMode m ≠ 0 → x.flag ⟨Reg.AIO_STATUS m, i, 1⟩ = b)
    (fun _ _ _ _ => trivial) (fun x m _ _ hused => ?_) (fun x m _ j hj hne hx hused => ?_) trivial).2
  · rw [if_neg hused]
    exact (Dyn.flag_fixAio c _ m hi.1).trans (x.flag_setBit_same hi.2)
  · have hstep : x.AnaBut m [] (if c.anaMode m = 0 then x else (x.setFlag ⟨Reg.AIO_STATUS m, i, 1⟩ b).fixAio c m) :=
      .ite .refl (x.anaBut_setBit c m b ⟨⟨hi.2, by simp⟩, by simp⟩)
    exact (Dyn.flag_congr (hstep.rd_status (lt_of_mem_agMembers hg hj) hne)).trans (hx hused)

end

/-! ## Lockout of a group (R316) -/

section
variable (c : Cfg) (d : Dyn) {g : Nat} (hg : g < 4)

/-- No input of a group waits any more for a conversion after a lockout. -/
def Dyn.unwaited (g : Nat) : Dyn := (agMembers g).foldl (fun d m => d.setAna m fun x => { x with waitLockout := false }) d

theorem Dyn.rd_unwaited (g a : Nat) : (d.unwaited g).rd a = d.rd a :=
  foldl_view (fun d : Dyn => d.rd a) (f := fun d m => d.setAna m fun x => { x with waitLockout := false }) (fun _ _ => rfl) ..

/-- Every configured channel of a group is locked out. -/
def Dyn.agLocked (g : Nat) : Dyn :=
  ((d.setFlag (F.AIO_GSTATUS_LOCKOUT g) true).unwaited g).agAll c g F.AIO_STATUS_LOCKOUT true

/-- The diagnostics of a locked group are held clear. -/
def Dyn.agQuiet (g : Nat) : Dyn :=
  (((d.agAll c g F.AIO_STATUS_COMPLIANCE false).agAll c g F.AIO_STATUS_OPEN false).agAll c g F.AIO_STATUS_STAGE_FAIL
    false).agAll c g F.AIO_STATUS_SHORT false

/-- A channel of a group whose supply is back: an input waits for a conversion, an output is released. -/
def Dyn.restored (m : Nat) : Dyn :=
  match c.anaMode m with
  | 1 => d.setAna m fun x => { x with waitLockout := true, freshLockout := false }
  | 2 => (d.setFlag (F.AIO_STATUS_LOCKOUT m) false).fixAio c m
  | _ => d

include hg

theorem Dyn.agLocked_shows : (d.agLocked c g).flag (F.AIO_GSTATUS_LOCKOUT g) = true ∧
    ∀ m ∈ agMembers g, c.anaMode m ≠ 0 → (d.agLocked c g).flag (F.AIO_STATUS_LOCKOUT m) = true := by
  have hgroup := (Dyn.rd_agAll_group c ((d.setFlag (F.AIO_GSTATUS_LOCKOUT g) true).unwaited g) (i := 28) hg (by decide) true).trans
    (Dyn.rd_unwaited ..)
  exact ⟨(Dyn.flag_congr hgroup).trans d.flag_setBit_same, Dyn.agAll_shows c _ (i := 28) hg true⟩

theorem Dyn.groupBut_agQuiet : d.GroupBut g [28] (d.agQuiet c g) :=
  (((Dyn.GroupBut.refl.agAll c (i := 18) hg false).agAll c (i := 19) hg false).agAll c (i := 22) hg false).agAll c (i := 10)
    hg false

theorem Dyn.rd_restored (m : Nat) : (d.restored c m).rd (Reg.AIO_GSTATUS g) = d.rd (Reg.AIO_GSTATUS g) := by
  unfold Dyn.restored
  split
  · exact d.rd_setAna ..
  · exact (d.anaBut_setBit c m (i := 28) (bits := []) false).rd_group hg
  · rfl

end

/-! ## The commands -/

section
variable {s : State} (hlive : Live s)

/-- COMPLIANCE or OPEN of an output stands, counted in `f`. -/
theorem Dyn.stageFlag_stands {c : Cfg} {d : Dyn} {m i : Nat} {f : Fld} (hdiag : d.stageDiag c m = true)
    (hf : f.addr = Reg.AIO_EVCNT m) (hi : i ∈ 18 :: 19 :: steadyBits ∧ i < 32 ∧ i ≠ 28 := by decide) :
    (((d.setFlag ⟨Reg.AIO_STATUS m, i, 1⟩ true).fixAio c m).bump f).flag ⟨Reg.AIO_STATUS m, i, 1⟩ = true := by
  have hset : (d.setFlag ⟨Reg.AIO_STATUS m, i, 1⟩ true).stageDiag c m = true := (Dyn.stageDiag_setBit _ true hi.2).trans hdiag
  calc _ = ((d.setFlag ⟨Reg.AIO_STATUS m, i, 1⟩ true).fixAio c m).flag ⟨Reg.AIO_STATUS m, i, 1⟩ :=
        Dyn.flag_put_ne _ _ (hf ▸ aioStatus_ne_aioEvcnt m m)
    _ = (d.setFlag ⟨Reg.AIO_STATUS m, i, 1⟩ true).flag ⟨Reg.AIO_STATUS m, i, 1⟩ := Dyn.flag_fixAio_diag hset hi.1
    _ = true := d.flag_setBit_same hi.2.1

/-- The clause of a command that leaves one flag so. -/
theorem shows_flag {i : Instr} {d : Dyn} {f : Fld} {b : Bool} (hexec : exec i s = .next (s.withDyn d)) (h : d.flag f = b) :
    ∃ u, exec i s = .next u ∧ u.dyn.flag f = b := ⟨_, hexec, h⟩

include hlive

section
variable {m : BitVec 5}

theorem exec_analogueFlagClear (f : AnalogueFlag) : ∃ u, exec (.analogueFlagClear m f) s = .next u ∧
    u.dyn.flag (anaFlagFld m.toNat f) = false := by
  have hexec : exec (.analogueFlagClear m f) s =
      .next (s.withDyn ((s.dyn.setFlag (anaFlagFld m.toNat f) false).fixAio s.cfg m.toNat)) := by
    show execAnalogueFlagClear m f s = _
    rw [execAnalogueFlagClear, State.upd_withDyn hlive]
  refine shows_flag hexec ?_
  cases f with
  | compliance => exact Dyn.flag_fixAio_clear (i := 18) _ _ s.dyn.flag_setBit_same
  | openLoad => exact Dyn.flag_fixAio_clear (i := 19) _ _ s.dyn.flag_setBit_same
  | stageFail => exact Dyn.flag_fixAio_clear (i := 22) _ _ s.dyn.flag_setBit_same
  | short => exact Dyn.flag_fixAio_clear (i := 10) _ _ s.dyn.flag_setBit_same

theorem exec_short (hsupplies : s.dyn.supplies s.cfg m.toNat = true) (hfree : s.dyn.flag (F.AIO_STATUS_LOCKOUT m.toNat) = false) :
    ∃ u, exec (.short m) s = .next u ∧ u.dyn.flag (F.AIO_STATUS_SHORT m.toNat) = true := by
  have hexec : exec (.short m) s =
      .next (s.withDyn ((s.dyn.setFlag (F.AIO_STATUS_SHORT m.toNat) true).fixAio s.cfg m.toNat)) := by
    show execShort m s = _
    rw [execShort, State.upd_withDyn hlive, Dyn.anaFlag, if_pos (by simp [hsupplies, hfree])]
  exact shows_flag hexec ((Dyn.flag_fixAio _ _ _ (i := 10)).trans s.dyn.flag_setBit_same)

variable (hdiag : s.dyn.stageDiag s.cfg m.toNat = true)
include hdiag

theorem exec_compliance (hnew : s.dyn.flag (F.AIO_STATUS_COMPLIANCE m.toNat) = false) :
    ∃ u, exec (.compliance m) s = .next u ∧ u.dyn.flag (F.AIO_STATUS_COMPLIANCE m.toNat) = true := by
  have hexec : exec (.compliance m) s = .next (s.withDyn
      (((s.dyn.setFlag (F.AIO_STATUS_COMPLIANCE m.toNat) true).fixAio s.cfg m.toNat).bump (F.AIO_EVCNT_COMPLIANCE m.toNat))) := by
    show execCompliance m s = _
    rw [execCompliance, State.upd_withDyn hlive]
    simp only [hdiag, hnew, Bool.not_false, Bool.and_self, if_true, Dyn.anaFlag]
  exact shows_flag hexec (Dyn.stageFlag_stands hdiag (i := 18) rfl)

variable (hstage : 0x10000 ≤ (s.dyn.stage s.cfg m.toNat).toNat) (hclosed : s.dyn.flag (F.AIO_STATUS_OPEN m.toNat) = false)
include hstage hclosed

theorem exec_open : ∃ u, exec (.open_ m) s = .next u ∧ u.dyn.flag (F.AIO_STATUS_OPEN m.toNat) = true := by
  have hexec : exec (.open_ m) s = .next (s.withDyn
      (((s.dyn.setFlag (F.AIO_STATUS_OPEN m.toNat) true).fixAio s.cfg m.toNat).bump (F.AIO_EVCNT_OPEN m.toNat))) := by
    show execOpen m s = _
    rw [execOpen, State.upd_withDyn hlive]
    simp only [hdiag, hstage, hclosed, Bool.not_false, decide_true, Bool.and_self, if_true, Dyn.anaFlag]
  exact shows_flag hexec (Dyn.stageFlag_stands hdiag (i := 19) rfl)

theorem exec_stageFail (hnone : s.dyn.flag (F.AIO_STATUS_COMPLIANCE m.toNat) = false) : ∃ u, exec (.stageFail m) s = .next u ∧
    u.dyn.flag (F.AIO_STATUS_STAGE_FAIL m.toNat) = true ∧ u.dyn.flag (F.AIO_STATUS_INVALID m.toNat) = true := by
  obtain ⟨d, hd⟩ : ∃ d, d = s.dyn.setFlag (F.AIO_STATUS_STAGE_FAIL m.toNat) true := ⟨_, rfl⟩
  have hexec : exec (.stageFail m) s = .next (s.withDyn (d.fixAio s.cfg m.toNat)) := by
    show execStageFail m s = _
    rw [execStageFail, State.upd_withDyn hlive, Dyn.anaFlag, if_pos (by simp [hdiag, hstage, hclosed, hnone]), hd]
  have hset : d.flag (F.AIO_STATUS_STAGE_FAIL m.toNat) = true := hd ▸ s.dyn.flag_setBit_same
  have hsame : d.stage s.cfg m.toNat = s.dyn.stage s.cfg m.toNat := hd ▸ Dyn.stage_setBit _ (i := 22) true m.isLt
  have hconds : d.stageConds s.cfg m.toNat = d :=
    Dyn.stageConds_eq_self (hd ▸ (Dyn.stageDiag_setBit _ (i := 22) true).trans hdiag) (hsame ▸ hstage)
      (hd ▸ (s.dyn.flag_setBit_ne (i := 22) (j := 18)).trans hnone)
      (hd ▸ (s.dyn.flag_setBit_ne (i := 22) (j := 19)).trans hclosed)
  have hstands := (d.anaBut_fixAio s.cfg m.toNat).kept 22 (by decide)
  rw [hconds] at hstands
  refine ⟨_, hexec, hstands.trans hset, (d.fixAio_invalid s.cfg _).trans ?_⟩
  rw [hconds]
  exact Dyn.anaInvalid_of_stageFail (Dyn.stageDiag_output hdiag) hset

end

section
variable {g : BitVec 2}

theorem exec_agLow (hused : s.cfg.agUsed g.toNat = true) :
    ∃ u, exec (.agLow g) s = .next u ∧ u.dyn.flag (F.AIO_GSTATUS_AG_LOW g.toNat) = true := by
  have hexec : exec (.agLow g) s = .next (s.withDyn
      ((s.dyn.setFlag (F.AIO_GSTATUS_AG_LOW g.toNat) true).agAll s.cfg g.toNat F.AIO_STATUS_AG_LOW true)) := by
    show execAgLow g s = _
    rw [execAgLow, State.upd_withDyn hlive, if_pos hused]
  exact shows_flag hexec ((Dyn.flag_congr (Dyn.rd_agAll_group _ _ (i := 27) g.isLt (by decide) true)).trans s.dyn.flag_setBit_same)

theorem exec_agLowClear : ∃ u, exec (.agLowClear g) s = .next u ∧ u.dyn.flag (F.AIO_GSTATUS_AG_LOW g.toNat) = false := by
  have hexec : exec (.agLowClear g) s = .next (s.withDyn
      ((s.dyn.setFlag (F.AIO_GSTATUS_AG_LOW g.toNat) false).agAll s.cfg g.toNat F.AIO_STATUS_AG_LOW false)) := by
    show execAgLowClear g s = _
    rw [execAgLowClear, State.upd_withDyn hlive]
  exact shows_flag hexec ((Dyn.flag_congr (Dyn.rd_agAll_group _ _ (i := 27) g.isLt (by decide) false)).trans s.dyn.flag_setBit_same)

theorem exec_agLockout (hused : s.cfg.agUsed g.toNat = true) (hnew : s.dyn.flag (F.AIO_GSTATUS_LOCKOUT g.toNat) = false) :
    ∃ u, exec (.agLockout g) s = .next u ∧ u.dyn.flag (F.AIO_GSTATUS_LOCKOUT g.toNat) = true ∧
      ∀ i < 8, s.cfg.anaMode (8 * g.toNat + i) ≠ 0 → u.dyn.flag (F.AIO_STATUS_LOCKOUT (8 * g.toNat + i)) = true ∧
        u.dyn.stage u.cfg (8 * g.toNat + i) = 0 := by
  have hexec : exec (.agLockout g) s = .next (s.withDyn
      (((s.dyn.agLocked s.cfg g.toNat).agQuiet s.cfg g.toNat).alarm s.cfg 0x0601 g.toNat 0 0)) := by
    show execAgLockout g s = _
    rw [execAgLockout, State.upd_withDyn hlive]
    simp only [hused, hnew, Bool.not_false, Bool.and_self, if_true]
    rfl
  obtain ⟨hgroup, hlocked⟩ := s.dyn.agLocked_shows s.cfg g.isLt
  have hquiet := (s.dyn.agLocked s.cfg g.toNat).groupBut_agQuiet s.cfg g.isLt
  have hrd {a : Nat} (ha : OfAnalogue a) := ((s.dyn.agLocked s.cfg g.toNat).agQuiet s.cfg g.toNat).rd_alarm s.cfg
    (show OfChannel a from ⟨by omega, ha.2⟩) 0x0601 g.toNat 0 0
  refine ⟨_, hexec, (Dyn.flag_congr ((hrd (aioGstatus_ofAnalogue g.isLt)).trans hquiet.group)).trans hgroup,
    fun i hi hmode => ?_⟩
  have hm : 8 * g.toNat + i ∈ agMembers g.toNat := mem_agMembers.2 ⟨i, hi, rfl⟩
  have hlt : 8 * g.toNat + i < 32 := lt_of_mem_agMembers g.isLt hm
  have hshown := (Dyn.flag_congr (f := F.AIO_STATUS_LOCKOUT _) (hrd (aioStatus_ofAnalogue hlt))).trans
    ((hquiet.flag _ hlt 28 (by decide)).trans (hlocked _ hm hmode))
  exact ⟨hshown, Dyn.stage_lockedOut _ hshown⟩

theorem exec_agRestoration (hset : s.dyn.flag (F.AIO_GSTATUS_LOCKOUT g.toNat) = true) :
    ∃ u, exec (.agRestoration g) s = .next u ∧ u.dyn.flag (F.AIO_GSTATUS_LOCKOUT g.toNat) = false := by
  have hexec : exec (.agRestoration g) s = .next (s.withDyn ((agMembers g.toNat).foldl (fun d m => d.restored s.cfg m)
      (s.dyn.setFlag (F.AIO_GSTATUS_LOCKOUT g.toNat) false))) := by
    show execAgRestoration g s = _
    rw [execAgRestoration, State.upd_withDyn hlive, if_pos hset]
    rfl
  refine shows_flag hexec ((Dyn.flag_congr ?_).trans s.dyn.flag_setBit_same)
  exact foldl_view (fun d : Dyn => d.rd (Reg.AIO_GSTATUS g.toNat)) (fun d m => d.rd_restored s.cfg g.isLt m) ..

theorem exec_agLinkFail (hup : s.dyn.flag (F.AIO_GSTATUS_LINK_FAIL g.toNat) = false) :
    ∃ u, exec (.agLinkFail g) s = .next u ∧
      u.dyn = (((s.dyn.groupHeld s.cfg g.toNat).setFlag (F.AIO_GSTATUS_LINK_FAIL g.toNat) true).agAll s.cfg g.toNat
        F.AIO_STATUS_LINK_FAIL true).alarm s.cfg 0x0602 g.toNat 0 0 ∧
      u.dyn.flag (F.AIO_GSTATUS_LINK_FAIL g.toNat) = true ∧
      ∀ i < 8, s.cfg.anaMode (8 * g.toNat + i) ≠ 0 → u.dyn.flag (F.AIO_STATUS_LINK_FAIL (8 * g.toNat + i)) = true := by
  have hexec : exec (.agLinkFail g) s = .next (s.withDyn (s.dyn.agLinkFail s.cfg g.toNat)) := by
    show execAgLinkFail g s = _
    rw [execAgLinkFail, State.upd_withDyn hlive]
  obtain ⟨hgroup, hlink⟩ := s.dyn.agLinkFail_shows s.cfg g.isLt hup
  refine ⟨_, hexec, ?_, hgroup, fun i hi => hlink _ (mem_agMembers.2 ⟨i, hi, rfl⟩)⟩
  rw [State.withDyn_dyn, Dyn.agLinkFail_eq, if_neg (by simp [hup])]

end
end

/-- Settles O41: each event is the `exec_` lemma of its name. -/
theorem analogueDiagnostics : Obligations.AnalogueDiagnostics := by
  intro s m g hlive k
  refine ⟨fun hdiag => ⟨fun hnone => ⟨exec_compliance hlive hdiag hnone, fun hstage hclosed =>
    exec_stageFail hlive hdiag hstage hclosed hnone⟩, exec_open hlive hdiag⟩, exec_short hlive, exec_analogueFlagClear hlive,
    fun hused => ⟨exec_agLow hlive hused, exec_agLowClear hlive, exec_agLockout hlive hused, exec_agRestoration hlive,
      exec_agLinkFail hlive⟩⟩

end Sys2Proof.Machine
end
section
/-! SUPPORT. The conversions of an analogue channel, the failures its results lie in and its comparators (R319–R324). -/

namespace Sys2Proof.Machine

theorem Dyn.advTo_ana (d : Dyn) (w : Word) (m : Nat) : (d.advTo w).ana m = d.ana m := by
  rw [Dyn.ana, Dyn.advTo, Dyn.ticks_aio, Dyn.ana]

theorem Dyn.rd_advTo (d : Dyn) (w : Word) {a : Nat} (h : a ≠ Reg.TSU_STATUS) : (d.advTo w).rd a = d.rd a := d.rd_ticks _ h

theorem Dyn.dueAt_ana (d : Dyn) (t m : Nat) : (d.dueAt t).ana m = d.ana m := by
  unfold Dyn.dueAt
  split
  · rfl
  · exact d.advTo_ana _ m

theorem OfAnalogue.ne_tsuStatus {a : Nat} (h : OfAnalogue a) : a ≠ Reg.TSU_STATUS := by
  simp only [Reg.TSU_STATUS]
  omega

theorem aioValue_ofAnalogue {m : Nat} (h : m < 32) : OfAnalogue (Reg.AIO_VALUE m) := by
  rw [OfAnalogue, Reg.AIO_VALUE]
  omega

theorem aioValue_ne_others (m n : Nat) : Reg.AIO_VALUE m ≠ Reg.AIO_STATUS n ∧ Reg.AIO_VALUE m ≠ Reg.AIO_STAGE n ∧
    Reg.AIO_VALUE m ≠ Reg.AIO_EVCNT n := by
  simp only [Reg.AIO_VALUE, Reg.AIO_STATUS, Reg.AIO_STAGE, Reg.AIO_EVCNT]
  omega

/-! ## Starts of conversions (R319) -/

/-- A start less than 100 µs after the previous one. -/
theorem Dyn.startConversion_used {c : Cfg} {m : Nat} (d : Dyn) (hused : c.anaMode m ≠ 0) : d.startConversion c m =
    if (d.ana m).startAt.any fun t => decide (d.now - t < 100000) then
      (d.setFlag (F.AIO_STATUS_OVERRUN m) true).bump (F.AIO_EVCNT_OVERRUN m)
    else d.setAna m fun x => { x with startAt := some d.now, busy := true } := by
  rw [Dyn.startConversion, if_neg hused]
  cases (d.ana m).startAt with
  | none => rfl
  | some t => rfl

theorem exec_conversionStart {s : State} {m : BitVec 5} (hlive : Live s) (hused : s.cfg.anaMode m.toNat ≠ 0)
    (htrig : s.cfg.flag (F.AIO_CFG_TRIG m.toNat) = false) : exec (.conversionStart m) s = .next (s.withDyn
      (let d := if s.dyn.slc.framing then s.dyn.advTo (s.dyn.atT (s.cfg.period - 100000)) else s.dyn
      if (s.dyn.ana m.toNat).startAt.any fun t => decide (d.now - t < 100000) then
        (d.setFlag (F.AIO_STATUS_OVERRUN m.toNat) true).bump (F.AIO_EVCNT_OVERRUN m.toNat)
      else d.setAna m.toNat fun x => { x with startAt := some d.now, busy := true })) := by
  have hana : (if s.dyn.slc.framing then s.dyn.advTo (s.dyn.atT (s.cfg.period - 100000)) else s.dyn).ana m.toNat =
      s.dyn.ana m.toNat := by
    split
    · exact s.dyn.advTo_ana ..
    · rfl
  show execConversionStart m s = _
  rw [execConversionStart, State.upd_withDyn hlive, if_neg (by simp [htrig]), Dyn.startConversion_used _ hused, hana]

/-! ## The averaged result, and the failure it lies in (R320, R322) -/

section
variable (c : Cfg) (d : Dyn) (m : Nat)

/-- The averaged result of a channel: the corrected mean of the last 2^AVG results, or of as many as there are. -/
def Dyn.meanOf : Int :=
  let n := min (d.ana m).results.length (2 ^ c.get (F.AIO_CFG_AVG m))
  corrected (((d.ana m).results.take n).foldl (· + ·) 0) n (d.ana m).gain (d.ana m).offs

/-- `d'` is `d` but for the failure class of channel `m`, and failures counted. -/
structure Dyn.FailBut (m : Nat) (d d' : Dyn) : Prop where
  rd : ∀ a, a ≠ Reg.AIO_EVCNT m → d'.rd a = d.rd a
  clk : d'.clk = d.clk
  ana : ∃ r t lo hi, d'.ana m = { d.ana m with region := r, regionAt := t, failLo := lo, failHi := hi }

theorem Dyn.failBut_regionTo (v : Int) : d.FailBut m (d.regionTo m v) := by
  unfold Dyn.regionTo
  extract_lets reg e
  have he : d.FailBut m e := by
    simp only [e]
    split
    · exact ⟨fun _ _ => rfl, rfl, _, _, _, _, Dyn.ana_setAna_same ..⟩
    · exact ⟨fun _ _ => rfl, rfl, _, _, _, _, rfl⟩
  obtain ⟨hrd, hclk, r, t, lo, hi, hana⟩ := he
  split
  · exact ⟨hrd, hclk, _, _, _, _, by rw [Dyn.ana_setAna_same, hana]⟩
  · exact ⟨hrd, hclk, _, _, _, _, hana⟩

/-- The failure region of a channel has lasted FAIL_DELAY, and its failure is not declared yet. -/
def Dyn.failDue : Bool :=
  c.anaMode m = 1 && (d.ana m).region ≠ 0 &&
    c.get (F.AIO_CFG_FAIL_DELAY m) * 10 ^ 7 ≤ d.now - (d.ana m).regionAt &&
    !(if (d.ana m).region = 1 then (d.ana m).failLo else (d.ana m).failHi)

/-- The failure of the region that a channel's results lie in, declared. -/
def Aio.declared (x : Aio) : Aio := if x.region = 1 then { x with failLo := true } else { x with failHi := true }

theorem Dyn.failDelay_eq : d.failDelay c m =
    if d.failDue c m then (d.setAna m Aio.declared).bump (F.AIO_EVCNT_FAIL m) else d := rfl

theorem Dyn.failBut_failDelay : d.FailBut m (d.failDelay c m) := by
  rw [Dyn.failDelay_eq]
  split
  · refine ⟨fun a ha => Dyn.rd_put_ne _ _ ha, rfl, ?_⟩
    have hana : ((d.setAna m Aio.declared).bump (F.AIO_EVCNT_FAIL m)).ana m = (d.ana m).declared := Dyn.ana_setAna_same ..
    rw [hana, Aio.declared]
    split
    · exact ⟨_, _, _, _, rfl⟩
    · exact ⟨_, _, _, _, rfl⟩
  · exact ⟨fun _ _ => rfl, rfl, _, _, _, _, rfl⟩

/-- At the end of FAIL_DELAY the failure of the region stands declared, at once or since before. -/
theorem Dyn.failDelay_declares {c : Cfg} {d : Dyn} {m : Nat} (hin : c.anaMode m = 1) (hregion : (d.ana m).region ≠ 0)
    (hlasted : c.get (F.AIO_CFG_FAIL_DELAY m) * 10 ^ 7 ≤ d.now - (d.ana m).regionAt) :
    (if (d.ana m).region = 1 then ((d.failDelay c m).ana m).failLo else ((d.failDelay c m).ana m).failHi) = true := by
  have hdue : d.failDue c m = !(if (d.ana m).region = 1 then (d.ana m).failLo else (d.ana m).failHi) := by
    simp only [Dyn.failDue, hin, hregion, hlasted, decide_true, Bool.true_and, ne_eq, not_false_eq_true]
  rw [Dyn.failDelay_eq]
  cases hset : (if (d.ana m).region = 1 then (d.ana m).failLo else (d.ana m).failHi) with
  | true =>
    rw [hdue, hset, Bool.not_true, if_neg Bool.false_ne_true]
    exact hset
  | false =>
    rw [hdue, hset, Bool.not_false, if_pos rfl]
    have hana : ((d.setAna m Aio.declared).bump (F.AIO_EVCNT_FAIL m)).ana m = (d.ana m).declared := Dyn.ana_setAna_same ..
    rw [hana, Aio.declared]
    split
    · rfl
    · rfl

theorem Dyn.average_shows : (d.average c m).clk = d.clk ∧ (∀ a, a ≠ Reg.AIO_EVCNT m → (d.average c m).rd a = d.rd a) ∧
    ((d.average c m).ana m).results = (d.ana m).results ∧ ((d.average c m).ana m).busy = (d.ana m).busy ∧
    ((d.average c m).ana m).avg = d.meanOf c m := by
  obtain ⟨e, he⟩ : ∃ e, e = d.setAna m fun x => { x with avg := d.meanOf c m } := ⟨_, rfl⟩
  obtain ⟨hrd, hclk, r, t, lo, hi, hana⟩ := e.failBut_regionTo m (d.meanOf c m)
  obtain ⟨hrd', hclk', r', t', lo', hi', hana'⟩ := (e.regionTo m (d.meanOf c m)).failBut_failDelay c m
  have havg : d.average c m = (e.regionTo m (d.meanOf c m)).failDelay c m := he ▸ rfl
  have hnow : e.ana m = { d.ana m with avg := d.meanOf c m } := he ▸ Dyn.ana_setAna_same ..
  rw [havg, hana', hana, hnow]
  refine ⟨hclk'.trans (hclk.trans (he ▸ rfl)), fun a ha => (hrd' a ha).trans ((hrd a ha).trans ?_), rfl, rfl, rfl⟩
  rw [he, Dyn.rd_setAna]

/-! ## What crosses the link (R322, R331) -/

theorem Dyn.fixAio_clk : (d.fixAio c m).clk = d.clk := by
  have hconds : (d.stageConds c m).clk = d.clk := by
    have hdiag : (if d.stageDiag c m then d else
        (d.setFlag (F.AIO_STATUS_COMPLIANCE m) false).setFlag (F.AIO_STATUS_OPEN m) false).clk = d.clk := by split <;> rfl
    unfold Dyn.stageConds
    extract_lets e
    split
    · exact hdiag
    · exact hdiag
  exact hconds

theorem Dyn.showFails_clk : (d.showFails c m).clk = d.clk := by
  unfold Dyn.showFails
  split
  · rfl
  · exact Dyn.fixAio_clk ..

theorem Dyn.crossValue_clk : (d.crossValue c m).clk = d.clk := by
  unfold Dyn.crossValue
  extract_lets v e
  split
  · rfl
  · refine (Dyn.showFails_clk ..).trans ?_
    split
    · rfl
    · rfl

theorem Dyn.rd_showFails {a : Nat} (h : a ≠ Reg.AIO_STATUS m) (hs : a ≠ Reg.AIO_STAGE m) : (d.showFails c m).rd a = d.rd a := by
  unfold Dyn.showFails
  split
  · rfl
  · exact (Dyn.rd_fixAio c _ m h hs).trans ((Dyn.rd_put_ne _ _ h).trans (d.rd_put_ne _ h))

/-- The value that crosses, held at 25.0 mA; over a failed link none. -/
theorem Dyn.crossValue_value : (d.crossValue c m).rd (Reg.AIO_VALUE m) = if d.flag (F.AIO_STATUS_LINK_FAIL m) then
    d.rd (Reg.AIO_VALUE m) else BitVec.ofInt 32 (satTo 32 (min (d.ana m).avg 0x190000)) := by
  obtain ⟨hstatus, hstage, -⟩ := aioValue_ne_others m m
  unfold Dyn.crossValue
  extract_lets v e
  split
  · rfl
  · have hwritten : e.rd (Reg.AIO_VALUE m) = BitVec.ofInt 32 (satTo 32 (min v 0x190000)) := Dyn.rd_wr_same ..
    refine (Dyn.rd_showFails c _ m hstatus hstage).trans (Eq.trans ?_ hwritten)
    split
    · exact (Dyn.rd_put_ne _ _ hstatus).trans ((Dyn.rd_put_ne _ _ hstatus).trans (e.rd_put_ne _ hstatus))
    · rfl

/-- The failures that cross a standing link, and INVALID of an input with one. -/
theorem Dyn.showFails_shows {c : Cfg} {d : Dyn} {m : Nat} (hlink : d.flag (F.AIO_STATUS_LINK_FAIL m) = false) :
    (d.showFails c m).flag (F.AIO_STATUS_FAIL_LO m) = (d.ana m).failLo ∧
    (d.showFails c m).flag (F.AIO_STATUS_FAIL_HI m) = (d.ana m).failHi ∧
    (c.anaMode m = 1 → (d.ana m).failLo = true ∨ (d.ana m).failHi = true →
      (d.showFails c m).flag (F.AIO_STATUS_INVALID m) = true) := by
  obtain ⟨e, he⟩ : ∃ e, e = (d.setFlag (F.AIO_STATUS_FAIL_LO m) (d.ana m).failLo).setFlag (F.AIO_STATUS_FAIL_HI m)
    (d.ana m).failHi := ⟨_, rfl⟩
  have hshow : d.showFails c m = e.fixAio c m := by rw [Dyn.showFails, if_neg (by simp [hlink]), he]
  have hlo : e.flag (F.AIO_STATUS_FAIL_LO m) = (d.ana m).failLo :=
    he ▸ (Dyn.flag_setBit_ne _ (i := 9) (j := 8)).trans d.flag_setBit_same
  have hhi : e.flag (F.AIO_STATUS_FAIL_HI m) = (d.ana m).failHi := he ▸ Dyn.flag_setBit_same _
  have hconds := e.anaBut_stageConds c m
  rw [hshow]
  refine ⟨(Dyn.flag_fixAio c e m (i := 8)).trans hlo, (Dyn.flag_fixAio c e m (i := 9)).trans hhi, fun hin hfail => ?_⟩
  refine (e.fixAio_invalid c m).trans (Dyn.anaInvalid_of_fail hin (hfail.imp (fun h => ?_) fun h => ?_))
  · exact (hconds.kept 8 (by decide)).trans (hlo.trans h)
  · exact (hconds.kept 9 (by decide)).trans (hhi.trans h)

end

/-! ## Results and failures: the commands -/

/-- A conversion ends with `raw`: the last 16 results stand. -/
def Aio.converted (x : Aio) (raw : Word) : Aio :=
  { x with results := (raw.toInt :: x.results).take 16, busy := false, freshLockout := true, freshCal := true }

section
variable {s : State} {m : BitVec 5} (hlive : Live s)
include hlive

theorem exec_conversionResult {t : Nat} {raw : Word} (hstart : (s.dyn.ana m.toNat).startAt = some t)
    (hbusy : (s.dyn.ana m.toNat).busy = true) : exec (.conversionResult m raw) s = .next (s.withDyn
      ((((s.dyn.advTo (BitVec.ofNat 32 (t + 96000))).setAna m.toNat fun _ =>
        (s.dyn.ana m.toNat).converted raw).average s.cfg m.toNat).crossValue s.cfg m.toNat)) := by
  have hset : ((s.dyn.advTo (BitVec.ofNat 32 (t + 96000))).setAna m.toNat fun x => { x with
      results := (raw.toInt :: (s.dyn.ana m.toNat).results).take 16, busy := false, freshLockout := true, freshCal := true }) =
      (s.dyn.advTo (BitVec.ofNat 32 (t + 96000))).setAna m.toNat fun _ => (s.dyn.ana m.toNat).converted raw := by
    rw [Dyn.setAna, Dyn.advTo_ana]
    rfl
  show execConversionResult m raw s = _
  rw [execConversionResult, State.upd_withDyn hlive]
  simp only [hstart, hbusy, if_true, hset]

theorem exec_conversionResult_shows {t : Nat} {raw : Word} (hstart : (s.dyn.ana m.toNat).startAt = some t)
    (hbusy : (s.dyn.ana m.toNat).busy = true) :
    let x := (s.dyn.ana m.toNat).converted raw
    let n := min x.results.length (2 ^ s.cfg.get (F.AIO_CFG_AVG m.toNat))
    let v := corrected ((x.results.take n).foldl (· + ·) 0) n x.gain x.offs
    ∃ u, exec (.conversionResult m raw) s = .next u ∧ (u.dyn.ana m.toNat).results = x.results ∧
      (u.dyn.ana m.toNat).busy = false ∧ (u.dyn.ana m.toNat).avg = v ∧
      u.dyn.clk = (s.dyn.advTo (BitVec.ofNat 32 (t + 96000))).clk ∧
      u.dyn.rd (Reg.AIO_VALUE m.toNat) = (if s.dyn.flag (F.AIO_STATUS_LINK_FAIL m.toNat) then s.dyn.rd (Reg.AIO_VALUE m.toNat)
        else BitVec.ofInt 32 (satTo 32 (min v 0x190000))) := by
  intro x n v
  obtain ⟨d, hd⟩ : ∃ d, d = (s.dyn.advTo (BitVec.ofNat 32 (t + 96000))).setAna m.toNat fun _ => x := ⟨_, rfl⟩
  have hx : d.ana m.toNat = x := hd ▸ Dyn.ana_setAna_same ..
  have hmean : d.meanOf s.cfg m.toNat = v := by rw [Dyn.meanOf, hx]
  obtain ⟨hclk, hrd, hresults, hready, havg⟩ := d.average_shows s.cfg m.toNat
  obtain ⟨y, hcross⟩ := (d.average s.cfg m.toNat).crossValue_ana s.cfg m.toNat
  have hbefore {a : Nat} (ha : OfAnalogue a) (hne : a ≠ Reg.AIO_EVCNT m.toNat) :
      (d.average s.cfg m.toNat).rd a = s.dyn.rd a := by
    rw [hrd a hne, hd, Dyn.rd_setAna, s.dyn.rd_advTo _ ha.ne_tsuStatus]
  refine ⟨_, exec_conversionResult hlive hstart hbusy, ?_⟩
  rw [State.withDyn_dyn, ← hd, hcross, Dyn.crossValue_clk, hclk, Dyn.crossValue_value, havg, hmean, hresults, hready, hx,
    Dyn.flag_congr (hbefore (aioStatus_ofAnalogue m.isLt) (aioStatus_ne_aioEvcnt _ _)),
    hbefore (aioValue_ofAnalogue m.isLt) (aioValue_ne_others _ _).2.2]
  exact ⟨rfl, rfl, rfl, hd ▸ rfl, rfl⟩

theorem exec_failDelayExpiry {due : Nat}
    (hdue : due = (s.dyn.ana m.toNat).regionAt + s.cfg.get (F.AIO_CFG_FAIL_DELAY m.toNat) * 10 ^ 7)
    (hin : s.cfg.anaMode m.toNat = 1) (hregion : (s.dyn.ana m.toNat).region ≠ 0) (hnear : s.dyn.near s.cfg due) :
    exec (.failDelayExpiry m) s =
      .next (s.withDyn (((s.dyn.dueAt due).failDelay s.cfg m.toNat).showFails s.cfg m.toNat)) := by
  show execFailDelayExpiry m s = _
  rw [execFailDelayExpiry, State.upd_withDyn hlive]
  simp only [hin, hregion, ne_eq, not_false_eq_true, decide_true, Bool.and_self, if_true, ← hdue, Dyn.whenDue_near hnear]

theorem exec_failDelayExpiry_shows {due : Nat}
    (hdue : due = (s.dyn.ana m.toNat).regionAt + s.cfg.get (F.AIO_CFG_FAIL_DELAY m.toNat) * 10 ^ 7)
    (hin : s.cfg.anaMode m.toNat = 1) (hregion : (s.dyn.ana m.toNat).region ≠ 0) (hnear : s.dyn.near s.cfg due)
    (hlasted : due ≤ (s.dyn.dueAt due).now) : ∃ u, exec (.failDelayExpiry m) s = .next u ∧
      (if (s.dyn.ana m.toNat).region = 1 then (u.dyn.ana m.toNat).failLo else (u.dyn.ana m.toNat).failHi) = true ∧
      (s.dyn.flag (F.AIO_STATUS_LINK_FAIL m.toNat) = false →
        u.dyn.flag (if (s.dyn.ana m.toNat).region = 1 then F.AIO_STATUS_FAIL_LO m.toNat else F.AIO_STATUS_FAIL_HI m.toNat) =
          true ∧ u.dyn.flag (F.AIO_STATUS_INVALID m.toNat) = true) := by
  obtain ⟨d, hd⟩ : ∃ d, d = (s.dyn.dueAt due).failDelay s.cfg m.toNat := ⟨_, rfl⟩
  have hana : (s.dyn.dueAt due).ana m.toNat = s.dyn.ana m.toNat := s.dyn.dueAt_ana due _
  have hdeclared : (if (s.dyn.ana m.toNat).region = 1 then (d.ana m.toNat).failLo else (d.ana m.toNat).failHi) = true := by
    rw [hd, ← hana]
    exact Dyn.failDelay_declares hin (hana ▸ hregion) (by rw [hana]; omega)
  obtain ⟨y, hshown⟩ := d.showFails_ana s.cfg m.toNat
  refine ⟨_, exec_failDelayExpiry hlive hdue hin hregion hnear, ?_, fun hup => ?_⟩
  · rw [State.withDyn_dyn, ← hd, hshown]
    exact hdeclared
  · have hlink : d.flag (F.AIO_STATUS_LINK_FAIL m.toNat) = false := by
      have hstatus := aioStatus_ofAnalogue m.isLt
      rw [hd, Dyn.flag_congr (((s.dyn.dueAt due).failBut_failDelay s.cfg m.toNat).rd _ (aioStatus_ne_aioEvcnt _ _)),
        Dyn.flag_congr (s.dyn.rd_dueAt due hstatus.ne_tsuStatus), hup]
    obtain ⟨hlo, hhi, hinvalid⟩ := Dyn.showFails_shows (c := s.cfg) hlink
    rw [State.withDyn_dyn, ← hd]
    by_cases hlow : (s.dyn.ana m.toNat).region = 1
    · rw [if_pos hlow] at hdeclared ⊢
      exact ⟨hlo.trans hdeclared, hinvalid hin (.inl hdeclared)⟩
    · rw [if_neg hlow] at hdeclared ⊢
      exact ⟨hhi.trans hdeclared, hinvalid hin (.inr hdeclared)⟩

end

/-! ## Comparators (R323–R325) -/

/-- What runs of a comparator's filter. -/
def Aio.withCross (x : Aio) (j : Bool) (z : Option (Bool × Nat)) : Aio :=
  if j then { x with cross1 := z } else { x with cross0 := z }

/-- A comparator's state confirmed, its filter ended. -/
def Aio.confirmed (x : Aio) (j level : Bool) : Aio :=
  if j then { x with cmp1 := level, cross1 := none } else { x with cmp0 := level, cross0 := none }

/-- A comparator's state shown to the matrix. -/
def Aio.withSrc (x : Aio) (j level : Bool) : Aio := if j then { x with src1 := level } else { x with src0 := level }

theorem Aio.confirmed_shows (x : Aio) (j level : Bool) : (x.confirmed j level).cmp j = level ∧
    (x.confirmed j level).cross j = none ∧ (x.confirmed j level).src j = x.src j := by
  cases j with
  | false => exact ⟨rfl, rfl, rfl⟩
  | true => exact ⟨rfl, rfl, rfl⟩

theorem Aio.withSrc_shows (x : Aio) (j level : Bool) : (x.withSrc j level).cmp j = x.cmp j ∧
    (x.withSrc j level).cross j = x.cross j ∧ (x.withSrc j level).src j = level := by
  cases j with
  | false => exact ⟨rfl, rfl, rfl⟩
  | true => exact ⟨rfl, rfl, rfl⟩

theorem Dyn.setCmpSrc_ana (c : Cfg) (d : Dyn) (m : Nat) (j level : Bool) :
    (d.setCmpSrc c m j level).ana m = (d.ana m).withSrc j level := by
  rw [Dyn.setCmpSrc, Dyn.ana, (Dyn.matrixBut_sourceTo c _ _ _).aio]
  exact Dyn.ana_setAna_same ..

theorem Dyn.post_ana (c : Cfg) (d : Dyn) (p kind task source : Nat) (ft value : Word) (m : Nat) :
    (d.post c p kind task source ft value).ana m = d.ana m := by
  unfold Dyn.post
  split
  · rfl
  · rfl

/-- What a confirmed comparator brings across the link: nothing over a failed one or out of service, else its source and, where
it is configured, an event. -/
def Dyn.cmpCross (c : Cfg) (d : Dyn) (k : Nat) (j level : Bool) (at_ : Word) : Dyn :=
  if d.flag (F.AIO_STATUS_LINK_FAIL k) || d.flag (F.AIO_STATUS_OOS k) then d
  else
    let d := d.setCmpSrc c k j level
    let en := c.flag (if j then F.AIO_CMP1_EVT_EN k else F.AIO_CMP0_EVT_EN k)
    let task := c.get (if j then F.AIO_CMP1_EVT_TASK k else F.AIO_CMP0_EVT_TASK k)
    if en && c.flag (F.AIO_CFG_OWNED k) then
      d.post c (c.get (F.AIO_CFG_OWNER k)) 3 task (2 * k + b2n j) at_ (BitVec.ofNat 32 (b2n level))
    else d

theorem Dyn.cmpCross_ana (c : Cfg) (d : Dyn) (k : Nat) (j level : Bool) (at_ : Word) : (d.cmpCross c k j level at_).ana k =
    if d.flag (F.AIO_STATUS_LINK_FAIL k) || d.flag (F.AIO_STATUS_OOS k) then d.ana k else (d.ana k).withSrc j level := by
  unfold Dyn.cmpCross
  extract_lets e en task
  split
  · rfl
  · have he : e.ana k = (d.ana k).withSrc j level := d.setCmpSrc_ana ..
    split
    · exact (Dyn.post_ana ..).trans he
    · exact he

section
variable {s : State} {m : BitVec 5} (hlive : Live s)
include hlive

theorem exec_comparatorCrossing {j : Bool} (current : Word) (hon : s.cfg.cmpOn m.toNat j = true) :
    let x := s.dyn.ana m.toNat
    let was := ((x.cross j).map (·.1)).getD (x.cmp j)
    let level := s.cfg.cmpLevel m.toNat j was current.toInt
    let z := if level = x.cmp j then none else some (level, s.dyn.now)
    exec (.comparatorCrossing m j current) s = .next (s.withDyn (if level = was then s.dyn
      else s.dyn.setAna m.toNat fun y => y.withCross j z)) := by
  intro x was level z
  show execComparatorCrossing m j current s = _
  rw [execComparatorCrossing, State.upd_withDyn hlive]
  simp only [hon, Bool.true_and, bne_iff_ne, ne_eq, ite_not, beq_iff_eq]
  rfl

theorem exec_comparatorConfirm {j level : Bool} {t : Nat} {at_ : Word} (hcross : (s.dyn.ana m.toNat).cross j = some (level, t))
    (hheld : cmpFilterNs (s.cfg.get (if j then F.AIO_CMP1_FILTER m.toNat else F.AIO_CMP0_FILTER m.toNat)) ≤
      (s.dyn.advTo at_).now - t) : exec (.comparatorConfirm m j at_) s = .next (s.withDyn
        (((s.dyn.advTo at_).setAna m.toNat fun x => x.confirmed j level).cmpCross s.cfg m.toNat j level at_)) := by
  have hstill : ((s.dyn.advTo at_).ana m.toNat).cross j = some (level, t) := by rw [Dyn.advTo_ana, hcross]
  show execComparatorConfirm m j at_ s = _
  rw [execComparatorConfirm, State.upd_withDyn hlive]
  simp only [hstill, hheld, if_true]
  rfl

theorem exec_comparatorConfirm_shows {j level : Bool} {t : Nat} {at_ : Word}
    (hcross : (s.dyn.ana m.toNat).cross j = some (level, t))
    (hheld : cmpFilterNs (s.cfg.get (if j then F.AIO_CMP1_FILTER m.toNat else F.AIO_CMP0_FILTER m.toNat)) ≤
      (s.dyn.advTo at_).now - t) : ∃ u, exec (.comparatorConfirm m j at_) s = .next u ∧ (u.dyn.ana m.toNat).cmp j = level ∧
        (u.dyn.ana m.toNat).cross j = none ∧ (u.dyn.ana m.toNat).src j =
          (if s.dyn.flag (F.AIO_STATUS_LINK_FAIL m.toNat) || s.dyn.flag (F.AIO_STATUS_OOS m.toNat) then
            (s.dyn.ana m.toNat).src j else level) := by
  have hflag (f : Fld) (hf : f.addr = Reg.AIO_STATUS m.toNat) :
      ((s.dyn.advTo at_).setAna m.toNat fun x => x.confirmed j level).flag f = s.dyn.flag f :=
    (Dyn.flag_setAna ..).trans (s.dyn.flag_ticks _ (hf ▸ (aioStatus_ofAnalogue m.isLt).ne_tsuStatus))
  obtain ⟨hcmp, hended, hsrc⟩ := (s.dyn.ana m.toNat).confirmed_shows j level
  obtain ⟨hcmp', hended', hsrc'⟩ := ((s.dyn.ana m.toNat).confirmed j level).withSrc_shows j level
  refine ⟨_, exec_comparatorConfirm hlive hcross hheld, ?_⟩
  rw [State.withDyn_dyn, Dyn.cmpCross_ana, Dyn.ana_setAna_same, Dyn.advTo_ana, hflag _ rfl, hflag _ rfl]
  split
  · exact ⟨hcmp, hended, hsrc⟩
  · exact ⟨hcmp'.trans hcmp, hended'.trans hended, hsrc'⟩

end

/-- Settles O40: each event is the `exec_` lemma of its name. The mean over fewer than 2^AVG results, and the FAIL_DELAY that runs on
over a failed link, are choices of the model (log entry 108). -/
theorem analogueInputs : Obligations.AnalogueInputs := by
  intro s m hlive k x
  exact ⟨exec_conversionStart hlive, fun t raw => exec_conversionResult_shows hlive,
    exec_failDelayExpiry_shows hlive rfl, fun j => exec_comparatorCrossing hlive,
    fun j level t at_ => exec_comparatorConfirm_shows hlive⟩

end Sys2Proof.Machine
end
section
/-! SUPPORT. The step: the command at the front, a fabric cycle on an empty queue, and that every command answers (R338). -/

namespace Sys2Proof.Machine

/-- Settles O1, by the definition of the step on a queue that is not empty. -/
theorem stepRunsFrontCommand : Obligations.StepRunsFrontCommand := by
  intro s c rest hp
  rw [step, hp]

/-! ## An empty queue, and a wrap of FT (R338, R363) -/

/-- A module right after reset, one unit of 2⁻²⁴ ns before FT wraps. -/
def beforeWrap : State :=
  { State.reset with dyn := { State.reset.dyn with clk := { State.reset.dyn.clk with ft := 2 ^ 56 - 1 } } }

/-- The wraps of FT that a step leaves unreported. -/
def wrapsAfter : Out → Option Nat
  | .next u => some u.dyn.tsu.wraps
  | _ => none

theorem beforeWrap_step : wrapsAfter (step beforeWrap) = some 1 := by decide +kernel

/-- Refutes O2: the cycle in which FT wraps counts the wrap that FT_WRAP is to report, in a part of the time base that is no clock;
the statement keeps all of that part. -/
theorem not_emptyQueueIsOneCycle : ¬ Obligations.EmptyQueueIsOneCycle := by
  intro h
  obtain ⟨t, ht, -, -, -, -, -, -, hrest⟩ := h beforeWrap rfl rfl (by decide +kernel)
  have hwraps : t.dyn.tsu.wraps = 0 := congrArg (fun d : Dyn => d.tsu.wraps) hrest
  have hone := beforeWrap_step
  rw [ht, wrapsAfter, hwraps] at hone
  exact absurd hone (by decide)

/-! ## Every command answers -/

/-- The outcome is a next state, with the queue of `s`. -/
abbrev Answers (s : State) (o : Out) : Prop := ∃ t, o = .next t ∧ t.pending = s.pending

/-- A meaning of the shape of `State.upd` answers. Stated with what it answers in place of the function, so that a command's
meaning unfolds to it. -/
theorem answers_upd (s : State) (held : Bool) (d : Dyn) : Answers s (.next (if held then s else { s with dyn := d })) := by
  cases held <;> exact ⟨_, rfl, rfl⟩

theorem answers_next {s t : State} (h : t.pending = s.pending) : Answers s (.next t) := ⟨t, rfl, h⟩

theorem execBootLock_answers (w : Word) (s : State) : Answers s (execBootLock w s) := by
  unfold execBootLock
  split
  · exact answers_next rfl
  · split <;> exact answers_next rfl

theorem execBootWatchdogExpiry_answers (s : State) : Answers s (execBootWatchdogExpiry s) := by
  unfold execBootWatchdogExpiry
  split <;> exact answers_next rfl

theorem execServiceAuthorisation_answers (x : ServiceAuth) (s : State) : Answers s (execServiceAuthorisation x s) := by
  unfold execServiceAuthorisation
  split
  · exact answers_next rfl
  · split <;> exact answers_next rfl

theorem execRegisterWrite_answers (who : Requester) (addr v : Word) (s : State) :
    Answers s (execRegisterWrite who addr v s) := by
  unfold execRegisterWrite
  dsimp only
  split
  · split
    · exact execBootLock_answers v s
    · exact answers_next rfl
  · exact answers_upd ..

/-- Settles O3, by the commands: all but a few have the shape of `State.upd` or of `State.always`. -/
theorem everyCommandAnswersNextState : Obligations.EveryCommandAnswersNextState := by
  intro c s
  cases c with
  | powerOnReset u n j => exact answers_next rfl
  | bootLock w => exact execBootLock_answers w s
  | bootWatchdogExpiry => exact execBootWatchdogExpiry_answers s
  | serviceAuthorisation x => exact execServiceAuthorisation_answers x s
  | registerWrite who addr v => exact execRegisterWrite_answers who addr v s
  | keyInserted k => exact answers_upd { s with dyn := s.dyn.setKey k } ..
  | keyRemoved => exact answers_upd { s with dyn := { s.dyn with nv := { s.dyn.nv with key := none } } } ..
  | join from_ => cases from_ <;> exact answers_upd ..
  | fieldWatchdogExpiry _ | jumperRemoved | backupSwitchOver | timeLost => exact answers_next rfl
  | _ => exact answers_upd ..

end Sys2Proof.Machine
end
section
/-! SUPPORT. The commands of TSU_CMD, and the compare registers (R339, R344–R349, R366). -/

namespace Sys2Proof.Machine

/-- A unit that takes an APPLY at once: external servo, neither master nor follower of the time, no change waiting (R345–R347). -/
structure TakesApply (c : Cfg) (d : Dyn) : Prop where
  external : c.flag F.TSU_CFG_SERVO = true
  follows : d.follower = false
  leads : d.timeMaster c = false
  waiting : d.tsu.apply = none

namespace TakesApply
variable {c : Cfg} {d : Dyn} (h : TakesApply c d) (firmware : Bool) {w : Word}
include h

theorem accept (x : TimeChange) : d.accept c x = ((d.ticks 1).change c x).tsuStat 2 0 := by
  rw [Dyn.accept, h.leads, if_neg Bool.false_ne_true]

/-- SET_INCR alone (R339). -/
theorem setIncr (hw : w.field 0 4 = 1 ∧ w.bit 4 = true ∧ w.bit 5 = false ∧ w.bit 6 = false) : d.tsuCmd c firmware w =
    if 33520878 ≤ (d.rd Reg.TSU_ST_INCR).toNat ∧ (d.rd Reg.TSU_ST_INCR).toNat ≤ 33587986 then
      ((d.ticks 1).change c ⟨some (d.rd Reg.TSU_ST_INCR), none, none⟩).tsuStat 2 0
    else d.tsuStat 3 3 := by
  obtain ⟨hcode, hincr, htime, hadj⟩ := hw
  by_cases hrange : 33520878 ≤ (d.rd Reg.TSU_ST_INCR).toNat ∧ (d.rd Reg.TSU_ST_INCR).toNat ≤ 33587986 <;>
    simp [Dyn.tsuCmd, hcode, hincr, htime, hadj, incrOk, hrange, h.external, h.follows, h.waiting, h.accept]

/-- SET_TIME alone (R344). -/
theorem setTime (hw : w.field 0 4 = 1 ∧ w.bit 4 = false ∧ w.bit 5 = true ∧ w.bit 6 = false) : d.tsuCmd c firmware w =
    if (d.rd Reg.TSU_ST_NS).toNat < 10 ^ 9 then
      ((d.ticks 1).change c ⟨none, some (BitVec.ofNat 48 (d.get F.TSU_ST_SEC_HI_SEC_HI * 2 ^ 32 +
        (d.rd Reg.TSU_ST_SEC_LO).toNat), (d.rd Reg.TSU_ST_NS).toNat), none⟩).tsuStat 2 0
    else d.tsuStat 3 1 := by
  obtain ⟨hcode, hincr, htime, hadj⟩ := hw
  by_cases hns : (d.rd Reg.TSU_ST_NS).toNat < 1000000000
  · simp [Dyn.tsuCmd, hcode, hincr, htime, hadj, hns, Nat.not_le.2 hns, h.external, h.follows, h.waiting, h.accept]
  · simp [Dyn.tsuCmd, hcode, htime, hns, Nat.not_lt.1 hns]

/-- ADJ_TIME alone (R344). -/
theorem adjTime (hw : w.field 0 4 = 1 ∧ w.bit 4 = false ∧ w.bit 5 = false ∧ w.bit 6 = true) : d.tsuCmd c firmware w =
    ((d.ticks 1).change c ⟨none, none, some (d.rd Reg.TSU_ST_ADJ)⟩).tsuStat 2 0 := by
  obtain ⟨hcode, hincr, htime, hadj⟩ := hw
  simp [Dyn.tsuCmd, hcode, hincr, htime, hadj, h.external, h.follows, h.waiting, h.accept]

end TakesApply

/-- A granted write of a command register acts as its command (R24). -/
theorem State.upd_gated {s : State} (hlive : Live s) {who : Requester} {addr : Nat} (h : MayWrite s who addr)
    (f : Cfg → Dyn → Dyn) : (s.upd fun c d => d.gated c who addr (f c)) = .next (s.withDyn (f s.cfg (s.dyn.by_ who))) := by
  rw [State.upd_withDyn hlive, Dyn.gated_granted h]

/-- Settles O33, command by command. -/
theorem timeCommands : Obligations.TimeCommands := by
  intro s who u v hlive d
  refine ⟨fun hmay hexternal hfollows hleads hwaiting => ?apply, fun hmay => ?target, fun hmay => ?arm⟩
  case apply =>
    have h : TakesApply s.cfg (s.dyn.by_ who) := ⟨hexternal, hfollows, hleads, hwaiting⟩
    have hexec (w : Word) := State.upd_gated hlive hmay fun c d => d.tsuCmd c (who == .firmware) w
    exact ⟨(hexec 0x11).trans (by rw [h.setIncr _ (by decide)]; rfl), (hexec 0x21).trans (by rw [h.setTime _ (by decide)]; rfl),
      (hexec 0x41).trans (by rw [h.adjTime _ (by decide)]; rfl)⟩
  case target =>
    exact State.upd_gated hlive hmay fun c d =>
      if c.get (F.TSU_CMP_CFG_MODE u.toNat) = 3 then d.stage_ (Reg.TSU_CMP_TGT u.toNat) v else d
  case arm => exact State.upd_gated hlive hmay fun _ d => d.stage_ (Reg.TSU_CMP_ARM u.toNat) 1

end Sys2Proof.Machine
end
section
/-! SUPPORT. The wrap of FT: the cycles up to it, and its report (R338, R342, R363). -/

namespace Sys2Proof.Machine

section
variable (c : Cfg) (d : Dyn)

/-- The clock, the registers and the time base. -/
def Dyn.timeParts : Clock × SMap Word × Tsu := (d.clk, d.regs, d.tsu)

/-- The entry of one wrap, with a free value. -/
def Dyn.wrapPost : Dyn :=
  d.fresh.2.post c (c.get F.TSU_CFG_WRAP_POLDER) 6 (c.get F.TSU_CFG_WRAP_TASK) 0x100 0 d.fresh.1

theorem Dyn.wrapPost_timeParts : (d.wrapPost c).timeParts = d.timeParts := by
  obtain ⟨ps, h⟩ := d.fresh.2.post_eq c (c.get F.TSU_CFG_WRAP_POLDER) 6 (c.get F.TSU_CFG_WRAP_TASK) 0x100 0 d.fresh.1
  rw [Dyn.wrapPost, h]
  rfl

/-- No wrap waits any longer. -/
def Dyn.wrapsReported : Dyn := { d with tsu := { d.tsu with wraps := 0 } }

/-- The report of the wraps leaves the clock, the registers and the rest of the time base. -/
theorem Dyn.wrapEvents_timeParts : (d.wrapEvents c).timeParts = d.wrapsReported.timeParts := by
  have hreported : (if d.tsu.wraps = 0 then d else d.wrapsReported).timeParts = d.wrapsReported.timeParts := by
    split
    · next h => rw [Dyn.timeParts, Dyn.timeParts, Dyn.wrapsReported, ← h]
    · rfl
  unfold Dyn.wrapEvents
  split
  · exact (foldl_view Dyn.timeParts (fun x _ => x.wrapPost_timeParts c) ..).trans hreported
  · exact hreported

/-- The cycles in which time goes on: in DEEP DOZE, steps of 20 (R342). -/
def Dyn.stepped (n : Nat) : Nat := if d.flag F.TSU_STATUS_DEEP then (n + 19) / 20 * 20 else n

theorem Dyn.stepped_bounds (n : Nat) : n ≤ d.stepped n ∧ d.stepped n < n + 20 := by
  unfold Dyn.stepped
  split <;> omega

theorem Dyn.ticks_ft (n : Nat) : (d.ticks n).clk.ft = d.clk.ft + d.stepped n * (d.rd Reg.TSU_INCR).toNat := by
  generalize hm : d.stepped n = m
  rw [Dyn.stepped] at hm
  simp only [Dyn.ticks, hm]
  split <;> rfl

/-- Passing a wrap sets WRAP. -/
theorem Dyn.ticks_wrap {n : Nat} (h : (d.ticks n).clk.ft / 2 ^ 56 ≠ d.clk.ft / 2 ^ 56) :
    (d.ticks n).flag F.TSU_STATUS_WRAP = true := by
  have hwraps : (((d.clk.run (d.rd Reg.TSU_INCR).toNat (d.stepped n)).ft >>> 56) != d.clk.ft >>> 56) = true := by
    rw [bne_iff_ne, Nat.shiftRight_eq_div_pow, Nat.shiftRight_eq_div_pow]
    rwa [d.ticks_ft] at h
  have hbit (w : Word) : (w.setBit 12 true).field 12 1 ≠ 0 := by
    intro h0
    have := Word.field_testBit (w.setBit 12 true) 12 1 0
    rw [h0] at this
    simp [Word.setBit] at this
  have hticks : (d.ticks n).rd Reg.TSU_STATUS = (d.rd Reg.TSU_STATUS).setBit 12 true := by
    unfold Dyn.stepped at hwraps
    simp only [Dyn.ticks, hwraps, if_true]
    exact Dyn.rd_wr_same ..
  rw [Dyn.flag, Dyn.get, bne_iff_ne]
  exact hticks ▸ hbit _

/-- The least number of cycles that brings FT to its next wrap ends there, also in steps of 20. -/
theorem Dyn.ticks_nextWrap (hincr : 0 < (d.rd Reg.TSU_INCR).toNat) :
    (d.ticks ((2 ^ 56 - d.clk.ft % 2 ^ 56 + (d.rd Reg.TSU_INCR).toNat - 1) / (d.rd Reg.TSU_INCR).toNat)).clk.ft / 2 ^ 56 =
      d.clk.ft / 2 ^ 56 + 1 := by
  rw [d.ticks_ft]
  have hsmall := (d.rd Reg.TSU_INCR).isLt
  generalize (d.rd Reg.TSU_INCR).toNat = i at *
  obtain ⟨hlow, hhigh⟩ := d.stepped_bounds ((2 ^ 56 - d.clk.ft % 2 ^ 56 + i - 1) / i)
  generalize d.stepped ((2 ^ 56 - d.clk.ft % 2 ^ 56 + i - 1) / i) = m at *
  have hft := Nat.mod_lt d.clk.ft (show 0 < 2 ^ 56 by decide)
  have hdown := Nat.div_mul_le_self (2 ^ 56 - d.clk.ft % 2 ^ 56 + i - 1) i
  have hup := Nat.lt_div_mul_add (a := 2 ^ 56 - d.clk.ft % 2 ^ 56 + i - 1) hincr
  have hleast : 2 ^ 56 - d.clk.ft % 2 ^ 56 ≤ m * i := by
    have := Nat.mul_le_mul_right i hlow
    omega
  have hmost : m * i < 2 ^ 56 - d.clk.ft % 2 ^ 56 + 20 * i := by
    have := Nat.mul_le_mul_right i (Nat.le_of_lt_succ hhigh)
    rw [Nat.add_mul] at this
    omega
  omega

end

theorem exec_ftWrap {s : State} (hlive : Live s) : exec .ftWrap s = .next (s.withDyn (Dyn.wrapEvents s.cfg
    (if (s.dyn.rd Reg.TSU_INCR).toNat = 0 ∨ s.dyn.tsu.wraps ≠ 0 then s.dyn
      else s.dyn.ticks ((2 ^ 56 - s.dyn.clk.ft % 2 ^ 56 + (s.dyn.rd Reg.TSU_INCR).toNat - 1) / (s.dyn.rd Reg.TSU_INCR).toNat)))) := by
  show execFtWrap s = _
  rw [execFtWrap, State.upd_withDyn hlive]
  simp only [Bool.or_eq_true, decide_eq_true_eq]

theorem exec_ftWrap_shows {s : State} (hlive : Live s) : ∃ u, exec .ftWrap s = .next u ∧ u.cfg = s.cfg ∧
    u.dyn.tsu.wraps = 0 ∧ (s.dyn.tsu.wraps ≠ 0 → u.dyn.clk = s.dyn.clk) ∧
    (s.dyn.tsu.wraps = 0 → 0 < (s.dyn.rd Reg.TSU_INCR).toNat → u.dyn.flag F.TSU_STATUS_WRAP = true ∧
      u.dyn.clk.ft / 2 ^ 56 = s.dyn.clk.ft / 2 ^ 56 + 1) := by
  refine ⟨_, exec_ftWrap hlive, rfl, ?_⟩
  have hparts (d : Dyn) := Prod.mk.inj (d.wrapEvents_timeParts s.cfg)
  have hrest (d : Dyn) := Prod.mk.inj (hparts d).2
  refine ⟨congrArg Tsu.wraps (hrest _).2, fun hwaits => ?passed, fun hnone hincr => ?next⟩
  case passed => exact (hparts _).1.trans (by rw [if_pos (.inr hwaits)]; rfl)
  case next =>
    have hgoes : ¬ ((s.dyn.rd Reg.TSU_INCR).toNat = 0 ∨ s.dyn.tsu.wraps ≠ 0) := by omega
    rw [if_neg hgoes]
    have hft := s.dyn.ticks_nextWrap hincr
    have hflag := s.dyn.ticks_wrap (by rw [hft]; omega)
    exact ⟨(Dyn.flag_congr (Dyn.rd_congr (hrest _).1 _)).trans hflag, (congrArg (Clock.ft · / 2 ^ 56) (hparts _).1).trans hft⟩

end Sys2Proof.Machine
end
section
/-! SUPPORT. The events of the time base: firings, captures, the pulse per second, PTP and the twin time lock (R340, R348, R350,
R352, R356–R358, R361, R362, R364). -/

namespace Sys2Proof.Machine

/-! ## What the servo sets -/

section
variable (c : Cfg) (d : Dyn)

theorem Dyn.setServo_servo {v : Nat} (hv : v < 8) : (d.setServo c v).servo = v := by
  have hput : (d.put F.TSU_STATUS_SERVO v).servo = v := d.get_put_fits (by decide) hv
  have hflag : ((d.put F.TSU_STATUS_SERVO v).setFlag F.RTC_CALSTATE_TAI_SRC false).servo = v :=
    (Dyn.get_put_ne _ _ (by decide)).trans hput
  unfold Dyn.setServo
  split_ifs
  · exact hput
  · exact hflag
  · exact hflag

/-- Out of LOCKED, TAI_UTC is a stored value (R373). -/
theorem Dyn.setServo_taiSrc {v : Nat} (hv : v ≠ 2) : (d.setServo c v).flag F.RTC_CALSTATE_TAI_SRC = false := by
  have hflag := (d.put F.TSU_STATUS_SERVO v).flag_setFlag_same F.RTC_CALSTATE_TAI_SRC false (by decide) (by decide)
  rw [Dyn.setServo]
  simp only [if_neg hv]
  split_ifs
  · exact hflag
  · exact hflag

theorem Dyn.setServo_masterOf (v : Nat) (lanB : Bool) : (d.setServo c v).masterOf lanB = d.masterOf lanB := by
  unfold Dyn.setServo
  split_ifs <;> rfl

theorem Dyn.meanIncr_snd : d.meanIncr.2 = d := by
  unfold Dyn.meanIncr
  extract_lets now go
  split
  · rfl
  · exact d.roundFree_snd ..

end

/-! ## Firings, captures and pulses -/

section
variable {s : State} (hlive : Live s)
include hlive

theorem exec_compareFire {n : BitVec 5} (harmed : s.dyn.flag (F.TSU_CMP_STAT_ARMED n.toNat) = true)
    (hrun : s.dyn.boot.stage = .running) :
    let k := n.toNat
    let d := s.dyn.toTarget s.cfg k
    let e := d.fire s.cfg k (d.firedFt s.cfg k)
    let mode := s.cfg.get (F.TSU_CMP_CFG_MODE k)
    exec (.compareFire n) s = .next (s.withDyn (
      if mode = 1 then e.wr (Reg.TSU_CMP_TGT k) (e.rd (Reg.TSU_CMP_TGT k) + s.cfg.rd (Reg.TSU_CMP_PER k))
      else if mode = 2 then e.setAligned k (e.aligned k + s.cfg.get (F.TSU_CMP_PER_NS k))
      else e.setFlag (F.TSU_CMP_STAT_ARMED k) false)) := by
  intro k d e mode
  have hfires : (s.dyn.flag (F.TSU_CMP_STAT_ARMED k) && s.dyn.boot.stage == .running) = true := by
    rw [harmed, hrun]
    rfl
  show execCompareFire n s = _
  rw [execCompareFire, State.upd_withDyn hlive, if_pos hfires]
  congr 2
  split
  · next h1 => rw [if_pos h1]
  · next h2 => rw [if_neg (fun h1 => absurd (h1.symm.trans h2) (by decide)), if_pos h2]
  · next h1 h2 => rw [if_neg h1, if_neg h2]

theorem exec_capture {n : BitVec 4} (at_ : Word) (hsrc : s.cfg.get (F.TSU_CAP_CFG_SRC n.toNat) = 1) :
    exec (.capture n at_) s = .next (s.withDyn ((s.dyn.advTo at_).captureAt n.toNat 0)) := by
  show execCapture n at_ s = _
  rw [execCapture, State.upd_withDyn hlive, if_pos hsrc]

theorem exec_ppsOutRise (hon : s.cfg.flag F.TSU_PPS_CFG_EN = true) (hopen : s.cfg.flag F.TSU_PPS_CFG_GATE_LOCKED = false) :
    let d := s.dyn.ticks (s.dyn.cyclesFor ((s.cfg.get F.TSU_PPS_OFS_NS + 10 ^ 9 - s.dyn.ptpNs % 10 ^ 9) % 10 ^ 9))
    d.tsu.ppsDone.contains d.clk.sec = false → exec .ppsOutRise s = .next (s.withDyn
      { d with tsu := { d.tsu with ppsOut := true, ppsAt := d.now, ppsDone := d.clk.sec :: d.tsu.ppsDone } }) := by
  intro d hnew
  show execPpsOutRise s = _
  rw [execPpsOutRise, State.upd_withDyn hlive, if_neg (by rw [hon, hopen]; exact Bool.false_ne_true)]
  exact congrArg (fun x => Host.Outcome.next (s.withDyn x)) (if_neg (by rw [hnew]; exact Bool.false_ne_true))

theorem exec_ppsOutFall (hhigh : s.dyn.tsu.ppsOut = true) :
    let d := s.dyn.advTo (BitVec.ofNat 32 (s.dyn.tsu.ppsAt + s.cfg.get F.TSU_PPS_CFG_WIDTH * 1000))
    exec .ppsOutFall s = .next (s.withDyn { d with tsu := { d.tsu with ppsOut := false } }) := by
  show execPpsOutFall s = _
  rw [execPpsOutFall, State.upd_withDyn hlive, if_pos hhigh]

/-! ## PTP (R355–R357) -/

/-- The followed port's master falls silent, and no other port has one: the servo reports HOLDOVER. -/
theorem exec_announceReceiptTimeout {lanB : Bool} (hdrives : s.dyn.follower = false) (hmaster : (s.dyn.masterOf lanB).isSome = true)
    (hport : s.dyn.flag F.TSU_STATUS_PORT = lanB) (hother : s.dyn.masterOf (!lanB) = none)
    (hservo : s.cfg.flag F.TSU_CFG_SERVO = false) :
    let d := (s.dyn.setMaster lanB none).put F.TSU_STATUS_PTP_STATE
      (if (s.dyn.setMaster lanB none).ptpRole s.cfg = 1 then 1 else 2)
    exec (.announceReceiptTimeout lanB) s = .next (s.withDyn ((d.loadIncr d.meanIncr.1).setServo s.cfg 3)) := by
  intro d
  have hport : (s.dyn.setMaster lanB none).flag F.TSU_STATUS_PORT = lanB := hport
  have hbest : (s.dyn.setMaster lanB none).bestPort = none := by
    cases lanB <;> simp_all [Dyn.bestPort, Dyn.setMaster, Dyn.masterOf]
  have hmean : (d.meanIncr.2.loadIncr d.meanIncr.1) = d.loadIncr d.meanIncr.1 := by rw [d.meanIncr_snd]
  show execAnnounceReceiptTimeout lanB s = _
  rw [execAnnounceReceiptTimeout, State.upd_withDyn hlive, if_neg (by rw [hdrives]; exact Bool.false_ne_true),
    if_neg (by simp [Option.isSome_iff_ne_none.1 hmaster])]
  simp only [hport, bne_self_eq_false, Bool.false_eq_true, if_false, hbest, hservo, ← hmean]
  rfl

/-- An event message that is received captures, whatever its domain (R352). -/
theorem exec_ptpMessage_event {msg : PtpMsg} (hbody : msg.body = .event) :
    let lat := s.cfg.rd (if msg.lanB then Reg.TSU_PHY_LAT_B else Reg.TSU_PHY_LAT_A)
    let corr : Int := if msg.sent then (lat.field 16 16 : Nat) else -((lat.field 0 16 : Nat) : Int)
    let d := (s.dyn.advTo msg.at_).captureSrc s.cfg ((if msg.lanB then 4 else 2) + b2n msg.sent) corr
    (msg.sent = false → exec (.ptpMessage msg) s = .next (s.withDyn d)) ∧
    (msg.sent = true → s.dyn.follower = false → s.dyn.ptpRole s.cfg ≠ 0 →
      exec (.ptpMessage msg) s =
        .next (s.withDyn (d.ptpSend s.cfg msg.lanB msg.body ((d.ptpTotal : Int) + corr)))) := by
  intro lat corr d
  have hexec : exec (.ptpMessage msg) s = execPtpMessage msg s := rfl
  rw [hexec, execPtpMessage, State.upd_withDyn hlive]
  refine ⟨fun hsent => ?received, fun hsent hdrives hrole => ?sent⟩
  case received =>
    simp only [d, corr, lat, hbody, hsent, PtpBody.isEvent]
    simp
  case sent =>
    simp only [d, corr, lat, hbody, hsent, hdrives, hrole, PtpBody.isEvent, PtpBody.fromMaster]
    simp

/-! ## The twin time lock (R361, R362) -/

theorem exec_timeLockAcquired_follower (htwin : s.dyn.get F.TSU_STATUS_TWIN = 2) (hgood : 16 ≤ s.dyn.tsu.lockGood) :
    exec .timeLockAcquired s = .next (s.withDyn (if s.dyn.get F.SHL_XFER_STATE = 1 then
      (s.dyn.put F.TSU_STATUS_TWIN 3).put F.SHL_XFER_STATE 2 else s.dyn.put F.TSU_STATUS_TWIN 3)) := by
  show execTimeLockAcquired s = _
  have hxfer : (s.dyn.put F.TSU_STATUS_TWIN 3).get F.SHL_XFER_STATE = s.dyn.get F.SHL_XFER_STATE :=
    Dyn.get_put_ne _ _ (by decide)
  rw [execTimeLockAcquired, State.upd_withDyn hlive, if_pos (by simp [htwin, hgood])]
  simp only [hxfer]

theorem exec_timeLockAcquired_master (htwin : s.dyn.get F.TSU_STATUS_TWIN ≠ 2) (hmaster : s.dyn.timeMaster s.cfg = true)
    (hwaits : s.dyn.get F.SHL_XFER_STATE = 1) :
    exec .timeLockAcquired s = .next (s.withDyn (s.dyn.put F.SHL_XFER_STATE 2)) := by
  show execTimeLockAcquired s = _
  rw [execTimeLockAcquired, State.upd_withDyn hlive, if_neg (by simp [htwin]), if_pos (by simp [hmaster, hwaits])]

/-! ## What a capture and the followed master's silence show -/

theorem exec_capture_shows {n : BitVec 4} (at_ : Word) (hsrc : s.cfg.get (F.TSU_CAP_CFG_SRC n.toNat) = 1) :
    ∃ u, exec (.capture n at_) s = .next u ∧ u.cfg = s.cfg ∧
      (sget CapRec.init u.dyn.tsu.cap n.toNat).ft = (s.dyn.advTo at_).ft ∧
      ∀ a, a ≠ Reg.TSU_STATUS → a ≠ Reg.TSU_CAP_STAT n.toNat → u.dyn.rd a = s.dyn.rd a := by
  refine ⟨_, exec_capture hlive at_ hsrc, rfl, ?kept, fun a hstatus hstat => ?frame⟩
  case kept =>
    show (sget CapRec.init (sput CapRec.init (s.dyn.advTo at_).tsu.cap n.toNat _) n.toNat).ft = _
    rw [sget_sput_same]
    exact BitVec.add_zero _
  case frame => exact (Dyn.rd_put_ne _ _ (by exact hstat)).trans (Dyn.rd_ticks _ _ hstatus)

theorem exec_announceReceiptTimeout_shows {lanB : Bool} (hdrives : s.dyn.follower = false)
    (hmaster : (s.dyn.masterOf lanB).isSome = true) (hport : s.dyn.flag F.TSU_STATUS_PORT = lanB)
    (hother : s.dyn.masterOf (!lanB) = none) (hservo : s.cfg.flag F.TSU_CFG_SERVO = false) :
    ∃ u, exec (.announceReceiptTimeout lanB) s = .next u ∧ u.dyn.servo = 3 ∧ u.dyn.masterOf lanB = none ∧
      u.dyn.flag F.RTC_CALSTATE_TAI_SRC = false := by
  refine ⟨_, exec_announceReceiptTimeout hlive hdrives hmaster hport hother hservo, Dyn.setServo_servo _ _ (by decide),
    (Dyn.setServo_masterOf ..).trans ?silent, Dyn.setServo_taiSrc _ _ (by decide)⟩
  case silent => cases lanB <;> rfl

theorem exec_timeLockAcquired_follower_shows (htwin : s.dyn.get F.TSU_STATUS_TWIN = 2) (hgood : 16 ≤ s.dyn.tsu.lockGood) :
    ∃ u, exec .timeLockAcquired s = .next u ∧ u.dyn.get F.TSU_STATUS_TWIN = 3 ∧
      u.dyn.get F.SHL_XFER_STATE = (if s.dyn.get F.SHL_XFER_STATE = 1 then 2 else s.dyn.get F.SHL_XFER_STATE) ∧
      ∀ a, a ≠ Reg.TSU_STATUS → a ≠ Reg.SHL_XFER → u.dyn.rd a = s.dyn.rd a := by
  have htwin3 : (s.dyn.put F.TSU_STATUS_TWIN 3).get F.TSU_STATUS_TWIN = 3 := Dyn.get_put_fits _ (by decide) (by decide)
  refine ⟨_, exec_timeLockAcquired_follower hlive htwin hgood, ?_⟩
  rw [State.withDyn_dyn]
  split_ifs
  · exact ⟨(Dyn.get_put_ne _ _ (by decide)).trans htwin3, Dyn.get_put_fits _ (by decide) (by decide),
      fun a hstatus hxfer => (Dyn.rd_put_ne _ _ hxfer).trans (Dyn.rd_put_ne _ _ hstatus)⟩
  · exact ⟨htwin3, Dyn.get_put_ne _ _ (by decide), fun a hstatus _ => Dyn.rd_put_ne _ _ hstatus⟩

end

/-- Settles O50: each event by its `exec_` lemma; the wrap by the cycles up to the next wrap. -/
theorem timeEvents : Obligations.TimeEvents := by
  intro s hlive
  exact ⟨fun n harmed hrun => exec_compareFire hlive harmed hrun,
    fun n at_ hsrc => exec_capture_shows hlive at_ hsrc,
    fun hon hopen hnew => exec_ppsOutRise hlive hon hopen hnew,
    fun hhigh => exec_ppsOutFall hlive hhigh,
    exec_ftWrap_shows hlive,
    fun lanB hdrives hmaster hport hother hservo =>
      exec_announceReceiptTimeout_shows hlive hdrives hmaster hport hother hservo,
    fun msg hbody => exec_ptpMessage_event hlive hbody,
    fun htwin hgood => exec_timeLockAcquired_follower_shows hlive htwin hgood,
    fun htwin hmaster hwaits => exec_timeLockAcquired_master hlive htwin hmaster hwaits⟩

end Sys2Proof.Machine
end
section
/-! SUPPORT. The commands of RTC_CMD, JRN_CMD and CAN_CMD (R368, R376, R436, R439, R442, R450, R454, R460, R463). -/

namespace Sys2Proof.Machine

/-! ## RTC_CMD -/

/-- With none in hand, a command is noted PENDING and waits (R376). -/
theorem Dyn.rtcWrite_waits {d : Dyn} (hcmd : d.rtc.cmd = none) (hhour : d.rtc.hour = none) {w : Word} {code arg : Nat}
    (hw : w.field 0 4 = code ∧ w.field 16 8 = arg) (hcode : 1 ≤ code ∧ code ≤ 5) :
    d.rtcWrite w = { d.rtcStat code 1 0 with rtc := { d.rtc with cmd := some (code, arg) } } := by
  obtain ⟨hw0, hw16⟩ := hw
  have hidle : ¬ (d.rtc.cmd.isSome || d.rtc.hour.isSome) = true := by simp [hcmd, hhour]
  have hnamed : ¬ (decide (code = 0) || decide (5 < code)) = true := by
    simp only [Bool.or_eq_true, decide_eq_true_eq]
    omega
  simp only [Dyn.rtcWrite, hw0, hw16, if_neg hidle, if_neg hnamed]

theorem setTaiUtc_fields (a : BitVec 8) : Word.field (BitVec.ofNat 32 (a.toNat * 65536 + 4)) 0 4 = 4 ∧
    Word.field (BitVec.ofNat 32 (a.toNat * 65536 + 4)) 16 8 = a.toNat := by
  have ha := a.isLt
  simp only [Word.field, BitVec.toNat_ofNat, Nat.shiftRight_eq_div_pow]
  omega

/-! ## JRN_CMD -/

section
variable {c : Cfg} {d : Dyn}

/-- Outside REPLAY a command on windows acts on the selected one (R463). -/
theorem Dyn.jrnCmd_window (hrun : d.modState ≠ 4) {code : Nat} (hcode : 2 ≤ code ∧ code ≤ 6) {w : Window}
    (hw : d.window (d.get F.JRN_WIN_SEL_WIN) = some w) {r : Except Nat Dyn}
    (hr : d.windowCmd code (d.get F.JRN_WIN_SEL_WIN) w = r) :
    (∀ e, r = .ok e → d.jrnCmd c code = e.jrnStat code 2 0) ∧ (∀ e, r = .error e → d.jrnCmd c code = d.jrnStat code 3 e) := by
  have hnamed : ¬ (decide (code = 0) || decide (9 < code)) = true := by
    simp only [Bool.or_eq_true, decide_eq_true_eq]
    omega
  have hlow : ¬ 7 ≤ code := by omega
  have hstate : ¬ ((d.modState == 4) != decide (7 ≤ code)) = true := by simp [hrun, hlow]
  have hone : ¬ code = 1 := by omega
  constructor <;> rintro e rfl <;> simp only [Dyn.jrnCmd, if_neg hnamed, if_neg hstate, if_neg hone, if_pos hcode.2, hw, hr]

theorem Dyn.jrnCmd_freeze (hrun : d.modState ≠ 4) : d.jrnCmd c 1 = (d.freeze c 2 0 d.fn).jrnStat 1 2 0 := by
  simp [Dyn.jrnCmd, hrun]

theorem Dyn.jrnCmd_pauseAt (hreplay : d.modState = 4) : d.jrnCmd c 7 =
    ({ d with jrn := { d.jrn with pauseAt := some (d.rd Reg.JRN_ARG) } } : Dyn).jrnStat 7 2 0 := by
  simp [Dyn.jrnCmd, hreplay]

theorem Dyn.jrnCmd_resume (hreplay : d.modState = 4) (hpaused : d.get F.JRN_REPLAY_STATE = 2) :
    d.jrnCmd c 9 = d.replayRuns.jrnStat 9 2 0 := by
  simp [Dyn.jrnCmd, hreplay, hpaused]

/-- A fold whose steps leave `a` alone leaves it alone. -/
theorem foldl_keeps {α β : Type} {f : α → β → α} {a : α} {l : List β} (h : ∀ b ∈ l, f a b = a) : l.foldl f a = a :=
  List.foldlRecOn l f (motive := fun x => x = a) rfl fun _ hx b hb => hx ▸ h b hb

/-- With no window armed, ARM_REPLAY disarms none. -/
theorem Dyn.windowCmd_armReplay (hnone : ∀ j < 16, ∀ x, d.window j = some x → x.armed = false) (i : Nat) (w : Window)
    (harg : d.rd Reg.JRN_ARG = 0) :
    d.windowCmd 5 i w = .ok (d.setWindow i (some { w with armed := true, armArg := 0 })) := by
  simp only [Dyn.windowCmd, harg, decide_true, Bool.true_or, if_true]
  rw [foldl_keeps fun j hj => ?_]
  split
  · next x hx => rw [hnone j (List.mem_range.1 hj) x hx, if_neg Bool.false_ne_true]
  · rfl

end

/-- Settles O34, command by command. -/
theorem rtcAndJournalCommands : Obligations.RtcAndJournalCommands := by
  intro s who hlive d
  refine ⟨fun hmay hcmd hhour => ?rtc, fun v hmay => ?trim, fun hmay hrun => ?windows, fun hmay hreplay => ?replay⟩
  case rtc =>
    have hexec (w : Word) {code arg : Nat} (hw : w.field 0 4 = code ∧ w.field 16 8 = arg) (hcode : 1 ≤ code ∧ code ≤ 5) :=
      (State.upd_gated hlive hmay fun _ d => d.rtcWrite w).trans
        (congrArg (fun x => Host.Outcome.next (s.withDyn x)) (Dyn.rtcWrite_waits (d := d) hcmd hhour hw hcode))
    exact ⟨hexec 1 (by decide) (by decide), hexec 2 (by decide) (by decide), hexec 3 (by decide) (by decide),
      fun a => hexec _ (setTaiUtc_fields a) (by decide), hexec 5 (by decide) (by decide)⟩
  case trim => exact State.upd_gated hlive hmay fun _ d => d.trimWrite v
  case windows =>
    have hrun : d.modState ≠ 4 := hrun
    have hexec (code : Nat) := State.upd_gated hlive hmay fun c d => d.jrnCmd c code
    refine ⟨(hexec 1).trans (by rw [Dyn.jrnCmd_freeze hrun]), fun w hw => ?_⟩
    have hok {code : Nat} {e : Dyn} (hcode : 2 ≤ code ∧ code ≤ 6)
        (hr : d.windowCmd code (s.dyn.get F.JRN_WIN_SEL_WIN) w = .ok e) :=
      (hexec code).trans (by rw [(Dyn.jrnCmd_window hrun hcode hw hr).1 e rfl])
    refine ⟨hok (by decide) rfl, hok (by decide) rfl, ?erase, fun hnone => ?arm, hok (by decide) rfl⟩
    case erase =>
      split
      · next hprot =>
        have hkept : d.windowCmd 4 (s.dyn.get F.JRN_WIN_SEL_WIN) w = .error 3 := if_pos hprot
        exact (hexec 4).trans (by rw [(Dyn.jrnCmd_window hrun (by decide) hw hkept).2 3 rfl])
      · next hprot => exact hok (by decide) (if_neg hprot)
    case arm =>
      have harmed := Dyn.windowCmd_armReplay (d := d.wr Reg.JRN_ARG 0) hnone (s.dyn.get F.JRN_WIN_SEL_WIN) w
        (d.rd_wr_same _ _)
      have hsel : (d.wr Reg.JRN_ARG 0).get F.JRN_WIN_SEL_WIN = s.dyn.get F.JRN_WIN_SEL_WIN :=
        Dyn.get_congr (d.rd_wr_ne _ (by decide))
      have hstate : (d.wr Reg.JRN_ARG 0).modState ≠ 4 := by
        rwa [show (d.wr Reg.JRN_ARG 0).modState = d.modState from Dyn.get_congr (d.rd_wr_ne _ (by decide))]
      refine (State.upd_gated hlive hmay fun c d => (d.wr Reg.JRN_ARG 0).jrnCmd c 5).trans ?_
      rw [(Dyn.jrnCmd_window hstate (by decide) (w := w) (by rw [hsel]; exact hw) (by rw [hsel]; exact harmed)).1 _ rfl]
  case replay =>
    have hreplay : d.modState = 4 := hreplay
    refine ⟨fun n => ?pause, fun hpaused => ?resume⟩
    case pause =>
      have hstate : (d.wr Reg.JRN_ARG n).modState = 4 :=
        (Dyn.get_congr (d.rd_wr_ne _ (by decide))).trans hreplay
      refine (State.upd_gated hlive hmay fun c d => (d.wr Reg.JRN_ARG n).jrnCmd c 7).trans ?_
      rw [Dyn.jrnCmd_pauseAt hstate, d.rd_wr_same]
      rfl
    case resume =>
      exact (State.upd_gated hlive hmay fun c d => d.jrnCmd c 9).trans (by rw [Dyn.jrnCmd_resume hreplay hpaused])

/-! ## CAN_CMD -/

section
variable {c : Cfg} {d : Dyn} {k : Nat} (hused : c.canUsed k = true) (hheld : (d.canOf k).held = none)
include hused hheld

theorem Dyn.canCmd_recover (hoff : d.canState k = 2) (hcounts : (d.canOf k).counting = false) (q : Nat) :
    d.canCmd c k 1 q = (d.setCan k fun x => { x with counting := true }).canStat k 1 2 0 := by
  simp [Dyn.canCmd, hused, hheld, hoff, hcounts]

theorem Dyn.canCmd_cancel {q : Nat} (hqueue : c.canQueues.contains q = true) (hchannel : c.get (F.HQ_CFG_CANCH q) = k)
    (hbus : d.onBus c q = false) : d.canCmd c k 2 q =
      (((((d.uncount (.queue q)).setQueue q fun x => { x with done := [], rel := [] }).put (F.CAN_CMD_STAT_REMOVED k)
        (min ((d.queue q).done.length + (d.queue q).rel.length) 255)).put (F.CAN_CMD_STAT_HELD k) 0).canStat k 2 2 0) := by
  have hmine : (!(c.canQueues.contains q && c.get (F.HQ_CFG_CANCH q) == k)) = false := by rw [hqueue, hchannel]; simp
  simp only [Dyn.canCmd, hmine, hused, hheld, hbus]
  rfl

theorem Dyn.canCmd_clrColl (q : Nat) :
    d.canCmd c k 3 q = (d.setFlag (F.CAN_STATUS_ID_COLLISION k) false).canStat k 3 2 0 := by
  simp [Dyn.canCmd, hused, hheld]

end

/-- Settles O35, command by command. -/
theorem canCommands : Obligations.CanCommands := by
  intro s who k q hlive hmay hused hheld d n
  have hexec (code q : Nat) := State.upd_gated hlive hmay fun c d => d.canCmd c n code q
  exact ⟨fun hoff hcounts => (hexec 1 0).trans (by rw [Dyn.canCmd_recover (d := d) hused hheld hoff hcounts]),
    fun hqueue hchannel hbus => (hexec 2 q.toNat).trans
      (by rw [Dyn.canCmd_cancel (d := d) hused hheld hqueue hchannel hbus]; rfl),
    (hexec 3 0).trans (by rw [Dyn.canCmd_clrColl (d := d) hused hheld])⟩

end Sys2Proof.Machine
end
section
/-! SUPPORT. The calendar services (R371, R372, R374, R375). -/

namespace Sys2Proof.Machine

/-! ## The flag word of a block -/

/-- Word 7 of the block of CAL_FROM_PTP: LOCAL_OFS with its sign above the weekday, LEAP, DST and LOCAL (R374). -/
def calendarFlags (cal leap : Word) (day : Nat) (loc : Bool) : Word :=
  BitVec.ofNat 32 (cal.field 0 8 * 2 ^ 16 + (if 0x80 ≤ cal.field 0 8 then 0xFF000000 else 0) + day * 256 +
    leap.field 0 1 * 4 + cal.field 16 1 * 2 + b2n loc)

theorem Word.bit_eq_field (w : Word) (i : Nat) : w.bit i = decide (w.field i 1 = 1) := by
  rw [Word.bit, Word.field, Nat.shiftRight_eq_div_pow, BitVec.getLsbD, Nat.testBit_eq_decide_div_mod_eq, Nat.pow_one]

theorem calendarFlags_shows (cal leap : Word) {day : Nat} (loc : Bool) (hday : day < 8) :
    let w := calendarFlags cal leap day loc
    w.bit 0 = loc ∧ w.bit 1 = cal.bit 16 ∧ w.bit 2 = leap.bit 0 ∧ w.field 8 3 = day := by
  have hofs := cal.field_lt 0 8
  have hdst := cal.field_lt 16 1
  have hleap := leap.field_lt 0 1
  have hsign : ∃ n, (if 0x80 ≤ cal.field 0 8 then 0xFF000000 else 0) = n * 2 ^ 24 ∧ n ≤ 255 := by
    split_ifs
    · exact ⟨255, rfl, le_rfl⟩
    · exact ⟨0, rfl, by decide⟩
  obtain ⟨n, hn, hle⟩ := hsign
  have hloc : b2n loc = 1 ∧ loc = true ∨ b2n loc = 0 ∧ loc = false := by cases loc <;> simp [b2n]
  simp only [Word.bit_eq_field, calendarFlags, hn]
  generalize cal.field 0 8 = a at *
  generalize cal.field 16 1 = g at *
  generalize leap.field 0 1 = l at *
  simp only [Word.field, BitVec.toNat_ofNat, Nat.shiftRight_eq_div_pow, decide_eq_decide]
  refine ⟨?loc, ?dst, ?leap, ?day⟩
  case loc => rcases hloc with ⟨hb, rfl⟩ | ⟨hb, rfl⟩ <;> simp only [hb, decide_eq_true_eq, decide_eq_false_iff_not] <;> omega
  case dst => omega
  case leap => omega
  case day => omega

theorem weekday_lt (u : Nat) : weekday u < 8 := by
  unfold weekday
  omega

/-! ## The services

Each is unfolded as a function: applied, its match on `calRange` would be compared with its unfolding by evaluating the
calendar's integers. -/

section
variable {c : Cfg} {d : Dyn} {p k a : Nat} {w : Word} {b : List Word}

theorem svcCalFromPtp_ok {u : Int}
    (hu : calRange (utcOfPtp (d.viewWord p 0x1000) ((d.viewWord p 0x252).toNat + (d.viewWord p 0x253).field 0 16 * 2 ^ 32) +
      (if (arg b 7).bit 0 then localOfs (d.viewWord p 0x1000) * 900 else 0)) = .ok u) :
    svcCalFromPtp c d p k w a b = (
      let x := CalTime.ofSeconds u.toNat
      (d.store c p a ([x.year, x.month, x.day, x.hour, x.minute, x.second].map (BitVec.ofInt 32) ++ [d.viewWord p 0x254,
        calendarFlags (d.viewWord p 0x1000) (d.viewWord p 0x1001) (weekday u.toNat) ((arg b 7).bit 0)]), .ok 0)) := by
  have hdef : svcCalFromPtp = svcCalFromPtp := rfl
  conv_rhs at hdef => delta svcCalFromPtp
  rw [hdef]
  simp only [hu, calendarFlags]

theorem svcCalFromPtp_error {e : Nat}
    (he : calRange (utcOfPtp (d.viewWord p 0x1000) ((d.viewWord p 0x252).toNat + (d.viewWord p 0x253).field 0 16 * 2 ^ 32) +
      (if (arg b 7).bit 0 then localOfs (d.viewWord p 0x1000) * 900 else 0)) = .error e) :
    svcCalFromPtp c d p k w a b = (d, .error e) := by
  have hdef : svcCalFromPtp = svcCalFromPtp := rfl
  conv_rhs at hdef => delta svcCalFromPtp
  rw [hdef]
  simp only [he]

theorem svcCalToPtp_ok {l u : Int}
    (hl : (CalTime.mk (arg b 0).toInt (arg b 1).toInt (arg b 2).toInt (arg b 3).toInt (arg b 4).toInt
      (arg b 5).toInt).toSeconds = .ok l)
    (hu : calRange (l - if (arg b 7).bit 0 then localOfs (d.viewWord p 0x1000) * 900 else 0) = .ok u) :
    svcCalToPtp c d p k w a b =
      (d.setMword c p (a + 6) (BitVec.ofInt 32 (ptpOfUtc (d.viewWord p 0x1000) u / 2 ^ 32)),
        .ok (BitVec.ofInt 32 (ptpOfUtc (d.viewWord p 0x1000) u))) := by
  have hdef : svcCalToPtp = svcCalToPtp := rfl
  conv_rhs at hdef => delta svcCalToPtp
  rw [hdef]
  simp only [hl, hu]

end

section
variable {s : State} {p : BitVec 4} {k : Nat} {t : TaskCtx} (h : Issues s p 40 k t) (hb : BlockAt s p t 8)
include h hb

theorem Issues.exec_calFromPtp {u : Int}
    (hu : calRange (utcOfPtp (s.dyn.viewWord p.toNat 0x1000)
        ((s.dyn.viewWord p.toNat 0x252).toNat + (s.dyn.viewWord p.toNat 0x253).field 0 16 * 2 ^ 32) +
      (if (s.blockWord p t 7).bit 0 then localOfs (s.dyn.viewWord p.toNat 0x1000) * 900 else 0)) = .ok u) :
    exec (.calFromPtp p) s = .next (s.served p 40 k t (fun d =>
      let x := CalTime.ofSeconds u.toNat
      d.store s.cfg p.toNat t.wa.toInt.toNat
        ([x.year, x.month, x.day, x.hour, x.minute, x.second].map (BitVec.ofInt 32) ++ [s.dyn.viewWord p.toNat 0x254,
          calendarFlags (s.dyn.viewWord p.toNat 0x1000) (s.dyn.viewWord p.toNat 0x1001) (weekday u.toNat)
            ((s.blockWord p t 7).bit 0)])) 0) := by
  refine h.service_ok (q := 0x50) rfl rfl (.inr hb) (fun d => Dyn.store _ d _ _ _) ?_
  have hloc := s.issued_arg p t (n := 40) (show 7 < 8 by decide)
  rw [svcCalFromPtp_ok (u := u) (by rw [hloc]; simpa only [Dyn.issued_viewWord] using hu), hloc]
  simp only [Dyn.issued_viewWord]

theorem Issues.exec_calFromPtp_outside {e : Nat}
    (he : calRange (utcOfPtp (s.dyn.viewWord p.toNat 0x1000)
        ((s.dyn.viewWord p.toNat 0x252).toNat + (s.dyn.viewWord p.toNat 0x253).field 0 16 * 2 ^ 32) +
      (if (s.blockWord p t 7).bit 0 then localOfs (s.dyn.viewWord p.toNat 0x1000) * 900 else 0)) = .error e) :
    exec (.calFromPtp p) s = .next (s.failed p 40 k t (BitVec.ofNat 32 e)) := by
  have hloc := s.issued_arg p t (n := 40) (show 7 < 8 by decide)
  refine h.service_failed (q := 0x50) rfl rfl (.inr hb) (svcCalFromPtp_error ?_)
  rw [hloc]
  simpa only [Dyn.issued_viewWord] using he

theorem Issues.exec_calToPtp {l u : Int}
    (hl : (CalTime.mk (s.blockWord p t 0).toInt (s.blockWord p t 1).toInt (s.blockWord p t 2).toInt
      (s.blockWord p t 3).toInt (s.blockWord p t 4).toInt (s.blockWord p t 5).toInt).toSeconds = .ok l)
    (hu : calRange (l - if (s.blockWord p t 7).bit 0 then localOfs (s.dyn.viewWord p.toNat 0x1000) * 900 else 0) = .ok u) :
    exec (.calToPtp p) s = .next (s.served p 40 k t (fun d =>
      d.setMword s.cfg p.toNat (t.wa.toInt.toNat + 6)
        (BitVec.ofInt 32 (ptpOfUtc (s.dyn.viewWord p.toNat 0x1000) u / 2 ^ 32)))
      (BitVec.ofInt 32 (ptpOfUtc (s.dyn.viewWord p.toNat 0x1000) u))) := by
  have hword {j : Nat} (hj : j < 8) := s.issued_arg p t (n := 40) hj
  refine h.service_ok (q := 0x51) rfl rfl (.inr hb) (fun d => d.setMword _ _ _ _) ?_
  rw [svcCalToPtp_ok (l := l) (u := u)
    (by rw [hword (by decide), hword (by decide), hword (by decide), hword (by decide), hword (by decide),
      hword (by decide)]; exact hl)
    (by rw [hword (by decide)]; simpa only [Dyn.issued_viewWord] using hu)]
  simp only [Dyn.issued_viewWord]

end

/-- Settles O26, service by service. -/
theorem calendarServices : Obligations.CalendarServices := by
  intro s p k t h hb v cal loc shift b
  refine ⟨fun u hu => ?fromPtp, fun l u hl hu => h.exec_calToPtp hb hl hu, fun e he => h.exec_calFromPtp_outside hb he⟩
  case fromPtp =>
    obtain ⟨hloc, hdst, hleap, hday⟩ := calendarFlags_shows cal (v 0x1001) loc (weekday_lt u.toNat)
    exact ⟨_, hloc, hdst, hleap, hday, h.exec_calFromPtp hb hu⟩

end Sys2Proof.Machine
end
section
/-! SUPPORT. The events of the RTC (R373, R376, R379, R381–R383). -/

namespace Sys2Proof.Machine

theorem Dyn.roundFree_fst_bounds (d : Dyn) (num : Int) (den : Nat) :
    num / den ≤ (d.roundFree num den).1 ∧ (d.roundFree num den).1 ≤ num / den + 1 := by
  unfold Dyn.roundFree
  extract_lets q
  split_ifs <;> constructor <;> simp [q]

theorem Dyn.rtcStat_status (d : Dyn) (code : Nat) : (d.rtcStat code 2 0).get F.RTC_CMD_STAT_STATUS = 2 := by
  have hword := d.rd_wr_same Reg.RTC_CMD_STAT (BitVec.ofNat 32 (0 * 256 + code * 16 + 2))
  show Word.field ((d.rtcStat code 2 0).rd Reg.RTC_CMD_STAT) 0 4 = 2
  rw [Dyn.rtcStat, hword, Word.field, BitVec.toNat_ofNat]
  omega

/-! ## The execution of a command (R376) -/

section
variable {c : Cfg} {d : Dyn} {arg : Nat} (hdrives : d.follower = false)
include hdrives

theorem Dyn.rtcExecute_addHour (hcmd : d.rtc.cmd = some (1, arg)) (hofs : localOfs (d.rd Reg.RTC_CALSTATE) ≤ 52) :
    d.rtcExecute c =
      { d with rtc := { d.rtc with cmd := none, hour := some (true, (d.rtcTime / 32768 + 1) * 32768) } } := by
  have hdrives' : ({ d with rtc := { d.rtc with cmd := none } } : Dyn).follower = false := hdrives
  have hin : ¬ 56 < localOfs (d.rd Reg.RTC_CALSTATE) + 4 := by omega
  rw [Dyn.rtcExecute, hcmd]
  simp only [hdrives', Bool.and_false, Bool.false_eq_true, if_false]
  exact if_neg hin

theorem Dyn.rtcExecute_subHour (hcmd : d.rtc.cmd = some (2, arg)) (hofs : -52 ≤ localOfs (d.rd Reg.RTC_CALSTATE)) :
    d.rtcExecute c =
      { d with rtc := { d.rtc with cmd := none, hour := some (false, (d.rtcTime / 32768 + 1) * 32768) } } := by
  have hdrives' : ({ d with rtc := { d.rtc with cmd := none } } : Dyn).follower = false := hdrives
  have hin : ¬ localOfs (d.rd Reg.RTC_CALSTATE) - 4 < -56 := by omega
  rw [Dyn.rtcExecute, hcmd]
  simp only [hdrives', Bool.and_false, Bool.false_eq_true, if_false]
  exact if_neg hin

theorem Dyn.rtcExecute_setTaiUtc (hcmd : d.rtc.cmd = some (4, arg)) (hsrc : d.flag F.RTC_CALSTATE_TAI_SRC = false) :
    d.rtcExecute c = ((({ d with rtc := { d.rtc with cmd := none } } : Dyn).put F.RTC_CALSTATE_TAI_UTC arg).rtcDone 2 0) := by
  have hdrives' : ({ d with rtc := { d.rtc with cmd := none } } : Dyn).follower = false := hdrives
  have hsrc' : ({ d with rtc := { d.rtc with cmd := none } } : Dyn).flag F.RTC_CALSTATE_TAI_SRC = false := hsrc
  rw [Dyn.rtcExecute, hcmd]
  simp only [hdrives', hsrc', Bool.and_false, Bool.false_eq_true, if_false]

omit hdrives in
theorem Dyn.rtcExecute_clrSwo (hcmd : d.rtc.cmd = some (5, arg)) :
    d.rtcExecute c = (({ d with rtc := { d.rtc with cmd := none } } : Dyn).clearSwo.rtcDone 2 0) := by
  rw [Dyn.rtcExecute, hcmd]
  rfl

end

/-! ## The clock's own events -/

section
variable {s : State}

/-- OFFSET_CHANGE happens at the whole second that its command waits for; LOCAL_OFS and DST change there (R376). -/
theorem exec_offsetChange_shows (hlive : Live s) {up : Bool} {t : Nat} (hhour : s.dyn.rtc.hour = some (up, t)) :
    ∃ u, exec .offsetChange s = .next u ∧ u.cfg = s.cfg ∧ u.dyn.rtc.hour = none ∧
      u.dyn.get F.RTC_CALSTATE_LOCAL_OFS =
        ((localOfs (s.dyn.rd Reg.RTC_CALSTATE) + if up then 4 else -4) % 256).toNat ∧
      u.dyn.flag F.RTC_CALSTATE_DST = !s.dyn.flag F.RTC_CALSTATE_DST ∧ u.dyn.get F.RTC_CMD_STAT_STATUS = 2 := by
  set d := if s.dyn.rtcTime < t then s.dyn.ticks (s.dyn.cyclesToTick (t - s.dyn.rtcTime)) else s.dyn with hd
  have hcal : d.rd Reg.RTC_CALSTATE = s.dyn.rd Reg.RTC_CALSTATE := by
    rw [hd]
    split_ifs
    · exact Dyn.rd_ticks _ _ (by decide)
    · rfl
  set ofs := localOfs (s.dyn.rd Reg.RTC_CALSTATE) + if up then 4 else -4
  set e := d.put F.RTC_CALSTATE_LOCAL_OFS (ofs % 256).toNat with he
  have hdst : e.flag F.RTC_CALSTATE_DST = s.dyn.flag F.RTC_CALSTATE_DST :=
    (d.flag_put_disjoint (f := F.RTC_CALSTATE_LOCAL_OFS) (g := F.RTC_CALSTATE_DST) _ rfl (by decide) (by decide)).trans (Dyn.flag_congr hcal)
  set g := e.setFlag F.RTC_CALSTATE_DST !(e.flag F.RTC_CALSTATE_DST) with hg
  refine ⟨s.withDyn { g.rtcDone 2 0 with rtc := { g.rtc with hour := none } }, ?exec, rfl, rfl, ?ofs, ?dst, ?status⟩
  case exec =>
    show execOffsetChange s = _
    rw [execOffsetChange, State.upd_withDyn hlive, hhour]
    simp only [← hd, hcal]
    rfl
  case ofs =>
    have hsmall : (ofs % 256).toNat < 256 := by omega
    calc _ = g.get F.RTC_CALSTATE_LOCAL_OFS := Dyn.get_wr_ne _ _ (by decide)
      _ = e.get F.RTC_CALSTATE_LOCAL_OFS := Dyn.get_put_disjoint _ _ rfl (by decide) (by decide)
      _ = (ofs % 256).toNat := Dyn.get_put_fits _ (by decide) hsmall
  case dst =>
    calc _ = g.flag F.RTC_CALSTATE_DST := Dyn.flag_wr_ne _ _ (by decide)
      _ = !e.flag F.RTC_CALSTATE_DST := Dyn.flag_setFlag_same _ _ _ (by decide) (by decide)
      _ = _ := by rw [hdst]
  case status => exact g.rtcStat_status _

/-- RTC_REWRITE of a synchronised clock that is off by more than half a second (R379). -/
theorem exec_rtcRewrite (hlive : Live s) (hsync : s.dyn.ptpSync = true) {diff : Int}
    (hdiff : (s.dyn.rtcTime : Int) * 10 ^ 9 - s.dyn.utcNs * 32768 = diff) (hoff : 10 ^ 9 * 16384 < diff.natAbs) :
    let x : Dyn := { s.dyn with rtc := { s.dyn.rtc with
      epoch := BitVec.ofInt 48 (s.dyn.utcNs * 32768 / 10 ^ 9) - s.dyn.rtc.tick } }
    let ms := (((x.setFlag F.RTC_STATUS_LOST false).setFlag F.RTC_STATUS_VALID true).bump
      F.RTC_REWRITES_COUNT).roundFree diff (32768 * 10 ^ 6)
    exec .rtcRewrite s = .next (s.withDyn (ms.2.alarm s.cfg 0x0701 0 (BitVec.ofInt 32 ms.1) 0)) := by
  intro x ms
  have hdue : (s.dyn.ptpSync && decide (10 ^ 9 * 16384 < diff.natAbs)) = true := by rw [hsync, decide_eq_true hoff]; rfl
  show execRtcRewrite s = _
  rw [execRtcRewrite, State.upd_withDyn hlive, hdiff, if_pos hdue]

/-- The master's offset changes at the next whole PTP second (R373). -/
theorem exec_leapSecond_shows (hlive : Live s) (utc : BitVec 8) (hservo : s.dyn.servo = 2)
    (hsrc : s.dyn.flag F.RTC_CALSTATE_TAI_SRC = true) (hdrives : s.dyn.follower = false) :
    ∃ u, exec (.leapSecond utc) s = .next u ∧ u.dyn.get F.RTC_CALSTATE_TAI_UTC = utc.toNat ∧
      ∀ a, a ≠ Reg.RTC_CALSTATE → a ≠ Reg.TSU_STATUS → u.dyn.rd a = s.dyn.rd a := by
  have htaken : (decide (s.dyn.servo = 2) && s.dyn.flag F.RTC_CALSTATE_TAI_SRC && !s.dyn.follower) = true := by
    rw [hservo, hsrc, hdrives]
    rfl
  set d := s.dyn.ticks (s.dyn.cyclesFor ((10 ^ 9 - s.dyn.ptpNs) % 10 ^ 9))
  set e := d.put F.RTC_CALSTATE_TAI_UTC utc.toNat
  have hexec : exec (.leapSecond utc) s = .next (s.withDyn (if s.dyn.get F.RTC_CALSTATE_TAI_UTC < utc.toNat then
      { e with rtc := { e.rtc with leap := some e.clk.sec } } else e)) := by
    show execLeapSecond utc s = _
    rw [execLeapSecond, State.upd_withDyn hlive, if_pos htaken]
  refine ⟨_, hexec, ?_⟩
  rw [State.withDyn_dyn]
  have hregs : (if s.dyn.get F.RTC_CALSTATE_TAI_UTC < utc.toNat then
      { e with rtc := { e.rtc with leap := some e.clk.sec } } else e).regs = e.regs := by split_ifs <;> rfl
  refine ⟨(Dyn.get_regs hregs _).trans (Dyn.get_put_fits _ (by decide) utc.isLt), fun a hcal hstatus => ?_⟩
  calc _ = e.rd a := congrArg (fun r => sget 0 r a) hregs
    _ = d.rd a := Dyn.rd_put_ne _ _ hcal
    _ = s.dyn.rd a := Dyn.rd_ticks _ _ hstatus

/-- The first switch-over keeps its tick, a later one is counted (R383). -/
theorem exec_backupSwitchOver_shows (s : State) :
    ∃ u, exec .backupSwitchOver s = .next u ∧ u.cfg = s.cfg ∧ u.dyn.flag F.RTC_STATUS_SWO_FLAG = true ∧
      (s.dyn.flag F.RTC_STATUS_SWO_FLAG = false → u.dyn.rtc.swoTick = s.dyn.rtc.tick ∧
        u.dyn.rd Reg.RTC_SWO_COUNT = s.dyn.rd Reg.RTC_SWO_COUNT) ∧
      (s.dyn.flag F.RTC_STATUS_SWO_FLAG = true → u.dyn.rtc.swoTick = s.dyn.rtc.swoTick ∧
        u.dyn.get F.RTC_SWO_COUNT_COUNT = min (s.dyn.get F.RTC_SWO_COUNT_COUNT + 1) 255) ∧
      ∀ a, a ≠ Reg.RTC_STATUS → a ≠ Reg.RTC_SWO_COUNT → u.dyn.rd a = s.dyn.rd a := by
  by_cases hflag : s.dyn.flag F.RTC_STATUS_SWO_FLAG = true
  · have hexec : exec .backupSwitchOver s = .next { s with dyn := { s.dyn.bump F.RTC_SWO_COUNT_COUNT with
        rtc := { s.dyn.rtc with swoAt := some s.dyn.rtc.tick, onBackup := true } } } := by
      show execBackupSwitchOver s = _
      simp only [execBackupSwitchOver, State.always, if_pos hflag]
      rfl
    exact ⟨_, hexec, rfl, (Dyn.flag_put_ne _ _ (by decide)).trans hflag, fun h => absurd (hflag.symm.trans h) (by decide),
      fun _ => ⟨rfl, s.dyn.get_bumpBy (f := F.RTC_SWO_COUNT_COUNT) 1 (by decide)⟩, fun a _ hcount => Dyn.rd_put_ne _ _ hcount⟩
  · have hexec : exec .backupSwitchOver s = .next { s with dyn := { s.dyn.setFlag F.RTC_STATUS_SWO_FLAG true with
        rtc := { s.dyn.rtc with swoTick := s.dyn.rtc.tick, swoAt := some s.dyn.rtc.tick, onBackup := true } } } := by
      show execBackupSwitchOver s = _
      simp only [execBackupSwitchOver, State.always, if_neg hflag]
    exact ⟨_, hexec, rfl, s.dyn.flag_setFlag_same F.RTC_STATUS_SWO_FLAG _ (by decide) (by decide),
      fun _ => ⟨rfl, Dyn.rd_put_ne _ _ (by decide)⟩, fun h => absurd h hflag, fun a hstatus _ => Dyn.rd_put_ne _ _ hstatus⟩

/-- The cell's voltage and, off the limits of the threshold, CELL_LOW (R381). -/
theorem exec_cellMeasurement_shows (hlive : Live s) (mv : BitVec 16) :
    ∃ u, exec (.cellMeasurement mv) s = .next u ∧ u.dyn.get F.RTC_BACKUP_CELL_MV = mv.toNat ∧
      (mv.toNat < 2400 → u.dyn.flag F.RTC_STATUS_CELL_LOW = true) ∧
      (2600 ≤ mv.toNat → u.dyn.flag F.RTC_STATUS_CELL_LOW = false) := by
  set d := s.dyn.put F.RTC_BACKUP_CELL_MV mv.toNat
  have hmv : d.get F.RTC_BACKUP_CELL_MV = mv.toNat := Dyn.get_put_fits _ (by decide) mv.isLt
  have hkeeps (e : Dyn) (b : Bool) : (e.setFlag F.RTC_STATUS_CELL_LOW b).get F.RTC_BACKUP_CELL_MV =
      e.get F.RTC_BACKUP_CELL_MV := Dyn.get_put_ne _ _ (by decide)
  have hshows (b : Bool) : (d.setFlag F.RTC_STATUS_CELL_LOW b).flag F.RTC_STATUS_CELL_LOW = b :=
    d.flag_setFlag_same _ _ (by decide) (by decide)
  show ∃ u, execCellMeasurement mv s = _ ∧ _
  refine ⟨_, State.upd_withDyn hlive _, ?_⟩
  dsimp only [State.withDyn_dyn]
  split_ifs with hlow hgood
  · exact ⟨(hkeeps d true).trans hmv, fun _ => hshows true, fun h => absurd h (by omega)⟩
  · exact ⟨(hkeeps d false).trans hmv, fun h => absurd h hlow, fun _ => hshows false⟩
  · exact ⟨(hkeeps _ _).trans hmv, fun h => absurd h hlow, fun h => absurd h hgood⟩

end

/-- Settles O51, event by event. -/
theorem rtcEvents : Obligations.RtcEvents := by
  intro s
  refine ⟨fun hlive hdrives code arg hcmd => ?command, fun up t hlive hhour => exec_offsetChange_shows hlive hhour,
    fun hlive hsync hoff => ⟨exec_rtcRewrite hlive hsync rfl hoff, Dyn.roundFree_fst_bounds ..⟩,
    fun utc hlive hservo hsrc hdrives => exec_leapSecond_shows hlive utc hservo hsrc hdrives,
    exec_backupSwitchOver_shows s, rfl, fun mv hlive => exec_cellMeasurement_shows hlive mv⟩
  case command =>
    have hexec : exec .rtcCommandExecution s = .next (s.withDyn (s.dyn.rtcExecute s.cfg)) := State.upd_withDyn hlive _
    refine ⟨?_, ?_, ?_, ?_⟩ <;> rintro rfl
    · exact fun hofs => hexec.trans (by rw [Dyn.rtcExecute_addHour hdrives hcmd hofs])
    · exact fun hofs => hexec.trans (by rw [Dyn.rtcExecute_subHour hdrives hcmd hofs])
    · exact fun hsrc => hexec.trans (by rw [Dyn.rtcExecute_setTaiUtc hdrives hcmd hsrc])
    · exact hexec.trans (by rw [Dyn.rtcExecute_clrSwo hcmd])

end Sys2Proof.Machine
end
section
/-! SUPPORT. The latching reads of the RTC (R10, R370). -/

namespace Sys2Proof.Machine

/-! ## A register and the companion that its read latches -/

/-- Reading `lo` answers the low word of `v` and latches its upper part in the plain register `hi` (R10). -/
structure Latches (lo hi : Word) (v : Dyn → BitVec 48) : Prop where
  aligned : lo.toNat % 4 = 0 ∧ hi.toNat % 4 = 0
  lowRow : ∃ r, regRow lo.toNat = some r ∧ r.acc = .lt
  highRow : ∃ r, regRow hi.toNat = some r ∧ r.acc = .ro
  latch : ∀ d : Dyn, d.latchFor lo.toNat = d.wr hi.toNat (upper (v d))
  low : ∀ c (d : Dyn), d.regValue c lo.toNat = (v d).extractLsb' 0 32
  high : ∀ c (d : Dyn), d.regValue c hi.toNat = d.rd hi.toNat
  plain : ∀ c (d : Dyn), d.rxbSeen c hi.toNat = d

/-- A granted read of a RO register that is no receive buffer's. -/
theorem Dyn.reads_ro {c : Cfg} {d : Dyn} {who : Requester} {addr : Word} {r : RegRow} (hs : d.portServed who = true)
    (hal : addr.toNat % 4 = 0) (hr : regRow addr.toNat = some r) (hacc : r.acc = .ro)
    (hm : d.mayAccess c who addr.toNat false = true) :
    d.reads c who addr = { d.rxbSeen c addr.toNat with readData := d.regValue c addr.toNat } := by
  simp [Dyn.reads, Dyn.busRead, hs, Dyn.reaches_of_granted hal hr hm, hr, hacc]

section
variable {lo hi : Word} {v : Dyn → BitVec 48} (h : Latches lo hi v) {c : Cfg} {d : Dyn} {who : Requester}
include h

theorem Latches.reads_low (hs : d.portServed who = true) (hm : d.mayAccess c who lo.toNat false = true) :
    d.reads c who lo = { d.wr hi.toNat (upper (v d)) with readData := (v d).extractLsb' 0 32 } := by
  obtain ⟨r, hr, hacc⟩ := h.lowRow
  rw [Dyn.reads_lt hs h.aligned.1 hr hacc hm, h.latch, h.low]

theorem Latches.reads_high (hs : d.portServed who = true) (hm : d.mayAccess c who hi.toNat false = true) :
    d.reads c who hi = { d with readData := d.rd hi.toNat } := by
  obtain ⟨r, hr, hacc⟩ := h.highRow
  rw [Dyn.reads_ro hs h.aligned.2 hr hacc hm, h.plain, h.high]

/-- The low word, then the high part of the value that stood at the first read. -/
theorem Latches.exec_reads {s : State} (hlive : Live s) (hlo : MayRead s who lo.toNat) (hhi : MayRead s who hi.toNat) :
    ∃ u w, exec (.latchingRead who lo) s = .next u ∧ u.cfg = s.cfg ∧
      u.dyn.readData = (v s.dyn).extractLsb' 0 32 ∧ u.dyn.rd hi.toNat = upper (v s.dyn) ∧
      (∀ a, a ≠ hi.toNat → u.dyn.rd a = s.dyn.rd a) ∧
      exec (.latchingRead who hi) u = .next w ∧ w.dyn.readData = upper (v s.dyn) := by
  obtain ⟨hlos, hlom⟩ := hlo
  obtain ⟨hhis, hhim⟩ := hhi
  set e : Dyn := { s.dyn.wr hi.toNat (upper (v s.dyn)) with readData := (v s.dyn).extractLsb' 0 32 }
  have hupper : e.rd hi.toNat = upper (v s.dyn) := s.dyn.rd_wr_same _ _
  have hlow : exec (.latchingRead who lo) s = .next (s.withDyn e) := by
    show execLatchingRead who lo s = _
    rw [execLatchingRead, State.upd_withDyn hlive, h.reads_low hlos hlom]
  have hhigh : exec (.latchingRead who hi) (s.withDyn e) =
      .next (s.withDyn { e with readData := e.rd hi.toNat }) := by
    have hlive' : Live (s.withDyn e) := hlive
    exact (State.upd_withDyn hlive' fun c d => d.reads c who hi).trans
      (congrArg (fun d => Host.Outcome.next (s.withDyn d)) (h.reads_high (d := e) hhis hhim))
  exact ⟨_, _, hlow, rfl, rfl, hupper, fun a ha => s.dyn.rd_wr_ne _ ha, hhigh, hupper⟩

end

/-! ## The tick and the epoch -/

section
variable (c : Cfg) (d : Dyn)

/-- The RTC block lies outside the windows that an image may leave out. -/
theorem Dyn.blank_rtc {a : Nat} (ha : 0xB0000 ≤ a ∧ a < 0xB1000) : d.blank c a = none := by
  obtain ⟨hlow, hhigh⟩ := ha
  have hpld : (decide (0x30000 ≤ a) && decide (a < 0x40000)) = false := by simp; omega
  have hlge : (decide (0x51000 ≤ a) && decide (a < 0x51400)) = false := by simp; omega
  have hlpe : (decide (0x60000 ≤ a) && decide (a < 0x68000)) = false := by simp; omega
  have hslv : (decide (0x70000 ≤ a) && decide (a < 0x74000)) = false := by simp; omega
  have hcan : (decide (0xD0000 ≤ a) && decide (a < 0xD8000)) = false := by simp; omega
  have hhq : (decide (0xE0000 ≤ a) && decide (a < 0xE1000)) = false := by simp; omega
  have hshl : (decide (0xF0000 ≤ a) && decide (a < 0x100000)) = false := by simp; omega
  simp only [Dyn.blank, hpld, hlge, hlpe, hslv, hcan, hhq, hshl, Bool.false_and, Bool.false_eq_true, if_false]

theorem Dyn.regValue_of_liveTime {a : Nat} (ha : 0xB0000 ≤ a ∧ a < 0xB1000) {w : Word} (hlive : d.liveTime c a = some w) :
    d.regValue c a = w := by
  rw [Dyn.regValue, d.blank_rtc c ha, hlive]

theorem Dyn.regValue_rtcTickHi : d.regValue c Reg.RTC_TICK_HI = d.rd Reg.RTC_TICK_HI := by
  have hlive : d.liveTime c Reg.RTC_TICK_HI = none := rfl
  have hlk : isLk Reg.RTC_TICK_HI = false := by decide +kernel
  rw [Dyn.regValue, d.blank_rtc c (by decide), hlive]
  simp only [hlk]
  rfl

theorem Dyn.regValue_rtcEpochHi : d.regValue c Reg.RTC_EPOCH_HI = d.rd Reg.RTC_EPOCH_HI := by
  have hlive : d.liveTime c Reg.RTC_EPOCH_HI = none := rfl
  have hlk : isLk Reg.RTC_EPOCH_HI = false := by decide +kernel
  rw [Dyn.regValue, d.blank_rtc c (by decide), hlive]
  simp only [hlk]
  rfl

end

theorem latches_rtcTick :
    Latches (BitVec.ofNat 32 Reg.RTC_TICK_LO) (BitVec.ofNat 32 Reg.RTC_TICK_HI) fun d => d.rtc.tick where
  aligned := by decide
  lowRow := ⟨⟨Reg.RTC_TICK_LO, .lt, 0, []⟩, by decide +kernel, rfl⟩
  highRow := ⟨⟨Reg.RTC_TICK_HI, .ro, 0, []⟩, by decide +kernel, rfl⟩
  latch _ := rfl
  low c d := d.regValue_of_liveTime c (by decide) rfl
  high c d := d.regValue_rtcTickHi c
  plain _ _ := rfl

theorem latches_rtcEpoch :
    Latches (BitVec.ofNat 32 Reg.RTC_EPOCH_LO) (BitVec.ofNat 32 Reg.RTC_EPOCH_HI) fun d => d.rtc.epoch where
  aligned := by decide
  lowRow := ⟨⟨Reg.RTC_EPOCH_LO, .lt, 0, []⟩, by decide +kernel, rfl⟩
  highRow := ⟨⟨Reg.RTC_EPOCH_HI, .ro, 0, []⟩, by decide +kernel, rfl⟩
  latch _ := rfl
  low c d := d.regValue_of_liveTime c (by decide) rfl
  high c d := d.regValue_rtcEpochHi c
  plain _ _ := rfl

/-- Settles O52: both pairs latch. -/
theorem rtcLatchedReads : Obligations.RtcLatchedReads := by
  intro s who lo hi v hlive hpair hlo hhi
  simp only [List.mem_cons, Prod.mk.injEq, List.not_mem_nil, or_false] at hpair
  obtain ⟨rfl, rfl, rfl⟩ | ⟨rfl, rfl, rfl⟩ := hpair
  · exact latches_rtcTick.exec_reads hlive hlo hhi
  · exact latches_rtcEpoch.exec_reads hlive hlo hhi

end Sys2Proof.Machine
end
section
/-! SUPPORT. The services of the hardware queues (R402–R404, R432). -/

namespace Sys2Proof.Machine

/-! ## What the charge of an instruction leaves of a polder's view of the queues -/

section
variable (c : Cfg) (d : Dyn) (p n q : Nat)

@[simp] theorem Dyn.issued_fillView : ((d.issued p n).polder p).fillView = (d.polder p).fillView := by
  rw [Dyn.issued_polder]

@[simp] theorem Dyn.issued_viewSeq : ((d.issued p n).polder p).viewSeq = (d.polder p).viewSeq := by
  rw [Dyn.issued_polder]

@[simp] theorem Dyn.issued_block (a m : Nat) : (d.issued p n).block c p a m = d.block c p a m := by
  simp only [Dyn.block, Dyn.issued_mword]

@[simp] theorem Dyn.issued_qSeen : (d.issued p n).qSeen p q = d.qSeen p q := by
  simp only [Dyn.qSeen, Dyn.issued_fillView, Dyn.issued_queue]

@[simp] theorem Dyn.issued_qVisible : (d.issued p n).qVisible p q = d.qVisible p q := by
  simp only [Dyn.qVisible, Dyn.issued_viewSeq, Dyn.issued_queue]

end

/-! ## What each service answers -/

section
variable {c : Cfg} {d : Dyn} {p k a q n : Nat} {w : Word} {b : List Word}

theorem Dyn.qSend_room {e : QEntry} (hroom : d.qSeen (c.qOwner q) q < c.qDepth q) :
    d.qSend c q e = ((d.setQueue q fun x => { x with pend := x.pend ++ [e] }).qPeak q, true) := by
  have hfull : decide (c.qDepth q ≤ d.qSeen (c.qOwner q) q) = false := decide_eq_false (Nat.not_le.2 hroom)
  simp only [Dyn.qSend, hfull, Bool.false_and, Bool.false_eq_true, if_false]

theorem Dyn.qSend_full {e : QEntry} (hfull : c.qDepth q ≤ d.qSeen (c.qOwner q) q) (hpolicy : c.flag (F.HQ_CFG_POLICY q) = false) :
    d.qSend c q e = (d.bump (F.HQ_DROP_COUNT q), false) := by
  simp only [Dyn.qSend, decide_eq_true hfull, hpolicy, Bool.not_false, Bool.and_true, if_true]

/-- Entries that were appended before the view was taken are visible, oldest first. -/
theorem Dyn.qVisible_pos {e : QEntry} {l : List QEntry} (hdone : (d.queue q).done = e :: l)
    (hseq : e.seq ≤ (d.polder p).viewSeq) : d.qVisible p q ≠ 0 := by
  simp [Dyn.qVisible, hdone, hseq]

section
variable (hq : (arg b 0).toNat = q) (hn : (arg b 1).toNat = n) {x : Int} (hx : (arg b 2).toInt = x)
  (hwindow : c.inWindow p x n = true) (hlow : q < 128) (hused : c.queueUsed q = true) (howner : c.qOwner q = p)
include hq hn hx hwindow hlow hused howner

/-- Q_SEND of a message that the queue carries, by what appending it does. -/
theorem svcQSend_owned (hpos : 1 ≤ n) (hfits : n ≤ c.qWords q) (hdir : c.qReceive q = false) (hkind : c.qKind q ≠ 0)
    {e : Dyn} {sent : Bool} (hsend : d.qSend c q ⟨0, d.block c p x.toNat n⟩ = (e, sent)) :
    svcQSend c d p k w a b = (e, if sent then .ok 0 else .error 5) := by
  have hmine : (!(decide (q < 128) && c.queueUsed q && c.qOwner q == p)) = false := by simp [hlow, hused, howner]
  have hgood : (decide (n = 0) || decide (c.qWords q < n) || c.qReceive q ||
      c.qKind q == 0 && !c.canMessage q (d.block c p x.toNat n)) = false := by
    simp [hdir, hkind]
    omega
  simp only [svcQSend, hq, hn, hx, hwindow, hmine, hgood, hsend, Bool.not_true, Bool.and_false, Bool.false_eq_true, if_false]
  cases sent <;> rfl

/-- Q_RECV of an owned receive queue with a visible entry. -/
theorem svcQRecv_visible (hdir : c.qReceive q = true) (hkind : c.qKind q ≠ 2) {e : QEntry} {l : List QEntry}
    (hdone : (d.queue q).done = e :: l) (hseq : e.seq ≤ (d.polder p).viewSeq) :
    svcQRecv c d p k w a b = ((d.setQueue q fun x => { x with done := l }).store c p x.toNat (e.words.take n),
      .ok (BitVec.ofNat 32 (e.words.take n).length)) := by
  have hinternal : (c.qKind q == 2) = false := by simp [hkind]
  have hmine : (!(decide (q < 128) && c.queueUsed q && (c.qOwner q == p || false))) = false := by
    simp [hlow, hused, howner]
  simp only [svcQRecv, hq, hn, hx, hwindow, hinternal, hmine, hdir, if_neg (d.qVisible_pos hdone hseq), hdone,
    Bool.or_true, Bool.not_true, Bool.and_false, Bool.false_and, Bool.false_eq_true, if_false]

theorem svcQRecv_empty (hdir : c.qReceive q = true) (hkind : c.qKind q ≠ 2) (hdone : (d.queue q).done = []) :
    svcQRecv c d p k w a b = (d, .error 4) := by
  have hinternal : (c.qKind q == 2) = false := by simp [hkind]
  have hmine : (!(decide (q < 128) && c.queueUsed q && (c.qOwner q == p || false))) = false := by
    simp [hlow, hused, howner]
  have hnone : d.qVisible p q = 0 := by simp [Dyn.qVisible, hdone]
  simp only [svcQRecv, hq, hn, hx, hwindow, hinternal, hmine, hdir, hnone,
    Bool.or_true, Bool.not_true, Bool.and_false, Bool.false_and, Bool.false_eq_true, if_false, if_true]

end

theorem svcQFill_owned (hq : (arg b 0).toNat = q) (hlow : q < 128) (hused : c.queueUsed q = true) (howner : c.qOwner q = p)
    (hkind : c.qKind q ≠ 2) : svcQFill c d p k w a b =
      (d, .ok (BitVec.ofNat 32 (if c.qReceive q then d.qVisible p q else sget 0 (d.polder p).fillView q))) := by
  have hmine : (c.qOwner q != p) = false := by simp [howner]
  have hinternal : (c.qKind q == 2) = false := by simp [hkind]
  simp only [svcQFill, hq, hlow, hused, hinternal, hmine, decide_true, Bool.and_true, Bool.not_true, Bool.false_and,
    Bool.false_eq_true, if_false]

/-- A receive queue is no internal one. -/
theorem Cfg.qKind_of_receive (h : c.qReceive q = true) : c.qKind q ≠ 2 := by
  intro h2
  simp [Cfg.qReceive, h2] at h

end

/-! ## The services -/

section
variable {s : State} {p : BitVec 4} {k q w : Nat} {t : TaskCtx} {dst : Int}
  (hq : (s.blockWord p t 0).toNat = q) (hlow : q < 128) (hused : s.cfg.queueUsed q = true) (howner : s.cfg.qOwner q = p.toNat)

/-- A transfer of `w` words in three block words costs six cycles and one for each started four words (R150). -/
theorem wordCost_transfer (hw : (s.blockWord p t 1).toNat = w) (hb : BlockAt s p t 3) :
    wordCost 6 1 s.cfg s.dyn p.toNat t = 6 + (w + 3) / 4 := by
  rw [wordCost_inWindow 6 hb (by decide), ← hw]
  rfl

section
variable (h : Issues s p (6 + (w + 3) / 4) k t) (hw : (s.blockWord p t 1).toNat = w) (hdst : (s.blockWord p t 2).toInt = dst)
  (hb : BlockAt s p t 3) (hwindow : s.cfg.inWindow p.toNat dst w = true)
include hq hlow hused howner h hw hdst hb hwindow

theorem Issues.exec_qSend_room (hpos : 1 ≤ w) (hfits : w ≤ s.cfg.qWords q) (hdir : s.cfg.qReceive q = false)
    (hkind : s.cfg.qKind q ≠ 0) (hroom : s.dyn.qSeen p.toNat q < s.cfg.qDepth q) :
    exec (.qSend p) s = .next (s.served p (6 + (w + 3) / 4) k t (fun d =>
      (d.setQueue q fun x => { x with pend := x.pend ++ [⟨0, s.dyn.block s.cfg p.toNat dst.toNat w⟩] }).qPeak q) 0) := by
  have hword {j : Nat} (hj : j < 3) := s.issued_arg p t (n := 6 + (w + 3) / 4) hj
  have hseen : (s.dyn.issued p.toNat (6 + (w + 3) / 4)).qSeen (s.cfg.qOwner q) q < s.cfg.qDepth q := by
    rw [howner, Dyn.issued_qSeen]
    exact hroom
  refine h.service_ok (q := 0x30) rfl (wordCost_transfer hw hb) (.inr hb) (fun d => (d.setQueue q _).qPeak q) ?_
  exact svcQSend_owned (n := w) (by rw [hword (by decide), hq]) (by rw [hword (by decide), hw]) (by rw [hword (by decide), hdst])
    hwindow hlow hused howner hpos hfits hdir hkind
    (by rw [Dyn.issued_block, Dyn.qSend_room hseen])

theorem Issues.exec_qSend_full (hpos : 1 ≤ w) (hfits : w ≤ s.cfg.qWords q) (hdir : s.cfg.qReceive q = false)
    (hkind : s.cfg.qKind q ≠ 0) (hfull : s.cfg.qDepth q ≤ s.dyn.qSeen p.toNat q)
    (hpolicy : s.cfg.flag (F.HQ_CFG_POLICY q) = false) :
    exec (.qSend p) s = .next (s.ran p (6 + (w + 3) / 4) k (fun d => d.bump (F.HQ_DROP_COUNT q))
      (some { t with la := false, wa := 5, pc := t.pc + 1 })) := by
  have hword {j : Nat} (hj : j < 3) := s.issued_arg p t (n := 6 + (w + 3) / 4) hj
  refine h.service (q := 0x30) (r := .error 5) rfl (wordCost_transfer hw hb) (.inr hb) (fun d => d.bump _) ?_
  exact svcQSend_owned (n := w) (by rw [hword (by decide), hq]) (by rw [hword (by decide), hw]) (by rw [hword (by decide), hdst])
    hwindow hlow hused howner hpos hfits hdir hkind
    (Dyn.qSend_full (by rw [howner, Dyn.issued_qSeen]; exact hfull) hpolicy)

theorem Issues.exec_qRecv (hdir : s.cfg.qReceive q = true) {e : QEntry} {l : List QEntry}
    (hdone : (s.dyn.queue q).done = e :: l) (hseq : e.seq ≤ (s.dyn.polder p.toNat).viewSeq) :
    exec (.qRecv p) s = .next (s.served p (6 + (w + 3) / 4) k t (fun d =>
        (d.setQueue q fun x => { x with done := l }).store s.cfg p.toNat dst.toNat (e.words.take w))
      (BitVec.ofNat 32 (e.words.take w).length)) := by
  have hword {j : Nat} (hj : j < 3) := s.issued_arg p t (n := 6 + (w + 3) / 4) hj
  refine h.service_ok (q := 0x31) rfl (wordCost_transfer hw hb) (.inr hb) (fun d => Dyn.store _ (d.setQueue _ _) _ _ _) ?_
  exact svcQRecv_visible (by rw [hword (by decide), hq]) (by rw [hword (by decide), hw]) (by rw [hword (by decide), hdst])
    hwindow hlow hused howner hdir (Cfg.qKind_of_receive hdir) hdone (by rw [Dyn.issued_viewSeq]; exact hseq)

theorem Issues.exec_qRecv_empty (hdir : s.cfg.qReceive q = true) (hdone : (s.dyn.queue q).done = []) :
    exec (.qRecv p) s = .next (s.failed p (6 + (w + 3) / 4) k t 4) := by
  have hword {j : Nat} (hj : j < 3) := s.issued_arg p t (n := 6 + (w + 3) / 4) hj
  refine h.service_failed (q := 0x31) rfl (wordCost_transfer hw hb) (.inr hb) (e := 4) ?_
  exact svcQRecv_empty (by rw [hword (by decide), hq]) (by rw [hword (by decide), hw]) (by rw [hword (by decide), hdst])
    hwindow hlow hused howner hdir (Cfg.qKind_of_receive hdir) hdone

end

include hq hlow hused howner in
theorem Issues.exec_qFill (h : Issues s p 3 k t) (hb : BlockAt s p t 1) (hkind : s.cfg.qKind q ≠ 2) :
    exec (.qFill p) s = .next (s.served p 3 k t id (BitVec.ofNat 32
      (if s.cfg.qReceive q then s.dyn.qVisible p.toNat q else sget 0 (s.dyn.polder p.toNat).fillView q))) := by
  have hword := s.issued_arg p t (n := 3) (show 0 < 1 by decide)
  refine h.service_ok (q := 0x32) rfl rfl (.inr hb) id ?_
  rw [svcQFill_owned (by rw [hword, hq]) hlow hused howner hkind, Dyn.issued_qVisible, Dyn.issued_fillView]
  rfl

end

/-- Settles O24, service by service. -/
theorem queueServices : Obligations.QueueServices := by
  intro s p n k t h q w dst hlow hused howner
  refine ⟨fun hn hb hpos _ hfits hwindow hdir hkind => ?send, fun hn hb hwindow hdir => ?recv, fun hn hb hkind => ?fill⟩ <;>
    subst hn
  case send =>
    exact ⟨fun hroom => h.exec_qSend_room rfl hlow hused howner rfl rfl hb hwindow hpos hfits hdir hkind hroom,
      fun hfull hpolicy => h.exec_qSend_full rfl hlow hused howner rfl rfl hb hwindow hpos hfits hdir hkind hfull hpolicy⟩
  case recv =>
    exact ⟨fun e l hdone hseq => h.exec_qRecv rfl hlow hused howner rfl rfl hb hwindow hdir hdone hseq,
      fun hdone => h.exec_qRecv_empty rfl hlow hused howner rfl rfl hb hwindow hdir hdone⟩
  case fill => exact h.exec_qFill rfl hlow hused howner hb hkind

end Sys2Proof.Machine
end
section
/-! SUPPORT. Frames of remote stations and streams, their cut and the ACK deadline (R390, R394, R396, R397, R400, R401). -/

namespace Sys2Proof.Machine

/-! ## Accepted frames -/

theorem Cfg.remote_of_fromRemote {c : Cfg} {n : Nat} {h : StnHdr} (hfrom : c.fromRemote n h = true) : c.remote n = true := by
  simp only [Cfg.fromRemote, Bool.and_eq_true] at hfrom
  exact hfrom.1.1

section
variable {s : State} {h : StnHdr}

/-- An INPUT frame waits for the next cut; a second copy within 400 ms is counted (R394, R396). -/
theorem exec_inputFrame {n : BitVec 5} {payload : List Word} (hs : StationFrame s h (inputBody n.toNat payload))
    (hfrom : s.cfg.fromRemote n.toNat h = true) (hlen : payload.length * 4 = s.cfg.get (F.NET_RS_CFG_IN_LEN n.toNat)) :
    let e := s.accepts h
    let seen := pairDiscard (e.remote n.toNat).seen h.seq e.now
    let d := e.setRemote n.toNat fun r => { r with seen := seen.1 }
    exec (.inputFrame n h payload) s = .next (s.withDyn (
      if seen.2 then d.arrive s.cfg (.input n.toNat h.fn h.seq payload) else d.bump (F.NET_RS_ERR_COUNT n.toNat))) := by
  intro e seen d
  show execInputFrame n h payload s = _
  rw [execInputFrame, State.upd_withDyn hs.live, hs.onPort]
  dsimp only
  rw [hfrom, beq_iff_eq.2 hlen, hs.checks.checked, if_pos (Cfg.remote_of_fromRemote hfrom)]
  rfl

/-- An ACK clears NO_ACK_LIVE and waits for the next cut (R396, R400). -/
theorem exec_ackFrame {n : BitVec 5} {seq : BitVec 16} {status : BitVec 8}
    (hs : StationFrame s h (ackBody n.toNat seq status)) (hfrom : s.cfg.fromRemote n.toNat h = true) :
    exec (.ackFrame n h seq status) s =
      .next (s.withDyn (((s.accepts h).gotAck n.toNat seq).arrive s.cfg (.ack n.toNat seq status.toNat))) := by
  show execAckFrame n h seq status s = _
  rw [execAckFrame, State.upd_withDyn hs.live, hs.onPort]
  dsimp only
  rw [hfrom, hs.checks.checked]
  rfl

/-- A stream frame of a stream without EVT waits for the next latch, unless its SEQ came within the last 400 ms (R401). -/
theorem exec_streamFrame {id : BitVec 16} {payload : List Word} (hs : StationFrame s h (streamBody id.toNat payload))
    (hid : 0x200 ≤ id.toNat) (hpeer : s.cfg.streamPeer id.toNat false = some h.src)
    (hquiet : ∀ x ∈ s.cfg.streamEntries id.toNat, x.2.1.bit 29 = false) :
    let e := s.accepts h
    let x := sget StreamRx.init e.net.streams id.toNat
    let seen := pairDiscard x.seen h.seq e.now
    let d : Dyn := { e with net := { e.net with streams := sput StreamRx.init e.net.streams id.toNat { x with seen := seen.1 } } }
    exec (.streamFrame id h payload) s = .next (s.withDyn (
      if seen.2 then d.arrive s.cfg (.stream id.toNat h.seq payload) else d)) := by
  intro e x seen d
  have hsender : (decide (0x200 ≤ id.toNat) && s.cfg.streamPeer id.toNat false == some h.src) = true := by
    rw [decide_eq_true hid, hpeer]
    simp
  show execStreamFrame id h payload s = _
  rw [execStreamFrame, State.upd_withDyn hs.live, hs.onPort]
  simp only [hsender]
  rw [hs.checks.checked, foldl_keeps fun y hy => if_neg (by rw [hquiet y hy]; exact Bool.false_ne_true)]
  rfl

end

/-! ## The cut at T − 10 µs -/

section
variable (c : Cfg) (d : Dyn)

theorem Dyn.addCause_twin (p code : Nat) : (d.addCause c p code).twin = d.twin := by
  unfold Dyn.addCause
  split <;> rfl

theorem Dyn.remoteEvent_twin (n code cause : Nat) (fn : Word) (sec : BitVec 48) (ns : Nat) :
    (d.remoteEvent c n code cause fn sec ns).twin = d.twin := by
  unfold Dyn.remoteEvent
  extract_lets p x y
  have hy : y.twin = d.twin := d.addCause_twin ..
  split
  · exact (Dyn.Beside.refl.freeze ..).twin.trans hy
  · exact hy

/-- The states of a remote station at a cut are beside the link between the units. -/
theorem Dyn.cutOne_twin (n t : Nat) (items : List RxItem) (fn : Word) (sec : BitVec 48) (ns : Nat) :
    (d.cutOne c n t items fn sec ns).twin = d.twin := by
  unfold Dyn.cutOne
  extract_lets acks d₁ d₂ d₃ dl overdue noAck late d₄ d₅ refused frame miss d₆ d₇ go fail
  have h₂ : d₂.twin = d.twin := by
    refine foldl_view (·.twin) (fun x item => ?_) _ d₁
    split
    · split_ifs <;> rfl
    · rfl
  have h₃ : d₃.twin = d.twin := (foldl_view (·.twin) (fun _ _ => by rfl) _ d₂).trans h₂
  have h₅ : d₅.twin = d.twin := by
    refine Eq.trans ?_ h₃
    simp only [d₅]
    split <;> rfl
  clear_value frame
  have h₇ : d₇.twin = d.twin := by cases frame <;> exact h₅
  split
  · split
    · exact (Dyn.remoteEvent_twin ..).trans h₇
    · exact h₇
  · split
    · exact h₇
    · split
      · exact h₇
      · exact (Dyn.remoteEvent_twin ..).trans h₇
  · split
    · exact h₇
    · exact h₇

theorem Dyn.remoteCut_twin (t : Nat) (items : List RxItem) (fn : Word) (sec : BitVec 48) (ns : Nat) :
    (d.remoteCut c t items fn sec ns).twin = d.twin :=
  foldl_view (·.twin) (fun x n => by split_ifs; exacts [x.cutOne_twin .., rfl]) _ d

end

/-- Receipts of remote stations that a cut at this instant takes: its unit's own, that have arrived (R396). -/
def Dyn.takenByCut (d : Dyn) (r : Rx) : Bool :=
  !r.peer && match r.item with
    | .input _ _ _ _ => !later r.ft d.ft
    | .ack _ _ _ => !later r.ft d.ft
    | _ => false

section
variable {s : State} (hlive : Live s) (hframes : s.dyn.slc.framing = true) (hagree : s.dyn.agreeing = false)
  (hopen : s.dyn.net.cutDone = false)
include hlive hframes hagree hopen

/-- Without agreement the cut takes what has arrived by its instant (R397). -/
theorem exec_remoteStationCut :
    let d := s.dyn.advTo (s.dyn.atT (s.cfg.period - 10000))
    let kept := d.twin.rx.filter d.takenByCut
    let items := (kept.filter fun r => d.takesRx s.cfg r && d.unseen s.cfg r).map (·.item)
    let k := d.clk.addPtp (10000 * 2 ^ 24)
    exec .remoteStationCut s = .next (s.withDyn
      ((({ d with twin := { d.twin with rx := d.twin.rx.filter fun r => !d.takenByCut r } } : Dyn).keepSeen kept).remoteCut
        s.cfg d.now items (d.fn + 1) k.sec (k.ns24 >>> 24))) := by
  intro d kept items k
  have hgoes : ¬ (d.agreeing || d.net.cutDone) = true := by
    have hnet : d.net.cutDone = s.dyn.net.cutDone := congrArg Net.cutDone (s.dyn.ticks_net _)
    rw [(s.dyn.advTo_agreeing _).trans hagree, hnet, hopen]
    exact Bool.false_ne_true
  show execRemoteStationCut s = _
  rw [execRemoteStationCut, State.upd_withDyn hlive, if_neg (by rw [hframes]; decide)]
  dsimp only
  exact congrArg (fun x => Host.Outcome.next (s.withDyn x)) (if_neg hgoes)

theorem exec_remoteStationCut_shows :
    let d := s.dyn.advTo (s.dyn.atT (s.cfg.period - 10000))
    ∃ u, exec .remoteStationCut s = .next u ∧ u.cfg = s.cfg ∧ u.pending = s.pending ∧ u.dyn.net.cutDone = true ∧
      ∀ r ∈ u.dyn.twin.rx, r ∈ s.dyn.twin.rx ∧
        ∀ k fn seq payload, r.peer = false → r.item = .input k fn seq payload → later r.ft d.ft = true := by
  intro d
  refine ⟨_, exec_remoteStationCut hlive hframes hagree hopen, rfl, rfl, rfl, fun r hr => ?_⟩
  rw [State.withDyn_dyn, Dyn.remoteCut_twin] at hr
  obtain ⟨hmem, hwaits⟩ := List.mem_filter.1 hr
  refine ⟨by rwa [← s.dyn.advTo_twin], fun k fn seq payload hown hitem => ?_⟩
  simpa [Dyn.takenByCut, hown, hitem] using hwaits

end

/-- ACK_DL after the commit of the oldest OUTPUT frame without ACK (R400). -/
theorem exec_ackDeadline {s : State} (hlive : Live s) {n : BitVec 5} {o : BitVec 16 × Nat} {rest : List (BitVec 16 × Nat)}
    (hopen : (s.dyn.remote n.toNat).unanswered = o :: rest)
    (hnear : s.dyn.near s.cfg (o.2 + s.dyn.get F.NET_ACK_DL_VALUE * 1000)) :
    exec (.ackDeadline n) s = .next (s.withDyn ((s.dyn.dueAt (o.2 + s.dyn.get F.NET_ACK_DL_VALUE * 1000)).setFlag
      (F.NET_RS_STATUS_NO_ACK_LIVE n.toNat) true)) := by
  show execAckDeadline n s = _
  rw [execAckDeadline, State.upd_withDyn hlive]
  simp only [hopen]
  rw [Dyn.whenDue_near hnear]

/-- Settles O53, frame by frame. -/
theorem stationFrames : Obligations.StationFrames := by
  intro s h
  exact ⟨⟨fun n payload hs hfrom hlen => exec_inputFrame hs hfrom hlen,
      fun n seq status hs hfrom => exec_ackFrame hs hfrom,
      fun id payload hs hid hpeer hquiet => exec_streamFrame hs hid hpeer hquiet⟩,
    fun hlive hframes hagree hopen => exec_remoteStationCut_shows hlive hframes hagree hopen,
    fun n o rest hlive hopen hnear => exec_ackDeadline hlive hopen hnear⟩

end Sys2Proof.Machine
end
section
/-! SUPPORT. Services of the station network: frames of another protocol, register access, alarm servers, ports and the module
as a client (R385, R386, R408, R410–R412, R416). -/

namespace Sys2Proof.Machine

/-! ## Frames that the policing lets through -/

section
variable {s : State} {h : StnHdr}

theorem PolicedFrame.onPort (hp : PolicedFrame s h) (f : Dyn → Dyn) : s.dyn.onPort s.cfg h false f = f (s.polices h) := by
  unfold Dyn.onPort
  extract_lets d
  rw [if_neg (by simp [d, hp.up, hp.taken]), if_neg (by simp [hp.ours]), if_neg Bool.false_ne_true]
  exact if_pos hp.policed

/-- A frame that the duplicate discard passes. -/
theorem State.polices_firstCopy (hfirst : ((s.polices h).prpPass h).2 = true) (f : Dyn → Dyn) :
    (s.polices h).firstCopy h f = f (s.serves h) := if_pos hfirst

/-- An accepted frame of a service, from a sender that the service admits. -/
theorem ServiceFrame.checked {b : StnBody} (hs : ServiceFrame s h b) {ok : Bool} (hok : ok = true) (drop f : Dyn → Dyn) :
    (s.polices h).checked h b true ok drop f = f (s.serves h) := by
  subst hok
  exact hs.checks.checked drop f

end

/-! ## Register access (R408, R410) -/

/-- A request that the machine `e` has accepted waits for the berm; without frames it is served at once, and beyond 64 it is
answered BUSY. -/
def Dyn.raAccepted (c : Cfg) (e : Dyn) (k : Nat) (tid : Word) (op : Nat) (x : RaArgs) : Dyn :=
  let d := ({ e with net := { e.net with waiting := e.net.waiting ++
      [⟨k, tid, op, x.unitB, x.addr.toNat, x.count.toNat, x.data⟩] } } : Dyn).put F.NET_RA_STAT_COUNT (e.net.waiting.length + 1)
  if e.net.waiting.length < 64 then (if e.slc.framing = true then d else d.raBerm c)
  else (e.bump F.NET_RA_STAT_BUSY).tx c 3 (.reply k tid 5 x.count.toNat 0 e.fn [])

section
variable {s : State} {h : StnHdr}

theorem raRequest_accepted {k : BitVec 4} {tid : Word} {x : RaArgs} {op : Nat}
    (hs : ServiceFrame s h ⟨0x10, 0, false, raReqBytes tid op x.unitB x.count x.addr x.data⟩)
    (hused : s.cfg.rd (Reg.NET_CLIENT k.toNat) ≠ 0) (hsrc : h.src = s.cfg.rd (Reg.NET_CLIENT k.toNat))
    (hsender : h.sender.toNat = 0x40 + k.toNat) :
    raRequest k h tid op x s = .next (s.withDyn ((s.serves h).raAccepted s.cfg k.toNat tid op x)) := by
  have hok : (s.cfg.rd (Reg.NET_CLIENT k.toNat) != 0 && h.src == s.cfg.rd (Reg.NET_CLIENT k.toNat) &&
      h.sender.toNat == 0x40 + k.toNat) = true := by
    rw [hsrc, hsender]
    simpa using hused
  rw [raRequest, State.upd_withDyn hs.port.live, hs.port.onPort]
  dsimp only
  rw [hs.checked hok, Dyn.raAccepted]
  by_cases hfull : 64 ≤ (s.serves h).net.waiting.length
  · rw [if_pos hfull, if_neg (Nat.not_lt.2 hfull)]
  · rw [if_neg hfull, if_pos (Nat.not_le.1 hfull)]
    rfl

/-! ## The module as a client (R411) -/

section
variable {n : BitVec 5} {tid : Word} {r : RaReply} {data : List Word}
  (hs : ServiceFrame s h ⟨0x11, 0, false, raRspBytes tid r data⟩) (hfrom : s.cfg.fromRemote n.toNat h = true)
  (hstatus : r.status = 0) (hnum : tid.extractLsb' 0 16 = ((s.serves h).diagOf n.toNat).num)
include hs hfrom hstatus hnum

theorem exec_raRsp_open (hawaits : ((s.serves h).diagOf n.toNat).awaits = some true) :
    exec (.raRsp n h tid r data) s = .next (s.withDyn ((s.serves h).setDiag n.toNat
      { (s.serves h).diagOf n.toNat with gen := tid.extractLsb' 16 16, awaits := none })) := by
  show execRaRsp n h tid r data s = _
  rw [execRaRsp, State.upd_withDyn hs.port.live, hs.port.onPort]
  dsimp only
  rw [hs.checked hfrom, hnum, if_neg (by simp)]
  simp only [hawaits, hstatus, if_true]

theorem exec_raRsp_read (hawaits : ((s.serves h).diagOf n.toNat).awaits = some false)
    (hgen : tid.extractLsb' 16 16 = ((s.serves h).diagOf n.toNat).gen) {w : Word} {rest : List Word} (hdata : data = w :: rest) :
    exec (.raRsp n h tid r data) s = .next (s.withDyn (((s.serves h).setDiag n.toNat
      { (s.serves h).diagOf n.toNat with awaits := none }).wr (Reg.NET_RS_DIAG n.toNat) w)) := by
  subst hdata
  show execRaRsp n h tid r (w :: rest) s = _
  rw [execRaRsp, State.upd_withDyn hs.port.live, hs.port.onPort]
  dsimp only
  rw [hs.checked hfrom, hnum, if_neg (by simp)]
  simp only [hawaits, hstatus, hgen, bne_self_eq_false, Bool.false_eq_true, if_false, if_true]
  rfl

end

/-! ## Alarm servers (R412) -/

section
variable {a : BitVec 2} (hserver : s.cfg.fromServer a.toNat h = true)
include hserver

theorem exec_alarmConnect (hp : PolicedFrame s h) (hfirst : ((s.polices h).prpPass h).2 = true) :
    exec (.alarmConnect a h) s = .next (s.withDyn
      ((s.serves h).setConn a.toNat (some ⟨0, 0, false, none, (s.serves h).now, (s.serves h).now⟩))) := by
  show execAlarmConnect a h s = _
  rw [execAlarmConnect, State.upd_withDyn hp.live, hp.onPort, State.polices_firstCopy hfirst, if_pos hserver]

variable (hsender : h.sender.toNat = 0x50 + a.toNat) {k : AlmConn} (hconn : (s.serves h).conn a.toNat = some k)
include hsender hconn

theorem exec_alarmHello {last : Word} (hs : ServiceFrame s h (helloBody a last)) :
    let e := s.serves h
    let held := if last = -1 then 0 else last.toNat
    exec (.alarmHello a h last) s = .next (s.withDyn
      ((e.setConn a.toNat (some ⟨held, held, true, none, e.now, e.now⟩)).pumpOne s.cfg a.toNat)) := by
  intro e held
  show execAlarmHello a h last s = _
  rw [execAlarmHello, State.upd_withDyn hs.port.live, hs.port.onPort]
  dsimp only
  rw [hs.checked (by simp [hserver, hsender]), if_neg (by simp [hconn])]

theorem exec_alarmAck {evn : Word} (hs : ServiceFrame s h (alarmAckBody evn)) :
    let e := s.serves h
    exec (.alarmAck a h evn) s = .next (s.withDyn
      ((e.setConn a.toNat (some { k with acked := max k.acked (min evn.toNat k.sent), ackAt := e.now })).pumpOne s.cfg a.toNat)) := by
  intro e
  show execAlarmAck a h evn s = _
  rw [execAlarmAck, State.upd_withDyn hs.port.live, hs.port.onPort]
  dsimp only
  rw [hs.checked (by simp [hserver, hsender])]
  simp only [hconn]
  rfl

end

/-- Sending a frame takes no time. -/
theorem Dyn.tx_now (c : Cfg) (d : Dyn) (cls : Nat) (m : Sent) : (d.tx c cls m).now = d.now := by
  have hnext : d.nextTxc.now = d.now := by
    unfold Dyn.nextTxc
    show (if d.net.count + 1 = 0 then _ else d).now = d.now
    split <;> rfl
  exact hnext

section
variable {a : BitVec 2} {k : AlmConn} (hlive : Live s) (hconn : s.dyn.conn a.toNat = some k)
include hlive hconn

theorem exec_alarmIdle (hhello : k.hello = true) (hnear : s.dyn.near s.cfg (k.sentAt + 10 ^ 9)) :
    let d := (s.dyn.dueAt (k.sentAt + 10 ^ 9)).tx s.cfg (Config.trafficClass 0x20) (.alarm a.toNat none)
    exec (.alarmIdle a) s = .next (s.withDyn (d.setConn a.toNat (some { k with sentAt := d.now }))) := by
  intro d
  show execAlarmIdle a s = _
  rw [execAlarmIdle, State.upd_withDyn hlive]
  simp only [hconn, hhello, if_true]
  rw [Dyn.whenDue_near hnear, Dyn.tx_now]

theorem exec_alarmTimeout (hnear : s.dyn.near s.cfg (k.ackAt + 10 ^ 10)) :
    exec (.alarmTimeout a) s = .next (s.withDyn ((s.dyn.dueAt (k.ackAt + 10 ^ 10)).setConn a.toNat none)) := by
  show execAlarmTimeout a s = _
  rw [execAlarmTimeout, State.upd_withDyn hlive]
  simp only [hconn]
  rw [Dyn.whenDue_near hnear]

end

/-! ## Port services (R385, R386) -/

/-- A request within its port's 100 of this second is counted there and answered. -/
theorem exec_arpIcmpRequest (hp : PolicedFrame s h) (hfirst : ((s.polices h).prpPass h).2 = true)
    (hroom : (if h.lanB then (s.serves h).net.arpB else (s.serves h).net.arpA).2 < 100) :
    ∃ v : Net, exec (.arpIcmpRequest h) s =
      .next (s.withDyn (({ s.serves h with net := v } : Dyn).txPlain s.cfg 3 .answer)) := by
  obtain ⟨⟨t, n⟩, hcount⟩ : ∃ v, (if h.lanB then (s.serves h).net.arpB else (s.serves h).net.arpA) = v := ⟨_, rfl⟩
  rw [hcount] at hroom
  show ∃ v, execArpIcmpRequest h s = _
  rw [execArpIcmpRequest, State.upd_withDyn hp.live, hp.onPort, State.polices_firstCopy hfirst]
  dsimp only
  rw [hcount]
  by_cases hage : 10 ^ 9 ≤ (s.serves h).now - t
  · simp only [if_pos hage]
    exact ⟨_, congrArg (fun x => Host.Outcome.next (s.withDyn x)) (if_neg (by decide))⟩
  · simp only [if_neg hage]
    exact ⟨_, congrArg (fun x => Host.Outcome.next (s.withDyn x)) (if_neg (Nat.not_le.2 hroom))⟩

theorem exec_arpIcmpRequest_shows (hp : PolicedFrame s h) (hfirst : ((s.polices h).prpPass h).2 = true)
    (hroom : (if h.lanB then (s.serves h).net.arpB else (s.serves h).net.arpA).2 < 100) :
    ∃ u w, exec (.arpIcmpRequest h) s = .next u ∧ u.cfg = s.cfg ∧ u.dyn.regs = (s.serves h).regs ∧
      u.dyn.sent = .lan w .answer :: (s.serves h).sent := by
  obtain ⟨v, hexec⟩ := exec_arpIcmpRequest hp hfirst hroom
  exact ⟨_, _, hexec, rfl, rfl, rfl⟩

/-- What a port shows of its link, at a fixed speed (1 or 2) or none (R385). -/
def linkSpeed (fixed : Nat) : LinkOffer → Nat
  | .down => 0
  | .mbit100 => if fixed = 2 then 0 else 1
  | .gbit1 => if fixed = 1 then 0 else 2
  | .halfDuplex => 3

section
variable (hlive : Live s) (hup : s.dyn.netUp = true)
include hlive hup

theorem exec_prpSupervision {t : Nat} (ht : s.dyn.net.supAt + 2000000000 = t) (hnear : s.dyn.near s.cfg t) :
    exec .prpSupervision s = .next (s.withDyn
      (({ s.dyn.dueAt t with net := { (s.dyn.dueAt t).net with supAt := (s.dyn.dueAt t).now } } : Dyn).txPlain s.cfg
        (Config.trafficClass 0) .supervision)) := by
  show execPrpSupervision s = _
  rw [execPrpSupervision, State.upd_withDyn hlive, if_neg (by simp [hup]), ht, Dyn.whenDue_near hnear]

theorem exec_portLinkChange (lanB : Bool) (offer : LinkOffer) :
    exec (.portLinkChange lanB offer) s = .next (s.withDyn
      ((s.dyn.put (if lanB then F.NET_PORT_STAT_LINK_B else F.NET_PORT_STAT_LINK_A)
        (linkSpeed (s.cfg.get (if lanB then F.NET_CFG_SPEED_B else F.NET_CFG_SPEED_A)) offer)).ptpFault s.cfg)) := by
  have hgoes : ¬ (!s.dyn.netUp) = true := by simp [hup]
  show execPortLinkChange lanB offer s = _
  rw [execPortLinkChange, State.upd_withDyn hlive]
  cases offer <;> exact congrArg (fun d => Host.Outcome.next (s.withDyn d)) (if_neg hgoes)

theorem exec_remoteDiagRead {n : BitVec 5} (hruns : s.dyn.modState ≠ 4) (hused : s.cfg.remote n.toNat = true)
    (hnear : s.dyn.near s.cfg ((s.dyn.diagOf n.toNat).at_ + 10 ^ 9)) :
    let x := s.dyn.diagOf n.toNat
    let d := s.dyn.dueAt (x.at_ + 10 ^ 9)
    exec (.remoteDiagRead n) s = .next (s.withDyn
      ((d.setDiag n.toNat ⟨x.gen, x.num + 1, some (x.gen == 0), d.now⟩).tx s.cfg 3
        (.request n.toNat (x.gen.setWidth 32 <<< 16 ||| (x.num + 1).setWidth 32)
          (if x.gen == 0 then 1 else 2) (Config.diagAddr n.toNat)))) := by
  intro x d
  show execRemoteDiagRead n s = _
  rw [execRemoteDiagRead, State.upd_withDyn hlive]
  dsimp only
  rw [if_neg (by simp [hup, hruns, hused]), Dyn.whenDue_near hnear]

end

end

/-- Settles O54, service by service. -/
theorem stationServices : Obligations.StationServices := by
  intro s h
  refine ⟨⟨fun k tid x hused hsrc hsender => ?access, fun n tid r data hs hfrom => ?reply,
      fun a k hserver hsender hconn => ?server⟩, fun hp hfirst => ?ports, fun a k hlive hconn => ?timers,
      fun hlive hup => ?services⟩
  case access =>
    exact ⟨fun hs => raRequest_accepted hs hused hsrc hsender, fun hs => raRequest_accepted hs hused hsrc hsender,
      fun hs => raRequest_accepted hs hused hsrc hsender, fun hs => raRequest_accepted hs hused hsrc hsender⟩
  case reply =>
    intro x hstatus hnum
    exact ⟨fun hawaits => exec_raRsp_open hs hfrom hstatus hnum hawaits,
      fun hawaits hgen w rest hdata => exec_raRsp_read hs hfrom hstatus hnum hawaits hgen hdata⟩
  case server =>
    exact ⟨fun last hs => exec_alarmHello hserver hsender hconn hs, fun evn hs => exec_alarmAck hserver hsender hconn hs⟩
  case ports =>
    exact ⟨fun a hserver => exec_alarmConnect hserver hp hfirst, fun hroom => exec_arpIcmpRequest_shows hp hfirst hroom⟩
  case timers =>
    exact ⟨fun hhello hnear => exec_alarmIdle hlive hconn hhello hnear, fun hnear => exec_alarmTimeout hlive hconn hnear⟩
  case services =>
    refine ⟨fun hnear => exec_prpSupervision hlive hup rfl hnear, fun lanB offer => ?link,
      fun n hruns hused hnear => exec_remoteDiagRead hlive hup hruns hused hnear⟩
    cases offer <;> exact exec_portLinkChange hlive hup lanB _

end Sys2Proof.Machine
end
section
/-! SUPPORT. Supplies, rails, clocks, temperature and the power fail (R464–R467, R469, R475–R477, R492, R493). -/

namespace Sys2Proof.Machine

/-! ## What a power fail keeps of the secure count and the clock

Those of a part that `retained` does not read are stated for any state. -/

/-- The count of power fails and the clock of the backup domain. -/
def Dyn.retained (d : Dyn) : Nat × Rtc := (d.nv.pfCount, d.rtc)

namespace Dyn
variable (c : Cfg) (d : Dyn)

@[simp] theorem retained_wr (a : Nat) (v : Word) : (d.wr a v).retained = d.retained := rfl
@[simp] theorem retained_put (f : Fld) (v : Nat) : (d.put f v).retained = d.retained := rfl
@[simp] theorem retained_setFlag (f : Fld) (b : Bool) : (d.setFlag f b).retained = d.retained := rfl
@[simp] theorem retained_setDig (n : Nat) (f : Dio → Dio) : (d.setDig n f).retained = d.retained := rfl
@[simp] theorem retained_setAna (m : Nat) (f : Aio → Aio) : (d.setAna m f).retained = d.retained := rfl
@[simp] theorem retained_setQueue (q : Nat) (f : HQueue → HQueue) : (d.setQueue q f).retained = d.retained := rfl
@[simp] theorem retained_enter (st cause : Nat) : (d.enter st cause).retained = d.retained := rfl
@[simp] theorem retained_setWindow (i : Nat) (w : Option Window) : (d.setWindow i w).retained = d.retained := rfl
theorem retained_withTwin (x : Twin) : ({ d with twin := x } : Dyn).retained = d.retained := rfl
theorem retained_withCan (x : SMap Can) : ({ d with can := x } : Dyn).retained = d.retained := rfl
theorem retained_withSlc (x : Sluice) : ({ d with slc := x } : Dyn).retained = d.retained := rfl
theorem retained_withTsu (x : Tsu) : ({ d with tsu := x } : Dyn).retained = d.retained := rfl
theorem retained_withJrn (x : Journal) : ({ d with jrn := x } : Dyn).retained = d.retained := rfl

theorem of_retained {d e : Dyn} (h : e.retained = d.retained) : e.nv.pfCount = d.nv.pfCount ∧ e.rtc = d.rtc := Prod.mk.inj h

/-! ### Outputs -/

@[simp] theorem retained_turnOn (n : Nat) : (d.turnOn c n).retained = d.retained := by
  unfold turnOn
  split
  · simp [apply_ite retained]
  · rfl

@[simp] theorem retained_dropConds (n : Nat) : (d.dropConds c n).retained = d.retained := by
  simp [dropConds, fixDio, apply_ite retained]

@[simp] theorem retained_fixAio (m : Nat) : (d.fixAio c m).retained = d.retained := by
  simp [fixAio, stageConds, apply_ite retained]

theorem retained_pairsTo (on ao : Bool) : (d.pairsTo c on ao).retained = d.retained := by
  unfold pairsTo
  split
  · exact (foldl_view retained (fun d n => by simp [apply_ite retained]) _ _).trans
      (foldl_view retained (fun d m => by simp [apply_ite retained]) _ _)
  · rfl

@[simp] theorem retained_allSafe (b : Bool) : (d.allSafe c b).retained = d.retained :=
  (foldl_view retained (fun d m => by simp [anaSafe, apply_ite retained]) _ _).trans
    (foldl_view retained (fun d n => by simp [toSafe, apply_ite retained]) _ _)

@[simp] theorem retained_canDrop : d.canDrop.retained = d.retained :=
  (foldl_view retained (fun d q => by simp [apply_ite retained]) _ _).trans (foldl_view retained (fun d k => by rfl) _ _)

/-! ### Roles and messages -/

@[simp] theorem retained_sendWords (kind : Nat) (ws : List Word) : (d.sendWords kind ws).retained = d.retained := by
  obtain ⟨r, u, l, hsent⟩ := d.sendShl_eq kind (.shucel kind d.fn ws)
  rw [sendWords, hsent]
  rfl

@[simp] theorem retained_setServo (v : Nat) : (d.setServo c v).retained = d.retained := by
  unfold setServo
  split_ifs <;> rfl

theorem retained_setRole (r : Nat) : (d.setRole c r).retained = d.retained := by
  simp [setRole, leaveLock, stnState, apply_ite retained]

theorem retained_setLockstep (b : Bool) : (d.setLockstep c b).retained = d.retained := by
  simp [setLockstep, stnState]

/-! ### Windows of the journal -/

@[simp] theorem retained_pushAlarm (code source : Nat) (v v2 : Word) : (d.pushAlarm code source v v2).retained = d.retained := by
  unfold pushAlarm
  split
  rfl

@[simp] theorem retained_triggerItem (cause source : Nat) : (d.triggerItem cause source).retained = d.retained := rfl

@[simp] theorem retained_secondary : d.secondary.retained = d.retained := by
  unfold secondary
  split <;> rfl

@[simp] theorem retained_journalAlarm (code source : Nat) (v v2 : Word) :
    (d.journalAlarm c code source v v2).retained = d.retained := by
  simp [journalAlarm, apply_ite retained]

@[simp] theorem retained_freeze (cause source : Nat) (frame : Word) : (d.freeze c cause source frame).retained = d.retained := by
  unfold freeze
  extract_lets x₁ want last before oldest fn0 within w pl x₂ _ x₃ x₄ x₅
  split
  · exact retained_secondary _
  · have h₂ : x₂.retained = d.retained := by
      clear_value pl
      cases pl <;> rfl
    have h₅ : x₅.retained = d.retained := (retained_journalAlarm ..).trans h₂
    split
    · exact (retained_journalAlarm ..).trans h₅
    · exact h₅

/-! ### The sequence -/

@[simp] theorem retained_giveUp (cause : Nat) : (d.giveUp c cause).retained = d.retained := by
  unfold giveUp
  extract_lets _ x₁ x₂ x₃ _ x₄ x₅ x₆ x₇
  calc (x₇.freeze c 6 cause x₇.fn).retained = x₇.retained := x₇.retained_freeze ..
    _ = x₅.retained := x₅.retained_allSafe ..
    _ = x₄.retained := (retained_pairsTo ..).trans ((retained_setRole ..).trans (retained_setLockstep ..))
    _ = x₂.retained := (retained_withTwin x₃ _).trans (x₂.retained_put ..)
    _ = x₁.retained := x₁.retained_sendWords ..
    _ = d.retained := retained_canDrop _

theorem retained_writeMram (x : MramCopy) : (d.nv.writeMram x).pfCount = d.nv.pfCount := by
  unfold NonVol.writeMram
  split <;> rfl

@[simp] theorem retained_endCopy (recs : List (Nat × PolderRec)) : (d.endCopy recs).retained = d.retained :=
  congrArg (·, d.rtc) (d.retained_writeMram _)

@[simp] theorem retained_dropCopy : d.dropCopy.retained = d.retained :=
  congrArg (·, d.rtc) (d.retained_writeMram _)

end Dyn

/-! ## The power fail (R467, R469, R493) -/

/-- The outputs and the other unit at the loss of the supply, and the window that opens (R467–R469). -/
def Dyn.supplyGone (c : Cfg) (d : Dyn) : Dyn :=
  if d.early then (if c.twin then d.sendWords 7 [0x28] else d)
  else
    let d := d.freeze c 8 0 d.fn
    if c.twin then d.giveUp c 0x28
    else if c.flag F.MOD_PWR_CFG_PF_OUT then d.canDrop else d.canDrop.allSafe c false

/-- What becomes of the MRAM copy, and of the power-fail area, as they can be completed or not (R163, R467). -/
def Dyn.copiesEnd (c : Cfg) (d : Dyn) (mram jrn : Bool) : Dyn :=
  let d := if mram then d.endCopy (d.snapshots c) else if d.early then d else d.dropCopy
  if jrn then { d with nv := { d.nv with pfArea := some (d.powerWindow c) } } else d

/-- The copies, as far as the free value completes them, and the record of the sequence. -/
def Dyn.lastWrites (c : Cfg) (d : Dyn) (us : Nat) : Dyn :=
  let (w, d) := d.fresh
  let mram := w.bit 0 && !d.early
  let jrn := w.bit 1 && !d.early
  let d := if mram then d.endCopy (d.snapshots c) else if d.early then d else d.dropCopy
  let d := if jrn then { d with nv := { d.nv with pfArea := some (d.powerWindow c) } } else d
  d.pfStore c us mram jrn

/-- The module holds itself in reset, without its supply. -/
def Dyn.powerless (d : Dyn) : Dyn := { d with boot := { d.boot with held := true, supplyOff := true } }

theorem Dyn.powerless_nv (d : Dyn) : d.powerless.nv = d.nv := rfl
theorem Dyn.powerless_rd (d : Dyn) (a : Nat) : d.powerless.rd a = d.rd a := rfl
theorem Dyn.powerless_held (d : Dyn) : d.powerless.boot.held = true := rfl

section
variable (c : Cfg) (d : Dyn)

theorem Dyn.retained_supplyGone : (d.supplyGone c).retained = d.retained := by
  simp [supplyGone, apply_ite retained]

theorem Dyn.retained_copiesEnd (mram jrn : Bool) : (d.copiesEnd c mram jrn).retained = d.retained := by
  have hmram : (if mram then d.endCopy (d.snapshots c) else if d.early then d else d.dropCopy).retained = d.retained := by
    simp [apply_ite retained]
  cases jrn with
  | true => exact hmram
  | false => exact hmram

/-- What the record of a power fail shows (R467, R493). -/
theorem Dyn.pfStore_shows (us : BitVec 16) (mram jrn : Bool) :
    let x := d.pfStore c us.toNat mram jrn
    x.nv.pfCount = min (d.nv.pfCount + 1) 0xFFFF ∧ x.nv.pfTick = some d.rtc.tick ∧
      x.rd Reg.MOD_PF_COUNT = BitVec.ofNat 32 x.nv.pfCount ∧ x.rd Reg.MOD_PF_LAST = x.nv.pfLast ∧
      (x.rd Reg.MOD_PF_LAST).field 0 16 = us.toNat := by
  intro x
  have hlast : x.rd Reg.MOD_PF_LAST = x.nv.pfLast := Dyn.rd_wr_same ..
  refine ⟨rfl, rfl, (Dyn.rd_wr_ne _ _ (by decide)).trans (Dyn.rd_wr_same ..), hlast, ?_⟩
  rw [hlast]
  show Word.field (BitVec.ofNat 32 (b2n mram * 2 ^ 31 + b2n jrn * 2 ^ 30 + b2n c.twin * 2 ^ 29 + b2n d.early * 2 ^ 28 +
    us.toNat % 2 ^ 16)) 0 16 = us.toNat
  have hus := us.isLt
  simp only [Word.field, BitVec.toNat_ofNat, Nat.shiftRight_zero]
  omega

theorem Dyn.lastWrites_shows (us : BitVec 16) :
    let x := d.lastWrites c us.toNat
    x.nv.pfCount = min (d.nv.pfCount + 1) 0xFFFF ∧ x.nv.pfTick = some d.rtc.tick ∧
      x.rd Reg.MOD_PF_COUNT = BitVec.ofNat 32 x.nv.pfCount ∧ x.rd Reg.MOD_PF_LAST = x.nv.pfLast ∧
      (x.rd Reg.MOD_PF_LAST).field 0 16 = us.toNat := by
  intro x
  set e := d.fresh.2
  set mram := d.fresh.1.bit 0 && !e.early
  set jrn := d.fresh.1.bit 1 && !e.early
  obtain ⟨hcount, hrtc⟩ := Prod.mk.inj (e.retained_copiesEnd c mram jrn)
  obtain ⟨hn, htick, hshown⟩ := (e.copiesEnd c mram jrn).pfStore_shows c us mram jrn
  have hx : x = (e.copiesEnd c mram jrn).pfStore c us.toNat mram jrn := by
    simp only [x, Dyn.lastWrites, e, mram, jrn, Dyn.copiesEnd]
  rw [hx]
  exact ⟨hn.trans (by rw [hcount]; rfl), htick.trans (by rw [hrtc]; rfl), hshown⟩

end

section
variable {s : State} (hlive : Live s)
include hlive

/-- In REPLAY nothing is stored. -/
theorem exec_powerFail_replay (us : BitVec 16) (hreplay : s.dyn.modState = 4) : exec (.powerFail us) s =
    .next (s.withDyn { s.dyn with boot := { s.dyn.boot with held := true, supplyOff := true } }) := by
  show execPowerFail us s = _
  rw [execPowerFail, State.upd_withDyn hlive, if_pos hreplay]

theorem exec_powerFail (us : BitVec 16) (hruns : s.dyn.modState ≠ 4) :
    exec (.powerFail us) s = .next (s.withDyn ((s.dyn.supplyGone s.cfg).lastWrites s.cfg us.toNat).powerless) := by
  show execPowerFail us s = _
  rw [execPowerFail, State.upd_withDyn hlive, if_neg hruns]
  dsimp only [Dyn.supplyGone, Dyn.lastWrites]
  rfl

theorem exec_powerFail_shows (us : BitVec 16) (hruns : s.dyn.modState ≠ 4) :
    ∃ u, exec (.powerFail us) s = .next u ∧ u.cfg = s.cfg ∧ u.dyn.boot.held = true ∧
      u.dyn.nv.pfCount = min (s.dyn.nv.pfCount + 1) 0xFFFF ∧ u.dyn.nv.pfTick = some s.dyn.rtc.tick ∧
      u.dyn.rd Reg.MOD_PF_COUNT = BitVec.ofNat 32 u.dyn.nv.pfCount ∧ u.dyn.rd Reg.MOD_PF_LAST = u.dyn.nv.pfLast ∧
      (u.dyn.rd Reg.MOD_PF_LAST).field 0 16 = us.toNat := by
  obtain ⟨hcount, hrtc⟩ := Dyn.of_retained (s.dyn.retained_supplyGone s.cfg)
  have hshown := (s.dyn.supplyGone s.cfg).lastWrites_shows s.cfg us
  refine ⟨_, exec_powerFail hlive us hruns, State.withDyn_cfg .., ?_⟩
  rw [← hcount, ← hrtc, State.withDyn_dyn, Dyn.powerless_nv, Dyn.powerless_rd, Dyn.powerless_rd]
  exact ⟨Dyn.powerless_held _, hshown⟩

end

/-! ## Supply inputs and the bank of the hold-up (R465, R466, R492) -/

section
variable {s : State} (hlive : Live s)
include hlive

theorem exec_supplyInputLoss (psB : Bool) (v : BitVec 16) :
    let ok := if psB then F.MOD_PWR_STATUS_PSB_OK else F.MOD_PWR_STATUS_PSA_OK
    let d := s.dyn.put (if psB then F.MOD_VIN_PSB else F.MOD_VIN_PSA) v.toNat
    exec (.supplyInputLoss psB v) s = .next (s.withDyn (if s.dyn.flag ok then
        let e := (d.setFlag ok false).bump (if psB then F.MOD_PWR_EVCNT_PSB_LOSS else F.MOD_PWR_EVCNT_PSA_LOSS)
        if s.cfg.flag (if psB then F.MOD_PWR_CFG_PSB_REQ else F.MOD_PWR_CFG_PSA_REQ) then
          e.alarm s.cfg (if psB then 0x0B02 else 0x0B01) 0 (v.setWidth 32) 0
        else e
      else d)) := by
  intro ok d
  have hok : d.flag ok = s.dyn.flag ok := Dyn.flag_put_ne _ _ (by cases psB <;> decide)
  show execSupplyInputLoss psB v s = _
  rw [execSupplyInputLoss, State.upd_withDyn hlive, ← hok]
  cases hd : d.flag ok <;> simp [d, ok, hd]

theorem exec_supplyInputReturn (psB : Bool) (v : BitVec 16) :
    let ok := if psB then F.MOD_PWR_STATUS_PSB_OK else F.MOD_PWR_STATUS_PSA_OK
    let d := s.dyn.put (if psB then F.MOD_VIN_PSB else F.MOD_VIN_PSA) v.toNat
    exec (.supplyInputReturn psB v) s = .next (s.withDyn (if s.dyn.flag ok then d else
        let e := d.setFlag ok true
        if s.cfg.flag (if psB then F.MOD_PWR_CFG_PSB_REQ else F.MOD_PWR_CFG_PSA_REQ) then
          e.alarm s.cfg (if psB then 0x0B04 else 0x0B03) 0 (v.setWidth 32) 0
        else e)) := by
  intro ok d
  have hok : d.flag ok = s.dyn.flag ok := Dyn.flag_put_ne _ _ (by cases psB <;> decide)
  show execSupplyInputReturn psB v s = _
  rw [execSupplyInputReturn, State.upd_withDyn hlive, ← hok]

theorem exec_holdupReady (v : BitVec 16) : ∃ u, exec (.holdupReady v) s = .next u ∧ u.dyn.get F.MOD_HOLDUP_VALUE = v.toNat ∧
    u.dyn.flag F.MOD_PWR_STATUS_HOLDUP_READY = true ∧
    ∀ a, a ≠ Reg.MOD_HOLDUP → a ≠ Reg.MOD_PWR_STATUS → u.dyn.rd a = s.dyn.rd a := by
  refine ⟨_, (State.upd_withDyn hlive _ : execHoldupReady v s = _), ?_, ?_, fun a hbank hstatus => ?_⟩
  · exact (Dyn.get_put_ne _ _ (by decide)).trans (Dyn.get_put_fits _ (by decide) v.isLt)
  · exact Dyn.flag_setFlag_same _ _ _ (by decide) (by decide)
  · exact (Dyn.rd_put_ne _ _ hstatus).trans (Dyn.rd_put_ne _ _ hbank)

end

/-! ## Hardware faults -/

/-- A hardware fault leaves what no unit writes when it gives up. -/
theorem Dyn.get_hardwareFault (c : Cfg) (d : Dyn) (cause : Nat) {g : Fld} (hlink : OfLink g.addr)
    (hstate : g.addr ≠ Reg.MOD_STATE) (hclear : g.Clear giveUpWrites) : (d.hardwareFault c cause).get g = d.get g := by
  unfold Dyn.hardwareFault
  split
  · rfl
  · split
    · exact d.get_giveUp c cause hlink hstate hclear
    · exact (Dyn.get_congr (Dyn.rd_enter _ _ _ hstate)).trans (d.get_canDropped _ hlink)

/-! ## Rails and clocks (R475, R476) -/

/-- The voltages of the rails. -/
def railFlds : List Fld := [F.MOD_RAIL0_CORE, F.MOD_RAIL0_MEM, F.MOD_RAIL1_IO, F.MOD_RAIL1_AON]

theorem railFld_mem (k : Nat) : railFld k ∈ railFlds := by
  unfold railFld
  split <;> simp [railFlds]

/-- A field of 16 bits beside the status, the state, the role and what a unit writes when it gives up. -/
theorem railFlds_apart : ∀ f ∈ railFlds, f.width = 16 ∧ f.lo + f.width ≤ 32 ∧ f.addr ≠ Reg.MOD_PWR_STATUS ∧
    f.addr ≠ Reg.MOD_STATE ∧ f.addr ≠ F.SHL_STATUS_ROLE.addr ∧ OfLink f.addr ∧ f.Clear giveUpWrites := by
  decide

theorem Word.testBit_setBit (w : Word) {i : Nat} (b : Bool) (hi : i < 32) : (w.setBit i b).toNat.testBit i = b := by
  have hbit : (BitVec.ofNat 32 (1 <<< i)).getLsbD i = true := by
    rw [BitVec.getLsbD_ofNat, Nat.one_shiftLeft, Nat.testBit_two_pow_self, decide_eq_true hi, Bool.and_self]
  rw [BitVec.testBit_toNat]
  cases b with
  | true => rw [Word.setBit, if_pos rfl, BitVec.getLsbD_or, hbit, Bool.or_true]
  | false => rw [Word.setBit, if_neg Bool.false_ne_true, BitVec.getLsbD_and, BitVec.getLsbD_not, hbit, Bool.not_true,
      Bool.and_false, Bool.and_false]

theorem Dyn.railWarn_testBit (d : Dyn) {k : Nat} (hk : k < 4) (b : Bool) :
    ((d.railWarn k b).get F.MOD_PWR_STATUS_RAIL_WARN).testBit k = b := by
  have hw : k < F.MOD_PWR_STATUS_RAIL_WARN.width := hk
  rw [railWarn, Dyn.get_put_same _ _ _ (by decide), Nat.testBit_mod_two_pow, Word.testBit_setBit _ b (by omega)]
  simp [hw]

section
variable {s : State} (hlive : Live s)
include hlive

theorem exec_railWarn (r : BitVec 2) (mv : BitVec 16) :
    let d := s.dyn.put (railFld r.toNat) mv.toNat
    exec (.railWarn r mv) s = .next (s.withDyn (if (s.dyn.get F.MOD_PWR_STATUS_RAIL_WARN).testBit r.toNat then d else
      ((d.railWarn r.toNat true).bump F.MOD_PWR_EVCNT_RAIL_WARN).alarm s.cfg 0x0B05 r.toNat (mv.setWidth 32) 0)) := by
  intro d
  obtain ⟨-, -, hstatus, -⟩ := railFlds_apart _ (railFld_mem r.toNat)
  have hwarn : d.get F.MOD_PWR_STATUS_RAIL_WARN = s.dyn.get F.MOD_PWR_STATUS_RAIL_WARN := Dyn.get_put_ne _ _ hstatus.symm
  show execRailWarn r mv s = _
  rw [execRailWarn, State.upd_withDyn hlive, ← hwarn]

theorem exec_railWarnClear (r : BitVec 2) (mv : BitVec 16) :
    ∃ u, exec (.railWarnClear r mv) s = .next u ∧ u.dyn.get (railFld r.toNat) = mv.toNat ∧
      (u.dyn.get F.MOD_PWR_STATUS_RAIL_WARN).testBit r.toNat = false := by
  obtain ⟨hwidth, hfits, hstatus, -⟩ := railFlds_apart _ (railFld_mem r.toNat)
  refine ⟨_, (State.upd_withDyn hlive _ : execRailWarnClear r mv s = _), ?_, Dyn.railWarn_testBit _ r.isLt false⟩
  exact (Dyn.get_put_ne _ _ hstatus).trans (Dyn.get_put_fits _ hfits (by rw [hwidth]; exact mv.isLt))

theorem exec_railFault (r : BitVec 2) (mv : BitVec 16) (hrole : s.dyn.role ≠ 7) (hstate : s.dyn.modState ≠ 3) :
    ∃ u, exec (.railFault r mv) s = .next u ∧ u.dyn.get (railFld r.toNat) = mv.toNat ∧ u.dyn.modState = 3 ∧
      u.dyn.get F.MOD_STATE_CAUSE = 0x26 ∧ u.dyn.slc.commitOff = true := by
  obtain ⟨hwidth, hfits, -, hmod, hshl, hlink, hclear⟩ := railFlds_apart _ (railFld_mem r.toNat)
  set d := s.dyn.put (railFld r.toNat) mv.toNat
  have hd : d.get (railFld r.toNat) = mv.toNat := Dyn.get_put_fits _ hfits (by rw [hwidth]; exact mv.isLt)
  have hdrole : d.role = s.dyn.role := Dyn.get_put_ne _ _ hshl.symm
  have hdstate : d.modState = s.dyn.modState := Dyn.get_put_ne _ _ hmod.symm
  obtain ⟨hfault, hcause, hstanding⟩ := d.hardwareFault_stops s.cfg (cause := 0x26) (by rwa [hdrole]) (by rwa [hdstate])
    (by decide)
  exact ⟨_, (State.upd_withDyn hlive _ : execRailFault r mv s = _),
    (d.get_hardwareFault s.cfg 0x26 hlink hmod hclear).trans hd, hfault, hcause, congrArg Standing.commitOff hstanding⟩

end

/-- The clock `k` is shown as failed; PLL_LOCK (`k` = 2) always reads 1. -/
def Dyn.clockLost (d : Dyn) (k : Nat) : Dyn :=
  if k = 2 then d else d.setFlag ([F.MOD_CLK_K32_OK, F.MOD_CLK_TCXO_OK].getD k F.MOD_CLK_CAN_LOCK) false

/-- The flags of the clocks. -/
def clockFlds : List Fld := [F.MOD_CLK_K32_OK, F.MOD_CLK_TCXO_OK, F.MOD_CLK_CAN_LOCK]

theorem clockFld_mem (k : Nat) : [F.MOD_CLK_K32_OK, F.MOD_CLK_TCXO_OK].getD k F.MOD_CLK_CAN_LOCK ∈ clockFlds := by
  rcases k with _ | _ | k <;> simp [clockFlds]

theorem clockFlds_apart : ∀ f ∈ clockFlds, f.width = 1 ∧ f.lo + f.width ≤ 32 ∧
    f.addr ≠ Reg.MOD_STATE ∧ f.addr ≠ F.SHL_STATUS_ROLE.addr ∧ OfLink f.addr ∧ f.Clear giveUpWrites := by
  decide

theorem Dyn.get_clockLost (d : Dyn) (k : Nat) {g : Fld} (hg : g.addr ≠ Reg.MOD_CLK) : (d.clockLost k).get g = d.get g := by
  have hclk : ∀ f ∈ clockFlds, f.addr = Reg.MOD_CLK := by decide
  unfold Dyn.clockLost
  split
  · rfl
  · exact Dyn.get_put_ne _ _ (by rwa [hclk _ (clockFld_mem k)])

section
variable {s : State} (hlive : Live s)
include hlive

theorem exec_clockFailure (r : BitVec 2) :
    exec (.clockFailure r) s = .next (s.withDyn ((s.dyn.clockLost r.toNat).hardwareFault s.cfg 0x25)) := by
  have hr : r.toNat = 0 ∨ r.toNat = 1 ∨ r.toNat = 2 ∨ r.toNat = 3 := by omega
  show execClockFailure r s = _
  rw [execClockFailure, State.upd_withDyn hlive]
  rcases hr with h | h | h | h <;> rw [h] <;> rfl

theorem exec_clockFailure_faults (r : BitVec 2) (hrole : s.dyn.role ≠ 7) (hstate : s.dyn.modState ≠ 3) :
    ∃ u, exec (.clockFailure r) s = .next u ∧
      (r.toNat ≠ 2 → u.dyn.flag ([F.MOD_CLK_K32_OK, F.MOD_CLK_TCXO_OK].getD r.toNat F.MOD_CLK_CAN_LOCK) = false) ∧
      u.dyn.modState = 3 ∧ u.dyn.get F.MOD_STATE_CAUSE = 0x25 ∧ u.dyn.slc.commitOff = true := by
  set d := s.dyn.clockLost r.toNat with hd
  have hdrole : d.role = s.dyn.role := Dyn.get_clockLost _ _ (by decide)
  have hdstate : d.modState = s.dyn.modState := Dyn.get_clockLost _ _ (by decide)
  obtain ⟨hfault, hcause, hstanding⟩ := d.hardwareFault_stops s.cfg (cause := 0x25) (by rwa [hdrole]) (by rwa [hdstate])
    (by decide)
  refine ⟨_, exec_clockFailure hlive r, fun hpll => ?_, hfault, hcause, congrArg Standing.commitOff hstanding⟩
  obtain ⟨hwidth, hfits, hmod, -, hlink, hclear⟩ := clockFlds_apart _ (clockFld_mem r.toNat)
  refine (Dyn.flag_eq (d.get_hardwareFault s.cfg 0x25 hlink hmod hclear)).trans ?_
  rw [hd, Dyn.clockLost, if_neg hpll]
  exact Dyn.flag_setFlag_same _ _ _ hfits hwidth.ge

end

/-! ## Temperature (R477) -/

/-- Beside the peak, setting the temperature writes the one field. -/
theorem Dyn.get_setTemp (d : Dyn) (t : BitVec 16) {g : Fld} (hpeak : g.addr ≠ Reg.MOD_TEMP_PEAK) :
    (d.setTemp t).get g = (d.put F.MOD_TEMP_TEMP t.toNat).get g := by
  dsimp only [Dyn.setTemp]
  split
  · exact Dyn.get_put_ne _ _ hpeak
  · rfl

theorem Dyn.setTemp_temp (d : Dyn) (t : BitVec 16) : (d.setTemp t).get F.MOD_TEMP_TEMP = t.toNat :=
  (d.get_setTemp t (by decide)).trans (Dyn.get_put_fits _ (by decide) t.isLt)

theorem Dyn.setTemp_overtemp (d : Dyn) (t : BitVec 16) :
    (d.setTemp t).flag F.MOD_PWR_STATUS_OVERTEMP = d.flag F.MOD_PWR_STATUS_OVERTEMP :=
  Dyn.flag_eq ((d.get_setTemp t (by decide)).trans (Dyn.get_put_ne _ _ (by decide)))

section
variable {s : State} (hlive : Live s)
include hlive

theorem exec_overtemp (t : BitVec 16) {warn : Int} (hwarn : warn = s.cfg.get F.MOD_PWR_CFG_TEMP_WARN * 10) :
    let d := s.dyn.setTemp t
    exec (.overtemp t) s = .next (s.withDyn (
      if warn < t.toInt ∧ s.dyn.flag F.MOD_PWR_STATUS_OVERTEMP = false then
        ((d.setFlag F.MOD_PWR_STATUS_OVERTEMP true).bump F.MOD_PWR_EVCNT_OVERTEMP).alarm s.cfg 0x0B06 0 (t.signExtend 32) 0
      else d)) := by
  intro d
  show execOvertemp t s = _
  rw [execOvertemp, State.upd_withDyn hlive, ← s.dyn.setTemp_overtemp t]
  simp [d, hwarn]

theorem exec_overtempClear (t : BitVec 16) {warn : Int} (hwarn : warn = s.cfg.get F.MOD_PWR_CFG_TEMP_WARN * 10) :
    exec (.overtempClear t) s = .next (s.withDyn (
      if t.toInt ≤ warn - 50 then (s.dyn.setTemp t).setFlag F.MOD_PWR_STATUS_OVERTEMP false else s.dyn.setTemp t)) := by
  show execOvertempClear t s = _
  rw [execOvertempClear, State.upd_withDyn hlive, hwarn]

end

/-- Settles O57: each event by its own lemma; the power fail by what its parts keep of the count and the clock. -/
theorem powerEvents : Obligations.PowerEvents := by
  intro s hlive
  refine ⟨fun psB v => ⟨exec_supplyInputLoss hlive psB v, exec_supplyInputReturn hlive psB v⟩, exec_holdupReady hlive, ?rails,
    ?temperature, fun us => ⟨exec_powerFail_replay hlive us, exec_powerFail_shows hlive us⟩⟩
  case rails =>
    intro r mv
    exact ⟨exec_railWarn hlive r mv, Dyn.railWarn_testBit _ r.isLt true, exec_railWarnClear hlive r mv,
      fun hrole hstate => ⟨exec_railFault hlive r mv hrole hstate, exec_clockFailure_faults hlive r hrole hstate⟩⟩
  case temperature =>
    intro t
    exact ⟨s.dyn.setTemp_temp t, exec_overtemp hlive t rfl, exec_overtempClear hlive t rfl⟩

end Sys2Proof.Machine
end
section
/-! SUPPORT. The CAN channels: receive buffers, attempts, fault confinement and receipt (R419–R443). -/

namespace Sys2Proof

/-- A bit that is set already stays. -/
theorem Word.setBit_of_bit {w : Word} {i : Nat} (h : w.bit i = true) : w.setBit i true = w := by
  apply BitVec.eq_of_getLsbD_eq
  intro j hj
  rw [Word.setBit, if_pos rfl, BitVec.getLsbD_or, BitVec.getLsbD_ofNat, Nat.one_shiftLeft, Nat.testBit_two_pow]
  by_cases hij : i = j
  · subst hij
    rw [show w.getLsbD i = true from h, Bool.true_or]
  · simp [hij]

end Sys2Proof

namespace Sys2Proof.Machine

/-! ## A channel's record -/

section
variable (d : Dyn)

@[simp] theorem Dyn.canOf_setCan_same (k : Nat) (f : Can → Can) : (d.setCan k f).canOf k = f (d.canOf k) := sget_sput_same ..

/-- A part of the record that a change of any channel's leaves alone. -/
theorem Dyn.canOf_setCan {α : Type} (view : Can → α) (j k : Nat) {f : Can → Can} (hf : ∀ x, view (f x) = view x) :
    view ((d.setCan j f).canOf k) = view (d.canOf k) := by
  rw [Dyn.canOf, Dyn.setCan, sget_sput]
  split
  · next h => rw [h, hf]
  · rfl

end

/-! ## What the errors of a channel are judged by -/

/-- The error counters and the state of a channel, and its attempt under way. -/
@[ext] structure Confinement where
  tec : Nat
  rec_ : Nat
  state : Nat
  invalid : Bool
  under : Option (Cand × CanFrame)

def Dyn.confinement (k : Nat) (d : Dyn) : Confinement :=
  ⟨d.get (F.CAN_STATUS_TEC k), d.get (F.CAN_STATUS_REC k), d.canState k, d.flag (F.CAN_STATUS_INVALID k), (d.canOf k).under⟩

/-- A field beside those of any channel that `Confinement` shows. -/
def Unconfining (f : Fld) : Prop :=
  f.lo + f.width ≤ 32 ∧ ∀ k, f.addr ≠ Reg.CAN_STATUS k ∨ f.lo + f.width ≤ 8 ∨ 24 ≤ f.lo ∧ f.lo + f.width ≤ 29

/-- One of channel `k`'s status word, or of the registers from CAN_CMD_STAT to CAN_RXDROP. -/
theorem unconfining_of_addr (k : Nat) {f : Fld} (hfits : f.lo + f.width ≤ 32)
    (h : f.addr = Reg.CAN_STATUS k ∧ (f.lo + f.width ≤ 8 ∨ 24 ≤ f.lo ∧ f.lo + f.width ≤ 29) ∨
      0xd0014 + 0x2000 * k ≤ f.addr ∧ f.addr ≤ 0xd0028 + 0x2000 * k) : Unconfining f := by
  refine ⟨hfits, fun j => ?_⟩
  rcases h with ⟨-, h⟩ | h
  · exact .inr h
  · left
    rw [Reg.CAN_STATUS]
    omega

/-- The fields that attempts, errors and commands write beside the counters. -/
@[simp] theorem unconfining_flds (k : Nat) :
    (Unconfining (F.CAN_STATUS_TX_OVW k) ∧ Unconfining (F.CAN_STATUS_ALT k) ∧ Unconfining (F.CAN_STATUS_ID_COLLISION k) ∧
      Unconfining (F.CAN_STATUS_WARN k) ∧ Unconfining (F.CAN_STATUS_BUSOFF_CNT k)) ∧
    (Unconfining (F.CAN_CMD_STAT_HELD k) ∧ Unconfining (F.CAN_CMD_STAT_STATUS k) ∧ Unconfining (F.CAN_TXCNT_COUNT k) ∧
      Unconfining (F.CAN_RXDROP_COLL_DROP k)) ∧
    (Unconfining (F.CAN_ERRCNT0_BIT k) ∧ Unconfining (F.CAN_ERRCNT0_STUFF k) ∧ Unconfining (F.CAN_ERRCNT0_FORM k) ∧
      Unconfining (F.CAN_ERRCNT0_ACK k)) ∧
    Unconfining (F.CAN_ERRCNT1_CRC k) ∧ Unconfining (F.CAN_ERRCNT1_PEX k) ∧ Unconfining (F.CAN_ERRCNT1_BUSOFF k) ∧
      Unconfining (F.CAN_ERRCNT1_COLLISION k) := by
  have hstatus {lo w : Nat} (h : lo + w ≤ 8 ∨ 24 ≤ lo ∧ lo + w ≤ 29) : Unconfining ⟨Reg.CAN_STATUS k, lo, w⟩ :=
    unconfining_of_addr k (by dsimp only; omega) (.inl ⟨rfl, h⟩)
  have hother {o lo w : Nat} (h : lo + w ≤ 32 ∧ 0xd0014 ≤ o ∧ o ≤ 0xd0028) : Unconfining ⟨o + 0x2000 * k, lo, w⟩ :=
    unconfining_of_addr k h.1 (.inr (by dsimp only; omega))
  exact ⟨⟨hstatus (by decide), hstatus (by decide), hstatus (by decide), hstatus (by decide), hstatus (by decide)⟩,
    ⟨hother (by decide), hother (by decide), hother (by decide), hother (by decide)⟩,
    ⟨hother (by decide), hother (by decide), hother (by decide), hother (by decide)⟩,
    hother (by decide), hother (by decide), hother (by decide), hother (by decide)⟩

namespace Dyn
variable (c : Cfg) (d : Dyn) (k : Nat)

@[simp] theorem confinement_put {f : Fld} (v : Nat) (h : Unconfining f) : (d.put f v).confinement k = d.confinement k := by
  obtain ⟨hfits, hbits⟩ := h
  have hget (g : Fld) (hg : g.addr = Reg.CAN_STATUS k ∧ (8 ≤ g.lo ∧ g.lo + g.width ≤ 24 ∨ 29 ≤ g.lo)) :
      (d.put f v).get g = d.get g := by
    refine d.get_put_apart v hfits ?_
    rw [Fld.Apart, hg.1]
    have := hbits k
    omega
  have htec := hget (F.CAN_STATUS_TEC k) ⟨rfl, by simp [F.CAN_STATUS_TEC]⟩
  have hrec := hget (F.CAN_STATUS_REC k) ⟨rfl, by simp [F.CAN_STATUS_REC]⟩
  have hstate := hget (F.CAN_STATUS_STATE k) ⟨rfl, by simp [F.CAN_STATUS_STATE]⟩
  have hinvalid := hget (F.CAN_STATUS_INVALID k) ⟨rfl, by simp [F.CAN_STATUS_INVALID]⟩
  simp only [confinement, canState, canOf, Dyn.put_can, flag, htec, hrec, hstate, hinvalid]

@[simp] theorem confinement_setFlag {f : Fld} (b : Bool) (h : Unconfining f) :
    (d.setFlag f b).confinement k = d.confinement k := d.confinement_put k _ h

@[simp] theorem confinement_bump {f : Fld} (h : Unconfining f) : (d.bump f).confinement k = d.confinement k :=
  d.confinement_put k _ h

@[simp] theorem confinement_setCan (j : Nat) {f : Can → Can} (hf : ∀ x, (f x).under = x.under) :
    (d.setCan j f).confinement k = d.confinement k :=
  congrArg (Confinement.mk _ _ _ _) (d.canOf_setCan Can.under j k hf)

@[simp] theorem confinement_setQueue (q : Nat) (f : HQueue → HQueue) : (d.setQueue q f).confinement k = d.confinement k := rfl
@[simp] theorem confinement_send (m : Sent) : (d.send m).confinement k = d.confinement k := rfl

theorem confinement_endAttempt {f : Can → Can} (hf : ∀ x, (f x).under = none) :
    (d.setCan k f).confinement k = { d.confinement k with under := none } :=
  congrArg (Confinement.mk _ _ _ _) ((congrArg Can.under (d.canOf_setCan_same k f)).trans (hf _))

/-! ### Candidates -/

@[simp] theorem confinement_uncount (x : Cand) : (d.uncount x).confinement k = d.confinement k :=
  foldl_view (confinement k) (fun d j => by simp [apply_ite (confinement k)]) _ _

@[simp] theorem confinement_dropCand (x : Cand) : (d.dropCand x).confinement k = d.confinement k := by
  cases x <;> simp [dropCand]

@[simp] theorem confinement_keepCand (f : CanFrame) (x : Cand) : (d.keepCand k f x).confinement k = d.confinement k := by
  cases x <;> simp [keepCand, apply_ite (confinement k)]

@[simp] theorem confinement_heldEnds (q outcome : Nat) : (d.heldEnds q outcome).confinement k = d.confinement k :=
  foldl_view (confinement k) (fun d j => by simp [apply_ite (confinement k)]) _ _

@[simp] theorem confinement_candSent (cand : Cand) (f : CanFrame) (byUs : Bool) :
    (d.candSent k cand f byUs).confinement k = d.confinement k := by
  cases cand <;> simp [candSent, apply_ite (confinement k)]

/-- The attempt is over, and nothing else is judged otherwise. -/
theorem confinement_attemptEnds (cand : Cand) (f : CanFrame) :
    (d.attemptEnds k cand f).confinement k = { d.confinement k with under := none } := by
  have hends := d.confinement_endAttempt k (f := fun x => { x with under := none }) fun _ => rfl
  cases cand <;> simp [attemptEnds, apply_ite (confinement k), hends]

/-! ### Errors -/

@[simp] theorem confinement_canErrCount (err : CanErr) : (d.canErrCount c k err).confinement k = d.confinement k := by
  cases err with
  | exception =>
    have h : Unconfining (if c.flag (F.CAN_CFG_FD_EN k) then F.CAN_ERRCNT1_PEX k else F.CAN_ERRCNT0_FORM k) := by
      split <;> simp
    exact d.confinement_bump k h
  | _ => simp [canErrCount]

@[simp] theorem confinement_wrColl (j : Nat) (v : Word) : (d.wr (Reg.CAN_COLL j) v).confinement k = d.confinement k := by
  have hrd : (d.wr (Reg.CAN_COLL j) v).rd (Reg.CAN_STATUS k) = d.rd (Reg.CAN_STATUS k) :=
    d.rd_wr_ne _ (by rw [Reg.CAN_STATUS, Reg.CAN_COLL]; omega)
  have hget (g : Fld) (hg : g.addr = Reg.CAN_STATUS k) : (d.wr (Reg.CAN_COLL j) v).get g = d.get g :=
    Dyn.get_congr (by rw [hg]; exact hrd)
  simp only [confinement, canState, canOf, Dyn.wr_can, flag, hget (F.CAN_STATUS_TEC k) rfl, hget (F.CAN_STATUS_REC k) rfl,
    hget (F.CAN_STATUS_STATE k) rfl, hget (F.CAN_STATUS_INVALID k) rfl]

@[simp] theorem confinement_collide (cand : Cand) (f : CanFrame) : (d.collide c k cand f).confinement k = d.confinement k := by
  cases cand <;> simp [collide, apply_ite (confinement k)]

/-- Another field of the status word. -/
theorem get_status_put {lo w lo' w' : Nat} (v : Nat) (h : lo + w ≤ 32 ∧ (lo' + w' ≤ lo ∨ lo + w ≤ lo')) :
    (d.put ⟨Reg.CAN_STATUS k, lo, w⟩ v).get ⟨Reg.CAN_STATUS k, lo', w'⟩ = d.get ⟨Reg.CAN_STATUS k, lo', w'⟩ :=
  d.get_put_disjoint v rfl h.1 h.2

theorem confinement_putTec {v : Nat} (h : v < 256) :
    (d.put (F.CAN_STATUS_TEC k) v).confinement k = { d.confinement k with tec := v } :=
  Confinement.ext (d.get_put_fits (by simp [F.CAN_STATUS_TEC]) h) (d.get_status_put k v (by decide))
    (d.get_status_put k v (by decide)) (Dyn.flag_eq (d.get_status_put k v (by decide))) rfl

theorem confinement_putRec {v : Nat} (h : v < 256) :
    (d.put (F.CAN_STATUS_REC k) v).confinement k = { d.confinement k with rec_ := v } :=
  Confinement.ext (d.get_status_put k v (by decide)) (d.get_put_fits (by simp [F.CAN_STATUS_REC]) h)
    (d.get_status_put k v (by decide)) (Dyn.flag_eq (d.get_status_put k v (by decide))) rfl

theorem confinement_putState {v : Nat} (h : v < 4) :
    (d.put (F.CAN_STATUS_STATE k) v).confinement k = { d.confinement k with state := v } :=
  Confinement.ext (d.get_status_put k v (by decide)) (d.get_status_put k v (by decide))
    (d.get_put_fits (by simp [F.CAN_STATUS_STATE]) h) (Dyn.flag_eq (d.get_status_put k v (by decide))) rfl

theorem confinement_setInvalid (b : Bool) :
    (d.setFlag (F.CAN_STATUS_INVALID k) b).confinement k = { d.confinement k with invalid := b } :=
  Confinement.ext (d.get_status_put k _ (by decide)) (d.get_status_put k _ (by decide)) (d.get_status_put k _ (by decide))
    (d.flag_setFlag_same _ b (by simp [F.CAN_STATUS_INVALID]) (by simp [F.CAN_STATUS_INVALID])) rfl

/-- TEC and REC as they are shown, and the state that follows from them (R437). -/
theorem confinement_canCounters (t r : Nat) : (d.canCounters k t r).confinement k =
    { d.confinement k with
      tec := min t 255, rec_ := min r 255,
      state := if d.canState k ≤ 1 then (if 128 ≤ t || 128 ≤ r then 1 else 0) else d.canState k } := by
  unfold canCounters
  extract_lets x y
  have hx : x.confinement k = { d.confinement k with tec := min t 255, rec_ := min r 255 } := by
    rw [confinement_putRec _ _ (by omega), confinement_putTec _ _ (by omega)]
  have hy : y.confinement k = x.confinement k := x.confinement_setFlag k _ (by simp)
  have hstate : y.canState k = d.canState k := (congrArg Confinement.state (hy.trans hx) :)
  rw [hstate]
  split
  · rw [confinement_putState _ _ (by split <;> decide), hy, hx]
  · rw [hy, hx]
    rfl

@[simp] theorem confinement_altBits : (d.altBits c).confinement k = d.confinement k :=
  foldl_view (confinement k) (fun d j => by simp [apply_ite (confinement k)]) _ _

theorem confinement_busOff : (d.busOff c k).confinement k = { d.confinement k with state := 2, invalid := true } := by
  unfold busOff
  extract_lets x y z e
  have hx : x.confinement k = { d.confinement k with state := 2, invalid := true } := by
    rw [confinement_setInvalid, confinement_putState _ _ (by decide)]
  have he : e.confinement k = x.confinement k := by simp [e, z, y]
  rw [confinement_altBits, foldl_view (confinement k) (fun d q => by simp [apply_ite (confinement k)]), he, hx]

end Dyn

/-! ## Receive buffers (R430) -/

/-- The lock ends, and is counted. -/
def Dyn.lockEnds (d : Dyn) (k b : Nat) : Dyn :=
  ((d.wr (Reg.CAN_RXB k b 1) ((d.rd (Reg.CAN_RXB k b 1)).setBit 28 false)).setCan k fun x =>
    { x with locks := sput none x.locks b none }).bump (F.CAN_RXDROP_LOCK_TO k)

theorem Dyn.lockEnds_unlocked (d : Dyn) (k b : Nat) : ((d.lockEnds k b).rd (Reg.CAN_RXB k b 1)).bit 28 = false := by
  have hne : Reg.CAN_RXB k b 1 ≠ (F.CAN_RXDROP_LOCK_TO k).addr := by
    simp only [F.CAN_RXDROP_LOCK_TO, Reg.CAN_RXB, Reg.CAN_RXDROP]
    omega
  have hrd : (d.lockEnds k b).rd (Reg.CAN_RXB k b 1) = (d.rd (Reg.CAN_RXB k b 1)).setBit 28 false :=
    (Dyn.rd_put_ne _ _ hne).trans (Dyn.rd_wr_same ..)
  rw [hrd]
  exact (BitVec.testBit_toNat _).symm.trans (Word.testBit_setBit _ false (by decide))

theorem Dyn.lockEnds_counts (d : Dyn) (k b : Nat) : (d.lockEnds k b).get (F.CAN_RXDROP_LOCK_TO k) =
    min (d.get (F.CAN_RXDROP_LOCK_TO k) + 1) (2 ^ (F.CAN_RXDROP_LOCK_TO k).width - 1) := by
  rw [← d.get_wr_ne (a := Reg.CAN_RXB k b 1) ((d.rd (Reg.CAN_RXB k b 1)).setBit 28 false)
    (by simp only [F.CAN_RXDROP_LOCK_TO, Reg.CAN_RXDROP, Reg.CAN_RXB]; omega)]
  exact Dyn.get_bumpBy _ 1 (by simp [F.CAN_RXDROP_LOCK_TO])

section
variable {s : State} (hlive : Live s) {ch : BitVec 2} (hused : s.cfg.canUsed ch.toNat = true) (b : BitVec 5)
include hlive

section
variable {who : Requester}
include hused

/-- A granted read of a word of a receive buffer. -/
theorem rxbRead_granted {w : Nat} (f : Dyn → Dyn) (hmay : MayRead s who (Reg.CAN_RXB ch.toNat b.toNat w)) :
    rxbRead who ch.toNat b.toNat w f s =
      .next (s.withDyn (f { s.dyn with readData := s.dyn.rd (Reg.CAN_RXB ch.toNat b.toNat w) })) := by
  rw [rxbRead, State.upd_withDyn hlive]
  simp only [hmay.1, hmay.2, hused, Bool.not_true, Bool.false_eq_true, if_false, if_true]

theorem exec_rxbLock (hmay : MayRead s who (Reg.CAN_RXB ch.toNat b.toNat 0)) :
    ∃ u, exec (.rxbLock who ch b) s = .next u ∧ u.cfg = s.cfg ∧
      u.dyn.readData = s.dyn.rd (Reg.CAN_RXB ch.toNat b.toNat 0) ∧
      u.dyn.rd (Reg.CAN_RXB ch.toNat b.toNat 1) = (s.dyn.rd (Reg.CAN_RXB ch.toNat b.toNat 1)).setBit 28 true ∧
      ∀ a, a ≠ Reg.CAN_RXB ch.toNat b.toNat 1 → u.dyn.rd a = s.dyn.rd a := by
  refine ⟨_, (rxbRead_granted hlive hused b _ hmay : execRxbLock who ch b s = _), rfl, ?_⟩
  dsimp only [State.withDyn_dyn, Dyn.rxbLock]
  split
  · next h => exact ⟨rfl, (Word.setBit_of_bit h).symm, fun a _ => rfl⟩
  · exact ⟨rfl, Dyn.rd_wr_same .., fun a ha => Dyn.rd_wr_ne _ _ ha⟩

theorem exec_rxbUnlock (hmay : MayRead s who (Reg.CAN_RXB ch.toNat b.toNat 19)) :
    ∃ u, exec (.rxbUnlock who ch b) s = .next u ∧ u.cfg = s.cfg ∧
      u.dyn.readData = s.dyn.rd (Reg.CAN_RXB ch.toNat b.toNat 19) ∧
      u.dyn.rd (Reg.CAN_RXB ch.toNat b.toNat 1) =
        ((s.dyn.rd (Reg.CAN_RXB ch.toNat b.toNat 1)).setBit 28 false).setBit 30 false ∧
      ∀ a, a ≠ Reg.CAN_RXB ch.toNat b.toNat 1 → u.dyn.rd a = s.dyn.rd a :=
  ⟨_, (rxbRead_granted hlive hused b _ hmay : execRxbUnlock who ch b s = _), rfl, rfl, Dyn.rd_wr_same ..,
    fun _ ha => Dyn.rd_wr_ne _ _ ha⟩

end

theorem exec_rxbLockTimeout {t n : Nat} (hlock : sget none (s.dyn.canOf ch.toNat).locks b.toNat = some t)
    (hn : t + s.cfg.get (F.CAN_CFG_RXB_LOCK_MS ch.toNat) * 10 ^ 6 = n) (hnear : s.dyn.near s.cfg n) :
    exec (.rxbLockTimeout ch b) s = .next (s.withDyn ((s.dyn.dueAt n).lockEnds ch.toNat b.toNat)) := by
  show execRxbLockTimeout ch b s = _
  rw [execRxbLockTimeout, State.upd_withDyn hlive]
  simp only [hlock, hn]
  rw [Dyn.whenDue_near hnear]
  rfl

theorem exec_rxbLockTimeout_counts {t : Nat} (hlock : sget none (s.dyn.canOf ch.toNat).locks b.toNat = some t)
    (hnear : s.dyn.near s.cfg (t + s.cfg.get (F.CAN_CFG_RXB_LOCK_MS ch.toNat) * 10 ^ 6)) :
    ∃ u, exec (.rxbLockTimeout ch b) s = .next u ∧ (u.dyn.rd (Reg.CAN_RXB ch.toNat b.toNat 1)).bit 28 = false ∧
      u.dyn.get (F.CAN_RXDROP_LOCK_TO ch.toNat) =
        min (s.dyn.get (F.CAN_RXDROP_LOCK_TO ch.toNat) + 1) (2 ^ (F.CAN_RXDROP_LOCK_TO ch.toNat).width - 1) := by
  generalize hn : t + s.cfg.get (F.CAN_CFG_RXB_LOCK_MS ch.toNat) * 10 ^ 6 = n at hnear
  have hcount : (s.dyn.dueAt n).get (F.CAN_RXDROP_LOCK_TO ch.toNat) = s.dyn.get (F.CAN_RXDROP_LOCK_TO ch.toNat) :=
    Dyn.get_congr (Dyn.rd_dueAt _ _ (by simp only [F.CAN_RXDROP_LOCK_TO, Reg.CAN_RXDROP, Reg.TSU_STATUS]; omega))
  exact ⟨_, exec_rxbLockTimeout hlive b hlock hn hnear, Dyn.lockEnds_unlocked ..,
    hcount ▸ Dyn.lockEnds_counts (s.dyn.dueAt n) ch.toNat b.toNat⟩

end

/-! ## Attempts -/

theorem Dyn.candidates_cut (c : Cfg) (d : Dyn) (k : Nat) (b : Bool) :
    (d.setCan k fun x => { x with cut := b }).candidates c k = d.candidates c k := by
  simp only [Dyn.candidates, Dyn.canOf_setCan_same]
  rfl

/-- The attempt of the first candidate (R433, R442). -/
def Dyn.startAttempt (d : Dyn) (k : Nat) (cand : Cand) (f : CanFrame) : Dyn :=
  d.setCan k fun x =>
    { x with under := some (cand, f), counted := some cand,
             errors := if x.counted == some cand then x.errors else 0,
             waiting := match cand with
               | .entry e => sput none x.waiting e none
               | .queue _ => x.waiting }

section
variable {s : State} (hlive : Live s) {ch : BitVec 2}
include hlive

theorem exec_canArbitration {r : Nat} {cand : Cand} {f : CanFrame} (hdrives : s.dyn.canDrives s.cfg ch.toNat = true)
    (hfree : (s.dyn.canOf ch.toNat).under = none)
    (hfirst : firstCand (s.dyn.candidates s.cfg ch.toNat) = some (r, cand, f)) :
    ∃ u, exec (.canArbitration ch) s = .next u ∧ u.cfg = s.cfg ∧ u.dyn.regs = s.dyn.regs ∧
      (u.dyn.canOf ch.toNat).under = some (cand, { f with esi := f.fdf && s.dyn.canState ch.toNat == 1 }) ∧
      (u.dyn.canOf ch.toNat).counted = some cand := by
  set x := s.dyn.setCan ch.toNat fun y => { y with cut := false } with hx
  have hdrives' : x.canDrives s.cfg ch.toNat = true := hdrives
  have hfree' : (x.canOf ch.toNat).under = none := (congrArg Can.under (s.dyn.canOf_setCan_same ..)).trans hfree
  have hfirst' : firstCand (x.candidates s.cfg ch.toNat) = some (r, cand, f) := by rwa [hx, Dyn.candidates_cut]
  refine ⟨s.withDyn (x.startAttempt ch.toNat cand { f with esi := f.fdf && x.canState ch.toNat == 1 }), ?_, rfl, rfl,
    congrArg Can.under (x.canOf_setCan_same ..), congrArg Can.counted (x.canOf_setCan_same ..)⟩
  show execCanArbitration ch s = _
  rw [execCanArbitration, State.upd_withDyn hlive]
  simp only [← hx, hdrives', hfree', hfirst', Dyn.startAttempt] <;> rfl

theorem exec_canArbitration_idle (h : s.dyn.canDrives s.cfg ch.toNat = false ∨
      (s.dyn.canOf ch.toNat).under.isSome = true ∨ s.dyn.candidates s.cfg ch.toNat = []) :
    exec (.canArbitration ch) s = .next (s.withDyn (s.dyn.setCan ch.toNat fun x => { x with cut := false })) := by
  set x := s.dyn.setCan ch.toNat fun y => { y with cut := false } with hx
  have hunder : (x.canOf ch.toNat).under = (s.dyn.canOf ch.toNat).under := s.dyn.canOf_setCan Can.under _ _ fun _ => rfl
  have hcands : x.candidates s.cfg ch.toNat = s.dyn.candidates s.cfg ch.toNat := by rw [hx, Dyn.candidates_cut]
  have hdrives : x.canDrives s.cfg ch.toNat = s.dyn.canDrives s.cfg ch.toNat := rfl
  show execCanArbitration ch s = _
  rw [execCanArbitration, State.upd_withDyn hlive]
  simp only [← hx, hunder, hcands, hdrives]
  rcases h with h | h | h
  · simp [h]
  · simp [h]
  · simp [h, firstCand]

theorem exec_canFrameSent {cand : Cand} {f : CanFrame} (hunder : (s.dyn.canOf ch.toNat).under = some (cand, f))
    (hcut : (s.dyn.canOf ch.toNat).cut = false) : exec (.canFrameSent ch) s =
      .next (s.withDyn (((s.dyn.setCan ch.toNat fun x => { x with under := none, errors := 0 }).candSent ch.toNat cand f
        true).canTxOk s.cfg ch.toNat)) := by
  show execCanFrameSent ch s = _
  rw [execCanFrameSent, State.upd_withDyn hlive]
  simp only [hunder, hcut]
  rfl

theorem exec_arbitrationLost {cand : Cand} {f : CanFrame} (hunder : (s.dyn.canOf ch.toNat).under = some (cand, f)) :
    exec (.arbitrationLost ch) s =
      .next (s.withDyn ((s.dyn.attemptEnds ch.toNat cand f).setCan ch.toNat fun x => { x with errors := 0 })) := by
  show execArbitrationLost ch s = _
  rw [execArbitrationLost, State.upd_withDyn hlive]
  simp only [hunder]

end

/-! ### A frame sent -/

namespace Dyn
variable (c : Cfg) (d : Dyn) (k : Nat)

/-- The counters are written in the status word. -/
theorem get_canCounters (t r : Nat) {g : Fld} (hg : g.addr ≠ Reg.CAN_STATUS k) : (d.canCounters k t r).get g = d.get g := by
  have hput (e : Dyn) (lo w v : Nat) : (e.put ⟨Reg.CAN_STATUS k, lo, w⟩ v).get g = e.get g := e.get_put_ne v hg
  have hwarn : (((d.put (F.CAN_STATUS_TEC k) (min t 255)).put (F.CAN_STATUS_REC k) (min r 255)).setFlag
      (F.CAN_STATUS_WARN k) (96 ≤ t || 96 ≤ r)).get g = d.get g := (hput _ 28 1 _).trans ((hput _ 8 8 _).trans (hput _ 16 8 _))
  dsimp only [canCounters]
  split
  · exact (hput _ 29 2 _).trans hwarn
  · exact hwarn

theorem canCounters_sent (t r : Nat) : (d.canCounters k t r).sent = d.sent := by
  dsimp only [canCounters]
  split <;> rfl

theorem tec_le : d.get (F.CAN_STATUS_TEC k) ≤ 255 := Nat.le_of_lt_succ (Word.field_lt _ _ 8)
theorem rec_le : d.get (F.CAN_STATUS_REC k) ≤ 255 := Nat.le_of_lt_succ (Word.field_lt _ _ 8)

@[simp] theorem regs_uncount (x : Cand) : (d.uncount x).regs = d.regs :=
  foldl_regs (fun d j => by split <;> rfl) _ _

@[simp] theorem regs_dropCand (x : Cand) : (d.dropCand x).regs = d.regs := by
  cases x with
  | entry e => exact d.regs_uncount _
  | queue q => exact d.regs_uncount _

theorem get_heldEnds (q outcome : Nat) {g : Fld} (hg : ∀ j, g.addr ≠ Reg.CAN_CMD_STAT j) :
    (d.heldEnds q outcome).get g = d.get g := by
  refine foldl_view (fun d => d.get g) (fun d j => ?_) _ _
  have hput (e : Dyn) (lo w v : Nat) : (e.put ⟨Reg.CAN_CMD_STAT j, lo, w⟩ v).get g = e.get g := e.get_put_ne v (hg j)
  have hheld := hput (d.setCan j fun x => { x with held := none }) 12 4 outcome
  split
  · dsimp only
    split
    · exact (hput _ 0 4 2).trans hheld
    · exact hheld
  · rfl

theorem txcnt_ne (j : Nat) : (F.CAN_TXCNT_COUNT k).addr ≠ Reg.CAN_CMD_STAT j := by
  simp only [F.CAN_TXCNT_COUNT, Reg.CAN_TXCNT, Reg.CAN_CMD_STAT]
  omega

theorem candSent_counts (cand : Cand) (f : CanFrame) (byUs : Bool) : (d.candSent k cand f byUs).get (F.CAN_TXCNT_COUNT k) =
    min (d.get (F.CAN_TXCNT_COUNT k) + 1) (2 ^ (F.CAN_TXCNT_COUNT k).width - 1) := by
  have hcount : ((d.dropCand cand).bump (F.CAN_TXCNT_COUNT k)).get (F.CAN_TXCNT_COUNT k) =
      min (d.get (F.CAN_TXCNT_COUNT k) + 1) (2 ^ (F.CAN_TXCNT_COUNT k).width - 1) := by
    rw [← Dyn.get_regs (d.regs_dropCand cand)]
    exact Dyn.get_bumpBy _ 1 (by simp [F.CAN_TXCNT_COUNT])
  have hsend (e : Dyn) (m : Sent) : (if byUs then e.send m else e).get (F.CAN_TXCNT_COUNT k) = e.get (F.CAN_TXCNT_COUNT k) := by
    split <;> rfl
  cases cand with
  | entry e => exact (hsend _ _).trans hcount
  | queue q => exact (hsend _ _).trans ((Dyn.get_heldEnds _ q 3 (txcnt_ne k)).trans hcount)

theorem candSent_sends (cand : Cand) (f : CanFrame) : ∃ e, Sent.can k e f ∈ (d.candSent k cand f true).sent :=
  ⟨_, List.mem_cons_self⟩

theorem get_canTxOk {g : Fld} (hg : g.addr ≠ Reg.CAN_STATUS k) : (d.canTxOk c k).get g = d.get g := by
  unfold canTxOk
  split
  · rfl
  · exact d.get_canCounters k _ _ hg

theorem canTxOk_sent : (d.canTxOk c k).sent = d.sent := by
  unfold canTxOk
  split
  · rfl
  · exact d.canCounters_sent k _ _

/-- A success lowers TEC by 1, but while listening. -/
theorem canTxOk_confined : let x := (d.canTxOk c k).confinement k
    x.tec = (if c.listens k then d.get (F.CAN_STATUS_TEC k) else d.get (F.CAN_STATUS_TEC k) - 1) ∧
      x.under = (d.canOf k).under := by
  have htec := d.tec_le k
  unfold canTxOk
  cases c.listens k with
  | true => exact ⟨rfl, rfl⟩
  | false =>
    rw [if_neg Bool.false_ne_true, if_neg Bool.false_ne_true, confinement_canCounters]
    exact ⟨Nat.min_eq_left (by omega), rfl⟩

end Dyn

/-! ## What the events show -/

section
variable {s : State} (hlive : Live s) {ch : BitVec 2}
include hlive

theorem exec_canFrameSent_shows {cand : Cand} {f : CanFrame} (hunder : (s.dyn.canOf ch.toNat).under = some (cand, f))
    (hcut : (s.dyn.canOf ch.toNat).cut = false) :
    ∃ u, exec (.canFrameSent ch) s = .next u ∧ (u.dyn.canOf ch.toNat).under = none ∧
      u.dyn.get (F.CAN_TXCNT_COUNT ch.toNat) =
        min (s.dyn.get (F.CAN_TXCNT_COUNT ch.toNat) + 1) (2 ^ (F.CAN_TXCNT_COUNT ch.toNat).width - 1) ∧
      u.dyn.get (F.CAN_STATUS_TEC ch.toNat) = (if s.cfg.listens ch.toNat then s.dyn.get (F.CAN_STATUS_TEC ch.toNat)
        else s.dyn.get (F.CAN_STATUS_TEC ch.toNat) - 1) ∧ ∃ e, Sent.can ch.toNat e f ∈ u.dyn.sent := by
  set x := s.dyn.setCan ch.toNat fun x => { x with under := none, errors := 0 } with hx
  set y := x.candSent ch.toNat cand f true
  have hy : y.confinement ch.toNat = { s.dyn.confinement ch.toNat with under := none } :=
    (x.confinement_candSent ..).trans (s.dyn.confinement_endAttempt _ fun _ => rfl)
  have htec : y.get (F.CAN_STATUS_TEC ch.toNat) = s.dyn.get (F.CAN_STATUS_TEC ch.toNat) := congrArg Confinement.tec hy
  obtain ⟨hends, hfree⟩ := y.canTxOk_confined s.cfg ch.toNat
  refine ⟨_, exec_canFrameSent hlive hunder hcut, hfree.trans (congrArg Confinement.under hy), ?_, htec ▸ hends, ?_⟩
  · refine (y.get_canTxOk s.cfg ch.toNat ?_).trans (x.candSent_counts ch.toNat cand f true)
    simp only [F.CAN_TXCNT_COUNT, Reg.CAN_TXCNT, Reg.CAN_STATUS]
    omega
  · obtain ⟨e, he⟩ := x.candSent_sends ch.toNat cand f
    exact ⟨e, (y.canTxOk_sent s.cfg ch.toNat).symm ▸ he⟩

theorem exec_arbitrationLost_shows {cand : Cand} {f : CanFrame} (hunder : (s.dyn.canOf ch.toNat).under = some (cand, f)) :
    ∃ u, exec (.arbitrationLost ch) s = .next u ∧ (u.dyn.canOf ch.toNat).under = none ∧
      u.dyn.get (F.CAN_STATUS_TEC ch.toNat) = s.dyn.get (F.CAN_STATUS_TEC ch.toNat) := by
  have h : ((s.dyn.attemptEnds ch.toNat cand f).setCan ch.toNat fun x => { x with errors := 0 }).confinement ch.toNat =
      { s.dyn.confinement ch.toNat with under := none } := by
    rw [Dyn.confinement_setCan, Dyn.confinement_attemptEnds]
    exact fun _ => rfl
  exact ⟨_, exec_arbitrationLost hlive hunder, congrArg Confinement.under h, congrArg Confinement.tec h⟩

end

/-! ## Errors (R437, R439, R442) -/

/-- Counting an error leaves the counters of the fault confinement and the attempt. -/
theorem Dyn.canErrCount_keeps (c : Cfg) (d : Dyn) (k : Nat) (err : CanErr) :
    (d.canErrCount c k err).get (F.CAN_STATUS_TEC k) = d.get (F.CAN_STATUS_TEC k) ∧
      (d.canErrCount c k err).get (F.CAN_STATUS_REC k) = d.get (F.CAN_STATUS_REC k) ∧
      ((d.canErrCount c k err).canOf k).under = (d.canOf k).under := by
  have h := d.confinement_canErrCount c k err
  exact ⟨congrArg Confinement.tec h, congrArg Confinement.rec_ h, congrArg Confinement.under h⟩

/-- The attempt fails with an error: it ends, and a candidate that no CANCEL holds has its errors counted (R442). -/
def Dyn.attemptFails (c : Cfg) (d : Dyn) (k : Nat) (cand : Cand) (f : CanFrame) (ctrlOrData : Bool) : Dyn :=
  let held := match cand with
    | .queue q => d.isHeld q
    | .entry _ => false
  let d := d.attemptEnds k cand f
  if held then d else if ctrlOrData then d.collide c k cand f else d.setCan k fun x => { x with errors := 0 }

theorem Dyn.confinement_attemptFails (c : Cfg) (d : Dyn) (k : Nat) (cand : Cand) (f : CanFrame) (ctrlOrData : Bool) :
    (d.attemptFails c k cand f ctrlOrData).confinement k = { d.confinement k with under := none } := by
  simp only [Dyn.attemptFails, apply_ite (Dyn.confinement k), Dyn.confinement_collide, Dyn.confinement_setCan, implies_true,
    ite_self, Dyn.confinement_attemptEnds]

/-- The error of a transmitter, `tec` after it, and BUS_OFF above 255. -/
def Dyn.txError (c : Cfg) (d : Dyn) (k tec rec_ : Nat) : Dyn :=
  let d := d.canCounters k tec rec_
  if 255 < tec then d.busOff c k else d

theorem Dyn.txError_confined (c : Cfg) (d : Dyn) (k : Nat) {tec rec_ : Nat} (hrec : rec_ ≤ 255) :
    let x := (d.txError c k tec rec_).confinement k
    x.tec = min tec 255 ∧ x.rec_ = rec_ ∧ x.under = (d.canOf k).under ∧ (255 < tec → x.state = 2 ∧ x.invalid = true) := by
  unfold Dyn.txError
  by_cases h : 255 < tec
  · rw [if_pos h, Dyn.confinement_busOff, Dyn.confinement_canCounters]
    exact ⟨rfl, Nat.min_eq_left hrec, rfl, fun _ => ⟨rfl, rfl⟩⟩
  · rw [if_neg h, Dyn.confinement_canCounters]
    exact ⟨rfl, Nat.min_eq_left hrec, rfl, fun h' => absurd h' h⟩

theorem not_protocolException {c : Cfg} {k : Nat} {err : CanErr} (h : err = .exception → c.flag (F.CAN_CFG_FD_EN k) = false) :
    (err == .exception && c.flag (F.CAN_CFG_FD_EN k)) = false := by
  by_cases herr : err = .exception
  · rw [h herr, Bool.and_false]
  · rw [beq_false_of_ne herr, Bool.false_and]

section
variable {s : State} (hlive : Live s) {ch : BitVec 2} (hused : s.cfg.canUsed ch.toNat = true)
include hlive hused

/-- A protocol exception under FD_EN is counted alone (R419). -/
theorem exec_canError_exception (cd exempt dom : Bool) (hfd : s.cfg.flag (F.CAN_CFG_FD_EN ch.toNat) = true)
    (hon : s.dyn.canState ch.toNat < 2) :
    exec (.canError ch .exception cd exempt dom) s = .next (s.withDyn (s.dyn.bump (F.CAN_ERRCNT1_PEX ch.toNat))) := by
  have hstate : ¬ 2 ≤ s.dyn.canState ch.toNat := by omega
  show execCanError ch .exception cd exempt dom s = _
  rw [execCanError, State.upd_withDyn hlive]
  simp [hused, hstate, hfd, Dyn.canErrCount]

section
variable {err : CanErr} (cd exempt dom : Bool) (hfd : err = .exception → s.cfg.flag (F.CAN_CFG_FD_EN ch.toNat) = false)
  (hon : s.dyn.canState ch.toNat < 2)
include hfd hon

theorem exec_canError_sending {cand : Cand} {f : CanFrame} (hunder : (s.dyn.canOf ch.toNat).under = some (cand, f)) :
    let e := s.dyn.canErrCount s.cfg ch.toNat err
    exec (.canError ch err cd exempt dom) s = .next (s.withDyn ((e.attemptFails s.cfg ch.toNat cand f cd).txError s.cfg ch.toNat
      (s.dyn.get (F.CAN_STATUS_TEC ch.toNat) + (if exempt then 0 else 8) + if dom then 8 else 0)
      (s.dyn.get (F.CAN_STATUS_REC ch.toNat)))) := by
  intro e
  obtain ⟨htec, hrec, hfree⟩ := s.dyn.canErrCount_keeps s.cfg ch.toNat err
  have hunder := hfree.trans hunder
  have hstate : ¬ 2 ≤ s.dyn.canState ch.toNat := by omega
  show execCanError ch err cd exempt dom s = _
  rw [execCanError, State.upd_withDyn hlive]
  simp only [hused, hstate, not_protocolException hfd, ← htec, ← hrec, e, hunder] <;> rfl

theorem exec_canError_receiving (hunder : (s.dyn.canOf ch.toNat).under = none) :
    let e := s.dyn.canErrCount s.cfg ch.toNat err
    exec (.canError ch err cd exempt dom) s = .next (s.withDyn (if s.cfg.listens ch.toNat then e else
      e.canCounters ch.toNat (s.dyn.get (F.CAN_STATUS_TEC ch.toNat))
        (s.dyn.get (F.CAN_STATUS_REC ch.toNat) + (if exempt then 0 else 1) + if dom then 8 else 0))) := by
  intro e
  obtain ⟨htec, hrec, hfree⟩ := s.dyn.canErrCount_keeps s.cfg ch.toNat err
  have hunder := hfree.trans hunder
  have hstate : ¬ 2 ≤ s.dyn.canState ch.toNat := by omega
  show execCanError ch err cd exempt dom s = _
  rw [execCanError, State.upd_withDyn hlive]
  simp only [hused, hstate, not_protocolException hfd, ← htec, ← hrec, e, hunder]
  rfl

theorem exec_canError_sending_shows {cand : Cand} {f : CanFrame} (hunder : (s.dyn.canOf ch.toNat).under = some (cand, f)) :
    let n := s.dyn.get (F.CAN_STATUS_TEC ch.toNat) + (if exempt then 0 else 8) + if dom then 8 else 0
    ∃ u, exec (.canError ch err cd exempt dom) s = .next u ∧ (u.dyn.canOf ch.toNat).under = none ∧
      u.dyn.get (F.CAN_STATUS_TEC ch.toNat) = min n 255 ∧
      u.dyn.get (F.CAN_STATUS_REC ch.toNat) = s.dyn.get (F.CAN_STATUS_REC ch.toNat) ∧
      (255 < n → u.dyn.canState ch.toNat = 2 ∧ u.dyn.flag (F.CAN_STATUS_INVALID ch.toNat) = true) := by
  intro n
  have hends := (s.dyn.canErrCount s.cfg ch.toNat err).confinement_attemptFails s.cfg ch.toNat cand f cd
  obtain ⟨htec, hrec, hfree, hoff⟩ := Dyn.txError_confined s.cfg
    ((s.dyn.canErrCount s.cfg ch.toNat err).attemptFails s.cfg ch.toNat cand f cd) ch.toNat (tec := n) (s.dyn.rec_le ch.toNat)
  exact ⟨_, exec_canError_sending hlive hused cd exempt dom hfd hon hunder, hfree.trans (congrArg Confinement.under hends),
    htec, hrec, hoff⟩

theorem exec_canError_receiving_shows (hunder : (s.dyn.canOf ch.toNat).under = none) :
    ∃ u, exec (.canError ch err cd exempt dom) s = .next u ∧
      u.dyn.get (F.CAN_STATUS_TEC ch.toNat) = s.dyn.get (F.CAN_STATUS_TEC ch.toNat) ∧
      u.dyn.get (F.CAN_STATUS_REC ch.toNat) = (if s.cfg.listens ch.toNat then s.dyn.get (F.CAN_STATUS_REC ch.toNat) else
        min (s.dyn.get (F.CAN_STATUS_REC ch.toNat) + (if exempt then 0 else 1) + if dom then 8 else 0) 255) := by
  refine ⟨_, exec_canError_receiving hlive hused cd exempt dom hfd hon hunder, ?_⟩
  rw [State.withDyn_dyn]
  cases s.cfg.listens ch.toNat with
  | true =>
    obtain ⟨htec, hrec, -⟩ := s.dyn.canErrCount_keeps s.cfg ch.toNat err
    exact ⟨htec, hrec⟩
  | false =>
    rw [if_neg Bool.false_ne_true, if_neg Bool.false_ne_true]
    have he := (s.dyn.canErrCount s.cfg ch.toNat err).confinement_canCounters ch.toNat (s.dyn.get (F.CAN_STATUS_TEC ch.toNat))
      (s.dyn.get (F.CAN_STATUS_REC ch.toNat) + (if exempt then 0 else 1) + if dom then 8 else 0)
    exact ⟨(congrArg Confinement.tec he).trans (Nat.min_eq_left (s.dyn.tec_le ch.toNat)), congrArg Confinement.rec_ he⟩

end

end

/-! ## The transceiver, recovery and receipt -/

section
variable {s : State} (hlive : Live s) {ch : BitVec 2}
include hlive

/-- The end of the recovery count (R440). -/
theorem exec_busOffRecovery (hoff : s.dyn.canState ch.toNat = 2) (hcounts : (s.dyn.canOf ch.toNat).counting = true) :
    exec (.busOffRecovery ch) s = .next (s.withDyn ((((s.dyn.setCan ch.toNat fun x => { x with counting := false }).put
      (F.CAN_STATUS_STATE ch.toNat) 0).setFlag (F.CAN_STATUS_INVALID ch.toNat) false).canCounters ch.toNat 0 0)) := by
  show execBusOffRecovery ch s = _
  rw [execBusOffRecovery, State.upd_withDyn hlive]
  simp only [hoff, hcounts]
  rfl

theorem exec_busOffRecovery_shows (hoff : s.dyn.canState ch.toNat = 2) (hcounts : (s.dyn.canOf ch.toNat).counting = true) :
    ∃ u, exec (.busOffRecovery ch) s = .next u ∧ u.dyn.canState ch.toNat = 0 ∧ u.dyn.get (F.CAN_STATUS_TEC ch.toNat) = 0 ∧
      u.dyn.get (F.CAN_STATUS_REC ch.toNat) = 0 ∧ u.dyn.flag (F.CAN_STATUS_INVALID ch.toNat) = false := by
  set x := ((s.dyn.setCan ch.toNat fun x => { x with counting := false }).put
    (F.CAN_STATUS_STATE ch.toNat) 0).setFlag (F.CAN_STATUS_INVALID ch.toNat) false with hx
  have hactive : x.confinement ch.toNat = { s.dyn.confinement ch.toNat with state := 0, invalid := false } := by
    rw [hx, Dyn.confinement_setInvalid, Dyn.confinement_putState _ _ (by decide), Dyn.confinement_setCan]
    exact fun _ => rfl
  have hstate : x.canState ch.toNat = 0 := congrArg Confinement.state hactive
  have hend := x.confinement_canCounters ch.toNat 0 0
  rw [hstate, hactive] at hend
  exact ⟨_, exec_busOffRecovery hlive hoff hcounts, congrArg Confinement.state hend, congrArg Confinement.tec hend,
    congrArg Confinement.rec_ hend, congrArg Confinement.invalid hend⟩

variable (hused : s.cfg.canUsed ch.toNat = true)
include hused

theorem exec_dominantTimeout (hsends : s.cfg.listens ch.toNat = false) :
    exec (.dominantTimeout ch) s = .next (s.withDyn (s.dyn.setCan ch.toNat fun x => { x with cut := true })) := by
  show execDominantTimeout ch s = _
  rw [execDominantTimeout, State.upd_withDyn hlive, hused, hsends]
  rfl

/-- A frame received, its data as long as its code says. -/
def CanFrame.trimmed (f : CanFrame) : CanFrame := { f with data := maskData (canLen f.fdf f.dlc.toNat) f.data }

/-- A validated frame finds its receive entry; one that is none of the other side's either is dropped (R425, R426). -/
def Dyn.canFound (c : Cfg) (d : Dyn) (k : Nat) (g : CanFrame) (stamp : Word) : Dyn :=
  match (c.canEntries k false).find? fun e => entryId e.2.1 g with
  | some (e, _, w1) => d.canMatched c k e w1 g stamp
  | none =>
    if (c.canEntries k true).any fun e => entryId e.2.1 g then d
    else (d.bump (F.CAN_RXDROP_UNMATCHED k)).rxDropped k

section
variable (f : CanFrame) (stamp at_ : Word) (hon : s.dyn.canState ch.toNat < 2)
  (hfd : f.fdf = true → s.cfg.flag (F.CAN_CFG_FD_EN ch.toNat) = true)
include hon hfd

theorem exec_canFrameReceived : exec (.canFrameReceived ch f stamp at_) s =
    let x := (s.dyn.advTo at_).canRxOk s.cfg ch.toNat
    .next (s.withDyn (if f.remote then (x.bump (F.CAN_RXDROP_UNMATCHED ch.toNat)).rxDropped ch.toNat
      else (x.jointSeen s.cfg ch.toNat f.trimmed).canFound s.cfg ch.toNat f.trimmed stamp)) := by
  have hstate : (s.dyn.advTo at_).canState ch.toNat = s.dyn.canState ch.toNat :=
    Dyn.get_congr (Dyn.rd_advTo _ _ (by simp only [F.CAN_STATUS_STATE, Reg.CAN_STATUS, Reg.TSU_STATUS]; omega))
  have hstate : ¬ 2 ≤ (s.dyn.advTo at_).canState ch.toNat := by omega
  have hformat : (f.fdf && !s.cfg.flag (F.CAN_CFG_FD_EN ch.toNat)) = false := by
    cases h : f.fdf with
    | false => rfl
    | true => rw [hfd h]; rfl
  show execCanFrameReceived ch f stamp at_ s = _
  rw [execCanFrameReceived, State.upd_withDyn hlive]
  simp only [hused, hstate, hformat, Dyn.canFound, CanFrame.trimmed] <;> rfl

end

end

/-- Settles O55, event by event. -/
theorem canEvents : Obligations.CanEvents := by
  intro s ch hlive hused k tec rec_
  refine ⟨fun who b => ⟨exec_rxbLock hlive hused b, exec_rxbUnlock hlive hused b, fun t => exec_rxbLockTimeout_counts hlive b⟩,
    fun r cand f => exec_canArbitration hlive, exec_canArbitration_idle hlive,
    fun cand f hunder => ⟨exec_canFrameSent_shows hlive hunder, exec_arbitrationLost_shows hlive hunder,
      fun err cd exempt dom hfd hon => exec_canError_sending_shows hlive hused cd exempt dom hfd hon hunder⟩,
    fun err cd exempt dom => exec_canError_receiving_shows hlive hused cd exempt dom,
    fun cd exempt dom => exec_canError_exception hlive hused cd exempt dom,
    exec_busOffRecovery_shows hlive, exec_dominantTimeout hlive hused, fun f stamp at_ hon hfd => ?received⟩
  case received =>
    intro g x d dropped
    have hexec := exec_canFrameReceived hlive hused f stamp at_ hon hfd
    refine ⟨fun hremote => hexec.trans (by simp only [hremote]; rfl), fun hdata => ?data⟩
    have hfound : exec (.canFrameReceived ch f stamp at_) s = .next (s.withDyn (d.canFound s.cfg k g stamp)) :=
      hexec.trans (by simp only [hdata]; rfl)
    refine ⟨fun e w0 w1 he => hfound.trans (by simp only [Dyn.canFound, he]), fun hnone => hfound.trans ?_⟩
    have hnone : (s.cfg.canEntries k false).find? (fun e => entryId e.2.1 g) = none :=
      List.find?_eq_none.2 fun e he => by rw [hnone e he]; exact Bool.false_ne_true
    simp only [Dyn.canFound, hnone]
    rfl

end Sys2Proof.Machine
end
section
/-! SUPPORT. The journal: collection, loss, copies, files, and the replayed frame (R447–R462). -/

namespace Sys2Proof.Machine

/-! ## A window that collects to a frame whose record is complete -/

/-- A window collects to the frame `last`, and no record of the frame `fn` is in progress. -/
structure Dyn.Collects (last fn : Word) (d : Dyn) : Prop where
  window : ∃ w pl, d.jrn.collecting = some (w, pl, last)
  closed : d.jrn.isOpen = false
  fn : d.fn = fn

namespace Dyn.Collects
variable {c : Cfg} {d : Dyn} {last fn : Word} (h : d.Collects last fn)
include h

theorem withJrn {j : Journal} (hw : j.collecting = d.jrn.collecting) (ho : j.isOpen = d.jrn.isOpen) :
    ({ d with jrn := j } : Dyn).Collects last fn :=
  ⟨h.window.imp fun _ hpl => hpl.imp fun _ h => hw.trans h, ho.trans h.closed, h.fn⟩

/-- Writing a register other than SLC_FN. -/
theorem put {f : Fld} (v : Nat) (hf : f.addr ≠ Reg.SLC_FN) : (d.put f v).Collects last fn :=
  ⟨h.window, h.closed, (d.rd_put_ne v hf.symm).trans h.fn⟩

theorem pushAlarm (code source : Nat) (v v2 : Word) : (d.pushAlarm code source v v2).Collects last fn := by
  unfold Dyn.pushAlarm
  split
  refine Dyn.Collects.put (f := F.NET_ALM_EVN_VALUE) ?_ _ (by decide)
  exact ⟨h.window, h.closed, h.fn⟩

/-- While a window collects, another trigger is a secondary one. -/
theorem freeze (cause source : Nat) (frame : Word) : (d.freeze c cause source frame).Collects last fn := by
  obtain ⟨w, pl, hw⟩ := h.window
  have hw' : (d.triggerItem cause source).jrn.collecting = some (w, pl, last) := hw
  have hfreeze : d.freeze c cause source frame = { d.triggerItem cause source with
      jrn := { (d.triggerItem cause source).jrn with
        collecting := some ({ w with trigs := min (w.trigs + 1) 255 }, pl, last) } } := by
    simp only [Dyn.freeze, Dyn.secondary, hw']
  rw [hfreeze]
  exact ⟨⟨_, _, rfl⟩, h.closed, h.fn⟩

theorem alarm (code source : Nat) (v v2 : Word) : (d.alarm c code source v v2).Collects last fn := by
  unfold Dyn.alarm
  split
  · exact (h.pushAlarm code source v v2).freeze ..
  · exact h.pushAlarm code source v v2

theorem truncateWindows (x : Word) : (d.truncateWindows c x).Collects last fn := by
  obtain ⟨w, pl, hw⟩ := h.window
  unfold Dyn.truncateWindows
  extract_lets fix hit e
  refine List.foldlRecOn hit _ ⟨⟨fix w, pl, ?_⟩, h.closed, h.fn⟩ fun x hx p _ => hx.alarm 0x0A04 p 0 0
  show (d.jrn.collecting.map fun x => (fix x.1, x.2)) = _
  rw [hw]
  rfl

theorem recordLost : d.recordLost.Collects last fn :=
  Dyn.Collects.put (h.withJrn (j := { d.jrn with gapNext := true }) rfl rfl) _ (by decide)

theorem copyRuns : (d.copyRuns c).Collects last fn := by
  obtain ⟨w, pl, hw⟩ := h.window
  unfold Dyn.copyRuns
  extract_lets on
  split
  · exact ⟨⟨w, pl, hw⟩, h.closed, h.fn⟩
  · next w' p last' _ hw' =>
    rw [hw] at hw'
    cases hw'
    exact ⟨⟨_, _, rfl⟩, h.closed, h.fn⟩
  · exact h

theorem collect (x : Word) (f : Window → Window) : (d.collect x f).Collects last fn := by
  obtain ⟨w, pl, hw⟩ := h.window
  refine ⟨⟨if !later w.fn0 x && !later x last then f w else w, pl, ?_⟩, h.closed, h.fn⟩
  simp only [Dyn.collect, hw, Option.map_some]

theorem pushRecord (r : JRec) : (d.pushRecord c r).Collects last fn := by
  dsimp only [Dyn.pushRecord]
  split
  · exact h.recordLost.truncateWindows _
  · refine Dyn.Collects.collect ?_ _ _
    exact h.withJrn rfl rfl

end Dyn.Collects

theorem Dyn.finishRecord_collects (c : Cfg) {d : Dyn} {w : Window} {pl : Option Nat} {last : Word}
    (hw : d.jrn.collecting = some (w, pl, last)) : (d.finishRecord c).Collects last d.fn := by
  unfold Dyn.finishRecord
  extract_lets j r e x
  split
  · next hopen => exact ⟨⟨w, pl, hw⟩, by simpa [j] using hopen, rfl⟩
  · have hx : x.Collects last d.fn := Dyn.Collects.copyRuns (d := e) ⟨⟨w, pl, hw⟩, rfl, rfl⟩
    split
    · exact hx
    · exact hx.pushRecord r

/-- After its last frame a window stops collecting. -/
theorem Dyn.collected_ends {d : Dyn} {x : Window × Option Nat × Word} (hx : d.jrn.collecting = some x)
    (hover : later x.2.2 d.fn = false) (hend : (x.2.2 == d.fn && d.jrn.isOpen) = false) :
    d.collected.jrn.collecting = none ∧ d.collected.flag F.JRN_STATUS_COLLECTING = false := by
  obtain ⟨w, pl, last⟩ := x
  have hends : d.collected = d.endCollection := by
    simp only [Dyn.collected, hx, hover, hend, Bool.or_self, Bool.false_eq_true, if_false]
  rw [hends]
  unfold Dyn.endCollection
  rw [hx]
  exact ⟨rfl, Dyn.flag_setFlag_same _ _ _ (by decide) (by decide)⟩

theorem exec_windowCollectionEnd {s : State} (hlive : Live s) {x : Window × Option Nat × Word}
    (hx : s.dyn.jrn.collecting = some x) (hover : later x.2.2 s.dyn.fn = false)
    (hdone : s.dyn.jrn.isOpen = false ∨ x.2.2 ≠ s.dyn.fn ∨ s.dyn.phase = 0 ∨ s.dyn.phase = 5) :
    ∃ u, exec .windowCollectionEnd s = .next u ∧ u.cfg = s.cfg ∧ u.dyn.jrn.collecting = none ∧
      u.dyn.flag F.JRN_STATUS_COLLECTING = false := by
  refine ⟨_, (State.upd_withDyn hlive _ : execWindowCollectionEnd s = _), State.withDyn_cfg .., ?_⟩
  obtain ⟨w, pl, last⟩ := x
  rw [State.withDyn_dyn]
  simp only [hx, Option.any_some]
  split
  · next hends =>
    obtain ⟨⟨w', pl', hw'⟩, hclosed, hfn⟩ := Dyn.finishRecord_collects s.cfg hx
    exact Dyn.collected_ends hw' (by rwa [hfn]) (by rw [hclosed, Bool.and_false])
  · next hends =>
    refine Dyn.collected_ends hx hover (Bool.eq_false_iff.2 fun hopen => hends ?_)
    rw [Bool.and_eq_true, beq_iff_eq] at hopen
    obtain ⟨hlast, hopen⟩ := hopen
    have hlast : last = s.dyn.fn := hlast
    have hphase : s.dyn.get F.SLC_STATUS_PHASE = 0 ∨ s.dyn.get F.SLC_STATUS_PHASE = 5 := by
      simpa [hlast, hopen, Dyn.phase] using hdone
    simp [hlast, hphase]

/-! ## Lost records (R448, R453) -/

section
variable (d : Dyn)

theorem Dyn.recordLost_shows : d.recordLost.jrn.gapNext = true ∧
    d.recordLost.get F.JRN_STATUS_GAPS = min (d.get F.JRN_STATUS_GAPS + 1) (2 ^ F.JRN_STATUS_GAPS.width - 1) :=
  ⟨rfl, Dyn.get_bumpBy _ 1 (by decide)⟩

theorem Dyn.loseOpen_fresh (h : d.jrn.isOpen = true ∧ d.jrn.lose = false) :
    d.loseOpen = ({ d with jrn := { d.jrn with lose := true } } : Dyn).recordLost :=
  if_pos (by rw [h.1, h.2]; rfl)

theorem Dyn.loseOpen_again (h : ¬(d.jrn.isOpen = true ∧ d.jrn.lose = false)) : d.loseOpen = d :=
  if_neg (by simpa using h)

end

/-- A lost record is counted, and the next carries GAP. -/
def Dyn.Lost (d e : Dyn) : Prop := e.jrn.gapNext = true ∧
  e.get F.JRN_STATUS_GAPS = min (d.get F.JRN_STATUS_GAPS + 1) (2 ^ F.JRN_STATUS_GAPS.width - 1)

theorem Dyn.loseOpen_lost {d : Dyn} (h : d.jrn.isOpen = true ∧ d.jrn.lose = false) : d.Lost d.loseOpen := by
  rw [d.loseOpen_fresh h]
  exact Dyn.recordLost_shows _

section
variable {s : State} (hlive : Live s)
include hlive

theorem exec_journalTruncation_free (hnone : (s.dyn.jrn.ring.filter fun x => s.dyn.jrn.protects x.fn).getLast? = none) :
    exec .journalTruncation s = .next s := by
  show execJournalTruncation s = _
  rw [execJournalTruncation, State.upd_withDyn hlive]
  simp only [hnone]
  rfl

theorem exec_journalTruncation {r : JRec}
    (hr : (s.dyn.jrn.ring.filter fun x => s.dyn.jrn.protects x.fn).getLast? = some r) :
    exec .journalTruncation s = .next (s.withDyn (s.dyn.loseOpen.truncateWindows s.cfg r.fn)) := by
  show execJournalTruncation s = _
  rw [execJournalTruncation, State.upd_withDyn hlive]
  simp only [hr]

theorem exec_uncorrectableRingError_open (hopen : s.dyn.jrn.isOpen = true) :
    exec .uncorrectableRingError s = .next (s.withDyn s.dyn.loseOpen) := by
  show execUncorrectableRingError s = _
  rw [execUncorrectableRingError, State.upd_withDyn hlive, if_pos hopen]

theorem exec_uncorrectableRingError_empty (hshut : s.dyn.jrn.isOpen = false) (hring : s.dyn.jrn.ring = []) :
    exec .uncorrectableRingError s = .next s := by
  show execUncorrectableRingError s = _
  rw [execUncorrectableRingError, State.upd_withDyn hlive, hshut]
  simp only [hring]
  rfl

theorem exec_uncorrectableRingError_newest {r : JRec} {l : List JRec} (hshut : s.dyn.jrn.isOpen = false)
    (hring : s.dyn.jrn.ring = r :: l) : ∃ u, exec .uncorrectableRingError s = .next u ∧ u.cfg = s.cfg ∧ u.dyn.jrn.ring = l ∧
      s.dyn.Lost u.dyn := by
  have hexec : exec .uncorrectableRingError s = .next (s.withDyn
      (({ s.dyn with jrn := { s.dyn.jrn with ring := l } } : Dyn).collect r.fn fun w =>
        { w with recs := w.recs.filter fun x => x.fn != r.fn }).recordLost) := by
    show execUncorrectableRingError s = _
    rw [execUncorrectableRingError, State.upd_withDyn hlive, hshut]
    simp only [hring]
    rfl
  exact ⟨_, hexec, State.withDyn_cfg .., rfl, Dyn.recordLost_shows _⟩

/-! ## Copies, checkpoints and files (R449, R453, R454, R456) -/

theorem exec_flashCopyDone {w : Window} {p : Nat} {l : List (Window × Nat)} (hcopies : s.dyn.jrn.copying = (w, p) :: l) :
    let nv := if w.cause = 8 then { s.dyn.nv with pfArea := none } else s.dyn.nv
    exec .flashCopyDone s = .next (s.withDyn
      ((({ s.dyn with nv := nv, jrn := { s.dyn.jrn with copying := l } } : Dyn).setWindow p
        (some { w with copied := 0 })).alarm s.cfg 0x0A02 p (BitVec.ofNat 32 w.cause) w.tfn)) := by
  intro nv
  have hnv : (if w.cause = 8 then { s.dyn with nv := { s.dyn.nv with pfArea := none } } else s.dyn) = { s.dyn with nv := nv } := by
    dsimp only [nv]
    split <;> rfl
  show execFlashCopyDone s = _
  rw [execFlashCopyDone, State.upd_withDyn hlive]
  simp only [hcopies, hnv]

theorem exec_checkpointWritten {k : Checkpoint} {l : List Checkpoint} (hwrites : s.dyn.jrn.writing = k :: l) :
    exec .checkpointWritten s = .next (s.withDyn
      ((({ s.dyn with jrn := { s.dyn.jrn with writing := l, ckpts := k :: s.dyn.jrn.ckpts } } : Dyn).collectCkpt k).wr
        Reg.JRN_CKPT_FN k.fn)) := by
  show execCheckpointWritten s = _
  rw [execCheckpointWritten, State.upd_withDyn hlive]
  simp only [hwrites]

omit hlive in
theorem Dyn.window_setWindow (d : Dyn) (i j : Nat) (w : Option Window) :
    (d.setWindow i w).window j = if j = i then w else d.window j := sget_sput ..

omit hlive in
theorem Dyn.flag_any (d : Dyn) {n : Nat} (h : n ≠ 0) :
    ((d.setFlag F.JRN_STATUS_ANY (n != 0)).put F.JRN_STATUS_USED (n - 1)).flag F.JRN_STATUS_ANY = true := by
  rw [Dyn.flag_put_disjoint (f := F.JRN_STATUS_USED) (g := F.JRN_STATUS_ANY) _ _ rfl (by decide) (by decide),
    Dyn.flag_setFlag_same _ _ _ (by decide) (by decide)]
  exact bne_iff_ne.2 h

omit hlive in
/-- With a window stored JRN_STATUS shows that there is one. -/
theorem Dyn.setWindow_any (d : Dyn) (i : Nat) (w : Window) : (d.setWindow i (some w)).flag F.JRN_STATUS_ANY = true := by
  set ws := sput none d.nv.windows i (some w) with hws
  have hmem : (i, some w) ∈ ws := by
    have hget : sget none ws i = some w := sget_sput_same ..
    rcases mem_or_sget_eq (d := none) ws i with h | h
    · rwa [hget] at h
    · rw [hget] at h
      cases h
  have hcount : (ws.filter fun e => e.2.isSome).length ≠ 0 := by
    rw [Ne, List.length_eq_zero_iff]
    exact List.ne_nil_of_mem (List.mem_filter.2 ⟨hmem, rfl⟩)
  exact Dyn.flag_any _ hcount

theorem exec_usbWindowLoad {w : Window} {p : Nat} (hserved : s.dyn.windowsServed = true)
    (hplace : s.dyn.windowPlace s.cfg = some p) :
    ∃ u, exec (.usbWindowLoad w) s = .next u ∧ u.cfg = s.cfg ∧ u.dyn.flag F.JRN_STATUS_ANY = true ∧
      u.dyn.window p = some { w with valid := true, imported := true, prot := false, armed := false,
                                     age := s.dyn.jrn.ages, copied := 0 } ∧
      ∀ i, i ≠ p → u.dyn.window i = s.dyn.window i := by
  have hexec : exec (.usbWindowLoad w) s = .next (s.withDyn
      (({ s.dyn with jrn := { s.dyn.jrn with ages := s.dyn.jrn.ages + 1 } } : Dyn).setWindow p
        (some { w with valid := true, imported := true, prot := false, armed := false, age := s.dyn.jrn.ages, copied := 0 }))) := by
    show execUsbWindowLoad w s = _
    rw [execUsbWindowLoad, State.upd_withDyn hlive]
    simp only [hserved, hplace]
    rfl
  refine ⟨_, hexec, State.withDyn_cfg .., Dyn.setWindow_any .., ?_, fun i hi => ?_⟩
  · exact (Dyn.window_setWindow ..).trans (if_pos rfl)
  · exact (Dyn.window_setWindow ..).trans (if_neg hi)

theorem exec_usbWindowLoad_refused (w : Window) (h : s.dyn.windowsServed = false ∨ s.dyn.windowPlace s.cfg = none) :
    exec (.usbWindowLoad w) s = .next s := by
  have hnone : (if s.dyn.windowsServed then s.dyn.windowPlace s.cfg else none) = none := by
    rcases h with h | h <;> simp [h]
  show execUsbWindowLoad w s = _
  rw [execUsbWindowLoad, State.upd_withDyn hlive]
  simp only [hnone]
  rfl

theorem exec_usbWindowReadout_stored {n : BitVec 4} {w : Window} (hw : s.dyn.window n.toNat = some w) :
    exec (.usbWindowReadout n) s =
      .next (if s.dyn.windowsServed = true then s.withDyn (s.dyn.send (.file w)) else s) := by
  show execUsbWindowReadout n s = _
  rw [execUsbWindowReadout, State.upd_withDyn hlive]
  simp only [hw]
  split <;> rfl

theorem exec_usbWindowReadout_none {n : BitVec 4} (hw : s.dyn.window n.toNat = none) :
    exec (.usbWindowReadout n) s = .next s := by
  show execUsbWindowReadout n s = _
  rw [execUsbWindowReadout, State.upd_withDyn hlive]
  simp only [hw]
  rfl

/-! ## Corrected errors (R461) -/

theorem exec_eccCorrected (m : BitVec 2) (addr syn : Word) :
    let f := [F.JRN_ECC_PROG, F.JRN_ECC_WORD, F.JRN_ECC_ARRAY].getD m.toNat F.JRN_ECC_RING
    ∃ u, exec (.eccCorrected m addr syn) s = .next u ∧ u.cfg = s.cfg ∧
      u.dyn.get f = min (s.dyn.get f + 1) (2 ^ f.width - 1) ∧
      u.dyn.jrn.items = ⟨7, [m.setWidth 32, addr, syn]⟩ :: s.dyn.jrn.items ∧
      ∀ a, a ≠ Reg.JRN_ECC → u.dyn.rd a = s.dyn.rd a := by
  intro f
  have hm : m.toNat = 0 ∨ m.toNat = 1 ∨ m.toNat = 2 ∨ m.toNat = 3 := by omega
  have hexec : exec (.eccCorrected m addr syn) s =
      .next (s.withDyn ((s.dyn.bump f).item 7 [m.setWidth 32, addr, syn])) := by
    show execEccCorrected m addr syn s = _
    rw [execEccCorrected, State.upd_withDyn hlive]
    dsimp only [f]
    rcases hm with h | h | h | h <;> rw [h] <;> rfl
  have hf : f.addr = Reg.JRN_ECC ∧ f.lo + f.width ≤ 32 := by
    dsimp only [f]
    rcases hm with h | h | h | h <;> rw [h] <;> decide
  exact ⟨_, hexec, State.withDyn_cfg .., Dyn.get_bumpBy _ 1 hf.2, rfl, fun a ha => Dyn.rd_put_ne _ _ (by rwa [hf.1])⟩

end

/-! ## Replay (R458–R460) -/

theorem exec_replayFrame {s : State} (hlive : Live s) (hreplay : s.dyn.modState = 4)
    (hruns : s.dyn.get F.JRN_REPLAY_STATE = 1 ∨ s.dyn.get F.JRN_REPLAY_STATE = 4) :
    let stops := s.dyn.jrn.pauseAt.any fun n => s.dyn.jrn.playing.head?.any fun r => r.fn == n
    exec .replayFrame s = .next (s.withDyn (if stops then
      ({ s.dyn with jrn := { s.dyn.jrn with pauseAt := none } } : Dyn).put F.JRN_REPLAY_STATE 2
      else (s.dyn.replayOne s.cfg).pump s.cfg)) := by
  intro stops
  have hacts : ¬ (decide (s.dyn.modState ≠ 4) ||
      decide (s.dyn.get F.JRN_REPLAY_STATE ≠ 1) && decide (s.dyn.get F.JRN_REPLAY_STATE ≠ 4)) = true := by
    rcases hruns with h | h <;> simp [hreplay, h]
  show execReplayFrame s = _
  rw [execReplayFrame, State.upd_withDyn hlive]
  exact congrArg (fun d => Host.Outcome.next (s.withDyn d)) (if_neg hacts)

theorem Dyn.jrnCmd_stepFrame {c : Cfg} {d : Dyn} (hreplay : d.modState = 4) (hpaused : d.get F.JRN_REPLAY_STATE = 2) :
    d.jrnCmd c 8 = ({ d with jrn := { d.jrn with stepOne := true } } : Dyn).jrnStat 8 2 0 := by
  simp [Dyn.jrnCmd, hreplay, hpaused]

theorem exec_stepFrame {s : State} (hlive : Live s) {who : Requester} (hmay : MayWrite s who Reg.JRN_CMD)
    (hreplay : s.dyn.modState = 4) (hpaused : s.dyn.get F.JRN_REPLAY_STATE = 2) :
    let d := (s.dyn.by_ who).jrnStat 8 2 0
    let e := (({ d with jrn := { d.jrn with stepOne := false } } : Dyn).replayOne s.cfg).pump s.cfg
    exec (.stepFrame who) s = .next (s.withDyn (if e.jrn.playing.isEmpty then e else e.put F.JRN_REPLAY_STATE 2)) := by
  intro d e
  have hcmd := Dyn.jrnCmd_stepFrame (c := s.cfg) (d := s.dyn.by_ who) hreplay hpaused
  have hone : (!((s.dyn.by_ who).jrnCmd s.cfg 8).jrn.stepOne) = false := by rw [hcmd]; rfl
  have hready : ({ (s.dyn.by_ who).jrnCmd s.cfg 8 with
      jrn := { ((s.dyn.by_ who).jrnCmd s.cfg 8).jrn with stepOne := false } } : Dyn) =
      { d with jrn := { d.jrn with stepOne := false } } := by
    rw [hcmd]
    rfl
  refine (State.upd_gated hlive hmay _ : execStepFrame who s = _).trans ?_
  simp only [hone, hready]
  rfl

section
variable (c : Cfg) (d : Dyn)

theorem Dyn.replayOne_broken {r : JRec} {rest : List JRec} (hplays : d.jrn.playing = r :: rest)
    (hbad : r.crcOk = false ∨ r.gap = true) :
    (d.replayOne c).jrn.playing = [] ∧ (d.replayOne c).get F.JRN_REPLAY_STATE = 5 := by
  have hone : d.replayOne c = ({ d with jrn := { d.jrn with playing := [] } } : Dyn).put F.JRN_REPLAY_STATE 5 := by
    have hbad : (!r.crcOk || r.gap) = true := by rcases hbad with h | h <;> simp [h]
    simp only [Dyn.replayOne, hplays, hbad, if_true]
  rw [hone]
  exact ⟨rfl, Dyn.get_put_fits _ (by decide) (by decide)⟩

/-- What the replay of a frame shows of the records that are left and of the last frame replayed. -/
def Dyn.replayed (d : Dyn) : List JRec × Word := (d.jrn.playing, d.rd Reg.JRN_RP_FN)

theorem Dyn.replayed_put {f : Fld} (v : Nat) (hf : f.addr ≠ Reg.JRN_RP_FN) : (d.put f v).replayed = d.replayed :=
  congrArg (Prod.mk d.jrn.playing) (d.rd_put_ne v hf.symm)

theorem Dyn.replayed_wr {a : Nat} (v : Word) (ha : a ≠ Reg.JRN_RP_FN) : (d.wr a v).replayed = d.replayed :=
  congrArg (Prod.mk d.jrn.playing) (d.rd_wr_ne v ha.symm)

theorem Dyn.replayed_collected : d.collected.replayed = d.replayed := by
  have hends : d.endCollection.replayed = d.replayed := by
    unfold Dyn.endCollection
    split
    · rfl
    · exact d.replayed_put (f := F.JRN_STATUS_COLLECTING) 0 (by decide)
  unfold Dyn.collected
  split
  · split
    · rfl
    · exact hends
  · rfl

/-- A frame that the record is compared with: its differences are counted, and the end of the window ends the replay (R460). -/
def Dyn.compared (d : Dyn) (r : JRec) (rest : List JRec) (same : Bool) : Dyn :=
  let d := if same then d
    else
      let d := if d.rd Reg.JRN_DIFF_CNT = 0 then d.wr Reg.JRN_DIFF_FN r.fn else d
      (d.wr Reg.JRN_DIFF_CNT (d.rd Reg.JRN_DIFF_CNT + 1)).put F.JRN_REPLAY_STATE 4
  if rest.isEmpty && d.rd Reg.JRN_DIFF_CNT = 0 then d.put F.JRN_REPLAY_STATE 3 else d

theorem Dyn.replayed_compared (r : JRec) (rest : List JRec) (same : Bool) : (d.compared r rest same).replayed = d.replayed := by
  unfold Dyn.compared
  extract_lets y x
  have hy : y.replayed = d.replayed := by
    dsimp only [y]
    split
    · exact d.replayed_wr _ (by decide)
    · rfl
  have hx : x.replayed = d.replayed := by
    dsimp only [x]
    split
    · rfl
    · exact (Dyn.replayed_put _ (f := F.JRN_REPLAY_STATE) 4 (by decide)).trans ((y.replayed_wr _ (by decide)).trans hy)
  split
  · exact (x.replayed_put (f := F.JRN_REPLAY_STATE) 3 (by decide)).trans hx
  · exact hx

/-- The frame of `r` is replayed: the state in the place of the program's is loaded, and the record is the next to compare. -/
def Dyn.reached (d : Dyn) (r : JRec) (rest : List JRec) : Dyn :=
  { d.wr Reg.JRN_RP_FN r.fn with slc := { d.slc with tFt := r.ft }, jrn := { d.jrn with playing := rest } }

theorem Dyn.replayed_reached (r : JRec) (rest : List JRec) : (d.reached r rest).replayed = (rest, r.fn) :=
  congrArg (Prod.mk rest) (d.rd_wr_same _ _)

theorem Dyn.replayOne_reaches {r : JRec} {rest : List JRec} (hplays : d.jrn.playing = r :: rest) (hcrc : r.crcOk = true)
    (hgap : r.gap = false) : ∃ (e : Dyn) (same : Bool), d.replayOne c = (e.reached r rest).collected.compared r rest same := by
  have hgood : (!r.crcOk || r.gap) = false := by rw [hcrc, hgap]; rfl
  rcases hrun : d.runFrame c r with ⟨x, crc, rel⟩
  simp only [Dyn.replayOne, hplays, hgood, hrun]
  exact ⟨_, _, rfl⟩

theorem Dyn.replayOne_intact {r : JRec} {rest : List JRec} (hplays : d.jrn.playing = r :: rest) (hcrc : r.crcOk = true)
    (hgap : r.gap = false) : (d.replayOne c).jrn.playing = rest ∧ (d.replayOne c).rd Reg.JRN_RP_FN = r.fn := by
  obtain ⟨e, same, hone⟩ := d.replayOne_reaches c hplays hcrc hgap
  have h : (d.replayOne c).replayed = (rest, r.fn) := by
    rw [hone, Dyn.replayed_compared, Dyn.replayed_collected, Dyn.replayed_reached]
  exact Prod.mk.inj h

end

/-- Settles O56, event by event. -/
theorem journalEvents : Obligations.JournalEvents := by
  intro s hlive
  refine ⟨fun x => exec_windowCollectionEnd hlive, ?losses, fun w p l => exec_flashCopyDone hlive,
    fun k l => exec_checkpointWritten hlive, fun w p => exec_usbWindowLoad hlive, exec_usbWindowLoad_refused hlive,
    fun n => ?readout, exec_eccCorrected hlive, exec_replayFrame hlive, fun who => exec_stepFrame hlive,
    fun r rest hplays => ⟨s.dyn.replayOne_intact s.cfg hplays, s.dyn.replayOne_broken s.cfg hplays⟩⟩
  case losses =>
    intro fresh held lost
    exact ⟨exec_journalTruncation_free hlive, fun r => exec_journalTruncation hlive, exec_uncorrectableRingError_open hlive,
      Dyn.loseOpen_lost, s.dyn.loseOpen_again, exec_uncorrectableRingError_empty hlive,
      fun r l => exec_uncorrectableRingError_newest hlive⟩
  case readout =>
    cases hw : s.dyn.window n.toNat with
    | none => exact exec_usbWindowReadout_none hlive hw
    | some w =>
      refine (exec_usbWindowReadout_stored hlive hw).trans ?_
      split <;> rfl

end Sys2Proof.Machine
end
